-- ==== Sys2Proof/Word.lean ====
section
/-! DEFINITION. The words of the FV9820: bytes, 32-bit registers, 64-bit stamps and scalars, and byte strings. -/
namespace Sys2Proof

/-- One byte of memory, of a descriptor, of an output. -/
abbrev Byte := BitVec 8

/-- A 32-bit register (R30). -/
abbrev Word := BitVec 32

/-- A 64-bit quantity: an engine's scalar register, an address, a queue base. -/
abbrev Word64 := BitVec 64

/-- A byte string, first byte first. -/
abbrev Bytes := List Byte

/-- A Tally stamp: nanoseconds since POR, below 2^64 (R18). -/
abbrev Stamp := Nat

end Sys2Proof
end

