-- ==== Sys2Proof/Syntax.lean ====
section
/-! DEFINITION. The commands the block takes (opcode_table.json, every row), and the operand types they carry:
who makes an access, which register page, which transaction scope, which unit. -/
namespace Sys2Proof.Machine

/-- Who makes a register access (R40): the driver of a function (tenant 0 is the physical function), or Headframe. -/
inductive Requester where
  | tenant (t : Nat)
  | headframe
deriving DecidableEq, Repr

/-- A 4 KiB register page (R27 to R29). `tnt`, `tdgs`, `tent`, `tpmu` and `ttxn` are the pages of tenant `t`'s own
function; `tntA` is the administrator view of a TNT page. -/
inductive Page where
  | hdf | rst | lcc | otp (n : Nat) | cny | ent | dgs | lod | tly | adt | slc | txn | pmu | zdp | drf | asy
  | shf (n : Nat) | stp (n : Nat) | kst (n : Nat) | eng (n i : Nat)
  | tntA (t : Nat) | tnt (t : Nat) | tdgs (t : Nat) | tent (t : Nat) | tpmu (t : Nat) | ttxn (t : Nat)
deriving DecidableEq, Repr

/-- A transaction scope (R46). -/
inductive Scope where
  | device
  | tenant (t : Nat)
deriving DecidableEq, Repr

/-- Where a dispatch sends an entry (R10, R84, R421, R552): an aligned engine set of a Stope, a Shaft, a worker of
the constellation, or no unit at all (family 0xF and the opcodes Lode serves itself). -/
inductive Target where
  | stope (n first wlog2 : Nat)
  | shaft (n : Nat)
  | worker (id : Nat)
  | none
deriving DecidableEq, Repr

/-- What a worker learns of a stateful key with a sub-range (R195): its HSS levels and LEASE_LOG2. -/
structure RangeKey where
  levels : Nat
  log2 : Nat
deriving DecidableEq, Repr

/-- A unit whose corrected memory errors Headframe counts (R513): a Stope, a Shaft or a digest core. -/
inductive EccUnit where
  | stope (n : Nat)
  | shaft (n : Nat)
  | core (n : Nat)
deriving DecidableEq, Repr

/-- Where a memory error stands (R512): a byte of an engine's local memory, of the region of a running operation (by its
address in the engine's address space) or a word of a kernel store; the material or table entry of a Lode object, its
expansion, pinned key or tree cache; the region of a Shaft's main or yield-in job; a Tally entry (one copy of its tag
word, or both); the Adit buffers of an entry; a digest context; Headframe's SRAM; a byte of retained memory. -/
inductive FlawAt where
  | loc (n i addr : Nat)
  | region (e addr : Nat)
  | word (n pc : Nat)
  | object (i : Nat)
  | expansion (i : Nat)
  | pinned (i : Nat)
  | cache (i : Nat)
  | shaft (n : Nat) (inner : Bool)
  | tally (e : Nat) (both : Bool)
  | buffer (e : Nat)
  | context (t c : Nat)
  | headframe (addr : Nat)
  | retained (addr : Nat)
deriving DecidableEq, Repr

/-- A memory error: its place, and whether it is uncorrectable. -/
structure Flaw where
  place : FlawAt
  uncorr : Bool
deriving DecidableEq, Repr

/-- What a failed host read was for (R511): a descriptor of a queue, an operation's data, the pack a Stope is to load, or the
blob of the ownership command just written; or an error in a memory of the device's own (R512), which has no row to itself
and stands within this one (log 57). -/
inductive DmaRead where
  | memory (f : Flaw)
  | descriptor (t q : Nat)
  | entry (e : Nat)
  | pack (n : Nat)
  | ownerBlob (cmd : Nat)
deriving DecidableEq, Repr

/-- What Headframe sets of a Stope's clock, in MHz: the configured clock, or the limit of its power control (R25, R548). -/
inductive ClockSet where
  | configured (mhz : Nat)
  | powerLimit (mhz : Nat)
deriving DecidableEq, Repr

/-- The clock that is set, in MHz. -/
def ClockSet.mhz : ClockSet → Nat
  | .configured m | .powerLimit m => m

/-- What a HEARTBEAT flit says of its sender (R415): device ID, role and member state (with its SYNC), the alarm class in
force, MGR_OK, the free share of its tenant-0 quota in per cent, its transmit stamp, the echo of the partner's last
transmit stamp with the stamp it was received at, the sender's own offset from the manager, and credits it returns. -/
structure Beat where
  dev : Nat
  role : Nat
  mstate : Nat
  alarm : Nat
  free : Nat
  mgrOk : Bool
  sync : Bool
  tx : Nat
  echoTx : Nat
  echoRx : Nat
  offset : BitVec 32
  credits : List Nat
deriving DecidableEq, Repr

/-- What a joiner sends (R419 step 1): hops from the manager, its identity, whether the chain ends at the Cleorara CA and
the signature over the nonce holds, its life-cycle state, owner key and firmware measurement, and the opcodes its
kernels serve. -/
structure Attest where
  hops : Nat
  identity : Bytes
  signed : Bool
  lifecycle : Nat
  ownerKey : Bytes
  measurement : Bytes
  kernels : List Nat
deriving DecidableEq, Repr

/-- What a WORK message carries (R422): the manager's number of the operation, the descriptor fields, the remaining
deadline in nanoseconds, the inputs, auxiliary data and what Sluice hashed. -/
structure Work where
  token : Nat
  opcode : Nat
  options : Nat
  flags : Nat
  key : Nat
  key2 : Nat
  outCap : Nat
  remaining : Nat
  input : Bytes
  aux : Bytes
  digest : Bytes
deriving DecidableEq, Repr

/-- What a RESULT message carries (R422): status code, INFO, OUT_BYTES, the output, and for a creation the private and
public part of what was made. -/
structure Answer where
  token : Nat
  code : Nat
  info : Nat
  outBytes : Nat
  output : Bytes
  created : Bool
  secret : Bytes
  pub : Bytes
deriving DecidableEq, Repr

/-- Which keys a Zedaup handshake sets up (R413): those of a link, or the session with a device. -/
inductive HandshakeOf where
  | link (l : Nat)
  | session (d : Nat)
deriving DecidableEq, Repr

/-- What option load reads from OTP beside the life-cycle copies (R441, R442): the vendor rows (trims as they are to be
applied, units that the instance-disable map takes out of service, the firmware version floor), the owner rows (the
ZDP_ROLE override, the limit on TotalVFs, the owner's floor), the bytes of every row read, and whether a vendor row, or an
owner row, or the digest of the whole set, failed its check on two reads. -/
structure OptionSet where
  trims : Bytes
  disabled : List Page
  vendorFloor : Nat
  roleOverride : Option Nat
  vfLimit : Nat
  ownerFloor : Nat
  raw : Bytes
  vendorFail : Bool
  ownerFail : Bool
deriving DecidableEq, Repr

/-- An entry of the boot pack table with the pack it names (R448): the mask of Stopes that load it, the image. -/
structure BootPack where
  mask : Nat
  image : Bytes
deriving DecidableEq, Repr

/-- The start-up test of a noise cell (R250): its 1,024 samples, and whether the conditioner gave its known answer. -/
structure CellTest where
  cell : Nat
  samples : List (BitVec 8)
  katOk : Bool
deriving DecidableEq, Repr

/-- The start-up tests of the cells that may not have passed. -/
abbrev Verdicts := List CellTest

end Sys2Proof.Machine


namespace Sys2Proof
open Sys2Proof.Machine

/-- The commands of the FV9820: one constructor per row of the table of operations and events, in the
table's order. Each operand list says what the row leaves open: who writes, which entry, which unit. -/
inductive Instr where
  /-- REGISTER_WRITE (R7). -/
  | registerWrite (req : Requester) (fn : Nat) (addr : Nat) (size : Nat) (value : BitVec 64)
  /-- RWS_WRITE (R47). -/
  | rwsWrite (req : Requester) (page : Page) (off : Nat) (value : BitVec 32)
  /-- CTL_FREEZE (R41). -/
  | ctlFreeze (req : Requester) (page : Page) (value : BitVec 32) (compl : BitVec 32)
  /-- CTL_DRAIN (R41). -/
  | ctlDrain (req : Requester) (page : Page) (value : BitVec 32) (compl : BitVec 32)
  /-- CTL_BRST (R42). -/
  | ctlBrst (req : Requester) (page : Page) (value : BitVec 32) (compl : BitVec 32)
  /-- CTL_EN (R41). -/
  | ctlEn (req : Requester) (page : Page) (value : BitVec 32) (compl : BitVec 32)
  /-- ERRINJ_WRITE (R41). -/
  | errinjWrite (req : Requester) (page : Page) (value : BitVec 32)
  /-- INTEN_WRITE (R41). -/
  | intenWrite (req : Requester) (page : Page) (value : BitVec 32)
  /-- SHADOW_COMPLEMENT (R43). -/
  | shadowComplement (req : Requester) (page : Page) (off : Nat) (value : BitVec 32)
  /-- SHADOW_TIMEOUT (R44). -/
  | shadowTimeout (req : Requester) (page : Page)
  /-- SHADOW_COPY_MISMATCH (R44). -/
  | shadowCopyMismatch (page : Page) (off : Nat) (flip : BitVec 32)
  /-- TXN_BEGIN (R49). -/
  | txnBegin (req : Requester) (scope : Scope) (value : BitVec 32)
  /-- TXN_COMMIT (R52). -/
  | txnCommit (req : Requester) (scope : Scope) (value : BitVec 32)
  /-- TXN_ABORT (R49). -/
  | txnAbort (req : Requester) (scope : Scope) (value : BitVec 32)
  /-- TXN_TIMEOUT (R51). -/
  | txnTimeout (scope : Scope)
  /-- TXN_EPOCH_READ (R50). -/
  | txnEpochRead (req : Requester) (scope : Scope)
  /-- COMMIT_VALIDATION_DONE (R52). -/
  | commitValidationDone (scope : Scope)
  /-- COMMIT_QUIESCE (R52). -/
  | commitQuiesce
  /-- PAGE_APPLY (R52). -/
  | pageApply (page : Page)
  /-- COMMIT_LAST_ACK (R52). -/
  | commitLastAck
  /-- DIGEST_PUBLISH (R52). -/
  | digestPublish
  /-- HEADFRAME_COMMIT (R554). -/
  | headframeCommit
  /-- BUS_MASTER_ENABLE_CLEAR (R61). -/
  | busMasterEnableClear (t : Nat)
  /-- BUS_MASTER_ENABLE_SET (R61). -/
  | busMasterEnableSet (t : Nat)
  /-- MSIX_UNMASK (R101). -/
  | msixUnmask (t : Nat) (v : Nat)
  /-- SQ_ENABLE (R65). -/
  | sqEnable (req : Requester) (t : Nat)
  /-- SQ_DISABLE (R65). -/
  | sqDisable (req : Requester) (t : Nat)
  /-- SQ_ABORT (R92). -/
  | sqAbort (req : Requester) (t : Nat)
  /-- CQ_ENABLE (R65). -/
  | cqEnable (req : Requester) (t : Nat)
  /-- CQ_DISABLE (R65). -/
  | cqDisable (req : Requester) (t : Nat)
  /-- SQ_TAIL_DOORBELL (R67). -/
  | sqTailDoorbell (t : Nat) (q : Nat) (value : BitVec 32)
  /-- CQ_HEAD_DOORBELL (R67). -/
  | cqHeadDoorbell (t : Nat) (q : Nat) (value : BitVec 32)
  /-- DESCRIPTOR_FETCH (R77). -/
  | descriptorFetch (t : Nat) (q : Nat)
  /-- SGL_FETCH (R76). -/
  | sglFetch (e : Nat)
  /-- DMA_READ_FAILURE (R511). -/
  | dmaReadFailure (what : DmaRead)
  /-- ADMISSION_RESUME (R78). -/
  | admissionResume (t : Nat)
  /-- DISPATCH (R84). -/
  | dispatch (e : Nat) (target : Target)
  /-- KERNEL_START (R312). -/
  | kernelStart (e : Nat)
  /-- ENTROPY_WAIT_TIMEOUT (R254). -/
  | entropyWaitTimeout (e : Nat)
  /-- HOLD_RELEASE_TIME (R83). -/
  | holdReleaseTime (e : Nat)
  /-- EQT_RELEASE (R122). -/
  | eqtRelease (e : Nat)
  /-- DEADLINE_EXPIRY (R88). -/
  | deadlineExpiry (e : Nat)
  /-- ENGINE_STOP_ACK (R339). -/
  | engineStopAck (e : Nat)
  /-- ENGINE_STOP_TIMEOUT (R339). -/
  | engineStopTimeout (n : Nat) (j : Nat)
  /-- ENGINE_SELFTEST_DONE (R339). -/
  | engineSelftestDone (n : Nat) (j : Nat) (pass : Bool)
  /-- CQ_IRQ_TIMER (R102). -/
  | cqIrqTimer (t : Nat) (q : Nat)
  /-- NOP_OPCODE (R90). -/
  | nopOpcode (e : Nat)
  /-- FENCE (R91). -/
  | fence (e : Nat)
  /-- ABORT_TAG (R92). -/
  | abortTag (e : Nat)
  /-- KEM_KEYGEN (R110). -/
  | kemKeygen (e : Nat)
  /-- KEM_ENCAPS (R112). -/
  | kemEncaps (e : Nat)
  /-- KEM_DECAPS (R113). -/
  | kemDecaps (e : Nat)
  /-- KEM_EKCHECK (R114). -/
  | kemEkcheck (e : Nat)
  /-- KEM_EXPAND (R126). -/
  | kemExpand (e : Nat)
  /-- KEM_EVICT (R127). -/
  | kemEvict (e : Nat)
  /-- DSA_KEYGEN (R115). -/
  | dsaKeygen (e : Nat)
  /-- DSA_SIGN (R120). -/
  | dsaSign (e : Nat)
  /-- DSA_VERIFY (R124). -/
  | dsaVerify (e : Nat)
  /-- DSA_EXPAND (R126). -/
  | dsaExpand (e : Nat)
  /-- DSA_EVICT (R127). -/
  | dsaEvict (e : Nat)
  /-- COMPOSITE_ENCAPS (R135). -/
  | compositeEncaps (e : Nat)
  /-- COMPOSITE_DECAPS (R136). -/
  | compositeDecaps (e : Nat)
  /-- COMPOSITE_SIGN (R137). -/
  | compositeSign (e : Nat)
  /-- COMPOSITE_VERIFY (R137). -/
  | compositeVerify (e : Nat)
  /-- SLUICE_HASH_DONE (R118). -/
  | sluiceHashDone (e : Nat)
  /-- SLUICE_CHANNEL_GRANT (R281). -/
  | sluiceChannelGrant
  /-- SLC_RESV_WRITE (R283). -/
  | slcResvWrite (req : Requester) (value : BitVec 32)
  /-- SLH_KEYGEN (R145). -/
  | slhKeygen (e : Nat)
  /-- SLH_SIGN (R146). -/
  | slhSign (e : Nat)
  /-- SLH_VERIFY (R148). -/
  | slhVerify (e : Nat)
  /-- MCE_KEYGEN (R151). -/
  | mceKeygen (e : Nat)
  /-- MCE_ENCAPS (R153). -/
  | mceEncaps (e : Nat)
  /-- MCE_DECAPS (R155). -/
  | mceDecaps (e : Nat)
  /-- HQC_KEYGEN (R150). -/
  | hqcKeygen (e : Nat)
  /-- HQC_ENCAPS (R150). -/
  | hqcEncaps (e : Nat)
  /-- HQC_DECAPS (R155). -/
  | hqcDecaps (e : Nat)
  /-- EC_KEYGEN (R157). -/
  | ecKeygen (e : Nat)
  /-- EC_SIGN (R158). -/
  | ecSign (e : Nat)
  /-- EC_VERIFY (R159). -/
  | ecVerify (e : Nat)
  /-- EC_AGREE (R160). -/
  | ecAgree (e : Nat)
  /-- EC_PKCHECK (R161). -/
  | ecPkcheck (e : Nat)
  /-- RSA_KEYGEN (R165). -/
  | rsaKeygen (e : Nat)
  /-- RSA_SIGN (R164). -/
  | rsaSign (e : Nat)
  /-- RSA_VERIFY (R166). -/
  | rsaVerify (e : Nat)
  /-- RSA_ENCRYPT (R164). -/
  | rsaEncrypt (e : Nat)
  /-- RSA_DECRYPT (R166). -/
  | rsaDecrypt (e : Nat)
  /-- HASH (R168). -/
  | hashOp (e : Nat)
  /-- HMAC (R168). -/
  | hmac (e : Nat)
  /-- HMAC_VERIFY (R168). -/
  | hmacVerify (e : Nat)
  /-- KMAC (R168). -/
  | kmac (e : Nat)
  /-- KMAC_VERIFY (R168). -/
  | kmacVerify (e : Nat)
  /-- KDF (R168). -/
  | kdf (e : Nat)
  /-- GCM_SEAL (R169). -/
  | gcmSeal (e : Nat)
  /-- GCM_OPEN (R169). -/
  | gcmOpen (e : Nat)
  /-- RANDOM (R170). -/
  | randomOp (e : Nat)
  /-- STF_KEYGEN (R178). -/
  | stfKeygen (e : Nat)
  /-- KEYGEN_CHUNK_DONE (R178). -/
  | keygenChunkDone (k : Nat)
  /-- STF_SIGN (R186). -/
  | stfSign (e : Nat)
  /-- STF_VERIFY (R555). -/
  | stfVerify (e : Nat)
  /-- STF_QUERY (R194). -/
  | stfQuery (e : Nat)
  /-- STF_SETFLOOR (R193). -/
  | stfSetfloor (e : Nat)
  /-- STF_CACHE (R191). -/
  | stfCache (e : Nat)
  /-- CACHE_BUILD_DONE (R191). -/
  | cacheBuildDone (j : Nat)
  /-- SUBRANGE_GRANT (R195). -/
  | subrangeGrant (handle : Nat) (lo : Nat) (hi : Nat) (levels : RangeKey)
  /-- LEASE_WRITE_START (R185). -/
  | leaseWriteStart
  /-- LEASE_WRITE_DONE (R185). -/
  | leaseWriteDone (ok : Bool)
  /-- LEASE_WRITE_RETRY (R185). -/
  | leaseWriteRetry
  /-- SECTOR_ERASE_DONE (R184). -/
  | sectorEraseDone (b : Bool) (n : Nat)
  /-- LEASE_POWERUP (R192). -/
  | leasePowerup
  /-- KEY_INFO (R208). -/
  | keyInfo (e : Nat)
  /-- PUB_IMPORT (R206). -/
  | pubImport (e : Nat)
  /-- SYM_GEN (R206). -/
  | symGen (e : Nat)
  /-- KEY_WRAP (R209). -/
  | keyWrap (e : Nat)
  /-- KEY_UNWRAP (R211). -/
  | keyUnwrap (e : Nat)
  /-- KEY_REPLACE (R216). -/
  | keyReplace (e : Nat)
  /-- KEY_SWAP (R216). -/
  | keySwap (e : Nat)
  /-- KEY_DESTROY (R217). -/
  | keyDestroy (e : Nat)
  /-- DESTROY_COMPLETE (R217). -/
  | destroyComplete (e : Nat)
  /-- TREE_DERIVE (R212). -/
  | treeDerive (e : Nat)
  /-- PUB_EXPORT (R206). -/
  | pubExport (e : Nat)
  /-- USAGE_CLEAR (R206). -/
  | usageClear (e : Nat)
  /-- KEY_RECORD_WRITE_DONE (R220). -/
  | keyRecordWriteDone (handle : Nat) (ok : Bool)
  /-- STORE_WRITE_RETRY (R217). -/
  | storeWriteRetry
  /-- PERSIST_RESTORE (R221). -/
  | persistRestore
  /-- UNIT_HANDOVER (R403). -/
  | unitHandover (page : Page)
  /-- ENT_SETTLE_DONE (R253). -/
  | entSettleDone (dead : List Nat)
  /-- ENT_STARTUP_TEST_DONE (R253). -/
  | entStartupTestDone (failed : Verdicts)
  /-- ENT_STARTUP_RETRY (R253). -/
  | entStartupRetry
  /-- CELL_TEST_FAIL (R251). -/
  | cellTestFail (c : Nat) (cause : List (BitVec 8))
  /-- ENT_RESTART (R260). -/
  | entRestart (req : Requester) (value : BitVec 32) (compl : BitVec 32)
  /-- CENTRAL_DRBG_RESEED (R255). -/
  | centralDrbgReseed
  /-- STOPE_DRBG_RESEED (R255). -/
  | stopeDrbgReseed (n : Nat)
  /-- MRG_RESEED (R229). -/
  | mrgReseed (n : Nat)
  /-- LODE_MASK_RESEED (R229). -/
  | lodeMaskReseed
  /-- DRBG_REQUEST_SERVED (R258). -/
  | drbgRequestServed (g : Nat)
  /-- ENT_DATA_READ (R262). -/
  | entDataRead (req : Requester) (t : Nat)
  /-- ENT_REFILL (R262). -/
  | entRefill (t : Nat)
  /-- DGS_OPEN (R267). -/
  | dgsOpen (req : Requester) (t : Nat)
  /-- DGS_FINAL (R272). -/
  | dgsFinal (req : Requester) (t : Nat)
  /-- DGS_NEXT (R275). -/
  | dgsNext (req : Requester) (t : Nat)
  /-- DGS_COMPARE (R277). -/
  | dgsCompare (req : Requester) (t : Nat)
  /-- DGS_COMPARE_DONE (R277). -/
  | dgsCompareDone (t : Nat) (c : Nat)
  /-- DGS_RESET (R273). -/
  | dgsReset (req : Requester) (t : Nat)
  /-- DGS_CLOSE (R266). -/
  | dgsClose (req : Requester) (t : Nat)
  /-- DGS_DIN_WRITE (R270). -/
  | dgsDinWrite (req : Requester) (t : Nat) (value : BitVec 32) (poisoned : Bool)
  /-- DGS_DLAST_WRITE (R272). -/
  | dgsDlastWrite (req : Requester) (t : Nat) (value : BitVec 32) (poisoned : Bool)
  /-- DGS_BLOCK_DONE (R268). -/
  | dgsBlockDone (core : Nat)
  /-- DGS_RESULT_READ (R276). -/
  | dgsResultRead (req : Requester) (t : Nat) (j : Nat)
  /-- SHAFT_CHECKPOINT (R298). -/
  | shaftCheckpoint (n : Nat)
  /-- SHAFT_COMMIT (R291). -/
  | shaftCommit (n : Nat) (inner : Bool) (pass : Bool)
  /-- SHAFT_WIPE_DONE (R293). -/
  | shaftWipeDone (n : Nat) (inner : Bool)
  /-- SHAFT_STOP_ACK (R300). -/
  | shaftStopAck (e : Nat)
  /-- SHAFT_STOP_TIMEOUT (R300). -/
  | shaftStopTimeout (e : Nat)
  /-- SHAFT_SELFTEST_DONE (R290). -/
  | shaftSelftestDone (n : Nat) (pass : Bool)
  /-- UNIT_UNRESPONSIVE (R509). -/
  | unitUnresponsive (page : Page)
  /-- ECC_THRESHOLD (R513). -/
  | eccThreshold (unit : EccUnit)
  /-- TRAP_ENTRY (R335). -/
  | trapEntry (e : Nat)
  /-- TRAP_HANDLER_OVERRUN (R335). -/
  | trapHandlerOverrun (e : Nat)
  /-- STEP_WATCHDOG_EXPIRY (R338). -/
  | stepWatchdogExpiry (e : Nat)
  /-- MSET_BUILD_DONE (R309). -/
  | msetBuildDone (n : Nat) (j : Nat) (k : Nat)
  /-- STOPE_CLOCK_CHANGE (R337). -/
  | stopeClockChange (n : Nat) (clock : ClockSet)
  /-- NOP (R349). -/
  | nopS (n : Nat) (j : Nat)
  /-- ADD (R349). -/
  | addS (n : Nat) (j : Nat)
  /-- SUB (R349). -/
  | subS (n : Nat) (j : Nat)
  /-- AND (R349). -/
  | andS (n : Nat) (j : Nat)
  /-- OR (R349). -/
  | orS (n : Nat) (j : Nat)
  /-- XOR (R349). -/
  | xorS (n : Nat) (j : Nat)
  /-- SLL (R349). -/
  | sll (n : Nat) (j : Nat)
  /-- SRL (R349). -/
  | srl (n : Nat) (j : Nat)
  /-- SRA (R349). -/
  | sra (n : Nat) (j : Nat)
  /-- SLT (R349). -/
  | slt (n : Nat) (j : Nat)
  /-- SLTU (R349). -/
  | sltu (n : Nat) (j : Nat)
  /-- MUL (R349). -/
  | mulS (n : Nat) (j : Nat)
  /-- MULHU (R349). -/
  | mulhu (n : Nat) (j : Nat)
  /-- DIVU (R349). -/
  | divu (n : Nat) (j : Nat)
  /-- REMU (R349). -/
  | remu (n : Nat) (j : Nat)
  /-- ADDI (R349). -/
  | addi (n : Nat) (j : Nat)
  /-- ANDI (R349). -/
  | andi (n : Nat) (j : Nat)
  /-- ORI (R349). -/
  | ori (n : Nat) (j : Nat)
  /-- XORI (R349). -/
  | xori (n : Nat) (j : Nat)
  /-- SLLI (R349). -/
  | slli (n : Nat) (j : Nat)
  /-- SRLI (R349). -/
  | srli (n : Nat) (j : Nat)
  /-- SRAI (R349). -/
  | srai (n : Nat) (j : Nat)
  /-- SLTI (R349). -/
  | slti (n : Nat) (j : Nat)
  /-- LD32 (R349). -/
  | ld32 (n : Nat) (j : Nat)
  /-- LD64 (R349). -/
  | ld64 (n : Nat) (j : Nat)
  /-- ST32 (R349). -/
  | st32 (n : Nat) (j : Nat)
  /-- ST64 (R349). -/
  | st64 (n : Nat) (j : Nat)
  /-- BEQ (R350). -/
  | beq (n : Nat) (j : Nat)
  /-- BNE (R350). -/
  | bne (n : Nat) (j : Nat)
  /-- BLT (R350). -/
  | blt (n : Nat) (j : Nat)
  /-- BGE (R350). -/
  | bge (n : Nat) (j : Nat)
  /-- BLTU (R350). -/
  | bltu (n : Nat) (j : Nat)
  /-- BGEU (R350). -/
  | bgeu (n : Nat) (j : Nat)
  /-- BP (R350). -/
  | bp (n : Nat) (j : Nat)
  /-- JAL (R350). -/
  | jal (n : Nat) (j : Nat)
  /-- JR (R350). -/
  | jr (n : Nat) (j : Nat)
  /-- GETC (R310). -/
  | getc (n : Nat) (j : Nat)
  /-- SETC (R310). -/
  | setc (n : Nat) (j : Nat)
  /-- MSET (R309). -/
  | mset (n : Nat) (j : Nat)
  /-- POPEN (R361). -/
  | popen (n : Nat) (j : Nat)
  /-- PCLOSE (R349). -/
  | pclose (n : Nat) (j : Nat)
  /-- BAR (R331). -/
  | barS (n : Nat) (j : Nat)
  /-- FINAL (R385). -/
  | final (n : Nat) (j : Nat)
  /-- RESERVE (R387). -/
  | reserve (n : Nat) (j : Nat)
  /-- FINAL_LODE (R386). -/
  | finalLode (n : Nat) (j : Nat)
  /-- UNIT (R387). -/
  | unit (n : Nat) (j : Nat)
  /-- FAIL (R351). -/
  | failS (n : Nat) (j : Nat)
  /-- BREAK (R332). -/
  | breakS (n : Nat) (j : Nat)
  /-- LIMM (R349). -/
  | limm (n : Nat) (j : Nat)
  /-- JFAR (R349). -/
  | jfar (n : Nat) (j : Nat)
  /-- VADD (R352). -/
  | vadd (n : Nat) (j : Nat)
  /-- VSUB (R352). -/
  | vsub (n : Nat) (j : Nat)
  /-- VAND (R352). -/
  | vand (n : Nat) (j : Nat)
  /-- VOR (R352). -/
  | vor (n : Nat) (j : Nat)
  /-- VXOR (R352). -/
  | vxor (n : Nat) (j : Nat)
  /-- VSLL (R352). -/
  | vsll (n : Nat) (j : Nat)
  /-- VSRL (R352). -/
  | vsrl (n : Nat) (j : Nat)
  /-- VSRA (R352). -/
  | vsra (n : Nat) (j : Nat)
  /-- VSLLI (R352). -/
  | vslli (n : Nat) (j : Nat)
  /-- VSRLI (R352). -/
  | vsrli (n : Nat) (j : Nat)
  /-- VSRAI (R352). -/
  | vsrai (n : Nat) (j : Nat)
  /-- VROTLI (R352). -/
  | vrotli (n : Nat) (j : Nat)
  /-- VMUL (R352). -/
  | vmul (n : Nat) (j : Nat)
  /-- VMULW (R352). -/
  | vmulw (n : Nat) (j : Nat)
  /-- VDOT (R352). -/
  | vdot (n : Nat) (j : Nat)
  /-- VDOTZ (R352). -/
  | vdotz (n : Nat) (j : Nat)
  /-- VAMOV (R352). -/
  | vamov (n : Nat) (j : Nat)
  /-- VAMOVI (R352). -/
  | vamovi (n : Nat) (j : Nat)
  /-- VADDC (R352). -/
  | vaddc (n : Nat) (j : Nat)
  /-- VSUBB (R352). -/
  | vsubb (n : Nat) (j : Nat)
  /-- VMADD (R353). -/
  | vmadd (n : Nat) (j : Nat)
  /-- VMSUB (R353). -/
  | vmsub (n : Nat) (j : Nat)
  /-- VMMUL (R353). -/
  | vmmul (n : Nat) (j : Nat)
  /-- VMRED (R353). -/
  | vmred (n : Nat) (j : Nat)
  /-- VCMPEQ (R354). -/
  | vcmpeq (n : Nat) (j : Nat)
  /-- VCMPLTU (R354). -/
  | vcmpltu (n : Nat) (j : Nat)
  /-- VCMPLT (R354). -/
  | vcmplt (n : Nat) (j : Nat)
  /-- VSEL (R354). -/
  | vsel (n : Nat) (j : Nat)
  /-- VBCAST (R352). -/
  | vbcast (n : Nat) (j : Nat)
  /-- VINS (R352). -/
  | vins (n : Nat) (j : Nat)
  /-- VEXT (R352). -/
  | vext (n : Nat) (j : Nat)
  /-- VPERM (R352). -/
  | vperm (n : Nat) (j : Nat)
  /-- VMOV (R352). -/
  | vmov (n : Nat) (j : Nat)
  /-- PAND (R352). -/
  | pand (n : Nat) (j : Nat)
  /-- POR (R352). -/
  | por (n : Nat) (j : Nat)
  /-- PXOR (R352). -/
  | pxor (n : Nat) (j : Nat)
  /-- PNOT (R352). -/
  | pnot (n : Nat) (j : Nat)
  /-- VPTAIL (R352). -/
  | vptail (n : Nat) (j : Nat)
  /-- PSET (R352). -/
  | pset (n : Nat) (j : Nat)
  /-- PREDUCE (R352). -/
  | preduce (n : Nat) (j : Nat)
  /-- VA2B (R353). -/
  | va2b (n : Nat) (j : Nat)
  /-- VB2A (R353). -/
  | vb2a (n : Nat) (j : Nat)
  /-- VREFR (R352). -/
  | vrefr (n : Nat) (j : Nat)
  /-- VLD (R355). -/
  | vld (n : Nat) (j : Nat)
  /-- VST (R355). -/
  | vst (n : Nat) (j : Nat)
  /-- VGATH (R357). -/
  | vgath (n : Nat) (j : Nat)
  /-- VSCAT (R357). -/
  | vscat (n : Nat) (j : Nat)
  /-- VUST (R359). -/
  | vust (n : Nat) (j : Nat)
  /-- VKABS (R362). -/
  | vkabs (n : Nat) (j : Nat)
  /-- VKFIN (R362). -/
  | vkfin (n : Nat) (j : Nat)
  /-- VKSQZ (R362). -/
  | vksqz (n : Nat) (j : Nat)
  /-- VHBLK (R362). -/
  | vhblk (n : Nat) (j : Nat)
  /-- VHRD (R362). -/
  | vhrd (n : Nat) (j : Nat)
  /-- VAKEY (R362). -/
  | vakey (n : Nat) (j : Nat)
  /-- VAES (R362). -/
  | vaes (n : Nat) (j : Nat)
  /-- VLSTR (R362). -/
  | vlstr (n : Nat) (j : Nat)
  /-- VISTR (R362). -/
  | vistr (n : Nat) (j : Nat)
  /-- VSLH (R362). -/
  | vslh (n : Nat) (j : Nat)
  /-- VSLDG (R362). -/
  | vsldg (n : Nat) (j : Nat)
  /-- VRND (R363). -/
  | vrnd (n : Nat) (j : Nat)
  /-- VMRG (R363). -/
  | vmrg (n : Nat) (j : Nat)
  /-- WADD (R364). -/
  | wadd (n : Nat) (j : Nat)
  /-- WSUB (R364). -/
  | wsub (n : Nat) (j : Nat)
  /-- WXOR (R364). -/
  | wxor (n : Nat) (j : Nat)
  /-- WAND (R364). -/
  | wand (n : Nat) (j : Nat)
  /-- WPMUL (R364). -/
  | wpmul (n : Nat) (j : Nat)
  /-- WBMUL (R366). -/
  | wbmul (n : Nat) (j : Nat)
  /-- WSMUL (R364). -/
  | wsmul (n : Nat) (j : Nat)
  /-- WCLMUL (R364). -/
  | wclmul (n : Nat) (j : Nat)
  /-- WNTT (R365). -/
  | wntt (n : Nat) (j : Nat)
  /-- WINTT (R365). -/
  | wintt (n : Nat) (j : Nat)
  /-- WROT (R364). -/
  | wrot (n : Nat) (j : Nat)
  /-- WDECOMP (R367). -/
  | wdecomp (n : Nat) (j : Nat)
  /-- WHINT (R367). -/
  | whint (n : Nat) (j : Nat)
  /-- WNORM (R364). -/
  | wnorm (n : Nat) (j : Nat)
  /-- WCMPEQ (R364). -/
  | wcmpeq (n : Nat) (j : Nat)
  /-- WSEL (R364). -/
  | wsel (n : Nat) (j : Nat)
  /-- WCOMP (R364). -/
  | wcomp (n : Nat) (j : Nat)
  /-- WDCMP (R364). -/
  | wdcmp (n : Nat) (j : Nat)
  /-- WPACK (R368). -/
  | wpack (n : Nat) (j : Nat)
  /-- WUNP (R368). -/
  | wunp (n : Nat) (j : Nat)
  /-- WMOV (R364). -/
  | wmov (n : Nat) (j : Nat)
  /-- WBCAST (R364). -/
  | wbcast (n : Nat) (j : Nat)
  /-- WINSV (R364). -/
  | winsv (n : Nat) (j : Nat)
  /-- WEXTV (R364). -/
  | wextv (n : Nat) (j : Nat)
  /-- WKTAIL (R364). -/
  | wktail (n : Nat) (j : Nat)
  /-- WKOP (R369). -/
  | wkop (n : Nat) (j : Nat)
  /-- WA2B (R364). -/
  | wa2b (n : Nat) (j : Nat)
  /-- WB2A (R364). -/
  | wb2a (n : Nat) (j : Nat)
  /-- WREFR (R364). -/
  | wrefr (n : Nat) (j : Nat)
  /-- WLD (R355). -/
  | wld (n : Nat) (j : Nat)
  /-- WST (R355). -/
  | wst (n : Nat) (j : Nat)
  /-- WUST (R359). -/
  | wust (n : Nat) (j : Nat)
  /-- WSAMU (R370). -/
  | wsamu (n : Nat) (j : Nat)
  /-- WSAMB (R370). -/
  | wsamb (n : Nat) (j : Nat)
  /-- WSAMR (R370). -/
  | wsamr (n : Nat) (j : Nat)
  /-- WSAMY (R370). -/
  | wsamy (n : Nat) (j : Nat)
  /-- WSAMC (R370). -/
  | wsamc (n : Nat) (j : Nat)
  /-- LOAD (R390). -/
  | kstLoad (req : Requester) (n : Nat) (value : BitVec 32)
  /-- UNLOAD (R390). -/
  | kstUnload (req : Requester) (n : Nat) (value : BitVec 32)
  /-- RELOAD (R390). -/
  | kstReload (req : Requester) (n : Nat) (value : BitVec 32)
  /-- PACK_FETCH_DONE (R390). -/
  | packFetchDone (n : Nat)
  /-- LOAD_DRAINED (R390). -/
  | loadDrained (n : Nat)
  /-- KAT_DONE (R391). -/
  | katDone (n : Nat) (failed : Option Nat)
  /-- LOAD_DRAIN_TIMEOUT (R391). -/
  | loadDrainTimeout (n : Nat)
  /-- KST_SCRUB (R380). -/
  | kstScrub (n : Nat) (corr : Nat) (bad : List Nat)
  /-- FLR (R404). -/
  | flr (t : Nat)
  /-- FLR_COMPLETE (R404). -/
  | flrComplete (t : Nat)
  /-- REMOVE (R407). -/
  | tntRemove (req : Requester) (t : Nat) (value : BitVec 32) (compl : BitVec 32)
  /-- VF_ENABLE (R397). -/
  | vfEnable (num : Nat)
  /-- VF_DISABLE (R397). -/
  | vfDisable
  /-- LINK_SIGNAL_DETECT (R414). -/
  | linkSignalDetect (l : Nat) (lanes : Nat)
  /-- LINK_EQUALISE_DONE (R414). -/
  | linkEqualiseDone (l : Nat)
  /-- LINK_ALIGN_DONE (R414). -/
  | linkAlignDone (l : Nat)
  /-- LINK_STATE_TIMEOUT (R414). -/
  | linkStateTimeout (l : Nat)
  /-- HANDSHAKE (R413). -/
  | handshake (of_ : HandshakeOf) (good : Bool) (secret : Bytes) (transcript : Bytes)
  /-- HANDSHAKE_RETRY (R413). -/
  | handshakeRetry (l : Nat)
  /-- LINK_REKEY (R413). -/
  | linkRekey (l : Nat) (down : Bool)
  /-- FEC_BLOCK (R410). -/
  | fecBlock (l : Nat) (corr : Nat) (uncorr : Nat) (ack : Nat)
  /-- REPLAY_TIMEOUT (R412). -/
  | replayTimeout (l : Nat)
  /-- RETRAIN_TIMEOUT (R414). -/
  | retrainTimeout (l : Nat)
  /-- CREDIT (R412). -/
  | zdpCredit (l : Nat) (vc : Nat) (n : Nat)
  /-- HEARTBEAT (R415). -/
  | heartbeat (l : Nat) (beat : Beat)
  /-- HEARTBEAT_TIMEOUT (R415). -/
  | heartbeatTimeout (l : Nat)
  /-- SYNC_HOLDOFF (R416). -/
  | syncHoldoff
  /-- JOIN_ATTESTATION (R419). -/
  | joinAttestation (l : Nat) (from_ : Attest)
  /-- TRANSPORT_KEY (R423). -/
  | transportKey (key : Bytes) (devid : Nat) (pending : Bool)
  /-- JOIN_STEP_TIMEOUT (R419). -/
  | joinStepTimeout (d : Nat)
  /-- JOIN_RETRY (R419). -/
  | joinRetry
  /-- ADMIT (R419). -/
  | zdpAdmit (req : Requester) (d : Nat)
  /-- REFUSE (R419). -/
  | zdpRefuse (req : Requester) (d : Nat)
  /-- QUARANTINE (R431). -/
  | quarantine (req : Requester) (d : Nat)
  /-- RESYNC (R431). -/
  | resync (req : Requester) (d : Nat)
  /-- EVICT (R432). -/
  | zdpEvict (req : Requester) (d : Nat)
  /-- MCMD_RESET (R432). -/
  | mcmdReset (req : Requester) (d : Nat)
  /-- ZDP_RESET (R434). -/
  | zdpReset
  /-- LEAVE (R417). -/
  | zdpLeave (req : Requester) (value : BitVec 32) (compl : BitVec 32)
  /-- ROLE_WRITE (R417). -/
  | roleWrite (req : Requester) (value : BitVec 32) (compl : BitVec 32)
  /-- RCFG_DATA_WRITE (R428). -/
  | rcfgDataWrite (req : Requester) (value : BitVec 32)
  /-- WORK (R422). -/
  | zdpWork (work : Work)
  /-- RESULT (R422). -/
  | zdpResult (d : Nat) (answer : Answer)
  /-- KEY_MESSAGE (R423). -/
  | keyMessage (handle : Nat) (blob : Bytes)
  /-- CACHE_EVICTION_REPORT (R423). -/
  | cacheEvictionReport (d : Nat) (handle : Nat)
  /-- STOP (R422). -/
  | zdpStop (token : Nat)
  /-- PURGE (R424). -/
  | zdpPurge (handle : Nat) (destroyed : Bool)
  /-- PURGE_ACK (R424). -/
  | purgeAck (d : Nat) (handle : Nat)
  /-- DISSOLVE (R432). -/
  | dissolve
  /-- RESUME (R427). -/
  | zdpResume (d : Nat) (l : Nat)
  /-- COMMIT_REQUEST (R419). -/
  | commitRequest (d : Nat)
  /-- PREPARE (R429). -/
  | zdpPrepare (full : Bool) (nums : List Nat)
  /-- PREPARE_REPLY (R429). -/
  | prepareReply (d : Nat) (ok : Bool) (epoch : Nat) (errAddr : Nat) (digest : Bytes)
  /-- COMMIT (R429). -/
  | zdpCommit (epoch : Nat)
  /-- FINAL_DIGEST_REPLY (R429). -/
  | finalDigestReply (d : Nat) (epoch : Nat) (digest : Bytes)
  /-- ABORT (R430). -/
  | zdpAbort
  /-- PREP_TIMEOUT (R430). -/
  | prepTimeout
  /-- POLL_TIMER (R431). -/
  | pollTimer
  /-- POLL_REPLY (R431). -/
  | pollReply (d : Nat) (epoch : Nat) (free : Nat) (alarm : Nat) (sync : Bool) (digest : Bytes) (below : List Nat)
  /-- HOLD_TIMEOUT (R426). -/
  | holdTimeout (d : Nat)
  /-- POWER_ON_RESET (R434). -/
  | powerOnReset (ioLost : Bool)
  /-- PIN_RESET (R434). -/
  | pinReset
  /-- PERST (R435). -/
  | perst
  /-- HOT_RESET (R434). -/
  | hotReset
  /-- LINK_DOWN (R434). -/
  | linkDown
  /-- HEADFRAME_WATCHDOG_EXPIRY (R434). -/
  | headframeWatchdogExpiry
  /-- SOFT (R455). -/
  | rstSoft (req : Requester) (value : BitVec 32) (compl : BitVec 32)
  /-- MCTP_DEVICE_RESET (R434). -/
  | mctpDeviceReset
  /-- RESET_DEASSERT (R435). -/
  | resetDeassert (source : Nat) (straps : Nat)
  /-- DOMAIN_RELEASE (R438). -/
  | domainRelease (d : Nat)
  /-- RST_REL_WRITE (R438). -/
  | rstRelWrite (req : Requester) (value : BitVec 32)
  /-- OPTION_LOAD_DONE (R441). -/
  | optionLoadDone (options : OptionSet)
  /-- BIST_DONE (R439). -/
  | bistDone (pages : List Page) (cores : List Nat) (links : List Nat) (fatal : Bool)
  /-- BOOT_HEADER_READ (R448). -/
  | bootHeaderRead (flashB : Bool) (header : Bytes) (packs : List BootPack)
  /-- FIRMWARE_LOAD_DONE (R451). -/
  | firmwareLoadDone (image : Bytes)
  /-- KEY_DERIVATION_DONE (R219). -/
  | keyDerivationDone
  /-- CONFIG_READY (R451). -/
  | configReady
  /-- BOOT_PACK_LOADED (R451). -/
  | bootPackLoaded (k : Nat)
  /-- FULL_READINESS (R451). -/
  | fullReadiness
  /-- OWNER_CONFIG_RECORD_WRITE (R450). -/
  | ownerConfigRecordWrite
  /-- RECOVERY_IMAGE (R447). -/
  | recoveryImage (header : Bytes) (image : Bytes) (packs : List BootPack)
  /-- DCORE_DRAIN (R445). -/
  | dcoreDrain (req : Requester) (value : BitVec 32) (compl : BitVec 32)
  /-- DCORE_RESET (R445). -/
  | dcoreReset (req : Requester) (value : BitVec 32) (compl : BitVec 32)
  /-- TO_TEST (R463). -/
  | toTest (req : Requester) (value : BitVec 32) (compl : BitVec 32)
  /-- TO_PRODUCTION (R463). -/
  | toProduction (req : Requester) (value : BitVec 32) (compl : BitVec 32)
  /-- TO_END_OF_LIFE (R463). -/
  | toEndOfLife (req : Requester) (value : BitVec 32) (compl : BitVec 32)
  /-- SET_TOK3 (R465). -/
  | setTok3 (req : Requester) (value : BitVec 32) (compl : BitVec 32)
  /-- LC_COPY_PROGRAMMED (R464). -/
  | lcCopyProgrammed (good : Bool)
  /-- TOKEN_LOCKOUT_EXPIRY (R462). -/
  | tokenLockoutExpiry
  /-- ENROLL (R469). -/
  | ownEnroll (req : Requester) (value : BitVec 32) (compl : BitVec 32)
  /-- TRANSFER (R469). -/
  | ownTransfer (req : Requester) (value : BitVec 32) (compl : BitVec 32)
  /-- RELEASE (R469). -/
  | ownRelease (req : Requester) (value : BitVec 32) (compl : BitVec 32)
  /-- RESTORE (R469). -/
  | ownRestore (req : Requester) (value : BitVec 32) (compl : BitVec 32)
  /-- NEWCHAL (R474). -/
  | newchal (via : Option Requester)
  /-- DBGAUTH (R474). -/
  | dbgauth (blob : Bytes)
  /-- DBG_END (R475). -/
  | dbgEnd (req : Requester)
  /-- CHALLENGE_EXPIRY (R474). -/
  | challengeExpiry
  /-- DEBUG_EXPIRY (R475). -/
  | debugExpiry
  /-- BYPASS (R472). -/
  | bypass
  /-- IDCODE (R472). -/
  | idcode
  /-- IDENT (R472). -/
  | ident
  /-- DBGSTS (R472). -/
  | dbgsts
  /-- SAMPLE_PRELOAD (R472). -/
  | samplePreload (sample : Bytes) (preload : Bytes)
  /-- EXTEST (R472). -/
  | extest
  /-- GET_VERSION (R476). -/
  | getVersion (c : Nat)
  /-- GET_CAPABILITIES (R476). -/
  | getCapabilities (c : Nat)
  /-- NEGOTIATE_ALGORITHMS (R476). -/
  | negotiateAlgorithms (c : Nat)
  /-- GET_DIGESTS (R476). -/
  | getDigests (c : Nat)
  /-- GET_CERTIFICATE (R478). -/
  | getCertificate (c : Nat) (slot : Nat) (offset : Nat) (len : Nat)
  /-- CHALLENGE (R476). -/
  | spdmChallenge (c : Nat) (nonce : Bytes)
  /-- GET_MEASUREMENTS (R477). -/
  | getMeasurements (c : Nat) (index : Nat) (nonce : Bytes)
  /-- KEY_EXCHANGE (R476). -/
  | keyExchange (c : Nat) (peer : Bytes)
  /-- FINISH (R476). -/
  | spdmFinish (c : Nat) (mac : Bytes)
  /-- KEY_UPDATE (R476). -/
  | keyUpdate (c : Nat)
  /-- SPDM_HEARTBEAT (R476). -/
  | spdmHeartbeat (c : Nat)
  /-- END_SESSION (R476). -/
  | endSession (c : Nat)
  /-- VENDOR_DEFINED_REQUEST (R476). -/
  | vendorDefinedRequest (c : Nat) (stream : Nat) (key : Bytes)
  /-- LOOP_PULSE (R482). -/
  | loopPulse (first : Nat) (second : Nat) (cases : Nat) (mv : Nat)
  /-- LOOP_EVENT (R482). -/
  | loopEvent (n : Nat)
  /-- CASE_EVENT (R483). -/
  | caseEvent (n : Nat)
  /-- MONITOR_EVENT (R484). -/
  | monitorEvent (src : Nat) (cause : Nat) (detail : Nat) (lasting : Bool)
  /-- VBAT_REMOVED (R496). -/
  | vbatRemoved (mv : Nat)
  /-- SOURCE_CLEAR (R492). -/
  | sourceClear (n : Nat)
  /-- ALARM_CUTOFF (R490). -/
  | alarmCutoff
  /-- SCRUB_DONE (R490). -/
  | scrubDone
  /-- ZEROISE_DONE (R490). -/
  | zeroiseDone
  /-- ALARM_RELEASE (R492). -/
  | alarmRelease (bmc : Bool) (req : Requester) (value : BitVec 32) (compl : BitVec 32)
  /-- LOCK (R488). -/
  | cnyLock (req : Requester) (value : BitVec 32) (compl : BitVec 32)
  /-- EVENT_LOG_PROCESS (R495). -/
  | eventLogProcess
  /-- RMDATA_ACCESS (R502). -/
  | rmdataAccess (req : Requester) (write : Bool) (value : BitVec 32)
  /-- PLDM_EVENT_ACK (R507). -/
  | pldmEventAck (seq : Nat)
  /-- EVENT_RESEND_TIMEOUT (R507). -/
  | eventResendTimeout
  /-- EVENT_POLL (R507). -/
  | eventPoll (enable : Bool) (fromSeq : Nat)
  /-- LOGDATA_READ (R506). -/
  | logdataRead (req : Requester)
  /-- PMU_FREEZE (R522). -/
  | pmuFreeze (req : Requester) (t : Option Nat) (value : BitVec 32)
  /-- PMU_CLEAR (R523). -/
  | pmuClear (req : Requester) (t : Option Nat) (value : BitVec 32)
  /-- PMU_EVSEL_WRITE (R520). -/
  | pmuEvselWrite (req : Requester) (t : Option Nat) (n : Nat) (value : BitVec 32)
  /-- PMU_CNT_WRITE (R528). -/
  | pmuCntWrite (req : Requester) (t : Option Nat) (n : Nat) (hi : Bool) (value : BitVec 32)
  /-- PMU_SSEL_WRITE (R524). -/
  | pmuSselWrite (req : Requester) (t : Option Nat) (value : BitVec 32)
  /-- PMU_SAMPLE_ENABLE (R525). -/
  | pmuSampleEnable (req : Requester) (t : Option Nat) (value : BitVec 32)
  /-- SAMPLE_TAG (R525). -/
  | sampleTag (n : Nat) (j : Nat) (cause : Nat) (stall : Nat)
  /-- SAMPLE_ENTRY_WRITE (R525). -/
  | sampleEntryWrite (n : Nat) (latency : Nat) (trapped : Bool) (dropped : Bool)
  /-- PMU_BW_SELECT (R527). -/
  | pmuBwSelect (req : Requester) (window : Bool) (value : BitVec 32)
  /-- BW_WINDOW_END (R527). -/
  | bwWindowEnd (bytesIn : Nat) (bytesOut : Nat)
  /-- BWPEAK_READ (R528). -/
  | bwpeakRead (req : Requester)
  /-- THERMAL_POLL (R548). -/
  | thermalPoll (sensors : List Int)
  /-- THERMTRIP (R549). -/
  | thermtrip (temp : Int)
  /-- AVS_LOOP_TICK (R540). -/
  | avsLoopTick (allAbove : Bool) (anyBelow : Bool)
  /-- AVS_FAULT (R541). -/
  | avsFault (regulator : Bool)
  /-- HEARTBEAT_SEND (R415). -/
  | heartbeatSend (l : Nat)
  /-- SUBRANGE_REQUEST_RECEIPT (R195). -/
  | subrangeRequestReceipt (d : Nat) (handle : Nat)
deriving DecidableEq, Repr

end Sys2Proof
end

