-- ==== Sys2Proof/Decode.lean ====
section
/-! DEFINITION. The decoder. The block fetches no instructions: its commands reach it as commands, and no row of the
table of operations and events gives a command bits. -/
namespace Sys2Proof

/-- The command that a word spells by the table's bits: no row has bits, so no word spells one. -/
def decodeTableWord (_nbits _w : Nat) : Option Instr := none

end Sys2Proof
end

