-- ==== Sys2Proof/Machine/Bits.lean ====
section
/-! DEFINITION. Bit fields and byte order: the helpers every unit of the model reads registers, descriptors
and records with. Multi-byte fields are little-endian (the notation section of 00_scope.md). -/
namespace Sys2Proof.Machine

/-- The field [hi:lo] of a register, as a number. -/
def field (v : Word) (hi lo : Nat) : Nat := (v.toNat >>> lo) % 2 ^ (hi + 1 - lo)

/-- Bit `n` of a register. -/
def bit (v : Word) (n : Nat) : Bool := v.getLsbD n

/-- The register with bit `n` set. -/
def setBit (v : Word) (n : Nat) : Word := v ||| (1#32 <<< n)

/-- The register with bit `n` cleared. -/
def clearBit (v : Word) (n : Nat) : Word := v &&& ~~~(1#32 <<< n)

/-- One bit as a number. -/
def b2n (b : Bool) : Nat := if b then 1 else 0

/-- `n` bytes of a number, least significant first. -/
def leBytes : Nat → Nat → Bytes
  | 0, _ => []
  | n + 1, v => BitVec.ofNat 8 v :: leBytes n (v / 256)

/-- The number a little-endian byte string spells. -/
def ofLe : Bytes → Nat
  | [] => 0
  | b :: r => b.toNat + 256 * ofLe r

/-- `n` bytes of a number, most significant first. -/
def beBytes (n v : Nat) : Bytes := (leBytes n v).reverse

/-- The number a big-endian byte string spells. -/
def ofBe (bs : Bytes) : Nat := ofLe bs.reverse

/-- `len` bytes of a string from `off`, zero bytes past its end. -/
def slice (bs : Bytes) (off len : Nat) : Bytes :=
  let t := (bs.drop off).take len
  t ++ List.replicate (len - t.length) 0

/-- A string cut or zero-padded to exactly `n` bytes. -/
def fit (n : Nat) (bs : Bytes) : Bytes := slice bs 0 n

/-- The little-endian field of `len` bytes at `off`. -/
def leField (bs : Bytes) (off len : Nat) : Nat := ofLe (slice bs off len)

/-- ASCII text as bytes. -/
def ascii (t : String) : Bytes := t.toList.map fun c => BitVec.ofNat 8 c.toNat

/-- The smaller of a count and its ceiling: a saturating counter. -/
def satAdd (ceil v d : Nat) : Nat := Nat.min ceil (v + d)

/-- Round a quotient up. -/
def ceilDiv (a b : Nat) : Nat := (a + b - 1) / b

/-- The list with one entry removed. -/
def without (l : List Nat) (n : Nat) : List Nat := l.filter fun m => m != n

/-- The list with one entry in it once, at the end if new. -/
def withOne (l : List Nat) (n : Nat) : List Nat := if l.contains n then l else l ++ [n]

/-- The list with its `n`-th entry replaced (unchanged where there is none). -/
def setAt {α : Type} : List α → Nat → α → List α
  | [], _, _ => []
  | _ :: r, 0, v => v :: r
  | a :: r, n + 1, v => a :: setAt r n v

/-- The `n`-th entry of a list, or a stated value past its end. -/
def nthD {α : Type} : List α → Nat → α → α
  | [], _, d => d
  | a :: _, 0, _ => a
  | _ :: r, n + 1, d => nthD r n d

end Sys2Proof.Machine
end

