-- ==== Sys2Proof/Machine/Cells.lean ====
section
/-! DEFINITION. Sparse tables: a list of (key, value) pairs, keys strictly rising, no value equal to what an
unlisted key reads as. Register files, byte memories, and every numbered set of records (tenants, queues, Tally
entries, objects, engines) are held in this one canonical form. -/
namespace Sys2Proof.Machine

/-- A sparse table. -/
abbrev Cells (α : Type) := List (Nat × α)

/-- What key `k` holds; `d k` where the table lists nothing. -/
def Cells.get {α : Type} (d : Nat → α) : Cells α → Nat → α
  | [], k => d k
  | (j, v) :: r, k => if k = j then v else Cells.get d r k

/-- List `v` at `k`, in its place. -/
def Cells.put {α : Type} : Cells α → Nat → α → Cells α
  | [], k, v => [(k, v)]
  | (j, w) :: r, k, v =>
    if k < j then (k, v) :: (j, w) :: r
    else if k = j then (k, v) :: r
    else (j, w) :: Cells.put r k v

/-- Unlist `k`. -/
def Cells.erase {α : Type} (m : Cells α) (k : Nat) : Cells α := m.filter fun p => p.1 != k

/-- Write `v` at `k`; writing what an unlisted key reads as unlists it. -/
def Cells.set {α : Type} [DecidableEq α] (d : Nat → α) (m : Cells α) (k : Nat) (v : α) : Cells α :=
  if v = d k then m.erase k else m.put k v

/-- Change the record at `k`. -/
def Cells.modify {α : Type} [DecidableEq α] (d : Nat → α) (m : Cells α) (k : Nat) (f : α → α) : Cells α :=
  Cells.set d m k (f (Cells.get d m k))

/-- The keys of a table rise strictly from above `lo`. -/
def Cells.risingFrom {α : Type} : Nat → Cells α → Bool
  | _, [] => true
  | lo, (j, _) :: r => decide (lo ≤ j) && Cells.risingFrom (j + 1) r

/-- The canonical form: rising keys, and nothing listed that an unlisted key would read as. -/
def Cells.wf {α : Type} [DecidableEq α] (d : Nat → α) (m : Cells α) : Bool :=
  Cells.risingFrom 0 m && m.all fun p => decide (p.2 ≠ d p.1)

/-- The keys listed. -/
def Cells.keys {α : Type} (m : Cells α) : List Nat := m.map fun p => p.1

/-- The first listed key (from the lowest) whose record satisfies `p`. -/
def Cells.findKey {α : Type} (p : Nat → α → Bool) : Cells α → Option Nat
  | [] => none
  | (j, v) :: r => if p j v then some j else Cells.findKey p r

/-- How many listed records satisfy `p`. -/
def Cells.count {α : Type} (p : α → Bool) (m : Cells α) : Nat := (m.filter fun q => p q.2).length

/-- The sum of a measure over the listed records. -/
def Cells.sum {α : Type} (f : α → Nat) (m : Cells α) : Nat := (m.map fun q => f q.2).foldl (· + ·) 0

/-- A byte memory reads 0 where nothing is listed. -/
def byte0 : Nat → Byte := fun _ => 0

/-- `n` bytes of a byte memory from address `a`. -/
def Cells.readBytes (m : Cells Byte) : Nat → Nat → Bytes
  | _, 0 => []
  | a, n + 1 => Cells.get byte0 m a :: Cells.readBytes m (a + 1) n

/-- Write a byte string into a byte memory from address `a`, byte by byte. -/
def Cells.writeBytes (m : Cells Byte) : Nat → Bytes → Cells Byte
  | _, [] => m
  | a, b :: r => Cells.writeBytes (Cells.set byte0 m a b) (a + 1) r

/-- Drop every byte of `[a, a + n)`: the range reads 0 again. -/
def Cells.clearRange {α : Type} (m : Cells α) (a n : Nat) : Cells α :=
  m.filter fun p => decide (p.1 < a) || decide (a + n ≤ p.1)

end Sys2Proof.Machine
end

