-- ==== Sys2Proof/Machine/Pages.lean ====
section
/-! DEFINITION. Where the register pages lie (R27 to R30): each page's key, its type code and instance (R33),
its BAR0 offset, and the page an address falls in. -/
namespace Sys2Proof.Machine

/-- The type code of a page's block (R33). -/
def Page.typeCode : Page → Nat
  | .hdf => 0x0010
  | .rst => 0x0011
  | .lcc => 0x0012
  | .otp _ => 0x0013
  | .cny => 0x0014
  | .asy => 0x0015
  | .ent | .tent _ => 0x0016
  | .dgs | .tdgs _ => 0x0017
  | .txn | .ttxn _ => 0x0018
  | .pmu | .tpmu _ => 0x0019
  | .lod => 0x0020
  | .tly => 0x0021
  | .adt => 0x0022
  | .slc => 0x0023
  | .tnt _ | .tntA _ => 0x0024
  | .drf => 0x0030
  | .zdp => 0x0031
  | .stp _ => 0x0040
  | .eng _ _ => 0x0041
  | .kst _ => 0x0042
  | .shf _ => 0x0050

/-- The instance number of a page's block (R33): ENG instances are Stope × 8 + pair, tenant pages carry the tenant. -/
def Page.instanceNo : Page → Nat
  | .shf n | .stp n | .kst n => n
  | .eng n i => n * 8 + i
  | .tnt t | .tntA t | .tdgs t | .tent t | .tpmu t | .ttxn t => t
  | _ => 0

/-- The transaction scope that an RWS register of this page belongs to (R46). -/
def Page.scope : Page → Scope
  | .tnt t | .tdgs t | .tent t | .tpmu t | .ttxn t => .tenant t
  | _ => .device

/-- The page's key among all pages: functions' own pages lie above the physical function's 16 MiB. -/
def Page.base : Page → Nat
  | .hdf => 0x10000
  | .rst => 0x20000
  | .lcc => 0x21000
  | .otp n => 0x22000 + (n % 3) * 0x1000
  | .cny => 0x30000
  | .ent => 0x40000
  | .dgs => 0x50000
  | .lod => 0x60000
  | .tly => 0x70000
  | .adt => 0x80000
  | .slc => 0x8C000
  | .txn => 0x90000
  | .pmu => 0xA0000
  | .zdp => 0xB0000
  | .drf => 0xC0000
  | .asy => 0xD0000
  | .shf n => 0x100000 + (n % 8) * 0x10000
  | .stp n => 0x200000 + (n % 64) * 0x10000
  | .kst n => 0x201000 + (n % 64) * 0x10000
  | .eng n i => 0x202000 + (n % 64) * 0x10000 + (i % 8) * 0x1000
  | .tntA t => 0x900000 + (t % 256) * 0x1000
  | .tnt t => 0x1001000 + (t % 256) * 0x10000
  | .tdgs t => 0x1004000 + (t % 256) * 0x10000
  | .tent t => 0x1005000 + (t % 256) * 0x10000
  | .tpmu t => 0x1006000 + (t % 256) * 0x10000
  | .ttxn t => 0x1007000 + (t % 256) * 0x10000

/-- Is there such a page: does its number name a unit, an engine pair or a tenant that the device has? -/
def Page.exists : Page → Bool
  | .otp n => decide (n < 3)
  | .shf n => decide (n < 8)
  | .stp n | .kst n => decide (n < 64)
  | .eng n i => decide (n < 64) && decide (i < 8)
  | .tntA t | .tnt t | .tdgs t | .tent t | .tpmu t | .ttxn t => decide (t < 256)
  | _ => true

/-- The key under which a register of a page is held. -/
def Page.key (p : Page) (off : Nat) : Nat := p.base + off % 0x1000

/-- The BAR0 offset of a register of a page, as its own function sees it (R27, R29): a tenant page's offset in
the function's 64 KiB, tenant 0's through the window at 0x0080_0000. -/
def Page.barOffset (p : Page) (off : Nat) : Nat :=
  let k := p.key off
  if k < 0x1000000 then k
  else if p.instanceNo = 0 then 0x800000 + (k - 0x1000000) % 0x10000
  else (k - 0x1000000) % 0x10000

/-- What an address of a function's BAR0 reaches. -/
inductive BarPlace where
  | page (p : Page) (off : Nat)
  | directory (off : Nat)
  | miniDirectory (t off : Nat)
  | sqBell (t q : Nat)
  | cqBell (t q : Nat)
  | msix (t off : Nat)
  | reserved
deriving DecidableEq, Repr

/-- A tenant's 64 KiB window (R29). -/
def tenantWindow (t a : Nat) : BarPlace :=
  let off := a % 0x1000
  match a / 0x1000 with
  | 0 => .miniDirectory t off
  | 1 => .page (.tnt t) off
  | 2 => if off < 0x100 ∧ off % 4 = 0 then .sqBell t (off / 4) else .reserved
  | 3 => if off < 0x100 ∧ off % 4 = 0 then .cqBell t (off / 4) else .reserved
  | 4 => .page (.tdgs t) off
  | 5 => .page (.tent t) off
  | 6 => .page (.tpmu t) off
  | 7 => .page (.ttxn t) off
  | 8 => .msix t off
  | _ => .reserved

/-- The pages of one Stope's 64 KiB (R28). -/
def stopeWindow (n a : Nat) : BarPlace :=
  let off := a % 0x1000
  match a / 0x1000 with
  | 0 => .page (.stp n) off
  | 1 => .page (.kst n) off
  | k => if k < 10 then .page (.eng n (k - 2)) off else .reserved

/-- The physical function's 16 MiB (R27). -/
def pfPlace (a : Nat) : BarPlace :=
  let off := a % 0x1000
  if a < 0x10000 then .directory a
  else if 0x100000 ≤ a ∧ a < 0x180000 then
    if a % 0x10000 < 0x1000 then .page (.shf ((a - 0x100000) / 0x10000)) off else .reserved
  else if 0x200000 ≤ a ∧ a < 0x600000 then stopeWindow ((a - 0x200000) / 0x10000) (a % 0x10000)
  else if 0x800000 ≤ a ∧ a < 0x810000 then tenantWindow 0 (a - 0x800000)
  else if 0x900000 ≤ a ∧ a < 0xA00000 then .page (.tntA ((a - 0x900000) / 0x1000)) off
  else match a / 0x1000 with
    | 0x10 => .page .hdf off
    | 0x20 => .page .rst off
    | 0x21 => .page .lcc off
    | 0x22 => .page (.otp 0) off
    | 0x23 => .page (.otp 1) off
    | 0x24 => .page (.otp 2) off
    | 0x30 => .page .cny off
    | 0x40 => .page .ent off
    | 0x50 => .page .dgs off
    | 0x60 => .page .lod off
    | 0x70 => .page .tly off
    | 0x80 => .page .adt off
    | 0x8C => .page .slc off
    | 0x90 => .page .txn off
    | 0xA0 => .page .pmu off
    | 0xB0 => .page .zdp off
    | 0xC0 => .page .drf off
    | 0xD0 => .page .asy off
    | _ => .reserved

/-- What an address of function `fn`'s BAR0 reaches: the physical function's map for function 0, else the window
of the virtual function (R27, R29). -/
def barPlace (fn a : Nat) : BarPlace :=
  if fn = 0 then pfPlace a
  else if fn < 256 ∧ a < 0x10000 then tenantWindow fn a
  else .reserved

end Sys2Proof.Machine
end

