-- ==== Sys2Proof/Machine/RegDefs.lean ====
section
/-! DEFINITION. The register maps: for every page kind, each register's offset, the masks of its writable
fields by access code (R6), its reset value and whether it is critical (shadowed, R43). The rows stand in the
order of the spec's maps; the comment before each group names the rule that gives the map. -/
namespace Sys2Proof.Machine

/-- One row of a register map; `last` is the offset of the last register of an array. -/
structure RegDef where
  first : Nat
  last : Nat
  rw : Nat := 0
  rws : Nat := 0
  w1c : Nat := 0
  w1s : Nat := 0
  wo : Nat := 0
  hf : Nat := 0
  reset : Nat := 0
  crit : Bool := false
deriving DecidableEq, Repr

/-- The common header map: 02_ronul_directory_and_pages.md R41. -/
def hdrMap : List RegDef :=
  [ { first := 0x000, last := 0x000 }  -- ID
  , { first := 0x004, last := 0x004 }  -- VER
  , { first := 0x008, last := 0x008, rw := 0xB, w1s := 0x4, reset := 0x1, crit := true }  -- CTL
  , { first := 0x00C, last := 0x00C, reset := 0x1 }  -- STS
  , { first := 0x010, last := 0x010, w1c := 0xFFFF007F }  -- ERR
  , { first := 0x014, last := 0x014, rw := 0xFFFFFFFF }  -- ERRMASK
  , { first := 0x018, last := 0x018, wo := 0xFFFFFFFF }  -- ERRINJ
  , { first := 0x01C, last := 0x01C, w1c := 0xFFFF0003 }  -- INTSTS
  , { first := 0x020, last := 0x020, rw := 0xFFFFFFFF }  -- INTEN
  , { first := 0x024, last := 0x024, rws := 0x3FFFFFF, crit := true }  -- TO
  , { first := 0x028, last := 0x028, w1c := 0x2 }  -- SHDSTS
  ]

/-- The TXN page map: 02_ronul_directory_and_pages.md R49. -/
def txnMap : List RegDef :=
  [ { first := 0x100, last := 0x100, wo := 0xFFFFFFFF }  -- TXN_BEGIN
  , { first := 0x104, last := 0x104 }  -- TXN_ID
  , { first := 0x108, last := 0x108, wo := 0xFFFFFFFF }  -- TXN_COMMIT
  , { first := 0x10C, last := 0x10C, wo := 0xFFFFFFFF }  -- TXN_ABORT
  , { first := 0x110, last := 0x110 }  -- TXN_STS
  , { first := 0x114, last := 0x114, rw := 0xFFFFFF, reset := 0x2710, crit := true }  -- TXN_TO
  , { first := 0x118, last := 0x118 }  -- TXN_EPOCH_LO
  , { first := 0x11C, last := 0x11C }  -- TXN_EPOCH_HI
  , { first := 0x120, last := 0x13C }  -- TXN_DIGEST
  , { first := 0x140, last := 0x140 }  -- TXN_ERRADDR
  ]

/-- The TNT page map: 03_adit_queues_and_tally.md R63; 15_tenants.md R408. -/
def tntMap : List RegDef :=
  [ { first := 0x100, last := 0x100, rw := 0x3F }  -- TNT_QSEL
  , { first := 0x104, last := 0x104, rw := 0xFFFFF000 }  -- TNT_SQ_BASE_LO
  , { first := 0x108, last := 0x108, rw := 0xFFFFFFFF }  -- TNT_SQ_BASE_HI
  , { first := 0x10C, last := 0x10C, rw := 0xF83F1F, reset := 0x180000 }  -- TNT_SQ_CFG
  , { first := 0x110, last := 0x110, rw := 0xFFFFFF }  -- TNT_SQ_DL
  , { first := 0x114, last := 0x114, rw := 0x1, w1s := 0x2 }  -- TNT_SQ_CTL
  , { first := 0x118, last := 0x118 }  -- TNT_SQ_STS
  , { first := 0x11C, last := 0x11C, rw := 0xFFFFF000 }  -- TNT_CQ_BASE_LO
  , { first := 0x120, last := 0x120, rw := 0xFFFFFFFF }  -- TNT_CQ_BASE_HI
  , { first := 0x124, last := 0x124, rw := 0x1F }  -- TNT_CQ_CFG
  , { first := 0x128, last := 0x128, rw := 0x1 }  -- TNT_CQ_CTL
  , { first := 0x12C, last := 0x12C, rw := 0xFFFFFF01, reset := 0x100 }  -- TNT_CQ_IRQ
  , { first := 0x130, last := 0x130, reset := 0x20000 }  -- TNT_CQ_STS
  , { first := 0x134, last := 0x134 }  -- TNT_SQ_SEQ
  , { first := 0x138, last := 0x13C }  -- TNT_STAMP
  , { first := 0x140, last := 0x140, reset := 0x1 }  -- TNT_STATE
  , { first := 0x148, last := 0x148, reset := 0x400 }  -- TNT_TQUOTA
  , { first := 0x14C, last := 0x14C }  -- TNT_TUSE
  , { first := 0x150, last := 0x150, reset := 0x10 }  -- TNT_WEIGHT
  , { first := 0x154, last := 0x154, reset := 0x10000 }  -- TNT_LOBJ
  , { first := 0x158, last := 0x158, reset := 0x5C000 }  -- TNT_LMAT
  , { first := 0x15C, last := 0x15C }  -- TNT_LXGR
  , { first := 0x160, last := 0x160, reset := 0x40 }  -- TNT_DGSLIM
  , { first := 0x164, last := 0x168 }  -- TNT_EXSTP
  , { first := 0x16C, last := 0x16C }  -- TNT_EXSHF
  , { first := 0x170, last := 0x170 }  -- TNT_PLACE
  , { first := 0x174, last := 0x174 }  -- TNT_EXSTS
  , { first := 0x178, last := 0x178 }  -- TNT_EXPEND
  , { first := 0x180, last := 0x180, rws := 0x1, reset := 0x1 }  -- TNT_TCFG
  , { first := 0x184, last := 0x184 }  -- TNT_FLRSTS
  , { first := 0x188, last := 0x18C }  -- TNT_FLRSTAMP
  ]

/-- The TNTA page map: 15_tenants.md R408. -/
def tntAMap : List RegDef :=
  [ { first := 0x100, last := 0x100, rw := 0x3F }  -- TNT_QSEL (administrator copy)
  , { first := 0x104, last := 0x13C }  -- queue registers, read-only copies
  , { first := 0x140, last := 0x140, reset := 0x1 }  -- TNT_STATE
  , { first := 0x144, last := 0x144, w1s := 0x1, crit := true }  -- TNT_ADM
  , { first := 0x148, last := 0x148, rws := 0x7FFFF, reset := 0x400, crit := true }  -- TNT_TQUOTA
  , { first := 0x14C, last := 0x14C }  -- TNT_TUSE
  , { first := 0x150, last := 0x150, rws := 0xFF, reset := 0x10 }  -- TNT_WEIGHT
  , { first := 0x154, last := 0x154, rws := 0x7FFFF, reset := 0x10000 }  -- TNT_LOBJ
  , { first := 0x158, last := 0x158, rws := 0x7FFFF, reset := 0x5C000 }  -- TNT_LMAT
  , { first := 0x15C, last := 0x15C, rws := 0x7FFFF }  -- TNT_LXGR
  , { first := 0x160, last := 0x160, rws := 0x7FF, reset := 0x40 }  -- TNT_DGSLIM
  , { first := 0x164, last := 0x168, rws := 0xFFFFFFFF, crit := true }  -- TNT_EXSTP
  , { first := 0x16C, last := 0x16C, rws := 0xFF, crit := true }  -- TNT_EXSHF
  , { first := 0x170, last := 0x170, rws := 0x1 }  -- TNT_PLACE
  , { first := 0x174, last := 0x174 }  -- TNT_EXSTS
  , { first := 0x178, last := 0x178 }  -- TNT_EXPEND
  , { first := 0x180, last := 0x180, reset := 0x1 }  -- TNT_TCFG (read-only copy)
  , { first := 0x184, last := 0x184 }  -- TNT_FLRSTS
  , { first := 0x188, last := 0x18C }  -- TNT_FLRSTAMP
  ]

/-- The TLY page map: 03_adit_queues_and_tally.md R103. -/
def tlyMap : List RegDef :=
  [ { first := 0x100, last := 0x100, reset := 0x40000 }  -- TLY_CAP
  , { first := 0x104, last := 0x104 }  -- TLY_OCC
  , { first := 0x108, last := 0x108 }  -- TLY_OCC_PEAK
  , { first := 0x10C, last := 0x10C }  -- TLY_WAITENT
  , { first := 0x110, last := 0x110, rws := 0xFFFFFF, reset := 0xFA, crit := true }  -- TLY_DL_ENG
  , { first := 0x114, last := 0x114, rws := 0xFFFFFF, reset := 0x7D0, crit := true }  -- TLY_DL_SHF
  , { first := 0x118, last := 0x118, rws := 0xFFFFFF, reset := 0x10410 }  -- TLY_PRIO_WT
  , { first := 0x11C, last := 0x11C, rws := 0x1, reset := 0x1 }  -- TLY_PREEMPT
  , { first := 0x120, last := 0x124 }  -- TLY_CUTOFF
  , { first := 0x128, last := 0x12C }  -- TLY_EPOCH_STAMP
  , { first := 0x130, last := 0x130 }  -- TLY_ADAPT
  ]

/-- The LOD page map: 07_lode_key_store.md R222. -/
def lodMap : List RegDef :=
  [ { first := 0x100, last := 0x100, reset := 0x10000 }  -- LOD_CAP
  , { first := 0x104, last := 0x104, reset := 0x10001700 }  -- LOD_CAP2
  , { first := 0x108, last := 0x108, rws := 0x1FFF, reset := 0x1000, crit := true }  -- LOD_SPLIT
  , { first := 0x10C, last := 0x118 }  -- LOD_OBJUSE, LOD_MATUSE, LOD_XUSE, LOD_PERSUSE
  , { first := 0x120, last := 0x120, rw := 0xFF }  -- LOD_TSEL
  , { first := 0x124, last := 0x12C }  -- LOD_TOBJ, LOD_TMAT, LOD_TXGR
  , { first := 0x130, last := 0x130 }  -- LOD_STORE
  , { first := 0x134, last := 0x138 }  -- LOD_DSTAMP
  , { first := 0x13C, last := 0x13C }  -- LOD_RETIRED
  ]

/-- The ENT page map: 09_entropy_and_drbgs.md R263. -/
def entMap : List RegDef :=
  [ { first := 0x100, last := 0x100, rw := 0x2, w1s := 0x1, crit := true }  -- ENT_CTL
  , { first := 0x104, last := 0x104 }  -- ENT_STS
  , { first := 0x108, last := 0x108, rw := 0x7 }  -- ENT_CELLSEL
  , { first := 0x10C, last := 0x10C }  -- ENT_CELLSTS
  , { first := 0x110, last := 0x110, rws := 0xFFFF, reset := 0xC8, crit := true }  -- ENT_WAIT_TO
  , { first := 0x114, last := 0x114, rws := 0xFFFF, reset := 0x64, crit := true }  -- ENT_RESEED
  , { first := 0x120, last := 0x13C, rws := 0xFFFFFFFF }  -- ENT_PERS
  , { first := 0x140, last := 0x140 }  -- ENT_RATE
  , { first := 0x144, last := 0x148 }  -- ENT_FAILSTAMP
  , { first := 0x14C, last := 0x14C }  -- ENT_RAWDATA
  , { first := 0x150, last := 0x150 }  -- ENT_FAILCNT
  ]

/-- The TENT page map: 09_entropy_and_drbgs.md R264. -/
def tentMap : List RegDef :=
  [ { first := 0x100, last := 0x100 }  -- ENT_DATA
  , { first := 0x104, last := 0x104, w1c := 0x2 }  -- ENT_TSTS
  , { first := 0x108, last := 0x108 }  -- ENT_TDRAWN
  ]

/-- The DGS page map: 10_digest_service_and_sluice.md R284. -/
def dgsMap : List RegDef :=
  [ { first := 0x100, last := 0x100, reset := 0x4000010 }  -- DGS_CAP
  , { first := 0x104, last := 0x104 }  -- DGS_SLOTUSE
  , { first := 0x108, last := 0x108, rw := 0xFF }  -- DGS_TSEL
  , { first := 0x10C, last := 0x10C }  -- DGS_TSLOT
  , { first := 0x110, last := 0x110 }  -- DGS_COREBUSY
  ]

/-- The TDGS page map: 10_digest_service_and_sluice.md R285. -/
def tdgsMap : List RegDef :=
  [ { first := 0x100, last := 0x100, rw := 0x3FF }  -- DGS_CTX
  , { first := 0x104, last := 0x104, rw := 0x1FF0F }  -- DGS_CFG
  , { first := 0x108, last := 0x108, rw := 0xFFFFFFFF }  -- DGS_KEY
  , { first := 0x10C, last := 0x10C, rw := 0x1FFFF }  -- DGS_OUTLEN
  , { first := 0x110, last := 0x114, rw := 0xFFFFFFFF }  -- DGS_LEN
  , { first := 0x118, last := 0x118, wo := 0xFFFFFFFF }  -- DGS_CMD
  , { first := 0x11C, last := 0x11C }  -- DGS_STS
  , { first := 0x120, last := 0x120, w1c := 0x7FFF }  -- DGS_ERR
  , { first := 0x124, last := 0x128 }  -- DGS_CNT
  , { first := 0x12C, last := 0x12C, rw := 0x7 }  -- DGS_LASTVB
  , { first := 0x130, last := 0x134, wo := 0xFFFFFFFF }  -- DGS_DIN, DGS_DLAST
  , { first := 0x140, last := 0x17C }  -- DGS_RES0-15
  , { first := 0x180, last := 0x1BC, wo := 0xFFFFFFFF }  -- DGS_CMP0-15
  , { first := 0x1C0, last := 0x1C0, rw := 0x7F }  -- DGS_CMPLEN
  ]

/-- The SLC page map: 10_digest_service_and_sluice.md R286. -/
def slcMap : List RegDef :=
  [ { first := 0x100, last := 0x100, reset := 0x20 }  -- SLC_CAP
  , { first := 0x104, last := 0x104 }  -- SLC_BUSY
  , { first := 0x108, last := 0x108 }  -- SLC_WAIT
  , { first := 0x10C, last := 0x10C, hf := 0x1 }  -- SLC_RESV
  ]

/-- The SHF page map: 11_shafts.md R305. -/
def shfMap : List RegDef :=
  [ { first := 0x100, last := 0x100, reset := 0x8004000 }  -- SHF_CAP
  , { first := 0x104, last := 0x104, rws := 0xFF0F01, reset := 0x320400, crit := true }  -- SHF_CFG
  , { first := 0x108, last := 0x108 }  -- SHF_JOB
  , { first := 0x10C, last := 0x10C }  -- SHF_PROG
  , { first := 0x110, last := 0x110 }  -- SHF_YIELDS
  , { first := 0x114, last := 0x114 }  -- SHF_WIPE
  , { first := 0x118, last := 0x11C }  -- SHF_JOBCNT, SHF_ABORTCNT
  , { first := 0x120, last := 0x120 }  -- SHF_ECC
  ]

/-- The STP page map: 02_ronul_directory_and_pages.md R38. -/
def stpMap : List RegDef :=
  []

/-- The ADT page map: 02_ronul_directory_and_pages.md R27. -/
def adtMap : List RegDef :=
  []

/-- The DRF page map: 02_ronul_directory_and_pages.md R27. -/
def drfMap : List RegDef :=
  []

/-- The ASY page map: 02_ronul_directory_and_pages.md R27. -/
def asyMap : List RegDef :=
  []

/-- The OTP page map: 02_ronul_directory_and_pages.md R27. -/
def otpMap : List RegDef :=
  []

/-- The ENG page map: 12_engine_architecture.md R340. -/
def engMap : List RegDef :=
  [ { first := 0x100, last := 0x104 }  -- ENG_STS, ENG_PC (engine 2i)
  , { first := 0x108, last := 0x108, w1c := 0xC0000000 }  -- ENG_FAULT (engine 2i)
  , { first := 0x10C, last := 0x12C }  -- ENG_FADDR to ENG_RESETS (engine 2i)
  , { first := 0x280, last := 0x284 }  -- ENG_STS, ENG_PC (engine 2i+1)
  , { first := 0x288, last := 0x288, w1c := 0xC0000000 }  -- ENG_FAULT (engine 2i+1)
  , { first := 0x28C, last := 0x2AC }  -- ENG_FADDR to ENG_RESETS (engine 2i+1)
  ]

/-- The KST page map: 14_kernels_and_kernel_store.md R394. -/
def kstMap : List RegDef :=
  [ { first := 0x100, last := 0x100, reset := 0x10004004 }  -- KST_CAP
  , { first := 0x104, last := 0x110 }  -- KST_SUM0-3
  , { first := 0x114, last := 0x114, rw := 0x3 }  -- KST_PSEL
  , { first := 0x118, last := 0x11C }  -- KST_PID, KST_PVER
  , { first := 0x120, last := 0x120 }  -- KST_PEXT
  , { first := 0x124, last := 0x124 }  -- KST_PORIG
  , { first := 0x128, last := 0x128, rw := 0x3F }  -- KST_SLOTSEL
  , { first := 0x12C, last := 0x12C }  -- KST_VER
  , { first := 0x130, last := 0x130 }  -- KST_SLOTOP
  , { first := 0x134, last := 0x134 }  -- KST_SLOTST
  , { first := 0x140, last := 0x144, rw := 0xFFFFFFFF }  -- KST_SRC
  , { first := 0x148, last := 0x148, rw := 0x7FFFF }  -- KST_SRCLEN
  , { first := 0x14C, last := 0x14C, wo := 0xFFFFFFFF }  -- KST_CMD
  , { first := 0x150, last := 0x150, reset := 0xFF0000 }  -- KST_LDSTS
  , { first := 0x154, last := 0x154, reset := 0x1 }  -- KST_LOCK
  , { first := 0x158, last := 0x158 }  -- KST_SCRUB
  ]

/-- The ZDP page map: 16_zedaup_constellations.md R433. -/
def zdpMap : List RegDef :=
  [ { first := 0x100, last := 0x100, reset := 0xFF050404 }  -- ZDP_CAP
  , { first := 0x104, last := 0x104, rw := 0x7, w1s := 0x8, reset := 0x4, crit := true }  -- ZDP_CTL
  , { first := 0x108, last := 0x108, reset := 0xF000 }  -- ZDP_STS
  , { first := 0x10C, last := 0x10C, rw := 0x3 }  -- ZDP_LSEL
  , { first := 0x110, last := 0x110 }  -- ZDP_LSTS
  , { first := 0x114, last := 0x114 }  -- ZDP_LFEC
  , { first := 0x118, last := 0x118 }  -- ZDP_LREPLAY
  , { first := 0x11C, last := 0x11C }  -- ZDP_OFFSET
  , { first := 0x120, last := 0x120, rws := 0x1007F, reset := 0x1004B }  -- ZDP_SPILL
  , { first := 0x124, last := 0x124, rws := 0xFFFF, reset := 0x32, crit := true }  -- ZDP_PREP_TO
  , { first := 0x128, last := 0x128, rws := 0xFFFF, reset := 0xA, crit := true }  -- ZDP_POLL
  , { first := 0x12C, last := 0x12C, rws := 0xFFFF, reset := 0x3E8, crit := true }  -- ZDP_HOLD_TO
  , { first := 0x130, last := 0x130, rw := 0xFF }  -- ZDP_MSEL
  , { first := 0x134, last := 0x134 }  -- ZDP_MINFO
  , { first := 0x138, last := 0x13C }  -- ZDP_MEPOCH
  , { first := 0x140, last := 0x15C }  -- ZDP_MDIGEST0-7
  , { first := 0x160, last := 0x17C }  -- ZDP_MEXP0-7
  , { first := 0x180, last := 0x180, wo := 0xFFFFFFFF }  -- ZDP_MCMD
  , { first := 0x184, last := 0x184, rw := 0x1FF, reset := 0x100 }  -- ZDP_RCFG_DEV
  , { first := 0x188, last := 0x188, rw := 0xFFFFFF }  -- ZDP_RCFG_ADDR
  , { first := 0x18C, last := 0x18C, wo := 0xFFFFFFFF }  -- ZDP_RCFG_DATA
  , { first := 0x190, last := 0x1AC, rws := 0xFFFFFFFF, crit := true }  -- ZDP_ALLOW0-7
  , { first := 0x1B0, last := 0x1B0 }  -- ZDP_LOST
  ]

/-- The RST page map: 17_reset_boot_and_readiness.md R455. -/
def rstMap : List RegDef :=
  [ { first := 0x100, last := 0x100, w1c := 0xFFFF0000, reset := 0x20001 }  -- RST_CAUSE
  , { first := 0x104, last := 0x104, reset := 0x100 }  -- RST_STS
  , { first := 0x108, last := 0x108, rws := 0x1, crit := true }  -- RST_CFG
  , { first := 0x10C, last := 0x10C, wo := 0xFFFFFFFF, crit := true }  -- RST_CMD
  , { first := 0x110, last := 0x110 }  -- RST_D1CNT
  , { first := 0x114, last := 0x114 }  -- RST_BOOT
  , { first := 0x118, last := 0x118 }  -- RST_FWVER
  , { first := 0x11C, last := 0x130 }  -- RST_RELSTAMP, RST_CFGSTAMP, RST_FULLSTAMP
  , { first := 0x134, last := 0x134 }  -- RST_BRLOG
  , { first := 0x138, last := 0x138, rw := 0xFFFF, w1s := 0xFFFF0000, crit := true }  -- RST_DCORE
  , { first := 0x13C, last := 0x13C, reset := 0xFFFF }  -- RST_DCORESTS
  , { first := 0x140, last := 0x140, hf := 0xF, reset := 0x2 }  -- RST_REL
  ]

/-- The LCC page map: 18_lifecycle_and_debug.md R479. -/
def lccMap : List RegDef :=
  [ { first := 0x100, last := 0x100 }  -- LCC_STATE
  , { first := 0x104, last := 0x120, wo := 0xFFFFFFFF }  -- LCC_TOKEN0-7
  , { first := 0x124, last := 0x124, wo := 0xFFFFFFFF, crit := true }  -- LCC_CMD
  , { first := 0x128, last := 0x128 }  -- LCC_RESULT
  , { first := 0x12C, last := 0x12C }  -- LCC_OWN
  , { first := 0x130, last := 0x14C }  -- LCC_OWNKEY0-7
  , { first := 0x150, last := 0x150, wo := 0xFFFFFFFF, crit := true }  -- LCC_OWNCMD
  , { first := 0x154, last := 0x158, rw := 0xFFFFFFFF }  -- LCC_OWNSRC
  , { first := 0x15C, last := 0x15C, rw := 0xFFFFFFFF }  -- LCC_OWNLEN
  , { first := 0x160, last := 0x160 }  -- LCC_DBG
  , { first := 0x164, last := 0x180 }  -- LCC_DBGCHAL0-7
  , { first := 0x184, last := 0x184, wo := 0xFFFFFFFF }  -- LCC_DBGCMD
  , { first := 0x188, last := 0x1A4 }  -- LCC_DEVID0-7
  , { first := 0x1A8, last := 0x1B4 }  -- LCC_UID0-3
  , { first := 0x1B8, last := 0x1B8 }  -- LCC_TOKFAIL
  , { first := 0x1C0, last := 0x1DC, wo := 0xFFFFFFFF }  -- LCC_NEWDIG0-7
  ]

/-- The CNY page map: 19_canary_tamper_and_alarms.md R502. -/
def cnyMap : List RegDef :=
  [ { first := 0x100, last := 0x100 }  -- CNY_SRCACT
  , { first := 0x104, last := 0x104, w1c := 0xFFFFFFFF }  -- CNY_PEND
  , { first := 0x108, last := 0x108 }  -- CNY_STATE
  , { first := 0x10C, last := 0x10C, w1s := 0x1, crit := true }  -- CNY_HOLD
  , { first := 0x110, last := 0x118, rws := 0x7070707, reset := 0x4040404, crit := true }  -- CNY_MAP0-2
  , { first := 0x11C, last := 0x11C, rws := 0x7070707, reset := 0x3030303, crit := true }  -- CNY_MAP3
  , { first := 0x120, last := 0x120, rws := 0x7070707, reset := 0x2020403, crit := true }  -- CNY_MAP4
  , { first := 0x124, last := 0x124, rws := 0x7070707, reset := 0x4010203, crit := true }  -- CNY_MAP5
  , { first := 0x128, last := 0x128, rws := 0x7070707, reset := 0x3010104, crit := true }  -- CNY_MAP6
  , { first := 0x12C, last := 0x12C, rws := 0x7070707, reset := 0x4, crit := true }  -- CNY_MAP7
  , { first := 0x130, last := 0x130, w1s := 0x1, crit := true }  -- CNY_LOCK
  , { first := 0x134, last := 0x134, rws := 0x7FFFF, reset := 0x20000, crit := true }  -- CNY_LOOPCFG
  , { first := 0x138, last := 0x138, rws := 0xFF, crit := true }  -- CNY_CASECFG
  , { first := 0x13C, last := 0x13C, rws := 0x3FF3FFF, reset := 0x7D03E8, crit := true }  -- CNY_PERIOD
  , { first := 0x140, last := 0x140, rws := 0x7, reset := 0x7, crit := true }  -- CNY_MONEN
  , { first := 0x144, last := 0x144, rws := 0x177, reset := 0x31 }  -- CNY_OUTCFG
  , { first := 0x148, last := 0x148 }  -- CNY_TCTR
  , { first := 0x14C, last := 0x14C }  -- CNY_LOGSTS
  , { first := 0x150, last := 0x150, rw := 0xFFC }  -- CNY_RMADDR
  , { first := 0x154, last := 0x154, rw := 0xFFFFFFFF }  -- CNY_RMDATA
  , { first := 0x158, last := 0x174, rw := 0xFFFFFFFF }  -- CNY_BKP0-7
  , { first := 0x178, last := 0x17C }  -- CNY_BCLK
  , { first := 0x180, last := 0x180 }  -- CNY_VBAT
  , { first := 0x184, last := 0x184 }  -- CNY_LOOPSTS
  ]

/-- The HDF page map: 20_errors_timeouts_recovery.md R517. -/
def hdfMap : List RegDef :=
  [ { first := 0x100, last := 0x100 }  -- HDF_LOGSTS
  , { first := 0x104, last := 0x104 }  -- HDF_LOGSEQ
  , { first := 0x108, last := 0x108, rw := 0xFFFFFFFF }  -- HDF_LOGIDX
  , { first := 0x10C, last := 0x128 }  -- HDF_LOGDATA0-7
  , { first := 0x12C, last := 0x12C, rws := 0xFFFF, reset := 0x10 }  -- HDF_ECCTHR
  , { first := 0x130, last := 0x130, rws := 0x3, reset := 0x1 }  -- HDF_MCTPTHR
  , { first := 0x134, last := 0x134 }  -- HDF_WDTCNT
  ]

/-- The PMU page map: 21_performance_monitoring.md R528. -/
def pmuMap : List RegDef :=
  [ { first := 0x100, last := 0x100, reset := 0x8010 }  -- PMU_CAP
  , { first := 0x104, last := 0x104, rw := 0x1, w1s := 0x2 }  -- PMU_CTL
  , { first := 0x108, last := 0x108, w1c := 0xFFFF }  -- PMU_OVF
  , { first := 0x10C, last := 0x110 }  -- PMU_FRZSTAMP
  , { first := 0x140, last := 0x17C, rw := 0xBFFFFEFF }  -- PMU_EVSEL0-15
  , { first := 0x180, last := 0x1FC, rw := 0xFFFFFFFF }  -- PMU_CNT0-15
  , { first := 0x200, last := 0x200, rw := 0x3F }  -- PMU_SSEL
  , { first := 0x204, last := 0x204, rw := 0x31F, reset := 0x10 }  -- PMU_SCFG
  , { first := 0x208, last := 0x208 }  -- PMU_SSTS
  , { first := 0x20C, last := 0x20C, rw := 0x7F }  -- PMU_SRD
  , { first := 0x210, last := 0x22C }  -- PMU_SDATA0-7
  , { first := 0x240, last := 0x240, rw := 0xFF }  -- PMU_BWSEL
  , { first := 0x244, last := 0x244, rw := 0xFFFFF, reset := 0x3E8 }  -- PMU_BWWIN
  , { first := 0x248, last := 0x25C }  -- PMU_BWIN, PMU_BWOUT, PMU_BWPEAK
  ]

/-- The TPMU page map: 21_performance_monitoring.md R528. -/
def tpmuMap : List RegDef :=
  [ { first := 0x100, last := 0x100, reset := 0x8004 }  -- PMU_CAP
  , { first := 0x104, last := 0x104, rw := 0x1, w1s := 0x2 }  -- PMU_CTL
  , { first := 0x108, last := 0x108, w1c := 0xF }  -- PMU_OVF
  , { first := 0x10C, last := 0x110 }  -- PMU_FRZSTAMP
  , { first := 0x140, last := 0x14C, rw := 0x801FFEFF }  -- PMU_EVSEL0-3
  , { first := 0x180, last := 0x19C, rw := 0xFFFFFFFF }  -- PMU_CNT0-3
  , { first := 0x200, last := 0x200, rw := 0x3F }  -- PMU_SSEL
  , { first := 0x204, last := 0x204, rw := 0x31F, reset := 0x10 }  -- PMU_SCFG
  , { first := 0x208, last := 0x208 }  -- PMU_SSTS
  , { first := 0x20C, last := 0x20C, rw := 0x7F }  -- PMU_SRD
  , { first := 0x210, last := 0x22C }  -- PMU_SDATA0-7
  ]

/-- The block registers of a page (0x100 to 0x3FF). -/
def blockMap : Page → List RegDef
  | .hdf => hdfMap
  | .rst => rstMap
  | .lcc => lccMap
  | .otp _ => otpMap
  | .cny => cnyMap
  | .ent => entMap
  | .dgs => dgsMap
  | .lod => lodMap
  | .tly => tlyMap
  | .adt => adtMap
  | .slc => slcMap
  | .txn => txnMap
  | .pmu => pmuMap
  | .zdp => zdpMap
  | .drf => drfMap
  | .asy => asyMap
  | .shf _ => shfMap
  | .stp _ => stpMap
  | .kst _ => kstMap
  | .eng _ _ => engMap
  | .tntA _ => tntAMap
  | .tnt _ => tntMap
  | .tdgs _ => tdgsMap
  | .tent _ => tentMap
  | .tpmu _ => tpmuMap
  | .ttxn _ => txnMap

/-- The row of a map that covers an offset. -/
def RegDef.find (m : List RegDef) (off : Nat) : Option RegDef :=
  m.find? fun r => decide (r.first ≤ off) && decide (off ≤ r.last) && off % 4 == 0

/-- Does the page carry the full common header? Only a block's first page does (R39); the OTP mirror has three
pages. -/
def Page.firstOfBlock : Page → Bool
  | .otp n => n == 0
  | _ => true

/-- Is `TO` implemented in this page? Only in the STP, SHF, KST and ZDP pages (R41). -/
def Page.hasTo : Page → Bool
  | .stp _ | .shf _ | .kst _ | .zdp => true
  | _ => false

/-- Are `CTL.DRAIN` and `CTL.BRST` implemented in this page? Only in STP and SHF pages (R35). -/
def Page.hasDrain : Page → Bool
  | .stp _ | .shf _ => true
  | _ => false

/-- The register at an offset below 0x400 of a page, if one is implemented there (R38, R39, R41). -/
def regDef (p : Page) (off : Nat) : Option RegDef :=
  if off < 0x100 then
    if p.firstOfBlock then
      if off = 0x024 ∧ p.hasTo = false then none else RegDef.find hdrMap off
    else if off = 0x000 ∨ off = 0x004 then RegDef.find hdrMap off
    else none
  else if off < 0x400 then RegDef.find (blockMap p) off
  else none

/-- The reset value of a register that differs from one instance to the next: the ID register (type code and
instance of R33) and the tenant pages' own numbers and shares (R408). -/
def regReset (p : Page) (off : Nat) : Nat :=
  if off = 0x000 then p.typeCode * 65536 + p.instanceNo
  else if off = 0x004 then 0x000100B1
  else match p with
    | .tntA t | .tnt t =>
      if off = 0x140 then t * 2 ^ 24 + (if t = 0 then 0x101 else 0x1)
      else if off = 0x15C then (if t = 0 then 0x1000 else 0)
      else match regDef p off with
        | some r => r.reset
        | none => 0
    | _ => match regDef p off with
      | some r => r.reset
      | none => 0

end Sys2Proof.Machine
end

