-- ==== Sys2Proof/Machine/State.lean ====
section
/-! DEFINITION. The state of the FV9820, plain data throughout: every register, queue, buffer, counter, mode and
pin the spec gives the device, the commands that wait, and the state right after a power-on reset. Numbered sets
of records (functions, queues, entries, objects, engines) are sparse tables: lists of (number, record) in rising
order that leave out every record still at its reset value. -/
namespace Sys2Proof.Machine

/-- Why the block stops with a fault. -/
inductive Fault where
  /-- Raised by an engine command that names a Stope above 63 or an engine above 15: no such unit exists (R8, R9).
  Safe: the device has no such behaviour. -/
  | noSuchUnit
deriving DecidableEq, Repr

/-- Why the block gives no answer. -/
inductive Refusal where
  /-- Raised by a dispatch arm whose command has no meaning yet. Safe: nothing is claimed of it. -/
  | notModelled (mnemonic : String)
deriving DecidableEq, Repr

/-! ## Register pages and transactions (chapter 02) -/

/-- A primary write to a critical register that waits for its complement (R43). -/
structure Primary where
  req : Requester
  page : Page
  off : Nat
  value : Word
  since : Stamp
deriving DecidableEq, Repr

/-- The state of a scope's transaction (`TXN_STS.STATE`). -/
inductive TxnPhase where
  | idle | opened | committing | prepared
deriving DecidableEq, Repr

/-- The outcome of a scope's last attempt (`TXN_STS.RESULT`). -/
inductive TxnResult where
  | none | committed | aborted | timeout | invalid | overflow | busy | alarm | idMismatch | member | prepareFailed
deriving DecidableEq, Repr

/-- One transaction scope (R46 to R51). -/
structure Txn where
  phase : TxnPhase := .idle
  id : Nat := 0
  lastId : Nat := 0
  result : TxnResult := .none
  overflow : Bool := false
  staged : List (Nat × Word) := []
  overlays : List (Nat × Nat × Word) := []
  errAddr : Nat := 0
  openedAt : Stamp := 0
deriving DecidableEq, Repr

/-- Why Headframe runs a commit of its own (R554). -/
inductive HfReason where
  | ownerConfig | bootVersions | kernelEnd (n : Nat) | directory | ownership | workerRequest (id : Nat) | members
deriving DecidableEq, Repr

/-- Whose commit is meant: a scope's, or one of Headframe's own. -/
inductive CommitOf where
  | scope (sc : Scope)
  | headframe (why : HfReason)
deriving DecidableEq, Repr

/-- The stage of the one commit that is past validation (R52 steps 3 to 6): `preparing` while a constellation prepares
(R429 steps 1 to 3), `awaitFinals` while the workers' final digests are outstanding (R429 step 5). -/
inductive CommitStage where
  | preparing | awaitQuiesce | applying | awaitDigest | awaitFinals
deriving DecidableEq, Repr

/-- A commit that has passed validation (R52): what it applies, the values that were in force, the pages that have not
acknowledged, its stamp E, and the epoch it gives, which a constellation commit supplies (R55). -/
structure Commit where
  of : CommitOf
  stage : CommitStage
  staged : List (Nat × Word)
  overlays : List (Nat × Nat × Word) := []
  olds : List (Nat × Word) := []
  unacked : List Page := []
  stampE : Stamp := 0
  epoch : Nat := 0
  supplied : Bool := false
deriving DecidableEq, Repr

/-- The transaction unit: the scopes, the commits that wait, the one that runs, Headframe's own that wait
(`hfAgain`: those an alarm rolled back, until dispatch resumes, R54), and what is published (R52 to R57). -/
structure TxnUnit where
  scopes : List (Nat × Txn) := []
  waiting : List Commit := []
  active : Option Commit := .none
  hfQueue : List (HfReason × List (Nat × Word)) := []
  hfAgain : List (HfReason × List (Nat × Word)) := []
  epoch : Nat := 0
  digest : Bytes := []
  recordPending : Bool := false
deriving DecidableEq, Repr

/-- The Ronul directory's changing part (R31, R35, R36): SEQ, the published DISABLED flags, the DIGEST, and the
units that stopped serving but are not yet published. -/
structure Directory where
  seq : Nat := 0
  disabled : List Page := []
  published : List Page := []
  digest : Bytes := []
deriving DecidableEq, Repr

/-- What a requester's read of the first register of a group has latched (R50, and every "a read of LO latches"). -/
structure Latch where
  req : Requester
  key : Nat
  words : List Word
deriving DecidableEq, Repr

/-! ## Functions and queues (chapters 03 and 15) -/

/-- `TNT_STATE.STATE`. -/
inductive FnPhase where
  | absent | active | flr | removing
deriving DecidableEq, Repr

/-- One PCIe function and its tenant (R59, R61, R101, R401, R404, R407, R408): `aer` counts the failed reads reported
through AER (R511), `credit` and `shaftCredit` are what the deficit round robin leaves it on engines and on each Shaft
(R401), and `prioTaken` and `sqTaken` what its classes and its SQs were dispatched in the round under way (R85). -/
structure Fn where
  enabled : Bool := false
  phase : FnPhase := .active
  bme : Bool := false
  fnMask : Bool := false
  unmasked : List Nat := []
  pba : List Nat := []
  sent : List (Nat × Nat) := []
  msixTable : List (Nat × Word) := []
  flrCount : Nat := 0
  flrStamp : Stamp := 0
  flrWhy : Nat := 0
  removeNext : Bool := false
  removeWait : Bool := false
  aer : Nat := 0
  credit : Int := 0
  shaftCredit : List (Nat × Int) := []
  prioTaken : List (Nat × Nat) := []
  sqTaken : List (Nat × Nat) := []
  entBuf : List Word := []
  entUnderrun : Bool := false
  tDrawn : Nat := 0
deriving DecidableEq, Repr

/-- A submission queue (R62 to R67, R74, R91, R92). -/
structure Sq where
  baseLo : Word := 0
  baseHi : Word := 0
  cfg : Word := 0x180000
  dl : Word := 0
  en : Bool := false
  head : Nat := 0
  tail : Nat := 0
  error : Bool := false
  errCause : Nat := 0
  seq : Nat := 0
  fetched : Nat := 0
  submitted : Nat := 0
  abortTo : Nat := 0
  bells : List (Nat × Nat) := []
deriving DecidableEq, Repr

/-- A completion queue (R62 to R70, R102). -/
structure Cq where
  baseLo : Word := 0
  baseHi : Word := 0
  baseWritten : Bool := false
  cfg : Word := 0
  irq : Word := 0x100
  en : Bool := false
  tail : Nat := 0
  hostHead : Nat := 0
  phase : Bool := true
  error : Bool := false
  errCause : Nat := 0
  waiting : List Nat := []
  counted : Nat := 0
  firstCounted : Stamp := 0
deriving DecidableEq, Repr

/-! ## Tally (chapter 03) -/

/-- The status codes of a completion record (R81). -/
inductive Status where
  | ok | verifyReject
  | lengthMismatch | encodingInvalid | pointInvalid | valueRange | keyCheckFail | outputTooSmall
  | descriptorInvalid | opcodeInvalid | sequenceMismatch
  | handleInvalid | handleStale | usageDenied
  | quotaExceeded | noEntropy | notReady | resourceBusy
  | abortedHost | abortedAlarm | abortedReset | deadlineExpired | partnerLost | quarantined
  | indexExhausted | leaseUnknown | leaseExpired
  | memoryUncorrectable | kernelFault | dmaFault
deriving DecidableEq, Repr

/-- A 64-byte descriptor, field by field (R71). -/
structure Desc where
  opcode : Nat := 0
  options : Nat := 0
  flags : Nat := 0
  key : Nat := 0
  key2 : Nat := 0
  qseq : Nat := 0
  tag : Nat := 0
  inAddr : Nat := 0
  inLen : Nat := 0
  auxLen : Nat := 0
  outAddr : Nat := 0
  outCap : Nat := 0
  deadline : Nat := 0
  auxAddr : Nat := 0
deriving DecidableEq, Repr

/-- The states of a Tally entry (R82); `recordWait` is a completed entry whose record waits for a free CQ slot (R69). -/
inductive EState where
  | queued | waitEntropy | dispatched | committed | hold | recordWait
deriving DecidableEq, Repr

/-- What becomes of a stopped operation once its unit acknowledges (R86, R88, R93, R97, R205, R403 to R407):
it completes with a status, returns to QUEUED, or is freed without a record. -/
inductive StopEnd where
  | status (st : Status)
  | requeue
  | free
deriving DecidableEq, Repr

/-- Where a descriptor stands with Sluice (R118, R281, R282): no hashing, waiting for a channel, hashing, or hashed. -/
inductive SluiceStage where
  | none | waiting | hashing (ch : Nat) | hashed
deriving DecidableEq, Repr

/-- What an admitted creation holds in Lode until it completes (R199, R203); `fresh` is an index for the replacement of an
object at generation 255, which is no further object (R216). -/
structure Reservation where
  index : Option Nat := .none
  fresh : Bool := false
  units : Nat := 0
  persist : Bool := false
  tenant : Nat := 0
deriving DecidableEq, Repr

/-- The key material an operation received at dispatch (R205): what it runs on, whatever the object becomes. -/
structure Bound where
  handle : Nat := 0
  index : Nat := 0
  secret : Bytes := []
  pub : Bytes := []
  alg : Nat := 0
  kind : Nat := 0
deriving DecidableEq, Repr

/-- A step of an operation that waits for something outside its kernel: a HOLD release, an EQT release, an
asynchronous Lode, lease or flash act. -/
inductive Await where
  | none
  | release            -- R83: HOLD until the release stamp
  | eqt                -- R122: a finished EQT signature until T_eq
  | lease (idx : Nat)  -- R186: a stateful key in WAIT_LEASE, or its first or floor record
  | cache (idx : Nat)  -- R191: a tree-cache build
  | keyRecord          -- R220: a persistent record being written
  | holders            -- R217: holders of a destroyed key and its markers
  | kids               -- R178, R191: subsidiary entries
deriving DecidableEq, Repr

/-- A Tally entry, from admission to its completion record (R82): `inList` and `outList` are the data entries of its
SGLs, read once (R76); `discard` is set once Bus Master Enable was cleared under it (R61); `stopAt` is when its unit was
told to stop and `stopTo` how long it may take (R339, R300), `chunk` is the chunk of a split job that a subsidiary entry computes,
or `leaves` the leaves it recomputes on a Stope other than `notOn`, while its coordinator holds in `part` the chunks and in
`again` the recomputations not yet started, and in `doneBy` the Stope of each chunk (R178), and `keepExp` the setting of `TNT_TCFG.AUTOEXP` at its dispatch (R53). -/
structure Entry where
  tenant : Nat := 0
  sq : Nat := 0
  cq : Nat := 0
  sub : Nat := 0
  order : Nat := 0
  desc : Desc := {}
  state : EState := .queued
  admitted : Stamp := 0
  dispatched : Stamp := 0
  deadline : Stamp := 0
  target : Target := .none
  stopping : Option StopEnd := .none
  stopAt : Stamp := 0
  stopTo : Nat := 0
  keepExp : Bool := false
  started : Bool := false
  status : Status := .ok
  stamp : Stamp := 0
  info : Nat := 0
  outBytes : Nat := 0
  output : Bytes := []
  published : Nat := 0
  sglDone : Bool := false
  inList : List (Nat × Nat) := []
  outList : List (Nat × Nat) := []
  discard : Bool := false
  sluice : SluiceStage := .none
  sluiceOrder : Nat := 0
  digest : Bytes := []
  aux : Bytes := []
  input : Bytes := []
  lenFault : Bool := false
  keyWait : Bool := false
  waitAt : Stamp := 0
  hit : Bool := false
  redo : Bool := true
  covers : List (Nat × Nat) := []
  bound1 : Option Bound := .none
  bound2 : Option Bound := .none
  resv : Option Reservation := .none
  await : Await := .none
  releaseAt : Stamp := 0
  index : Option Nat := .none
  parent : Option Nat := .none
  part : Nat := 0
  kids : Nat := 0
  chunk : Nat := 0
  leaves : List Nat := []
  notOn : Option Nat := .none
  doneBy : List (Nat × Nat) := []
  again : List (Nat × List Nat) := []
  estCost : Nat := 0
  spillToken : Nat := 0
  spilled : Option Nat := .none
  made : Option (Bytes × Bytes) := .none
  avoid : List Nat := []
  lostAt : Option Stamp := .none
deriving DecidableEq, Repr

/-- Tally (R82 to R103): the entries, the order of admission, the last cut-off and epoch stamps. -/
structure Tally where
  entries : List (Nat × Entry) := []
  nextOrder : Nat := 0
  nextBell : Nat := 1
  occPeak : Nat := 0
  cutoff : Stamp := 0
  epochStamp : Stamp := 0
  paused : Bool := false
  measured : List (Nat × Nat) := []
deriving DecidableEq, Repr

/-! ## Headframe's error log (chapter 20) -/

/-- An event record (R504), its fields as numbers. -/
structure EventRec where
  kind : Nat
  cls : Nat
  tenant : Nat
  block : Nat
  unit : Nat
  seq : Nat
  detail0 : Nat
  stamp : Nat
  detail1 : Nat
deriving DecidableEq, Repr

/-- Headframe's error log and its delivery over MCTP (R506, R507): the record sent and not yet acknowledged with how
often it was sent again and when last, the SEQ from which the next is chosen, the SEQs the BMC was given, and the answer
to its last poll. Then the watchdog counts (R510) and the corrected errors of the last second (the unit, when, how many), how
often each unit was reset for them, and the units whose block-level reset is under way (R513). -/
structure Hdf where
  log : List EventRec := []
  nextSeq : Nat := 0
  lost : Nat := 0
  readSeqs : List Nat := []
  ackedSeqs : List Nat := []
  mctpOn : Bool := false
  inFlight : Option Nat := .none
  tries : Nat := 0
  sentAt : Stamp := 0
  nextSend : Nat := 0
  offered : List Nat := []
  polled : Option EventRec := .none
  wdtTotal : Nat := 0
  wdtRun : Nat := 0
  eccCount : List (Nat × Stamp × Nat) := []
  eccResets : List (Nat × Nat) := []
  eccPending : List Nat := []
deriving DecidableEq, Repr

/-! ## Canary (chapter 19) -/

/-- A 16-byte entry of Canary's event log (R498). -/
structure CnyEntry where
  bclk : Nat
  src : Nat
  cls : Nat
  backup : Bool
  processed : Bool
  counted : Bool
  cause : Nat
  seq : Nat
  detail : Nat
deriving DecidableEq, Repr

/-- An alarm event that has been detected and not yet applied at Tally (R490 step 2). -/
structure AlarmEvent where
  src : Nat
  cls : Nat
  detected : Stamp
  cause : Nat
deriving DecidableEq, Repr

/-- One tamper loop or case input: its LFSR, whether each of its last four samples mismatched (newest first), what its
last sample shows (loops as `CNY_LOOPSTS`, a case input 1 open), the cause that sample gives, and whether its event was
raised and lasts (R482, R483). -/
structure Loop where
  lfsr : Nat := 0
  recent : List Bool := []
  state : Nat := 0
  cause : Nat := 0
  raised : Bool := false
deriving DecidableEq, Repr

/-- Canary (R480 to R502): sources, alarms in force, the action sequence, and the backup domain. -/
structure Canary where
  srcAct : Word := 0
  inForce : List (Nat × Nat) := []
  detected : List AlarmEvent := []
  held : Bool := false
  phase : Nat := 0
  lastSrc : Nat := 0
  scrubbed : Bool := false
  zeroised : Bool := false
  shut : Bool := false
  genFresh : Bool := true
  loops : List (Nat × Loop) := []
  mapCopy : List Nat := []
  floor : List Nat := []
  locked : Bool := false
  bclk : Nat := 0
  retained : List (Nat × Byte) := []
  log : List CnyEntry := []
  logSeq : Nat := 0
  logLost : Nat := 0
  tctr : Nat := 0
  sealed : Bool := false
  rootKey : Option Bytes := .none
  vbatLost : Bool := false
  batLow : Bool := false
  vbatMv : Nat := 0
  vbatGone : Bool := false
  loadCount : Nat := 0
  bclkRem : Nat := 0
  onBackup : Bool := false
  lostCounted : Nat := 0
  loopCfg : Word := 0x20000
  caseCfg : Word := 0
  periodCfg : Word := 0x7D03E8
  pulseAt : Stamp := 0
  pendCls : List (Nat × Nat) := []
deriving DecidableEq, Repr

/-! ## Lode (chapters 04, 06 and 07) -/

/-- The attribute block of an object (R200). -/
structure Attr where
  kind : Nat := 0
  alg : Nat := 0
  usage : Nat := 0
  persist : Bool := false
  keyLen : Nat := 0
  label : Nat := 0
deriving DecidableEq, Repr

/-- The index state of a stateful key (R180 to R195). `warned` marks which index-low events have been logged;
`cache` is 0 none, 1 building, 2 ready, and `cacheBy` the order of the entry that coordinates the build; `flooring` counts the
STF_SETFLOOR records still to be persisted; `sub` is the sub-range a worker holds and `subNext` the one that follows it;
`wanted` are the devices, with their handles, that wait for a sub-range. -/
structure Stateful where
  levels : Nat := 1
  leaseLog2 : Nat := 16
  warnPct : Nat := 10
  total : Nat := 0
  next : Nat := 0
  frontier : Nat := 0
  seq : Nat := 0
  burned : Nat := 0
  lost : Nat := 0
  slot : Nat := 0
  unknown : Bool := false
  ready : Bool := true
  extending : Bool := false
  warnedPct : Bool := false
  warnedBlock : Bool := false
  cache : Nat := 0
  cacheGran : Nat := 0
  cacheBy : Option Nat := .none
  flooring : Nat := 0
  sub : Option (Nat × Nat) := .none
  subNext : Option (Nat × Nat) := .none
  withdrawn : Bool := false
  grants : List (Nat × Nat × Nat) := []
  wanted : List (Nat × Nat) := []
deriving DecidableEq, Repr

/-- One entry of the object table with its object (R200 to R214). `gen` is the generation of the current or last
object; `expGran` and `pinGran` are the granules of its expansion and of its pinned public key. -/
structure Obj where
  present : Bool := false
  held : Bool := false
  retired : Bool := false
  gen : Nat := 1
  used : Bool := false
  tenant : Nat := 0
  attr : Attr := {}
  vendorTest : Bool := false
  parent : Nat := 0
  depth : Nat := 0
  created : Stamp := 0
  seals : Nat := 0
  secret : Bytes := []
  pub : Bytes := []
  computed : Bool := true
  treeLabel : Bytes := []
  expGran : Nat := 0
  expUsed : Stamp := 0
  pinGran : Nat := 0
  stf : Option Stateful := .none
  cacheOf : Option Nat := .none
  cacheUsed : Nat := 0
deriving DecidableEq, Repr

/-- A new or replacing object that waits for a flash record or for its swap (R216, R220). -/
structure Staged where
  entry : Nat
  index : Nat
  obj : Obj
  replace : Bool
  oldIndex : Nat := 0
  oldHandle : Nat := 0
  output : Bytes := []
  written : Bool := false
  leased : Bool := true
  checked : Bool := true
deriving DecidableEq, Repr

/-- A persistent record in the key-record area of both flashes (R220, R221): `under` is the storage key it was
wrapped with, `tagOk` whether its tag still verifies. -/
structure KeyRecord where
  handle : Nat
  seq : Nat
  marker : Bool
  obj : Obj
  under : Bytes
  blob : Bytes := []
  tagOk : Bool := true
deriving DecidableEq, Repr

/-- A flash write of a key record or destruction marker under way for an entry (R217, R220). -/
structure StoreWrite where
  entry : Option Nat
  index : Nat
  handle : Nat
  marker : Bool
  obj : Obj
  failed : Bool := false
  tries : Nat := 0
deriving DecidableEq, Repr

/-- A lease record in one position of a slot's sector (R183): MAGIC and VERSION are the same in every record. -/
structure LeaseRec where
  slot : Nat
  seq : Nat
  keyId : Bytes
  frontier : Nat
  total : Nat
  burned : Nat
  log2 : Nat
  retired : Bool
  exhausted : Bool
  mac : Bytes := []
deriving DecidableEq, Repr

/-- One sector of a lease slot (R183, R184): its records in order, erases so far, and whether it is erasing. -/
structure Sector where
  recs : List LeaseRec := []
  erases : Nat := 0
  erasing : Bool := false
deriving DecidableEq, Repr

/-- A lease write that waits or runs (R185): for which object, who waits for it, what it raises FRONTIER to. The last record
of a key that is gone carries the key's ID and index state with it (R217). -/
structure LeaseWrite where
  index : Nat
  slot : Nat
  entry : Option Nat
  frontier : Nat
  floor : Option Nat := .none
  retired : Bool := false
  exhausted : Bool := false
  create : Bool := false
  keyId : Bytes := []
  last : Option Stateful := .none
  tries : Nat := 0
  waitRetry : Bool := false
deriving DecidableEq, Repr

/-- The lease anchor's pairs (R185): a table sequence and a digest each. -/
structure Anchor where
  seqC : Nat := 0
  digC : Bytes := []
  seqP : Nat := 0
  digP : Bytes := []
deriving DecidableEq, Repr

/-- Lode: the object table, what waits for flash, the device keys, the persistent store and the lease machinery
(R198 to R222, R180 to R196, R219, R229). -/
structure Lode where
  objs : List (Nat × Obj) := []
  lastIndex : Nat := 65535
  useNext : Nat := 1
  staged : List Staged := []
  holders : List (Nat × Nat) := []
  storageKey : Option Bytes := .none
  leaseKey : Option Bytes := .none
  identityKey : Option Bytes := .none
  attestKey : Option Bytes := .none
  aliasSig : Bytes := []
  maskKey : Option Bytes := .none
  maskGen : Bool := false
  maskAt : Stamp := 0
  serving : Bool := true
  records : List KeyRecord := []
  recordSeq : Nat := 0
  writes : List StoreWrite := []
  restoreDone : Bool := false
  restorePartial : Bool := false
  restoreFail : Nat := 0
  rootPresent : Bool := false
  rootLost : Bool := false
  storeRetry : Bool := false
  dstamp : Stamp := 0
  sectorsA : List (Nat × Sector) := []
  sectorsB : List (Nat × Sector) := []
  lastSlotB : List (Nat × Bool) := []
  leaseQueue : List LeaseWrite := []
  leaseActive : Option LeaseWrite := .none
  anchor : Anchor := {}
  leaseReady : Bool := false
deriving DecidableEq, Repr

/-! ## Entropy source and generators (chapter 09) -/

/-- The standing of a cell's two continuous tests (R249). -/
structure HealthTest where
  last : Byte := 0
  run : Nat := 0
  first : Byte := 0
  count : Nat := 0
  seen : Nat := 0
deriving DecidableEq, Repr

/-- A noise cell as `ENT_CELLSTS` shows it (R249 to R253); `excl` is its bit of `ENT_STS.EXCLUDED`, `waiting` the samples of
the conditioner's block that is being filled (R248). -/
structure Cell where
  health : HealthTest := {}
  waiting : Bytes := []
  cstate : Nat := 0
  excl : Bool := false
  cause : Nat := 0
  exclCount : Nat := 0
  aptMax : Nat := 0
deriving DecidableEq, Repr

/-- A random bit generator (R255): whether it is instantiated, the requests and the stamp since its last reseed, and
how often it was seeded; `work` is its CTR_DRBG state, and `persLater` says that a changed `ENT_PERS` goes into its next reseed. -/
structure Gen where
  live : Bool := false
  requests : Nat := 0
  seededAt : Stamp := 0
  seedings : Nat := 0
  persLater : Bool := false
  work : Bytes := []
deriving DecidableEq, Repr

/-- A masking generator (R229): valid, and the stamp of its last reseed; it gives one output each cycle. -/
structure Mrg where
  valid : Bool := false
  seededAt : Stamp := 0
deriving DecidableEq, Repr

/-- What a request at a generator is for (R257, R258). -/
inductive DrbgUse where
  | reseedStope (n : Nat)
  | reseedMrg (n : Nat)
  | reseedLode
  | refill (t : Nat)
deriving DecidableEq, Repr

/-- A request that waits at a generator: 64 is the central DRBG, 0 to 63 a Stope's (R258). -/
structure DrbgReq where
  gen : Nat
  cls : Nat
  use : DrbgUse
deriving DecidableEq, Repr

/-- The entropy source (R247 to R264). `pool` are the conditioned blocks not yet used, `phase` is `ENT_STS.STATE`; within a start-up, `stage` is 0 settling, 1 testing,
2 waiting for the next attempt, since the stamp `since`. -/
structure Ent where
  phase : Nat := 0
  attempt : Nat := 0
  stage : Nat := 0
  since : Stamp := 0
  cells : List (Nat × Cell) := []
  central : Gen := {}
  stopes : List (Nat × Gen) := []
  mrgs : List (Nat × Mrg) := []
  queue : List DrbgReq := []
  pool : List Bytes := []
  failStamp : Stamp := 0
  failTotal : Nat := 0
  failCells : Nat := 0
deriving DecidableEq, Repr

/-! ## The digest service (chapter 10) -/

/-- A DGS context of a tenant with its registers (R266 to R279, R285). `data` is everything absorbed, the parameter
header included: the chaining state is a function of it; `waiting` is how many of its bytes no core has taken yet, and
`extra` the blocks beyond those of the buffer that cores still owe it (key, padding, outer, squeezing). -/
structure Ctx where
  state : Nat := 0
  cfg : Word := 0
  key : Word := 0
  outlen : Word := 0
  lenLo : Word := 0
  lenHi : Word := 0
  lastvb : Word := 0
  cmplen : Word := 0
  cmp : List (Nat × Word) := []
  err : Word := 0
  count : Nat := 0
  data : Bytes := []
  waiting : Nat := 0
  secret : Bytes := []
  usage : Nat := 0
  result : Bytes := []
  window : Nat := 0
  squeezing : Bool := false
  readWords : List Nat := []
  spent : Bool := false
  matched : Bool := false
  cmpDone : Bool := false
  cmpAt : Option Stamp := .none
  cmpPend : Bool := false
  extra : Nat := 0
  bound : Option Nat := .none
deriving DecidableEq, Repr

/-- The 16 digest cores (R268): which context each holds (by its key), those out of service, and the round robin's last tenant and, for each
tenant, its last context. -/
structure Dgs where
  cores : List (Nat × Nat) := []
  dead : List Nat := []
  lastTenant : Nat := 255
  lastCtx : List (Nat × Nat) := []
deriving DecidableEq, Repr

/-- Sluice beside its channels, which the Tally entries hold (R280 to R283). -/
structure Sluice where
  nextOrder : Nat := 0
deriving DecidableEq, Repr

/-! ## Shafts (chapter 11) -/

/-- A job on a Shaft (R287 to R302), with `SHF_CFG` as it was at its dispatch (R53). -/
structure ShaftJob where
  entry : Nat
  kind : Nat
  estimate : Nat := 0
  exclusive : Bool := false
  started : Stamp := 0
  checkpoints : Nat := 0
  yields : Nat := 0
  yielded : Nat := 0
  lines : Nat := 0
  blinded : Bool := false
  cfg : Word := 0
  set : Nat := 0
deriving DecidableEq, Repr

/-- A Shaft: its main and yield-in jobs, the candidate assigned to it, lines still to wipe in each region, and its
counters. `test` is 0 not yet run, 1 running, 2 passed, 3 failed. -/
structure Shaft where
  main : Option ShaftJob := .none
  inner : Option ShaftJob := .none
  candidate : Option Nat := .none
  innerFrom : Stamp := 0
  wipeMain : Nat := 0
  wipeYield : Nat := 0
  wipeAll : Bool := false
  handover : Bool := false
  handTo : Option Nat := .none
  test : Nat := 0
  yieldTotal : Nat := 0
  jobs : Nat := 0
  aborts : Nat := 0
  corr : Nat := 0
  uncorr : Nat := 0
deriving DecidableEq, Repr

/-! ## Kernels, Stopes and engines (chapters 12 to 14) -/

/-- An entry of a pack's kernel directory (R375), with its kernel slot and whether its vectors passed. -/
structure Kernel where
  kslot : Nat := 0
  opBase : Nat := 0
  opMask : Nat := 0xFFFF
  entry : Nat := 0
  trap : Nat := 0xFFFF
  widths : Nat := 0x1F
  flags : Nat := 0
  layout : Nat := 0
  budget : Nat := 1
  est : Nat := 0
  cost : Nat := 0
  tErr : Nat := 0
  tEq : Nat := 0
  winInput : Nat := 0
  winPub : Nat := 0
  winSec : Nat := 0
  winWork : Nat := 0
  winOut : Nat := 0
  katOff : Nat := 0
  katCount : Nat := 1
  katOk : Bool := false
deriving DecidableEq, Repr

/-- A pack in a Stope's kernel store (R374, R379). -/
structure Pack where
  packId : Nat := 0
  version : Nat := 0
  origin : Nat := 1
  base : Nat := 0
  words : Nat := 0
  ownerKey : Bytes := []
  tenants : Bytes := []
  head : Bytes := []
  kernels : List Kernel := []
  image : Bytes := []
  src : Nat := 0
  broken : Bool := false
deriving DecidableEq, Repr

/-- A load, unload or reload request (R390 to R393): Headframe serves one at a time, in the order written. `phase`
is that of `KST_LDSTS`. -/
structure KstReq where
  stope : Nat
  cmd : Nat
  src : Nat := 0
  len : Nat := 0
  slot : Nat := 0
  abandon : Bool := false
  downgrade : Bool := false
  phase : Nat := 0
  since : Stamp := 0
  image : Bytes := []
  pack : Pack := {}
  byHeadframe : Bool := false
deriving DecidableEq, Repr

/-- The compartments of a Stope's store: packs by slot, and words. -/
structure Store where
  packs : List (Nat × Pack) := []
  words : List (Nat × BitVec 128) := []
deriving DecidableEq, Repr

/-- A Stope's controller and kernel store (R337, R379 to R381, R390, R241). `handover` is an owner change in
progress, to the tenant `handTo` or to the shared pool; `clockTarget` is the configured clock and `powerLimit` the
limit that the power control sets (R25, R548); `retest` is set while its kernels are tested again after a
block-level reset (R446). -/
structure Stope where
  store : Store := {}
  saved : Option Store := .none
  summary : Bytes := []
  locked : Bool := true
  result : Nat := 0
  kidx : Nat := 0xFF
  scrubCorr : Nat := 0
  scrubUncorr : Nat := 0
  clock : Nat := 0
  clockTarget : Nat := 0
  powerLimit : Nat := 2000
  handover : Bool := false
  handTo : Option Nat := .none
  retest : Bool := false
  corr : Nat := 0
deriving DecidableEq, Repr

/-- A modulus register (R309): unset, building until a stamp, invalid, or valid. `status` is 0 UNSET, 1 building,
2 VALID, 3 INVALID. -/
structure MReg where
  value : BitVec 128 := 0
  status : Nat := 0
deriving DecidableEq, Repr

/-- What an open stream handle names (R317, R319, R361): the unit by its KIND, the sponge's rate, whether the context
is masked and has absorbed a share triple, what it has absorbed (or the blocks of a SHA-2 context, after its initial
value), an AES key and counter block, how much was squeezed or enciphered, and whether the sponge is finalised. -/
structure Port where
  unit : Nat
  rate : Nat := 0
  masked : Bool := false
  tainted : Bool := false
  iv : Bytes := []
  data : Bytes := []
  key : Bytes := []
  counter : Bytes := []
  squeezed : Nat := 0
  final : Bool := false
deriving DecidableEq, Repr

/-- An engine's register files (R307). -/
structure Regs where
  s : List (Nat × BitVec 64) := []
  v : List (Nat × BitVec 512) := []
  a : List (Nat × BitVec 512) := []
  p : List (Nat × BitVec 16) := []
  w : List (Nat × BitVec 8192) := []
  k : List (Nat × BitVec 256) := []
  m : List (Nat × MReg) := []
  x : List (Nat × Port) := []
  sstride : Nat := 0
deriving DecidableEq, Repr

/-- An engine (R306 to R340). `mode` is `ENG_STS.STATE`; `pc` is the word at hand, `npc` the one after it, `slot` which
of the word's slots issues next (0 S, 1 V, 2 W), and `old` the registers as the word found them, which all its slots
read (R322). `trapped` is set once a slot of the word has trapped. -/
structure Eng where
  mode : Nat := 0
  run : Option Nat := .none
  idx : Nat := 0
  pc : Nat := 0
  npc : Nat := 0
  slot : Nat := 0
  regs : Regs := {}
  old : Regs := {}
  loc : List (Nat × Byte) := []
  locTenant : Nat := 0
  bars : List (Nat × Nat) := []
  atBar : Option Nat := .none
  trapped : Bool := false
  fault : Word := 0
  faddr : Word := 0
  fpc : Nat := 0
  fstamp : Stamp := 0
  fop : Nat := 0
  restarts : Nat := 0
  resets : Nat := 0
  stepAt : Stamp := 0
  dead : Bool := false
deriving DecidableEq, Repr

/-- An operation running on a Stope: its region (R311, R312), what it has published, its streams, its index, and
where a trap stands. Windows are byte tables from offset 0; the LODE secret window holds its three planes one after
the other. -/
structure Run where
  stope : Nat
  first : Nat
  wlog2 : Nat
  kernel : Kernel := {}
  input : List (Nat × Byte) := []
  pub : List (Nat × Byte) := []
  sec : List (Nat × Byte) := []
  work : List (Nat × Byte) := []
  out : List (Nat × Byte) := []
  lsec : Nat := 0
  lpub : Nat := 0
  lodeStream : Bytes := []
  lodePos : Nat := 0
  inStream : Bytes := []
  inPos : Nat := 0
  handed : Bytes := []
  digestReady : Bool := false
  startStamp : Stamp := 0
  stepStamp : Stamp := 0
  trapped : Option Nat := .none
  trapCause : Nat := 0
  firstTrap : Nat := 0
  handler : Bool := false
  handlerAt : Stamp := 0
  firstCommit : Bool := false
  released : Bool := false
deriving DecidableEq, Repr

/-! ## The performance monitor (chapter 21) -/

/-- A Stope's sampler (R524 to R526): `PMU_SCFG`, whether it is active, the entries held (32 bytes each, oldest
first), the tagged word, entries lost, the words issued since the last tag and how many make the interval. -/
structure Sampler where
  cfg : Word := 0x10
  active : Bool := false
  entries : List Bytes := []
  tagged : Option Bytes := .none
  lost : Nat := 0
  words : Nat := 0
  interval : Nat := 0
deriving DecidableEq, Repr

/-! ## Life cycle (chapter 18) -/

/-- One life-cycle copy: its three words (R458). -/
structure LcCopy where
  w1 : Word := 0
  w2 : Word := 0
  w3 : Word := 0
deriving DecidableEq, Repr

/-- A candidate row of the device secret (R463): blank, programmed, or every bit 1. -/
inductive SecretRow where
  | blank
  | key (v : Bytes)
  | ones
deriving DecidableEq, Repr

/-- What an ownership record holds (R467); `macOk` is whether MAGIC, VERSION and MAC are correct. The slots hold its bytes. -/
structure OwnRec where
  owned : Bool := false
  count : Nat := 0
  keyId : Bytes := []
  key : Bytes := []
  macOk : Bool := true
deriving DecidableEq, Repr

/-- The life-cycle controller. OTP: the copies, the device secret's rows, the token digests, the flag word of TOK3B and
whether TOK3B was ever written, the identity key's digest, the owner counter, CERTDIG. Flash: the ownership slots and the
device certificates. The rest is what this boot holds: the state in force (0 BLANK, 1 TEST, 2 PRODUCTION,
3 END_OF_LIFE) with its vote, the running command, the ownership in force (0 UNOWNED, 1 OWNED, 2 OWNER_LOST), the
debug challenge and authorisation, and the JTAG port. -/
structure Lcc where
  copies : List LcCopy := [{}, {}, {}, {}, {}]
  secretA : SecretRow := .blank
  secretB : SecretRow := .blank
  tok1 : Bytes := []
  tok2 : Bytes := []
  tok3a : Bytes := []
  tok3b : Bytes := []
  tok3Written : Bool := false
  tok3Flag : Bool := false
  devid : Bytes := []
  ownCount : Nat := 0
  certDig : Bytes := []
  certA : Bytes := []
  certB : Bytes := []
  slotA : Option Bytes := .none
  slotB : Option Bytes := .none
  state : Nat := 0
  agree : Nat := 0
  invalid : Nat := 0
  voteFail : Bool := false
  completed : Bool := false
  completing : Bool := false
  cmd : Nat := 0
  phase : Nat := 0
  result : Nat := 0
  copiesDone : Nat := 0
  nextCopy : Nat := 0
  tries : Nat := 0
  lockout : Option Stamp := .none
  tokFail : Nat := 0
  ownState : Nat := 0
  ownKey : Bytes := []
  ownPub : Bytes := []
  ownSlotB : Bool := false
  ownCmd : Nat := 0
  challenge : Option Bytes := .none
  challengeAt : Stamp := 0
  grant : Nat := 0
  signer : Nat := 0
  validity : Nat := 0
  grantAt : Stamp := 0
  waiting : Option (Nat × Nat) := .none
  scanUsed : Bool := false
  jtag : Nat := 0
  jtagOut : Bytes := []
  boundary : Bytes := []
deriving DecidableEq, Repr

/-- An SPDM connection (R476): how far its negotiation has come (1 version, 2 capabilities, 3 algorithms), its session
(0 none, 1 keys exchanged, 2 established), the session's number, its secret and its keys' updates, the PCIe IDE streams it has keyed, and the last response. -/
structure Spdm where
  step : Nat := 0
  session : Nat := 0
  sessionId : Nat := 0
  updates : Nat := 0
  transcript : Bytes := []
  secret : Bytes := []
  ide : List (Nat × Bytes) := []
  response : Bytes := []
deriving DecidableEq, Repr

/-! ## Zedaup (chapter 16) -/

/-- What a message over Zedaup says (R411, R415, R419 to R432). -/
inductive MsgKind where
  | heartbeat | credit | handshake | attestation | transportKey | work | result | key | stop | purge | purgeAck | evicted
  | poll | pollReply | prepare | prepareReply | commit | finalDigest | abort | commitRequest | resume | dissolve | evict
  | reset | quarantine | subrangeRequest | subrangeGrant | refused | admitted
deriving DecidableEq, Repr

/-- A message on its way: its kind, the device it is for (256 where it is for the link partner), its numbers and bytes. -/
structure Msg where
  kind : MsgKind
  dst : Nat := 256
  nums : List Nat := []
  data : Bytes := []
deriving DecidableEq, Repr

/-- A Zedaup link (R409 to R417): `lstate` and `lrole` as `ZDP_LSTS` shows them, the keys in force, flits sent and
received, the messages not yet sent and not yet acknowledged, how often the first unacknowledged flit was replayed,
the credit per virtual channel, and the heartbeat's record. -/
structure Link where
  lstate : Nat := 0
  since : Stamp := 0
  lanes : Nat := 0
  lrole : Nat := 0
  keyed : Bool := false
  keyDown : Bytes := []
  keyUp : Bytes := []
  sent : Nat := 0
  received : Nat := 0
  rekeyDown : Nat := 0
  rekeyUp : Nat := 0
  queue : List Msg := []
  unacked : List Msg := []
  tries : Nat := 0
  credit : List Nat := [256, 256, 256]
  corr : Nat := 0
  uncorr : Nat := 0
  replays : Nat := 0
  peer : Nat := 0
  peerRole : Nat := 0
  peerState : Nat := 0
  beatAt : Stamp := 0
  echo : Stamp := 0
  mgrOk : Bool := true
  failedAt : Option Stamp := .none
  lost : Bool := false
deriving DecidableEq, Repr

/-- A member of the constellation as its manager knows it (R418 to R431): `mstate` as `ZDP_MINFO` shows it, the step of
R419 it has reached, what it reported, what it is expected to report, and what it holds. -/
structure Member where
  mstate : Nat := 0
  step : Nat := 0
  stepAt : Stamp := 0
  identity : Bytes := []
  hops : Nat := 0
  via : Nat := 0
  free : Nat := 0
  sync : Bool := false
  alarm : Nat := 0
  kernels : List Nat := []
  session : Bool := false
  sessionKey : Bytes := []
  epoch : Nat := 0
  digest : Bytes := []
  expected : Bytes := []
  prepared : Bytes := []
  polls : Nat := 0
  keys : List Nat := []
  full : Bool := false
  lostAt : Option Stamp := .none
deriving DecidableEq, Repr

/-- What a worker hands back of a spilled operation (R422, R426). -/
structure SpillResult where
  token : Nat
  status : Status
  info : Nat
  outBytes : Nat
  output : Bytes
  made : Option (Bytes × Bytes)
deriving DecidableEq, Repr

/-- A constellation commit on its manager (R429): the members whose replies, then final digests, are outstanding, the
largest epoch reported, and when it began, or sent COMMIT. -/
structure Prepare where
  waiting : List Nat := []
  topEpoch : Nat := 0
  since : Stamp := 0
  sentCommit : Bool := false
deriving DecidableEq, Repr

/-- The constellation unit (R409 to R433): links and those out of service, this device's own membership, the members of its manager, the
constellation commit, overlays in force (`prepFull`: the last PREPARE carried the whole configuration), the transport key and session, results that wait, requests to the manager (the first `prepared` of them stand in the digest of its last PREPARE),
and the purges not yet acknowledged (device, handle, the entry that waits). -/
structure Zdp where
  links : List (Nat × Link) := []
  deadLinks : List Nat := []
  mstate : Nat := 0
  devid : Nat := 0
  uplink : Nat := 15
  joinStep : Nat := 0
  joinAt : Stamp := 0
  refusedAt : Option Stamp := .none
  stepped : Bool := false
  prepFull : Bool := false
  session : Bool := false
  sessionKey : Bytes := []
  members : List (Nat × Member) := []
  ids : List (Bytes × Nat) := []
  quarantined : Bool := false
  sync : Bool := false
  offset : Word := 0
  overAt : Option Stamp := .none
  lostManager : Option Stamp := .none
  transportKey : Option Bytes := .none
  prep : Option Prepare := .none
  overlays : List (Nat × Nat × Word) := []
  results : List SpillResult := []
  requests : List HfReason := []
  prepared : Nat := 0
  purges : List (Nat × Nat × Option Nat) := []
  cacheNext : Nat := 1
  lost : Nat := 0
deriving DecidableEq, Repr

/-! ## Reset and boot (chapter 17) -/

/-- An owner configuration record (R450): the epoch, every RWS register's value, and its tag. -/
structure OwnerRec where
  epoch : Nat
  values : List (Nat × Word)
  tag : Bytes := []
deriving DecidableEq, Repr

/-- The reset controller and the boot, beside their registers: the sources asserted (with whether each acts in device
scope), the A5 hold, the last release and the groups of D5 released, option load and the options in force, what the ROM
and the firmware have reached, the boot packs each with its mask of Stopes, the measurements, the owner configuration records of the two flashes. -/
structure Rst where
  asserted : List (Nat × Bool) := [(1, true)]
  lastRel : Stamp := 0
  groups : Nat := 0
  loading : Bool := false
  restarted : Bool := false
  safeLoad : Bool := false
  optionsDone : Bool := false
  options : Option OptionSet := .none
  trims : Bytes := []
  prevFull : Nat := 0
  stopped : Bool := false
  bistOk : Bool := false
  bistDone : Bool := false
  tried : Nat := 0
  header : Bytes := []
  fwDigest : Bytes := []
  fwLoaded : Bool := false
  keysDone : Bool := false
  logRead : Bool := false
  packs : List (Nat × Pack) := []
  packNext : Nat := 0
  bootCommitted : Bool := false
  measures : List (Nat × Bytes) := []
  ownerA : Option OwnerRec := .none
  ownerB : Option OwnerRec := .none
  lastOwnerB : Bool := true
deriving DecidableEq, Repr

/-! ## Clocks, voltage and temperature (chapter 22) -/

/-- Headframe's thermal and voltage control (R539 to R541, R547 to R549): the last junction temperature read and when,
the consecutive polls at or above the throttle threshold and at least 5 °C below it, the thermal clock limit in MHz, the
VDD_CORE set point in mV, until when it is not lowered, the set points recorded by clock, unanswered AVSBus transactions
in a row, whether the loop stopped, and whether THERMTRIP_N is low. -/
structure Avs where
  temp : Int := 25
  pollAt : Stamp := 0
  hot : Nat := 0
  cool : Nat := 0
  limit : Nat := 2000
  setPoint : Nat := 850
  loopAt : Stamp := 0
  holdUntil : Stamp := 0
  recorded : List (Nat × Nat) := []
  unanswered : Nat := 0
  stopped : Bool := false
  tripped : Bool := false
deriving DecidableEq, Repr

/-! ## The whole state -/

/-- The state of the FV9820. `stamp` is the Tally stamp as every island reads it; `edge` is the value of the stamp
generator at the last SYS_CLK edge, so that `stamp - edge` is the islands' fine count (R18). -/
structure State where
  pending : List Instr := []
  stamp : Stamp := 0
  edge : Stamp := 0
  freeNext : Nat := 0
  flaws : List Flaw := []
  regs : List (Nat × Word) := []
  prims : List Primary := []
  flips : List (Nat × Word) := []
  latches : List Latch := []
  txn : TxnUnit := {}
  dir : Directory := {}
  fns : List (Nat × Fn) := []
  sqs : List (Nat × Sq) := []
  cqs : List (Nat × Cq) := []
  tally : Tally := {}
  host : List (Nat × Byte) := []
  hdf : Hdf := {}
  cny : Canary := {}
  lode : Lode := {}
  ent : Ent := {}
  ctxs : List (Nat × Ctx) := []
  dgs : Dgs := {}
  slc : Sluice := {}
  shafts : List (Nat × Shaft) := []
  stopes : List (Nat × Stope) := []
  engs : List (Nat × Eng) := []
  runs : List (Nat × Run) := []
  kstQueue : List KstReq := []
  samplers : List (Nat × Sampler) := []
  lcc : Lcc := {}
  zdp : Zdp := {}
  rst : Rst := {}
  spdms : List (Nat × Spdm) := []
  avs : Avs := {}
  bwNext : Stamp := 0
deriving DecidableEq, Repr

/-- The device right after a power-on reset: every field at its reset value (R434, R18), nothing waiting. -/
def State.reset : State := {}

end Sys2Proof.Machine
end

