-- ==== Sys2Proof/Machine/Ops.lean ====
section
/-! DEFINITION. The operations every unit shares: registers, the error and interrupt latches of the common header
(R41), MSI-X messages (R61, R101), event records (R504 to R506), alarm events (R486, R490, R498, R499), the
shadow-mismatch rule (R44), and the gate every register write passes (R7, R38 to R43). Each is a total function of
the state. -/
namespace Sys2Proof.Machine

/-- What a command answers. -/
abbrev Out := Host.Outcome State Fault Refusal

/-! ## Time and free values -/

/-- The fine count that extends the stamp between SYS_CLK edges (R18): it saturates at 39. -/
def State.fine (s : State) : Nat := Nat.min 39 (s.stamp - s.edge)

/-- A later instant has come: the stamp rises to it, never falls (R18, R19); the generator has advanced by 40 at every
SYS_CLK edge on the way, and the rest is the fine count. -/
def State.advanceTo (s : State) (t : Stamp) : State :=
  { s with stamp := Nat.max s.stamp t, edge := if t ≤ s.stamp then s.edge else s.edge + (t - s.edge) / 40 * 40 }

/-- Tally takes a stamp that nothing before it shares (R20, R52, R97). -/
def State.nextStamp (s : State) : State := s.advanceTo (s.stamp + 1)

/-- The generator advances by `d` at a SYS_CLK edge, modulo 2^64, and every island's fine count starts again. -/
def State.edgeBy (s : State) (d : Nat) : State :=
  let t := (s.edge + d) % 2 ^ 64
  { s with edge := t, stamp := t }

/-- One SYS_CLK cycle: the stamp generator advances by 40 ns, modulo 2^64 (R18). On a worker the discipline of R416
replaces the 40 by 39 or 41 while its offset from the manager is positive or negative. The skew of the islands' copies,
up to 10 ns by R19, is 0 here: DESIGN CHOICE, log 4. -/
def State.tick (s : State) : State :=
  let follows := decide (2 ≤ s.zdp.mstate) && decide (s.zdp.mstate ≤ 4)
  if !follows || s.zdp.offset = 0 then s.edgeBy 40
  else if s.zdp.offset.msb then { s with zdp := { s.zdp with offset := s.zdp.offset + 1 } }.edgeBy 41
  else { s with zdp := { s.zdp with offset := s.zdp.offset - 1 } }.edgeBy 39

/-- Work of the islands of D3 to D8: once THERMTRIP_N is low their clocks stand still and nothing there moves (R549). -/
def State.clocked (s : State) (o : Out) : Out := if s.avs.tripped then .next s else o

/-! ## Registers -/

/-- A table's record at a key that need not be listed. -/
def lookup {α : Type} (m : List (Nat × α)) (k : Nat) : Option α :=
  match m.find? fun p => p.1 == k with
  | some p => some p.2
  | none => none

/-- The page and offset a register key stands for. -/
def keyPlace (k : Nat) : BarPlace :=
  if k < 0x1000000 then pfPlace k else tenantWindow ((k - 0x1000000) / 0x10000) ((k - 0x1000000) % 0x10000)

/-- The value at reset of the register with a given key. -/
def regDefault (k : Nat) : Word :=
  match keyPlace k with
  | .page p off => BitVec.ofNat 32 (regReset p off)
  | _ => 0

/-- The value held by a register. -/
def State.reg (s : State) (p : Page) (off : Nat) : Word := Cells.get regDefault s.regs (p.key off)

/-- Put a value into a register. -/
def State.setReg (s : State) (p : Page) (off : Nat) (v : Word) : State :=
  { s with regs := Cells.set regDefault s.regs (p.key off) v }

/-- A field of a register, as a number. -/
def State.regField (s : State) (p : Page) (off hi lo : Nat) : Nat := field (s.reg p off) hi lo

/-- A page's `TO` in nanoseconds (R41); a VALUE of 0 selects the page's own default. -/
def State.timeoutNs (s : State) (p : Page) (dflt : Nat) : Nat :=
  let v := s.reg p 0x024
  if field v 23 0 = 0 then dflt
  else field v 23 0 * (match field v 25 24 with | 0 => 1 | 1 => 1000 | _ => 1000000)

/-- A register as it is from stamp E on: what a commit past E will put into it, else its value (R53: settings that no
operation reads take effect at E). -/
def State.regAtE (s : State) (p : Page) (off : Nat) : Word :=
  match s.txn.active with
  | some c => if c.stage = .applying then (lookup c.staged (p.key off)).getD (s.reg p off) else s.reg p off
  | none => s.reg p off

/-! ## Numbered records -/

/-- A function at reset: the physical function exists; the others wait for SR-IOV to enable them (R397, R408). -/
def fnDefault (t : Nat) : Fn := { enabled := t == 0 }

def State.fn (s : State) (t : Nat) : Fn := Cells.get fnDefault s.fns t

def State.setFn (s : State) (t : Nat) (f : Fn) : State := { s with fns := Cells.set fnDefault s.fns t f }

/-- The key of queue `q` of function `t` (R62: 64 of each kind). -/
def queueKey (t q : Nat) : Nat := t * 64 + q % 64

def sqDefault (_ : Nat) : Sq := {}

def cqDefault (_ : Nat) : Cq := {}

def State.sq (s : State) (t q : Nat) : Sq := Cells.get sqDefault s.sqs (queueKey t q)

def State.setSq (s : State) (t q : Nat) (x : Sq) : State :=
  { s with sqs := Cells.set sqDefault s.sqs (queueKey t q) x }

def State.cq (s : State) (t q : Nat) : Cq := Cells.get cqDefault s.cqs (queueKey t q)

def State.setCq (s : State) (t q : Nat) (x : Cq) : State :=
  { s with cqs := Cells.set cqDefault s.cqs (queueKey t q) x }

/-- A count kept in a table, 0 where nothing is listed. -/
def countAt (m : List (Nat × Nat)) (k : Nat) : Nat := Cells.get (fun _ => 0) m k

/-- Add to a count kept in a table. -/
def bumpAt (m : List (Nat × Nat)) (k d : Nat) : List (Nat × Nat) := Cells.set (fun _ => 0) m k (countAt m k + d)

/-! ## MSI-X messages -/

/-- Vector 64 is a function's event vector (R101). -/
def eventVector : Nat := 64

/-- Raise a vector (R61, R101): the message is sent while the function is a bus master and neither mask holds it;
otherwise its PBA bit is set. -/
def State.raiseVector (s : State) (t v : Nat) : State :=
  let f := s.fn t
  if f.bme && !f.fnMask && f.unmasked.contains v then s.setFn t { f with sent := bumpAt f.sent v 1 }
  else s.setFn t { f with pba := withOne f.pba v }

/-- Send every message the PBA holds that may now go (R61, R101). -/
def State.flushPba (s : State) (t : Nat) : State :=
  let f := s.fn t
  if f.bme && !f.fnMask then
    let go := f.pba.filter fun v => f.unmasked.contains v
    s.setFn t { f with pba := f.pba.filter (fun v => !f.unmasked.contains v)
                       sent := go.foldl (fun m v => bumpAt m v 1) f.sent }
  else s

/-! ## The common header -/

/-- The function whose event vector a page's interrupts signal: the tenant's for a tenant page, else the physical
function's (R41). -/
def Page.owner : Page → Nat
  | .tnt t | .tdgs t | .tent t | .tpmu t | .ttxn t => t
  | _ => 0

/-- Set an `INTSTS` bit (R41): a latch; going from 0 to 1 while enabled signals the page's vector. -/
def State.setInt (s : State) (p : Page) (n : Nat) : State :=
  let v := s.reg p 0x01C
  if bit v n then s
  else
    let s := s.setReg p 0x01C (setBit v n)
    if bit (s.reg p 0x020) n then s.raiseVector p.owner eventVector else s

/-- The page that carries a block's common header: its first (R39). -/
def Page.first : Page → Page
  | .otp _ => .otp 0
  | p => p

/-- Set `ERR` bits; one that is unmasked sets `INTSTS.ERR` (R41). -/
def State.setErrBits (s : State) (q : Page) (bits : Word) : State :=
  let p := q.first
  let s' := s.setReg p 0x010 (s.reg p 0x010 ||| bits)
  if bits &&& ~~~(s.reg p 0x014) = 0 then s' else s'.setInt p 0

/-- Set one `ERR` bit. -/
def State.setErr (s : State) (p : Page) (n : Nat) : State := s.setErrBits p (1#32 <<< n)

/-- A write ignored in whole or in part (R7, R41): `ERR.ACCESS`. -/
def State.accessErr (s : State) (p : Page) : State := s.setErr p 0

/-! ## Event records -/

/-- Is a record sent over MCTP (R507, R486): its CLASS reaches `HDF_MCTPTHR`, or it is an ALARM of class A1 or higher? -/
def EventRec.delivered (r : EventRec) (thr : Nat) : Bool := decide (thr ≤ r.cls) || (r.kind == 3 && decide (1 ≤ r.cls))

/-- With no record on its way, the next in SEQ order that is to be sent goes out (R507, R514). -/
def Hdf.sendNext (h : Hdf) (thr : Nat) (now : Stamp) : Hdf :=
  if !h.mctpOn || h.inFlight.isSome then h
  else
    match h.log.find? fun r => decide (h.nextSend ≤ r.seq) && r.delivered thr && !h.ackedSeqs.contains r.seq with
    | some r => { h with inFlight := some r.seq, tries := 0, sentAt := now, nextSend := r.seq + 1
                         offered := withOne h.offered r.seq }
    | none => h

/-- A record leaves the log: whatever was kept of it goes too; overwritten before delivery, it is not sent (R506, R507). -/
def Hdf.forget (h : Hdf) (q : Nat) : Hdf :=
  { h with readSeqs := without h.readSeqs q, ackedSeqs := without h.ackedSeqs q, offered := without h.offered q
           inFlight := if h.inFlight = some q then none else h.inFlight }

/-- A record at the end of the log (R506): a full log of 512 loses its oldest, counted in LOST only when it was neither
read nor acknowledged. -/
def Hdf.append (h : Hdf) (r : EventRec) : Hdf :=
  match h.log with
  | old :: rest =>
    if h.log.length < 512 then { h with log := h.log ++ [r] }
    else
      let seen := h.readSeqs.contains old.seq || h.ackedSeqs.contains old.seq
      ({ h with log := rest ++ [r], lost := if seen then h.lost else satAdd 0xFFFF h.lost 1 }).forget old.seq
  | [] => { h with log := [r] }

/-- Append an event record to Headframe's log (R504, R506): the next SEQ; a record of class 2 or higher sets `INTSTS`
RECORD (R517). -/
def State.logEvent (s : State) (kind cls tenant block unit d0 st d1 : Nat) : State :=
  let h := s.hdf
  let r : EventRec := { kind := kind, cls := cls, tenant := tenant, block := block, unit := unit,
                        seq := h.nextSeq % 2 ^ 32, detail0 := d0 % 2 ^ 32, stamp := st, detail1 := d1 % 2 ^ 64 }
  let h := (h.append r).sendNext (field (s.regAtE .hdf 0x130) 1 0) s.stamp
  let s := { s with hdf := { h with nextSeq := (h.nextSeq + 1) % 2 ^ 32 } }
  if cls ≥ 2 then s.setInt .hdf 16 else s

/-- The tenant field of a record that concerns the device (R504). -/
def deviceTenant : Nat := 0xFF

/-! ## Memory errors (R512) -/

/-- Errors go with what stood in their place: a memory that is written over or zeroised holds none. -/
def State.dropFlaws (s : State) (p : FlawAt → Bool) : State := { s with flaws := s.flaws.filter fun f => !p f.place }

/-- Does an uncorrectable error stand at a place? -/
def State.flawed (s : State) (p : FlawAt) : Bool := s.flaws.contains { place := p, uncorr := true }

/-- An uncorrectable error is found (R512): `ERR.ECC_UNCORR` of the page and an ECC_UNCORR record with the memory's code. -/
def State.foundUncorr (s : State) (p : Page) (code addr : Nat) : State :=
  (s.setErr p 4).logEvent 0x000B 2 deviceTenant p.typeCode p.instanceNo code s.stamp addr

/-! ## Alarms -/

/-- The class in force of a source (R481, R487): its mapping, but A4 always for DEBUG_GRANT. -/
def State.mapClass (s : State) (src : Nat) : Nat :=
  if src = 0x1C then 4
  else field (s.regAtE .cny (0x110 + 4 * (src / 4))) (8 * (src % 4) + 2) (8 * (src % 4))

/-- Steps left in the OTP tamper counter: one for each entry that counts, up to 2,048 (R499). -/
def State.countTamper (s : State) : State × Bool :=
  if s.cny.tctr < 2048 then ({ s with cny := { s.cny with tctr := s.cny.tctr + 1 } }, true)
  else (s.setErr .cny 19, false)

/-- An event-log entry's 16 bytes (R498). -/
def CnyEntry.bytes (e : CnyEntry) : Bytes :=
  leBytes 6 e.bclk ++ leBytes 1 e.src ++ leBytes 1 e.cls ++
    leBytes 1 (b2n e.backup + b2n e.processed * 2 + b2n e.counted * 4) ++ leBytes 1 e.cause ++ leBytes 2 e.seq ++ leBytes 4 e.detail

/-- The slot of the oldest processed entry, by its sequence number counted back from the next one. -/
def Canary.oldest (c : Canary) : Option Nat :=
  let age (e : CnyEntry) : Nat := (c.logSeq + 65536 - e.seq % 65536) % 65536
  (c.log.zipIdx.foldl (fun (b : Option (Nat × Nat)) p =>
    if !p.1.processed then b
    else match b with
      | some q => if q.1 < age p.1 then some (age p.1, p.2) else b
      | none => some (age p.1, p.2)) none).map fun q => q.2

/-- The source of the newest of some entries. -/
def Canary.newestSrc (c : Canary) (l : List CnyEntry) : Nat :=
  let age (e : CnyEntry) : Nat := (c.logSeq + 65535 - e.seq % 65536) % 65536
  match l with
  | [] => c.lastSrc
  | e :: r => (r.foldl (fun (b : Nat × Nat) f => if age f < b.1 then (age f, f.src) else b) (age e, e.src)).2

/-- Does the event log have a slot for a new entry: a free one, or one of a processed entry (R498)? -/
def Canary.logRoom (c : Canary) : Bool := decide (c.log.length < 64) || c.oldest.isSome

/-- Write an entry into Canary's event log (R498): a free slot of 64, else that of the oldest processed one; with
neither, the event is counted as lost and `ERR.LOG_FULL` sets. -/
def State.cnyLog (s : State) (e : CnyEntry) : State :=
  let c := s.cny
  let c' := { c with logSeq := (c.logSeq + 1) % 65536 }
  if c.log.length < 64 then { s with cny := { c' with log := c.log ++ [e] } }
  else match c.oldest with
    | some i => { s with cny := { c' with log := setAt c.log i e } }
    | none => ({ s with cny := { c with logLost := satAdd 0xFFFF c.logLost 1 } }).setErr .cny 18

/-- An event stands in `CNY_PEND` under its class, and `INTSTS` EVENT sets (R501, R502). -/
def State.pendSource (s : State) (src cls : Nat) : State :=
  let top := if bit (s.reg .cny 0x104) src then Nat.max cls (countAt s.cny.pendCls src) else cls
  let s := (s.setReg .cny 0x104 (setBit (s.reg .cny 0x104) src)).setInt .cny 16
  { s with cny := { s.cny with pendCls := Cells.set (fun _ => 0) s.cny.pendCls src top } }

/-- An alarm source's event on main power (R490 step 1): the class in force at detection decides (R493); an
event-log entry is written and, from class A3, counted (a lost one is counted at the next processing); `CNY_PEND` and `INTSTS` EVENT are set; `CNY_SRCACT` shows
the condition while it lasts; the event then goes to Tally, which applies it at S. -/
def State.raiseAlarm (s : State) (src cause detail : Nat) (lasting : Bool) : State :=
  let cls := s.mapClass src
  let s' := if decide (3 ≤ cls) && s.cny.logRoom then s.countTamper else (s, false)
  let s := s'.1.cnyLog { bclk := s.cny.bclk, src := src, cls := cls, backup := false, processed := false,
                         counted := s'.2, cause := cause, seq := s.cny.logSeq, detail := detail }
  let s := s.pendSource src cls
  { s with cny := { s.cny with
      srcAct := if lasting then setBit s.cny.srcAct src else s.cny.srcAct
      lastSrc := src
      detected := s.cny.detected ++ [{ src := src, cls := cls, detected := s.stamp, cause := cause }] } }

/-! ## Shadow mismatches -/

/-- A shadow mismatch (R44): `SHDSTS` counts it with its offset and cause, `ERR.SHADOW` sets, a SHADOW event
record is logged and Canary gets a register-integrity event. -/
def State.shadowMismatch (s : State) (p : Page) (off cause : Nat) : State :=
  let v := s.reg p 0x028
  let n := satAdd 0xFFFF (field v 31 16) 1
  let s := s.setReg p 0x028 (BitVec.ofNat 32 (n * 65536 + (off / 4 % 512) * 16 + cause * 4 + 2))
  let s := s.setErr p 2
  let s := s.logEvent 0x0017 (s.mapClass 0x1B) deviceTenant p.typeCode p.instanceNo (s.reg p 0x028).toNat s.stamp
    (p.barOffset 0)
  s.raiseAlarm 0x1B 0 0 false

/-! ## The gate of a register write -/

/-- Does the requester reach the page (R40)? Headframe reaches every page; tenant 0 the pages of the physical
function's BAR0, its own window included; a virtual function only its own pages. -/
def Requester.reaches : Requester → Page → Bool
  | .headframe, _ => true
  | .tenant t, .tnt u | .tenant t, .tdgs u | .tenant t, .tent u | .tenant t, .tpmu u | .tenant t, .ttxn u => t == u
  | .tenant t, _ => t == 0

/-- Is this the requester's pending primary write in this page? -/
def Primary.isOf (x : Primary) (req : Requester) (p : Page) : Bool := x.req == req && x.page == p

/-- The requester's pending primary write in a page, if there is one. -/
def State.primary (s : State) (req : Requester) (p : Page) : Option Primary := s.prims.find? fun x => x.isOf req p

/-- Discard the requester's pending primary write in a page. -/
def State.dropPrimary (s : State) (req : Requester) (p : Page) : State :=
  { s with prims := s.prims.filter fun x => !x.isOf req p }

/-- A write that is not the awaited complement discards the requester's pending primary in that page as a missing
complement (R43, R44). -/
def State.breakPrimary (s : State) (req : Requester) (p : Page) : State :=
  match s.primary req p with
  | some x => (s.dropPrimary req p).shadowMismatch p x.off 2
  | none => s

/-- Is domain `d` released (`RST_STS.REL`, R437)? -/
def State.released (s : State) (d : Nat) : Bool := bit (s.reg .rst 0x104) (8 + d)

/-- `RST_STS.PHASE` (R451). -/
def State.bootPhase (s : State) : Nat := s.regField .rst 0x104 3 0

/-- Are configuration requests answered (`RST_STS.CFGREADY`, R60, R451)? -/
def State.cfgReady (s : State) : Bool := bit (s.reg .rst 0x104) 30

/-- Can the requester's accesses arrive at all? A function's only once configuration is ready, while it exists, and while
Adit's clock runs (R549). -/
def State.onBus (s : State) : Requester → Bool
  | .headframe => true
  | .tenant t => s.cfgReady && decide (t < 256) && (s.fn t).enabled && !s.avs.tripped

/-- The gate of a write to a register (R38 to R44): whether it goes on, and the state after the gate. A write
outside the requester's reach, to no page, or to a page that the directory shows DISABLED, does nothing; a pending primary of
the same requester in the page is broken unless this is its complement; while the page is frozen, a write to any
register but `CTL` is ignored with `ERR.ACCESS`. -/
def State.writeGate (s : State) (req : Requester) (p : Page) (off : Nat) : State × Bool :=
  if !s.onBus req || !req.reaches p || !p.exists || s.dir.published.contains p then (s, false)
  else
    let s := match s.primary req p with
      | some x => if x.off + 0x800 = off then s else s.breakPrimary req p
      | none => s
    if bit (s.reg p 0x008) 3 && !(off == 0x008 || off == 0x808) then (s.accessErr p, false)
    else (s, true)

/-- Run `f` behind the gate of a write. -/
def State.gated (s : State) (req : Requester) (p : Page) (off : Nat) (f : State → State) : State :=
  match s.writeGate req p off with
  | (s', true) => f s'
  | (s', false) => s'

/-- The primary write to a critical register: held pending (R43). -/
def State.holdPrimary (s : State) (req : Requester) (p : Page) (off : Nat) (v : Word) : State :=
  { s with prims := s.prims ++ [{ req := req, page := p, off := off, value := v, since := s.stamp }] }

/-- The time a complement may take (R43): 100 µs. -/
def complementWindow : Nat := 100000

/-- The write of a complement at offset + 0x800 (R43, R44): the value that now takes effect, if the pair matches;
otherwise a shadow mismatch, the pending value discarded. -/
def State.complement (s : State) (req : Requester) (p : Page) (off : Nat) (v : Word) : State × Option Word :=
  match s.writeGate req p (off + 0x800) with
  | (s, false) => (s, none)
  | (s, true) =>
    match s.primary req p with
    | none => (s.shadowMismatch p off 2, none)
    | some x =>
      let s := s.dropPrimary req p
      if s.stamp > x.since + complementWindow then ((s.shadowMismatch p x.off 2).shadowMismatch p off 2, none)
      else if v = ~~~x.value then (s, some x.value)
      else (s.shadowMismatch p off 1, none)

/-- The stored inverted copy of a critical register is written with it (R45). -/
def State.freshCopy (s : State) (p : Page) (off : Nat) : State :=
  { s with flips := s.flips.filter fun q => q.1 != p.key off }

/-- A primary write and its complement, one after the other (R43): the value that takes effect, if it does. -/
def State.criticalPair (s : State) (req : Requester) (p : Page) (off : Nat) (v c : Word) : State × Option Word :=
  match s.writeGate req p off with
  | (s, false) => (s, none)
  | (s, true) => (s.holdPrimary req p off v).complement req p off c

/-- Is the requester a virtual function, tenant 0, or Headframe: may it write a field that only Headframe may? -/
def Requester.isHeadframe : Requester → Bool
  | .headframe => true
  | .tenant _ => false

/-- The mask of a register's fields that the requester may write (R6, R7). -/
def RegDef.writable (d : RegDef) (req : Requester) : Nat :=
  d.rw ||| d.rws ||| d.w1c ||| d.w1s ||| d.wo ||| (if req.isHeadframe then d.hf else 0)

/-- The value a register holds after a write of `v` to its RW, W1C and WO fields (R6); its other bits keep theirs. -/
def RegDef.after (d : RegDef) (req : Requester) (old v : Word) : Word :=
  let put := BitVec.ofNat 32 (d.rw ||| d.wo ||| (if req.isHeadframe then d.hf else 0))
  let clr := BitVec.ofNat 32 d.w1c &&& v
  ((old &&& ~~~put) ||| (v &&& put)) &&& ~~~clr

end Sys2Proof.Machine
end

