-- ==== Sys2Proof/Machine/Links.lean ====
section
/-! DEFINITION. Zedaup's links, members and messages as every unit uses them (R409 to R419). -/
namespace Sys2Proof.Machine

/-! ## Links and members -/

def linkDefault (_ : Nat) : Link := {}

def State.link (s : State) (l : Nat) : Link := Cells.get linkDefault s.zdp.links l

def State.setLink (s : State) (l : Nat) (x : Link) : State :=
  { s with zdp := { s.zdp with links := Cells.set linkDefault s.zdp.links l x } }

def memberDefault (_ : Nat) : Member := {}

def State.member (s : State) (d : Nat) : Member := Cells.get memberDefault s.zdp.members d

def State.setMember (s : State) (d : Nat) (x : Member) : State :=
  { s with zdp := { s.zdp with members := Cells.set memberDefault s.zdp.members d x } }

/-- MSTATE (R433). -/
def mSeeking : Nat := 1
def mJoining : Nat := 2
def mPending : Nat := 3
def mMember : Nat := 4
def mManager : Nat := 5

/-- Is the device a worker in a constellation, or the manager of one (R56)? -/
def State.isWorker (s : State) : Bool := s.zdp.mstate == mMember
def State.isManager (s : State) : Bool := s.zdp.mstate == mManager

/-- ROLE (R417). -/
def State.role (s : State) : Nat := s.regField .zdp 0x104 1 0

/-- Is a member admitted: ADMITTED, QUARANTINED or HELD? -/
def Member.admitted (m : Member) : Bool := m.mstate == 3 || m.mstate == 4 || m.mstate == 6

/-- Could some operation be spilled to an admitted member (R421): in sync, with no alarm hold and with free quota? -/
def Member.fit (m : Member) : Bool := m.sync && decide (m.alarm < 2) && decide (0 < m.free)

/-- STATE of `ZDP_MINFO` (R433): an admitted member that no operation can be spilled to shows HELD (DEDUCED, log 43). -/
def Member.shown (m : Member) : Nat := if m.mstate == 3 && !m.fit then 6 else m.mstate

/-- The members that a constellation commit goes to: admitted ones and a joiner at step 6 (R429, R419). -/
def State.commitMembers (s : State) : List Nat :=
  (s.zdp.members.filter fun q => q.2.admitted || (q.2.mstate == 1 && q.2.step == 6)).map fun q => q.1

/-- The admitted members. -/
def State.admittedMembers (s : State) : List Nat := (s.zdp.members.filter fun q => q.2.admitted).map fun q => q.1

/-! ## Messages (R411, R412) -/

/-- A message's virtual channel. -/
def MsgKind.vc : MsgKind → Nat
  | .work | .key => 1
  | .result => 2
  | _ => 0

/-- The flits a message takes: 224 bytes each. -/
def Msg.flits (m : Msg) : Nat := Nat.max 1 (ceilDiv (4 * m.nums.length + m.data.length) 224)

/-- Send the messages that wait on a link while there is credit and fewer than 1,024 flits are unacknowledged. -/
def flushLinkFuel : Nat → Link → Link
  | 0, x => x
  | n + 1, x =>
    match x.queue with
    | [] => x
    | m :: r =>
      let c := nthD x.credit m.kind.vc 0
      let out : Nat := (x.unacked.map fun (u : Msg) => u.flits).foldl (· + ·) 0
      if c = 0 || decide (1024 ≤ out) then x
      else flushLinkFuel n { x with queue := r, unacked := x.unacked ++ [m], sent := x.sent + m.flits
                                    credit := setAt x.credit m.kind.vc (c - Nat.min c m.flits) }

def Link.flush (x : Link) : Link := if x.lstate = 5 then flushLinkFuel x.queue.length x else x

/-- Put a message on a link. -/
def State.sendOn (s : State) (l : Nat) (m : Msg) : State :=
  let x := s.link l
  s.setLink l { x with queue := x.queue ++ [m] }.flush

/-- The link towards a device: the manager's link to the member, else the upstream link. -/
def State.linkTo (s : State) (d : Nat) : Nat := if s.isManager then (s.member d).via else s.zdp.uplink

/-- Send a message to a device; device 0 is the manager. -/
def State.send (s : State) (d : Nat) (m : Msg) : State :=
  if s.linkTo d < 4 then s.sendOn (s.linkTo d) { m with dst := d } else s

/-- STOP for an operation that worker `d` runs (R422): `n` is the manager's number of it. -/
def State.sendStop (s : State) (d n : Nat) : State := s.send d { kind := .stop, nums := [n] }

/-- PURGE of a handle's generation on every worker that was sent the key (R424); after a destruction each one's
acknowledgement is awaited, by entry `e` where one waits. -/
def State.purge (s : State) (h : Nat) (destroyed : Bool) (e : Option Nat) : State :=
  let ds := (s.zdp.members.filter fun q => q.2.keys.contains h).map fun q => q.1
  ds.foldl (fun s d =>
    let m := s.member d
    let s := s.setMember d { m with keys := without m.keys h }
    let s := if destroyed then { s with zdp := { s.zdp with purges := s.zdp.purges ++ [(d, h, e)] } } else s
    s.send d { kind := .purge, nums := [h, b2n destroyed] }) s

end Sys2Proof.Machine
end

