-- ==== Sys2Proof/Config.lean ====
section
/-! DEFINITION. What the spec leaves to a standard it names, to one part, or open. The cryptographic functions of
FIPS 203 to 205, FIPS 186-5, SP 800-38D and the rest are named by the spec and not stated in it: here they are
functions with no body, so a statement about them holds whatever they compute. A free value is a value the spec
does not state; nothing in Lean can evaluate it. -/
namespace Sys2Proof

/-- The functions of the standards that the spec names, each with its parameter-set code where it has one. The
arguments are byte strings in the order the comment gives. -/
inductive Prim where
  /-- SHA-2, SHA-3 and SHAKE functions by the code of R167; argument: the message (SHAKE and cSHAKE: with N and S). -/
  | hash (code : Nat)
  /-- HMAC with a hash of R167: key, message. -/
  | hmac (code : Nat)
  /-- KMAC128 (1), KMAC256 (2), as tag or XOF: key, message, customisation; the output length is the caller's. -/
  | kmac (code : Nat) (xof : Bool) (len : Nat)
  /-- ML-KEM.KeyGen_internal: d ‖ z; the public part, and the dk_PKE that the private part begins with. -/
  | kemPub (pp : Nat) | kemPke (pp : Nat)
  /-- ML-KEM.Encaps_internal: ek, m; the ciphertext, the shared secret. -/
  | kemCt (pp : Nat) | kemKey (pp : Nat)
  /-- ML-KEM.Decaps, implicit rejection included: dk, c. -/
  | kemDec (pp : Nat)
  /-- The expanded matrix of an ML-KEM or ML-DSA key (R108): the public key. -/
  | matrix (family pp : Nat)
  /-- ML-DSA.KeyGen_internal: ξ; public and private part. -/
  | dsaPub (pp : Nat) | dsaSec (pp : Nat)
  /-- ML-DSA.Sign_internal: sk, μ, rnd; the signature, and the iteration count as 2 bytes. -/
  | dsaSig (pp : Nat) | dsaIter (pp : Nat)
  /-- SLH-DSA: SK.seed, PK.seed; PK.root. Then sk, M′, opt_rand: the signature. -/
  | slhRoot (pp : Nat) | slhSig (pp : Nat)
  /-- Classic McEliece (family 6) and HQC (family 7): seed; pk, sk; then pk, coins: c, K; sk, c: K. -/
  | codePub (family pp : Nat) | codeSec (family pp : Nat)
  | codeCt (family pp : Nat) | codeKey (family pp : Nat) | codeDec (family pp : Nat)
  /-- Elliptic curves (codes of R156): private value; public key. ECDSA: private value, digest, nonce k; signature. The
  deterministic nonce of FIPS 186-5 with a hash of R117: private value, digest. EdDSA: private value, message or
  pre-hash, context; signature. Private value, peer key; shared secret. -/
  | ecPub (pp : Nat) | ecSig (pp : Nat) | ecNonce (pp hash : Nat) | edSig (pp mode : Nat) | ecShared (pp : Nat)
  /-- The private value of the P-384 attestation key from its seed, which R219 does not state. -/
  | ecFromSeed (pp : Nat)
  /-- RSA: seed; n, the CRT parts p ‖ q ‖ dp ‖ dq ‖ qinv. Private operation, with padding and salt; public operation
  with OAEP coins; decryption. -/
  | rsaMod (pp : Nat) | rsaCrt (pp : Nat) | rsaSig (pp opts : Nat) | rsaEnc (pp opts : Nat) | rsaDec (pp opts : Nat)
  /-- AES-256-GCM: key, IV, AAD, text; ciphertext, tag; plaintext. -/
  | gcmCt | gcmTag | gcmPt
  /-- H_msg of SLH-DSA: R, public key, M′ (R146). What a Sluice channel forms after a kernel's hand-off: the prefix, the
  input. The scalar k of EdDSA: R, A, context, M or PH(M) (R159). The message
  hash of a stateful signature with its type's hash function: public key, signature, M (R555). -/
  | slhMsg (pp : Nat) | handOff (opcode : Nat) | edHash (pp mode : Nat) | stfMsg (family pp : Nat)
  /-- Stateful schemes: seed block; public key. Seed block, index, randomiser, message; signature. -/
  | stfPub (family pp levels : Nat) | stfSig (family pp levels : Nat)
  /-- The public key that a Classic McEliece or HQC private key determines (R210): the private encoding. -/
  | embedded (family pp : Nat)
  /-- A permutation or block function of a Stope's units, by its number: the state or key and block. -/
  | keccak | sha2Block (code : Nat) | aesBlock
  /-- CTR_DRBG of SP 800-90A (R255): the working state from entropy and personalisation; from a state, entropy and
  additional input; the output on a state and additional input; the state that follows it. -/
  | drbgSeed | drbgReseed | drbgOut | drbgNext
  /-- The AES-256 CBC-MAC of a noise cell's conditioner, under its fixed key (R248): 64 samples. -/
  | conditioner
deriving DecidableEq, Repr

/-- The yes or no questions that a standard answers and the spec only names. -/
inductive Check where
  /-- The two computations of PK.root agree (R145), the recomputed leaves agree (R178). -/
  | recompute (family pp : Nat)
  /-- Signature verification: public key, message representative, signature. -/
  | dsaVerify (pp : Nat) | slhVerify (pp : Nat) | ecVerify (pp mode : Nat) | rsaVerify (pp opts : Nat)
  | stfVerify (family pp : Nat) (raw : Bool)
  /-- OAEP decoding succeeds and the label agrees (R166): private part, c, label. -/
  | rsaOaep (pp opts : Nat)
  /-- AES-GCM tag check: key, IV, AAD, ciphertext, tag. -/
  | gcmTag
  /-- A signature over a blob under a key the device trusts (packs, firmware, ownership and debug blobs, SPDM). -/
  | signed (what : Nat)
  /-- A replacement's known-answer check (R215), a kernel's known-answer vectors (R391). -/
  | knownAnswer (what : Nat)
deriving DecidableEq, Repr

/-- A standard's function applied to byte strings. The result's length is fixed by the caller. -/
opaque Config.prim : Prim → List (List (BitVec 8)) → List (BitVec 8)

/-- A standard's check applied to byte strings. -/
opaque Config.holds : Check → List (List (BitVec 8)) → Bool

/-- The fixed string that pairwise consistency tests sign, and the coins of their encapsulations (R115): its bytes are
not stated. -/
opaque Config.testBytes : List (BitVec 8)

/-- The `n`-th free value of `w` bits: a value the spec does not state. -/
opaque Config.freeValue (w n : Nat) : BitVec w

/-- Cleorara's public keys in Headframe ROM, by purpose: ML-DSA-87 and ECDSA P-384 (R377, R448, R473). -/
opaque Config.romKey : Nat → List (BitVec 8)
opaque Config.romCurveKey : Nat → List (BitVec 8)

/-- The ROM version, a constant of the part that R449 names and does not give. -/
opaque Config.romVersion : List (BitVec 8)

/-- The KMAC256 tag of an owner configuration record under a key derived from the device secret (R450): device secret,
record. The spec states neither the derivation nor the customisation. -/
opaque Config.ownerTag : List (BitVec 8) → List (BitVec 8) → List (BitVec 8)

/-- The IDCODE of the JTAG port, which the spec names and does not give. -/
opaque Config.idcode : List (BitVec 8)

/-- The next state of a tamper loop's 16-bit LFSR, whose polynomial the spec does not give (R482); its bit 0 is driven. -/
opaque Config.lfsrNext : Nat → Nat

/-- An SPDM 1.3 message's bytes: response code, the fields the spec states. The spec names the standard and does not
state its formats. -/
opaque Config.spdmBytes : Nat → List (List (BitVec 8)) → List (BitVec 8)

/-- The grade of the part (R1): FV9820-X where true, FV9820-C where false. -/
opaque Config.gradeX : Bool

/-- The AVS start value, in mV, of a clock in MHz that the vendor trims give (R442, R540); the spec states no format. -/
opaque Config.avsStart : List (BitVec 8) → Nat → Nat

/-- The unique ID of `LCC_UID0`–`LCC_UID3`, programmed at wafer test. -/
opaque Config.uid : List (BitVec 8)

/-- An equalisation time that a kernel-pack header declares and the spec does not state (SLH-DSA key generation),
in nanoseconds, by opcode. -/
opaque Config.headerTerr : Nat → Nat

/-- Tally's own moving average of an opcode's time after `n` measured completions (R87), in nanoseconds: opcode, n. -/
opaque Config.ownAverage : Nat → Nat → Nat

end Sys2Proof
end

