-- ==== Sys2Proof/Machine/Opcodes.lean ====
section
/-! DEFINITION. The opcode tables (R90, R104, R133, R143, R150, R157, R163, R167, R170, R175, R206): which opcode
words exist, what each requires of its descriptor (R73, R105 to R107, R139, R144, R158, R159, R164), and the sizes
of keys, ciphertexts and signatures (R108, R133, R142, R149, R156, R162, R167, R173, R174, R198, R210). -/
namespace Sys2Proof.Machine

/-- The operations a descriptor can ask for. -/
inductive OpKind where
  | nop | fence | abortTag
  | kemKeygen | kemEncaps | kemDecaps | kemEkcheck | kemExpand | kemEvict
  | dsaKeygen | dsaSign | dsaVerify | dsaExpand | dsaEvict
  | compEncaps | compDecaps | compSign | compVerify
  | slhKeygen | slhSign | slhVerify
  | mceKeygen | mceEncaps | mceDecaps | hqcKeygen | hqcEncaps | hqcDecaps
  | ecKeygen | ecSign | ecVerify | ecAgree | ecPkcheck
  | rsaKeygen | rsaSign | rsaVerify | rsaEncrypt | rsaDecrypt
  | hash | hmac | hmacVerify | kmac | kmacVerify | kdf | gcmSeal | gcmOpen
  | random
  | stfKeygen | stfSign | stfVerify | stfQuery | stfSetfloor | stfCache
  | keyInfo | pubImport | symGen | keyWrap | keyUnwrap | keyReplace | keyDestroy | treeDerive | pubExport | usageClear
  | custom
deriving DecidableEq, Repr

/-- Opcode fields (R71): family [15:12], function [11:8], parameter set [7:0]. -/
def opFamily (o : Nat) : Nat := o / 4096 % 16
def opFunction (o : Nat) : Nat := o / 256 % 16
def opParam (o : Nat) : Nat := o % 256

/-- The ALG that an opcode with a parameter code requires: the opcode with bits [11:8] cleared (R201). -/
def opAlg (o : Nat) : Nat := opFamily o * 4096 + opParam o

/-- LMS and HSS parameter codes (R173): HEIGHT at most 4, bit 2 zero. -/
def lmsParamOk (pp : Nat) : Bool := decide (pp / 8 % 8 ≤ 4) && pp / 4 % 2 == 0

/-- XMSS and XMSS^MT trees (R174): h and d by TREE value. -/
def xmssTree (t : Nat) : Option (Nat × Nat) :=
  match t with
  | 0x00 => some (10, 1) | 0x01 => some (16, 1) | 0x02 => some (20, 1)
  | 0x08 => some (20, 2) | 0x09 => some (20, 4) | 0x0A => some (40, 2)
  | 0x0B => some (40, 4) | 0x0C => some (40, 8) | 0x0D => some (60, 3) | 0x0E => some (60, 6) | 0x0F => some (60, 12)
  | _ => none

/-- Is the parameter code of a stateful family defined? -/
def stfParamOk (f pp : Nat) : Bool := if f = 4 then lmsParamOk pp else (xmssTree (pp % 64)).isSome

/-- The elliptic-curve codes of R156. -/
def ecCodes : List Nat := [0x01, 0x02, 0x03, 0x10, 0x11, 0x20, 0x21]
/-- The RSA codes of R162. -/
def rsaCodes : List Nat := [0x08, 0x0C, 0x10, 0x18, 0x20, 0x30, 0x40]
/-- HMAC's hash codes (R167). -/
def hmacCodes : List Nat := [2, 3, 4, 8, 9, 10]

/-- The operation an opcode word names, if it is defined (admission check 2 of R77). Family 0xE is for custom
kernels, whose binding is looked up apart. -/
def opKind (o : Nat) : Option OpKind :=
  let pp := opParam o
  let is3 := decide (1 ≤ pp) && decide (pp ≤ 3)
  match opFamily o, opFunction o with
  | 0x1, 0 => if is3 then some .kemKeygen else none
  | 0x1, 1 => if is3 then some .kemEncaps else none
  | 0x1, 2 => if is3 then some .kemDecaps else none
  | 0x1, 3 => if is3 then some .kemEkcheck else none
  | 0x1, 4 => if is3 then some .kemExpand else none
  | 0x1, 5 => if is3 then some .kemEvict else none
  | 0x2, 0 => if is3 then some .dsaKeygen else none
  | 0x2, 1 => if is3 then some .dsaSign else none
  | 0x2, 2 => if is3 then some .dsaVerify else none
  | 0x2, 4 => if is3 then some .dsaExpand else none
  | 0x2, 5 => if is3 then some .dsaEvict else none
  | 0x3, 0 => if decide (1 ≤ pp) && decide (pp ≤ 12) then some .slhKeygen else none
  | 0x3, 1 => if decide (1 ≤ pp) && decide (pp ≤ 12) then some .slhSign else none
  | 0x3, 2 => if decide (1 ≤ pp) && decide (pp ≤ 12) then some .slhVerify else none
  | 0x4, 0 => if lmsParamOk pp then some .stfKeygen else none
  | 0x4, 1 => if lmsParamOk pp then some .stfSign else none
  | 0x5, 0 => if stfParamOk 5 pp then some .stfKeygen else none
  | 0x5, 1 => if stfParamOk 5 pp then some .stfSign else none
  | 0x4, 2 | 0x5, 2 => if pp = 0 then some .stfVerify else none
  | 0x4, 3 | 0x5, 3 => if pp = 0 then some .stfQuery else none
  | 0x4, 4 | 0x5, 4 => if pp = 0 then some .stfSetfloor else none
  | 0x4, 5 | 0x5, 5 => if pp = 0 then some .stfCache else none
  | 0x6, 0 => if decide (1 ≤ pp) && decide (pp ≤ 10) then some .mceKeygen else none
  | 0x6, 1 => if decide (1 ≤ pp) && decide (pp ≤ 10) then some .mceEncaps else none
  | 0x6, 2 => if decide (1 ≤ pp) && decide (pp ≤ 10) then some .mceDecaps else none
  | 0x7, 0 => if is3 then some .hqcKeygen else none
  | 0x7, 1 => if is3 then some .hqcEncaps else none
  | 0x7, 2 => if is3 then some .hqcDecaps else none
  | 0x8, 0 => if ecCodes.contains pp then some .ecKeygen else none
  | 0x8, 1 => if [0x01, 0x02, 0x03, 0x10, 0x11].contains pp then some .ecSign else none
  | 0x8, 2 => if [0x01, 0x02, 0x03, 0x10, 0x11].contains pp then some .ecVerify else none
  | 0x8, 3 => if [0x01, 0x02, 0x03, 0x20, 0x21].contains pp then some .ecAgree else none
  | 0x8, 4 => if ecCodes.contains pp then some .ecPkcheck else none
  | 0x9, 0 => if [0x08, 0x0C, 0x10, 0x18, 0x20].contains pp then some .rsaKeygen else none
  | 0x9, 1 => if rsaCodes.contains pp then some .rsaSign else none
  | 0x9, 2 => if rsaCodes.contains pp then some .rsaVerify else none
  | 0x9, 3 => if rsaCodes.contains pp then some .rsaEncrypt else none
  | 0x9, 4 => if rsaCodes.contains pp then some .rsaDecrypt else none
  | 0xA, 0 => if decide (1 ≤ pp) && decide (pp ≤ 14) then some .hash else none
  | 0xA, 1 => if hmacCodes.contains pp then some .hmac else none
  | 0xA, 2 => if hmacCodes.contains pp then some .hmacVerify else none
  | 0xA, 3 => if pp = 1 ∨ pp = 2 then some .kmac else none
  | 0xA, 4 => if pp = 1 ∨ pp = 2 then some .kmacVerify else none
  | 0xA, 5 => if pp = 1 ∨ pp = 2 then some .kdf else none
  | 0xA, 8 => if pp = 1 then some .gcmSeal else none
  | 0xA, 9 => if pp = 1 then some .gcmOpen else none
  | 0xB, 0 => if pp = 0 then some .random else none
  | 0xC, 0 => if pp = 0 then some .keyInfo else none
  | 0xC, 1 => if pp = 0 then some .pubImport else none
  | 0xC, 2 => if pp = 0 then some .symGen else none
  | 0xC, 3 => if is3 then some .keyWrap else none
  | 0xC, 4 => if is3 then some .keyUnwrap else none
  | 0xC, 5 => if pp = 0 then some .keyReplace else none
  | 0xC, 6 => if pp = 0 then some .keyDestroy else none
  | 0xC, 7 => if pp = 0 then some .treeDerive else none
  | 0xC, 8 => if pp = 0 then some .pubExport else none
  | 0xC, 9 => if pp = 0 then some .usageClear else none
  | 0xD, 1 => if decide (1 ≤ pp) && decide (pp ≤ 4) then some .compEncaps else none
  | 0xD, 2 => if decide (1 ≤ pp) && decide (pp ≤ 4) then some .compDecaps else none
  | 0xD, 5 => if decide (0x11 ≤ pp) && decide (pp ≤ 0x14) then some .compSign else none
  | 0xD, 6 => if decide (0x11 ≤ pp) && decide (pp ≤ 0x14) then some .compVerify else none
  | 0xE, _ => some .custom
  | 0xF, 0 => if pp = 0 then some .nop else none
  | 0xF, 1 => if pp = 0 then some .fence else none
  | 0xF, 2 => if pp = 0 then some .abortTag else none
  | _, _ => none

/-! ## Sizes -/

/-- ek, dk, c of ML-KEM (R108). -/
def kemSizes : Nat → Nat × Nat × Nat
  | 1 => (800, 1632, 768)
  | 2 => (1184, 2400, 1088)
  | _ => (1568, 3168, 1568)

/-- pk, sk, signature of ML-DSA (R108). -/
def dsaSizes : Nat → Nat × Nat × Nat
  | 1 => (1312, 2560, 2420)
  | 2 => (1952, 4032, 3309)
  | _ => (2592, 4896, 4627)

/-- The expanded matrix in bytes (R108). -/
def matrixBytes (f pp : Nat) : Nat :=
  match f, pp with
  | 1, 1 => 1536 | 1, 2 => 3456 | 1, _ => 6144
  | _, 1 => 12288 | _, 2 => 23040 | _, _ => 43008

/-- The granules of 4 KiB that an expansion takes (R108). -/
def matrixGranules (f pp : Nat) : Nat := ceilDiv (matrixBytes f pp) 4096

/-- n of an SLH-DSA set (R142). -/
def slhN (pp : Nat) : Nat :=
  match (pp - 1) % 6 with
  | 0 | 1 => 16
  | 2 | 3 => 24
  | _ => 32

/-- The SLH-DSA signature length (R142). -/
def slhSigLen (pp : Nat) : Nat :=
  match (pp - 1) % 6 with
  | 0 => 7856 | 1 => 17088 | 2 => 16224 | 3 => 35664 | 4 => 29792 | _ => 49856

/-- pk, sk, c of Classic McEliece (R149). -/
def mceSizes (pp : Nat) : Nat × Nat × Nat :=
  match (pp + 1) / 2 with
  | 1 => (261120, 6492, 96)
  | 2 => (524160, 13608, 156)
  | 3 => (1044992, 13932, 208)
  | 4 => (1047319, 13948, 194)
  | _ => (1357824, 14120, 208)

/-- The granules a pinned Classic McEliece public key takes (R149). -/
def mceGranules (pp : Nat) : Nat :=
  match (pp + 1) / 2 with
  | 1 => 64 | 2 => 128 | 3 => 256 | 4 => 256 | _ => 332

/-- pk, sk, c of HQC (R149). -/
def hqcSizes : Nat → Nat × Nat × Nat
  | 1 => (2249, 2289, 4481)
  | 2 => (4522, 4562, 9026)
  | _ => (7245, 7285, 14469)

/-- Private value, public key, signature, shared secret of a curve (R156). -/
def ecSizes : Nat → Nat × Nat × Nat × Nat
  | 0x01 => (32, 65, 64, 32)
  | 0x02 => (48, 97, 96, 48)
  | 0x03 => (66, 133, 132, 66)
  | 0x10 => (32, 32, 64, 0)
  | 0x11 => (57, 57, 114, 0)
  | 0x20 => (32, 32, 0, 32)
  | _ => (56, 56, 0, 56)

/-- Is the code a NIST curve (SEC1 points, ECDSA and ECDH)? -/
def ecNist (pp : Nat) : Bool := decide (1 ≤ pp) && decide (pp ≤ 3)

/-- The compressed length of a NIST point (R156). -/
def ecCompressed (pp : Nat) : Nat := ((ecSizes pp).2.1 + 1) / 2

/-- k, the RSA modulus in bytes (R162). -/
def rsaK (pp : Nat) : Nat := pp * 32

/-- Digest length of a pre-hash code (R117). -/
def phLen : Nat → Nat
  | 0 => 32 | 1 => 48 | 2 => 64 | 3 => 32 | 4 => 32 | 5 => 48 | 6 => 64 | 7 => 32 | _ => 64

/-- The last byte of a pre-hash function's object identifier (R117). -/
def phOidByte : Nat → Nat
  | 0 => 0x01 | 1 => 0x02 | 2 => 0x03 | 3 => 0x06 | 4 => 0x08 | 5 => 0x09 | 6 => 0x0A | 7 => 0x0B | _ => 0x0C

/-- The 11-byte object identifier of a pre-hash function (R117). -/
def phOid (ph : Nat) : Bytes :=
  [0x06, 0x09, 0x60, 0x86, 0x48, 0x01, 0x65, 0x03, 0x04, 0x02, BitVec.ofNat 8 (phOidByte ph)]

/-- The R167 code of a pre-hash function. -/
def phHash : Nat → Nat
  | 0 => 0x02 | 1 => 0x03 | 2 => 0x04 | 3 => 0x06 | 4 => 0x08 | 5 => 0x09 | 6 => 0x0A | 7 => 0x0B | _ => 0x0C

/-- Digest length of a hash code (R167); 0 for the extendable-output functions. -/
def hashLen : Nat → Nat
  | 1 => 28 | 2 => 32 | 3 => 48 | 4 => 64 | 5 => 28 | 6 => 32 | 7 => 28 | 8 => 32 | 9 => 48 | 10 => 64 | _ => 0

/-- n of a stateful set: 32 or 24 (R173, R174). -/
def stfN (pp : Nat) : Nat := if pp / 64 % 2 = 0 then 32 else 24

/-- Tree height of an LMS set (R173). -/
def lmsHeight (pp : Nat) : Nat := 5 * (pp / 8 % 8 + 1)

/-- The number of LM-OTS chains (R173). -/
def lmsChains (pp : Nat) : Nat :=
  match stfN pp, pp % 4 with
  | 32, 0 => 265 | 32, 1 => 133 | 32, 2 => 67 | 32, _ => 34
  | _, 0 => 200 | _, 1 => 101 | _, 2 => 51 | _, _ => 26

/-- LMS public key and signature (R173). -/
def lmsPub (pp : Nat) : Nat := 24 + stfN pp
def lmsSig (pp : Nat) : Nat := 12 + stfN pp * (lmsChains pp + 1) + lmsHeight pp * stfN pp

/-- Public key of a stateful set (R173, R174). -/
def stfPubLen (f pp : Nat) : Nat := if f = 4 then 4 + lmsPub pp else 4 + 2 * stfN pp

/-- Signature of a stateful set with `l` HSS levels (R173, R174). -/
def stfSigLen (f pp l : Nat) : Nat :=
  if f = 4 then 4 + (l - 1) * (lmsSig pp + lmsPub pp) + lmsSig pp
  else
    let n := stfN pp
    let len := if n = 32 then 67 else 51
    match xmssTree (pp % 64) with
    | some (h, 1) => 4 + n + (len + h) * n
    | some (h, d) => ceilDiv h 8 + n + (d * len + h) * n
    | none => 0

/-- The seed of a stateful key (R175). -/
def stfSeedLen (f pp : Nat) : Nat := if f = 4 then 16 + stfN pp else 3 * stfN pp

/-- T, the number of indexes (R176). -/
def stfTotal (f pp l : Nat) : Nat :=
  if f = 4 then 2 ^ (l * lmsHeight pp)
  else match xmssTree (pp % 64) with
    | some (h, _) => 2 ^ h
    | none => 0

/-- The granules of a tree cache (R190). -/
def cacheGranules (f pp l : Nat) : Nat :=
  if f = 4 then
    l * (match pp / 8 % 8 with | 0 => 1 | 1 => 2 | 2 => 16 | 3 => 32 | _ => 64)
  else match xmssTree (pp % 64) with
    | some (10, 1) => 2
    | some (16, 1) => 12
    | some (20, 1) => 32
    | some (_, d) => 8 * d
    | none => 0

/-- A composite pair (R133): ML-KEM or ML-DSA set, curve code, classical public key, classical ciphertext or
signature, classical shared secret. -/
structure Pair where
  lat : Nat
  ec : Nat
  pub : Nat
  ct : Nat
  ss : Nat
deriving DecidableEq, Repr

def pairOf : Nat → Pair
  | 0x01 => ⟨2, 0x20, 32, 32, 32⟩
  | 0x02 => ⟨3, 0x21, 56, 56, 56⟩
  | 0x03 => ⟨2, 0x01, 65, 65, 32⟩
  | 0x04 => ⟨3, 0x02, 97, 97, 48⟩
  | 0x11 => ⟨2, 0x10, 32, 64, 0⟩
  | 0x12 => ⟨2, 0x01, 65, 64, 0⟩
  | 0x13 => ⟨3, 0x11, 57, 114, 0⟩
  | _ => ⟨3, 0x02, 97, 96, 0⟩

/-- Composite ciphertext or signature length (R133). -/
def pairLen (id : Nat) : Nat :=
  let p := pairOf id
  if id < 0x10 then (kemSizes p.lat).2.2 + p.ct else (dsaSizes p.lat).2.2 + p.ct

/-- Public-key length of an ALG (R108, R142, R149, R156, R162, R173, R174). -/
def pubLen (alg : Nat) : Nat :=
  let pp := opParam alg
  match opFamily alg with
  | 1 => (kemSizes pp).1
  | 2 => (dsaSizes pp).1
  | 3 => 2 * slhN pp
  | 4 => stfPubLen 4 pp
  | 5 => stfPubLen 5 pp
  | 6 => (mceSizes pp).1
  | 7 => (hqcSizes pp).1
  | 8 => (ecSizes pp).2.1
  | 9 => rsaK pp + 4
  | _ => 0

/-- Private encoding of an ALG, without the public key that follows it (R210). -/
def secLen (alg : Nat) : Nat :=
  let pp := opParam alg
  match opFamily alg with
  | 1 => (kemSizes pp).2.1
  | 2 => (dsaSizes pp).2.1
  | 3 => 4 * slhN pp
  | 4 => stfSeedLen 4 pp
  | 5 => stfSeedLen 5 pp
  | 6 => (mceSizes pp).2.1
  | 7 => (hqcSizes pp).2.1
  | 8 => (ecSizes pp).1
  | 9 => rsaK pp + 4 + 5 * (rsaK pp / 2)
  | _ => 0

/-- Key kinds (R200). -/
def kindKeypair : Nat := 0x01
def kindPublic : Nat := 0x02
def kindAes : Nat := 0x10
def kindHmac : Nat := 0x11
def kindKmac : Nat := 0x12
def kindKdk : Nat := 0x13
def kindKek : Nat := 0x14
def kindTree : Nat := 0x15

/-- MATLEN: the bytes of an object's material as it is wrapped and as the material pool holds it (R198, R210). -/
def materialLen (kind alg keyLen : Nat) : Nat :=
  let f := opFamily alg
  if kind = kindTree then 64
  else if kind = kindKeypair then
    match f with
    | 1 | 3 | 6 | 7 | 9 => secLen alg
    | _ => secLen alg + pubLen alg
  else if kind = kindPublic then
    match f with
    | 1 => pubLen alg + 32
    | 2 => pubLen alg + 64
    | _ => pubLen alg
  else keyLen

/-- Material units of 64 bytes (R198). -/
def materialUnits (kind alg keyLen : Nat) : Nat := ceilDiv (materialLen kind alg keyLen) 64

/-! ## What a descriptor must satisfy -/

/-- Whether a handle must be there, must be 0, or may be either. -/
inductive Need where
  | zero | must | may
deriving DecidableEq, Repr

/-- The KEY field of an opcode (R104, R133, R143, R150, R157, R163, R167, R175, R206). -/
def needKey : OpKind → Need
  | .kemEncaps | .dsaVerify | .compEncaps | .compVerify | .slhVerify | .mceEncaps | .hqcEncaps | .ecVerify
  | .rsaVerify | .rsaEncrypt | .stfVerify => .may
  | .kemDecaps | .kemExpand | .kemEvict | .dsaSign | .dsaExpand | .dsaEvict | .compDecaps | .compSign | .slhSign
  | .mceDecaps | .hqcDecaps | .ecSign | .ecAgree | .rsaSign | .rsaDecrypt | .hmac | .hmacVerify | .kmac
  | .kmacVerify | .kdf | .gcmSeal | .gcmOpen | .stfSign | .stfQuery | .stfSetfloor | .stfCache | .keyInfo
  | .keyWrap | .keyReplace | .keyDestroy | .treeDerive | .pubExport | .usageClear => .must
  | .custom => .may
  | _ => .zero

/-- The KEY2 field of an opcode; KEY_REPLACE takes a KEK for its source 0b10 only (R215). -/
def needKey2 (k : OpKind) (options : Nat) : Need :=
  match k with
  | .compEncaps | .compVerify | .custom => .may
  | .compDecaps | .compSign | .keyWrap | .keyUnwrap => .must
  | .keyReplace => if options % 4 = 2 then .must else .zero
  | _ => .zero

/-- Does a handle field meet its need? -/
def Need.ok : Need → Nat → Bool
  | .zero, h => h == 0
  | .must, h => h != 0
  | .may, _ => true

/-- The HashML-DSA and HashSLH-DSA options (R106, R144): DIGEST and PH only in the pre-hash mode, PH at most 8. -/
def prehashOk (o : Nat) : Bool :=
  if o % 4 = 1 then decide (o / 16 ≤ 8) else o / 8 = 0

/-- Are the OPTIONS of an opcode valid (R106, R144, R150, R158, R159, R163, R164, R168 to R170, R175, R215)?
`inject` says whether MSEED is accepted now. -/
def optionsOk (k : OpKind) (pp o : Nat) (family : Nat) (inject : Bool) : Bool :=
  match k with
  | .kemKeygen | .dsaKeygen | .slhKeygen | .hqcKeygen | .ecKeygen | .stfKeygen | .kmac | .gcmSeal | .random => decide (o ≤ 1)
  | .kemEncaps => o == 0 || (o == 1 && inject)
  | .dsaSign => decide (o % 4 ≤ 2) && (if o % 4 = 1 then decide (o / 16 ≤ 8) else o / 8 == 0)
  | .dsaVerify => decide (o % 4 ≤ 2) && o / 4 % 2 == 0 && (if o % 4 = 1 then decide (o / 16 ≤ 8) else o / 8 == 0)
  | .slhSign => decide (o % 4 ≤ 1) && (if o % 4 = 1 then decide (o / 16 ≤ 8) else o / 8 == 0)
  | .slhVerify => decide (o % 4 ≤ 1) && o / 4 % 2 == 0 && (if o % 4 = 1 then decide (o / 16 ≤ 8) else o / 8 == 0)
  | .mceKeygen => decide (o ≤ 3)
  | .ecSign | .ecVerify =>
    if ecNist pp then o % 4 == 0 && decide (o / 16 ≤ 8) && (o / 4 % 2 == 0 || k == .ecSign)
    else decide (o % 4 ≤ 2) && (o % 4 != 2 || pp == 0x10) && o / 4 % 2 == 0 && o / 16 == 0 && (o / 8 % 2 == 0 || o % 4 == 1)
  | .rsaSign | .rsaVerify => o / 2 % 2 == 0 && decide (o / 16 ≤ 6) && (o / 4 % 2 == 0 || o % 2 == 0)
  | .rsaEncrypt | .rsaDecrypt => o % 16 == 0 && decide (o / 16 ≤ 6)
  | .compSign => o == 0 || o == 4
  | .stfVerify => o == 0 || (o == 1 && family == 4)
  | .keyReplace => decide (o ≤ 2)
  | .custom => true
  | _ => o == 0

/-- FLAGS.EQT is valid for ML-DSA and composite signing only (R107, R139, R175, R206). -/
def eqtAllowed : OpKind → Bool
  | .dsaSign | .compSign => true
  | _ => false

/-- Opcodes run on a Shaft (R151, R162). -/
def onShaft (k : OpKind) (pp : Nat) : Bool :=
  match k with
  | .mceKeygen | .rsaKeygen | .rsaSign | .rsaDecrypt => true
  | .rsaVerify | .rsaEncrypt => decide (0x18 ≤ pp)
  | _ => false

/-- Opcodes that Lode serves without a Stope (R552); EXPAND only when an expansion is already resident. -/
def lodeServed : OpKind → Bool
  | .kemEvict | .dsaEvict | .keyInfo | .pubExport | .stfQuery | .usageClear | .keyDestroy | .stfSetfloor | .stfCache => true
  | _ => false

/-- Family 0xF, which uses no unit at all (R90), and HASH, which runs in Sluice (R168). -/
def noUnit : OpKind → Bool
  | .nop | .fence | .abortTag | .hash => true
  | k => lodeServed k

/-- Secret-using operations, whose content failures are held (R129, R140, R207). Shaft key generation is not held
(R151, R165). -/
def secretUsing (k : OpKind) (options : Nat) : Bool :=
  match k with
  | .kemKeygen | .kemDecaps | .dsaKeygen | .dsaSign | .compDecaps | .compSign
  | .slhKeygen | .slhSign | .mceDecaps | .hqcKeygen | .hqcDecaps | .ecKeygen | .ecSign | .ecAgree
  | .rsaSign | .rsaDecrypt | .hmac | .hmacVerify | .kmac | .kmacVerify | .kdf | .gcmSeal | .gcmOpen
  | .keyWrap | .keyUnwrap | .symGen | .treeDerive => true
  | .kemEncaps => options % 2 == 1
  | .keyReplace => options % 4 != 1
  | _ => false

/-- Operations that create a Lode object (R77 check 9). -/
def createsObject : OpKind → Bool
  | .kemKeygen | .dsaKeygen | .slhKeygen | .mceKeygen | .hqcKeygen | .ecKeygen | .rsaKeygen | .stfKeygen | .kdf
  | .pubImport | .symGen | .keyUnwrap | .treeDerive => true
  | _ => false

/-- Operations that need randomness from a Stope DRBG or the MRG, and so wait while the entropy source is not
ready (R82, R120, R164, R170). -/
def needsEntropy (k : OpKind) (options : Nat) : Bool :=
  match k with
  | .kemEncaps | .compEncaps | .mceEncaps | .hqcEncaps | .rsaEncrypt | .random | .stfSign | .stfKeygen | .mceKeygen
  | .rsaKeygen => true
  | _ => secretUsing k options

/-! ## Equalisation times, in nanoseconds (R131, R140, R207) -/

/-- T_err of a key generation, by ALG (R131, R140 with the latencies of R172). -/
def keygenTerr (alg : Nat) : Nat :=
  let pp := opParam alg
  match opFamily alg, pp with
  | 1, 1 => 3000 | 1, 2 => 4000 | 1, _ => 6000
  | 2, 1 => 8000 | 2, 2 => 12000 | 2, _ => 16000
  | 7, 1 => 27000 | 7, 2 => 64000 | 7, _ => 116000
  | 8, 0x01 => 20000 | 8, 0x02 => 49000 | 8, 0x03 => 123000
  | 8, 0x10 => 14000 | 8, 0x11 => 46000 | 8, 0x20 => 10000 | 8, _ => 32000
  | _, _ => Config.headerTerr alg

/-- Whole blocks of `b` bytes in `n`. -/
def blocks (n b : Nat) : Nat := ceilDiv n b

/-- The Keccak rate of KMAC128 and KMAC256 (R140). -/
def kmacRate (pp : Nat) : Nat := if pp = 1 then 168 else 136

/-- The message block of a hash code, in bytes (R140). -/
def hashBlock : Nat → Nat
  | 1 | 2 => 64 | 3 | 4 | 5 | 6 => 128 | 7 => 144 | 8 => 136 | 9 => 104 | 10 => 72 | 11 | 13 => 168 | _ => 136

/-- The length of `encode_string(S)` of SP 800-185 for an S of `n` bytes, in bytes. -/
def encodedLen (n : Nat) : Nat := (if 8 * n < 256 then 2 else 3) + n

/-- The AAD of an AES-GCM operation: its auxiliary data without the IV and, to open, the tag (R167, R169). -/
def aadLen (k : OpKind) (d : Desc) : Nat :=
  if k = .gcmSeal then d.auxLen - (if d.options.testBit 0 then 12 else 0) else d.auxLen - 28

/-- T_err of an operation with descriptor `d` (R131, R140, R207). `mat` is the material length and `alg` the ALG of
the key object, where the rule counts them; for KMAC `mat` is SLEN. -/
def tErr (k : OpKind) (d : Desc) (mat alg : Nat) (kind : Nat) : Nat :=
  let pp := opParam d.opcode
  match k with
  | .kemKeygen | .dsaKeygen | .slhKeygen | .hqcKeygen | .ecKeygen => keygenTerr (opAlg d.opcode)
  | .kemEncaps => match pp with | 1 => 3000 | 2 => 4000 | _ => 6000
  | .kemDecaps => match pp with | 1 => 5000 | 2 => 7000 | _ => 10000
  | .dsaSign => match pp with | 1 => 28000 | 2 => 38000 | _ => 52000
  | .compDecaps => match pp with | 1 => 28000 | 2 => 70000 | 3 => 40000 | _ => 90000
  | .compSign => match pp with | 0x11 => 60000 | 0x12 => 55000 | 0x13 => 120000 | _ => 110000
  | .slhSign =>
    let base := match pp with
      | 1 => 23000000 | 2 => 1100000 | 3 => 43000000 | 4 => 1800000 | 5 => 49000000 | 6 => 3800000
      | 7 => 50000000 | 8 => 2400000 | 9 => 93000000 | 10 => 3900000 | 11 => 111000000 | _ => 8300000
    let perKib := if pp ≤ 2 then 900 else if pp ≤ 6 then 700 else 450
    base - 2000 + (if d.options % 4 = 0 then perKib * ceilDiv d.inLen 1024 else 0)
  | .mceDecaps => (match (pp + 1) / 2 with | 1 => 73000 | 2 => 154000 | 3 => 248000 | 4 => 258000 | _ => 269000) - 2000
  | .hqcDecaps => (match pp with | 1 => 93000 | 2 => 231000 | _ => 402000) - 2000
  | .ecSign => (match pp with | 1 => 23000 | 2 => 55000 | 3 => 130000 | 0x10 => 18000 | _ => 51000) - 2000
  | .ecAgree => (match pp with | 1 => 25000 | 2 => 60000 | 3 => 144000 | 0x20 => 13000 | _ => 36000) - 2000
  | .rsaSign | .rsaDecrypt =>
    (match pp with
      | 0x08 => 70000 | 0x0C => 205000 | 0x10 => 450000 | 0x18 => 1500000 | 0x20 => 3300000 | 0x30 => 10700000
      | _ => 26700000) - 2000
  | .hmac | .hmacVerify =>
    let b := blocks d.inLen (hashBlock pp)
    if pp ≤ 4 then 3000 + 40 * b else 3000 + ceilDiv (225 * b) 10
  | .kmac | .kmacVerify =>
    let r := kmacRate pp
    let tag := if k = .kmac then d.outCap else d.auxLen - 1 - mat
    let b := blocks (encodedLen mat) r + blocks d.inLen r + blocks tag r
    3000 + ceilDiv (225 * b) 10
  | .kdf => 4000
  | .gcmSeal | .gcmOpen => 3000 + 40 * ceilDiv (d.inLen + aadLen k d) 64
  | .keyWrap | .keyUnwrap =>
    let base := 4000 + 1000 * ceilDiv mat 4096
    base + (match pp with | 1 => 0 | 2 => 9000 | _ => 12000)
  | .symGen => 3000
  | .treeDerive => if kind = kindKeypair then keygenTerr alg + 3000 else 3000
  | .keyReplace =>
    if d.options % 4 = 2 then 4000 + 1000 * ceilDiv mat 4096 + 2000
    else if kind = kindKeypair then keygenTerr alg + 2000 else 5000
  | _ => 0

/-- T_eq of a signing operation under EQT (R131). -/
def tEq (k : OpKind) (pp : Nat) : Nat :=
  match k with
  | .dsaSign => match pp with | 1 => 500000 | 2 => 850000 | _ => 1250000
  | .compSign => match pp with | 0x11 => 880000 | 0x12 => 870000 | 0x13 => 1330000 | _ => 1310000
  | _ => 0

end Sys2Proof.Machine
end

