-- ==== Sys2Proof/Machine/Lode.lean ====
section
/-! DEFINITION. Lode's table of objects: handles (R203), the handle and usage checks (R201), attribute blocks (R200,
R202), quotas and room (R199, R220, R177, R152), the allocation of indexes (R203), expansions (R125 to R128), and
what a destruction or a swap does to the table (R205, R214, R216, R217). -/
namespace Sys2Proof.Machine

/-! ## Handles and objects -/

def objDefault (_ : Nat) : Obj := {}

/-- An entry of the object table. -/
def State.obj (s : State) (i : Nat) : Obj := Cells.get objDefault s.lode.objs i

def State.setObj (s : State) (i : Nat) (o : Obj) : State :=
  { s with lode := { s.lode with objs := Cells.set objDefault s.lode.objs i o } }

/-- A handle: tenant [31:24], generation [23:16], index [15:0] (R203). -/
def handleOf (t g i : Nat) : Nat := t * 0x1000000 + g * 0x10000 + i

def handleTenant (h : Nat) : Nat := h / 0x1000000 % 256
def handleGen (h : Nat) : Nat := h / 0x10000 % 256
def handleIndex (h : Nat) : Nat := h % 0x10000

/-- An object's handle. -/
def Obj.handle (o : Obj) (i : Nat) : Nat := handleOf o.tenant o.gen i

/-- Is the ALG of a stateful family? -/
def algStf (alg : Nat) : Bool := opFamily alg == 4 || opFamily alg == 5

/-- Is the object a stateful key pair (R177)? -/
def Obj.isStf (o : Obj) : Bool := o.attr.kind == kindKeypair && algStf o.attr.alg

/-- Does the object persist? Stateful key pairs always do (R202). -/
def Obj.persists (o : Obj) : Bool := o.attr.persist || o.isStf

/-- The object's material units (R198). -/
def Obj.units (o : Obj) : Nat := materialUnits o.attr.kind o.attr.alg o.attr.keyLen

/-- The object's public key, where it has one. -/
def Obj.public (o : Obj) : Bytes := o.pub

/-- Is the restore of R221 still to come? Operations for persistent handles wait until it is over. -/
def State.restoring (s : State) : Bool := !s.lode.restoreDone

/-- The handle checks of R201: the owner, then whether the index holds the object named. -/
def State.handleStatus (s : State) (t h : Nat) : Option Status :=
  let o := s.obj (handleIndex h)
  if handleTenant h != t then some .handleInvalid
  else if !o.present && !o.used then some .handleInvalid
  else if o.present && o.gen == handleGen h && o.tenant == t then none
  else some .handleStale

/-! ## Usage (R201) -/

/-- The usage bits of R201. -/
def useSign : Nat := 0
def useVerify : Nat := 1
def useEncaps : Nat := 2
def useDecaps : Nat := 3
def useAgree : Nat := 4
def useEncrypt : Nat := 5
def useDecrypt : Nat := 6
def useMac : Nat := 7
def useMacVerify : Nat := 8
def useDerive : Nat := 9
def useWrap : Nat := 10
def useUnwrap : Nat := 11
def useExport : Nat := 12

/-- The kinds an opcode's first handle may have and the usage bit it needs (R201, R206, R215): no kinds means any. -/
def keyUse (k : OpKind) (options : Nat) : List Nat × Option Nat :=
  match k with
  | .dsaSign | .slhSign | .ecSign | .rsaSign | .compSign | .stfSign | .stfQuery | .stfSetfloor | .stfCache =>
    ([kindKeypair], some useSign)
  | .dsaVerify | .slhVerify | .ecVerify | .rsaVerify | .compVerify | .stfVerify =>
    ([kindKeypair, kindPublic], some useVerify)
  | .kemEncaps | .compEncaps | .mceEncaps | .hqcEncaps => ([kindKeypair, kindPublic], some useEncaps)
  | .kemDecaps | .compDecaps | .mceDecaps | .hqcDecaps => ([kindKeypair], some useDecaps)
  | .ecAgree => ([kindKeypair], some useAgree)
  | .rsaEncrypt => ([kindKeypair, kindPublic], some useEncrypt)
  | .rsaDecrypt => ([kindKeypair], some useDecrypt)
  | .hmac => ([kindHmac], some useMac)
  | .hmacVerify => ([kindHmac], some useMacVerify)
  | .kmac => ([kindKmac], some useMac)
  | .kmacVerify => ([kindKmac], some useMacVerify)
  | .kdf => ([kindKdk], some useDerive)
  | .gcmSeal => ([kindAes], some useEncrypt)
  | .gcmOpen => ([kindAes], some useDecrypt)
  | .kemExpand | .kemEvict | .dsaExpand | .dsaEvict => ([kindKeypair, kindPublic], none)
  | .keyWrap => ([], some useExport)
  | .treeDerive => ([kindTree], some useDerive)
  | .pubExport => ([kindKeypair, kindPublic], none)
  | .keyReplace =>
    if options % 4 = 1 then ([kindPublic], none)
    else if options % 4 = 0 then ([kindKeypair, kindTree, kindAes, kindHmac, kindKmac, kindKdk, kindKek], none)
    else ([], none)
  | _ => ([], none)

/-- The ALG that an opcode requires of its first handle (R201): with a parameter code, the opcode with bits [11:8]
cleared; composites check the lattice ALG; the rest none. -/
def keyAlg (k : OpKind) (o : Nat) : Option Nat :=
  match k with
  | .compEncaps | .compDecaps => some (0x1000 + (pairOf (opParam o)).lat)
  | .compSign | .compVerify => some (0x2000 + (pairOf (opParam o)).lat)
  | .stfVerify | .stfQuery | .stfSetfloor | .stfCache | .keyInfo | .keyWrap | .keyReplace | .keyDestroy
  | .treeDerive | .pubExport | .usageClear | .custom => none
  | _ => some (opAlg o)

/-- Does an object suit an opcode's first handle (R201)? Stateful keys are never wrapped nor replaced (R177, R215);
Classic McEliece ENCAPS needs a pinned key (R152); GCM_SEAL without IVSUP ends at 2^32 seals (R169). -/
def useOk (k : OpKind) (op options : Nat) (o : Obj) : Bool :=
  let u := keyUse k options
  (u.1.isEmpty || u.1.contains o.attr.kind) &&
  (match u.2 with | some b => o.attr.usage.testBit b | none => true) &&
  (match keyAlg k op with | some a => o.attr.alg == a | none => true) &&
  (match k with
    | .stfVerify | .stfQuery | .stfSetfloor | .stfCache => opFamily o.attr.alg == opFamily op
    | .keyWrap | .keyReplace => !o.isStf
    | .mceEncaps => o.pinGran != 0
    | .gcmSeal => options % 2 == 1 || decide (o.seals < 2 ^ 32)
    | _ => true)

/-- The ML-KEM parameter set of a wrapping format (R206). -/
def wrapSet (ff : Nat) : Nat := if ff = 2 then 2 else 3

/-- Does an object suit an opcode's second handle (R201, R206, R215)? -/
def useOk2 (k : OpKind) (op : Nat) (o : Obj) : Bool :=
  let kek (ff b : Nat) : Bool :=
    o.attr.usage.testBit b &&
    (if ff = 1 then o.attr.kind == kindKek && (b != useWrap || decide (o.seals < 2 ^ 32))
     else o.attr.alg == 0x1000 + wrapSet ff &&
       (o.attr.kind == kindKeypair || (b == useWrap && o.attr.kind == kindPublic)))
  match k with
  | .compEncaps | .compVerify =>
    (o.attr.kind == kindKeypair || o.attr.kind == kindPublic) && o.attr.alg == 0x8000 + (pairOf (opParam op)).ec &&
    o.attr.usage.testBit (if k = .compEncaps then useEncaps else useVerify)
  | .compDecaps | .compSign =>
    o.attr.kind == kindKeypair && o.attr.alg == 0x8000 + (pairOf (opParam op)).ec &&
    o.attr.usage.testBit (if k = .compDecaps then useDecaps else useSign)
  | .keyWrap => kek (opParam op) useWrap
  | .keyUnwrap => kek (opParam op) useUnwrap
  | .keyReplace => o.attr.usage.testBit useUnwrap && (o.attr.kind == kindKek || opFamily o.attr.alg == 1)
  | _ => true

/-! ## Attribute blocks (R200, R202) -/

/-- The 32 bytes of an attribute block. -/
def Attr.bytes (a : Attr) : Bytes :=
  leBytes 1 a.kind ++ [0] ++ leBytes 2 a.alg ++ leBytes 2 a.usage ++ leBytes 2 (b2n a.persist) ++ leBytes 2 a.keyLen ++
    [0, 0] ++ leBytes 8 a.label ++ List.replicate 12 0

/-- The fields of an attribute block. -/
def attrOf (bs : Bytes) : Attr :=
  { kind := leField bs 0 1, alg := leField bs 2 2, usage := leField bs 4 2, persist := (leField bs 6 2).testBit 0,
    keyLen := leField bs 8 2, label := leField bs 12 8 }

/-- Is an ALG a parameter set of families 0x1 to 0x9? -/
def algDefined (a : Nat) : Bool :=
  let pp := opParam a
  opFunction a == 0 &&
  match opFamily a with
  | 1 | 2 | 7 => decide (1 ≤ pp) && decide (pp ≤ 3)
  | 3 => decide (1 ≤ pp) && decide (pp ≤ 12)
  | 4 => lmsParamOk pp
  | 5 => stfParamOk 5 pp
  | 6 => decide (1 ≤ pp) && decide (pp ≤ 10)
  | 8 => ecCodes.contains pp
  | 9 => rsaCodes.contains pp
  | _ => false

/-- The usage bits a kind may use (R202). -/
def kindUsage (kind : Nat) : Nat :=
  match kind with
  | 0x01 => 0x1C7F
  | 0x02 => 0x0426
  | 0x10 => 0x1060
  | 0x11 => 0x1180
  | 0x12 => 0x1180
  | 0x13 => 0x1200
  | 0x14 => 0x1C00
  | 0x15 => 0x1200
  | _ => 0

/-- Are ALG and KEYLEN inside the kind's row of R200? -/
def kindRow (a : Attr) : Bool :=
  match a.kind with
  | 0x01 => algDefined a.alg && a.keyLen == 0
  | 0x02 => algDefined a.alg && !algStf a.alg && a.keyLen == 0
  | 0x10 => a.alg == 0xA001 && a.keyLen == 32
  | 0x11 => [0xA002, 0xA003, 0xA004, 0xA008, 0xA009, 0xA00A].contains a.alg && decide (16 ≤ a.keyLen) && decide (a.keyLen ≤ 128)
  | 0x12 => (a.alg == 0xA001 || a.alg == 0xA002) && decide (16 ≤ a.keyLen) && decide (a.keyLen ≤ 64)
  | 0x13 => (a.alg == 0xA001 || a.alg == 0xA002) && (a.keyLen == 32 || a.keyLen == 64)
  | 0x14 => a.alg == 0xA001 && a.keyLen == 32
  | 0x15 => a.alg == 0xC000 && a.keyLen == 64
  | _ => false

/-- A valid attribute block (R202): reserved fields 0, a known kind, ALG and KEYLEN in its row, no usage bit that
the kind cannot use. -/
def attrValid (bs : Bytes) : Bool :=
  let a := attrOf bs
  bs == a.bytes && kindRow a && a.usage &&& kindUsage a.kind == a.usage

/-- Is a kind symmetric, or TREE? -/
def kindSym (k : Nat) : Bool := decide (0x10 ≤ k) && decide (k ≤ 0x15)

/-- What an opcode asks of its attribute block's KIND and ALG (R202). -/
def attrSuits (k : OpKind) (op : Nat) (a : Attr) : Bool :=
  match k with
  | .pubImport => a.kind == kindPublic
  | .symGen | .kdf => kindSym a.kind
  | .treeDerive => a.kind == kindKeypair || kindSym a.kind
  | .keyUnwrap | .keyReplace => true
  | _ => a.kind == kindKeypair && a.alg == opAlg op

/-- The ALGs that TREE_DERIVE derives (R212). -/
def derivable (a : Attr) : Bool :=
  kindSym a.kind || opFamily a.alg == 1 || opFamily a.alg == 2 || opFamily a.alg == 8

/-! ## Counting (R199, R220, R177, R152) -/

/-- The granules that an object holds in its tenant's expanded-key share. -/
def Obj.granules (o : Obj) : Nat :=
  o.expGran + o.pinGran + (match o.stf with | some f => if f.cache = 0 then 0 else f.cacheGran | none => 0)

/-- The granules that eviction never removes (R152, R190). -/
def Obj.fixedGranules (o : Obj) : Nat :=
  o.pinGran + (match o.stf with | some f => if f.cache = 0 then 0 else f.cacheGran | none => 0)

/-- The sum of a measure over the reservations of admitted creations. -/
def State.resvSum (s : State) (f : Reservation → Nat) : Nat :=
  Cells.sum (fun x : Entry => match x.resv with | some r => f r | none => 0) s.tally.entries

/-- Objects in use by a tenant, reserved ones included. -/
def State.objUse (s : State) (t : Nat) : Nat :=
  Cells.count (fun o : Obj => o.present && o.tenant == t) s.lode.objs +
    s.resvSum fun r => if r.tenant = t && r.index.isSome && !r.fresh then 1 else 0

/-- Objects in use on the device. -/
def State.objUseAll (s : State) : Nat :=
  Cells.count (fun o : Obj => o.present) s.lode.objs + s.resvSum fun r => b2n r.index.isSome

/-- Material units in use by a tenant. -/
def State.matUse (s : State) (t : Nat) : Nat :=
  Cells.sum (fun o : Obj => if o.present && o.tenant == t then o.units else 0) s.lode.objs +
    s.resvSum fun r => if r.tenant = t then r.units else 0

/-- Material units in use on the device. -/
def State.matUseAll (s : State) : Nat :=
  Cells.sum (fun o : Obj => if o.present then o.units else 0) s.lode.objs + s.resvSum fun r => r.units

/-- Granules in use by a tenant. -/
def State.granUse (s : State) (t : Nat) : Nat :=
  Cells.sum (fun o : Obj => if o.present && o.tenant == t then o.granules else 0) s.lode.objs

/-- Will an admitted key generation pin its public key (R152)? -/
def Entry.pins (x : Entry) : Bool :=
  opKind x.desc.opcode == some .mceKeygen && x.desc.options.testBit 1 && x.resv.isSome

/-- Granules of a tenant that eviction cannot free, those that admitted key generations will pin included (R152, R190). -/
def State.granFixed (s : State) (t : Nat) : Nat :=
  Cells.sum (fun o : Obj => if o.present && o.tenant == t then o.fixedGranules else 0) s.lode.objs +
    Cells.sum (fun x : Entry => if x.pins && x.tenant == t then mceGranules (opParam x.desc.opcode) else 0) s.tally.entries

/-- Granules in use on the device. -/
def State.granUseAll (s : State) : Nat :=
  Cells.sum (fun o : Obj => if o.present then o.granules else 0) s.lode.objs

/-- Persistent objects on the device. -/
def State.persUse (s : State) : Nat :=
  Cells.count (fun o : Obj => o.present && o.persists && o.cacheOf.isNone) s.lode.objs +
    s.resvSum fun r => if r.persist && r.index.isSome then 1 else 0

/-- Stateful private keys on the device, being created ones included. -/
def State.stfUse (s : State) : Nat :=
  Cells.count (fun o : Obj => o.present && o.isStf && o.cacheOf.isNone) s.lode.objs +
    Cells.count (fun x : Entry => x.resv.isSome && opKind x.desc.opcode == some .stfKeygen) s.tally.entries

/-- Classic McEliece public keys pinned on the device, and those that admitted key generations will pin. -/
def State.pinUse (s : State) : Nat :=
  Cells.count (fun o : Obj => o.present && o.pinGran != 0) s.lode.objs +
    Cells.count Entry.pins s.tally.entries

/-- A tenant's share of expanded-key memory (R199). -/
def State.share (s : State) (t : Nat) : Nat := s.regField (.tntA t) 0x15C 18 0

/-- The units of the material pool (R198). -/
def State.poolUnits (s : State) : Nat := (5888 - s.regField .lod 0x108 12 0) * 64

/-- Indexes retired (R203). -/
def State.retiredCount (s : State) : Nat := Cells.count (fun o : Obj => o.retired) s.lode.objs

/-- Is an index left to allocate, beside those reserved? -/
def State.indexLeft (s : State) : Bool := decide (s.objUseAll + s.retiredCount < 65536)

/-- Is there room and quota for a new object, or for the staged material of a replacement (R199, R216, R220)? -/
def State.room (s : State) (t units : Nat) (newObject persist stateful : Bool) : Bool :=
  (!newObject || (decide (s.objUse t < s.regField (.tntA t) 0x154 18 0) && s.indexLeft)) &&
  decide (s.matUse t + units ≤ s.regField (.tntA t) 0x158 18 0) &&
  decide (s.matUseAll + units ≤ s.poolUnits) &&
  (!(newObject && (persist || stateful)) || decide (s.persUse < 4096)) &&
  (!stateful || decide (s.stfUse < 1024))

/-! ## Indexes (R203) -/

/-- Is an index free to allocate? -/
def Obj.free (o : Obj) : Bool := !o.present && !o.held && !o.retired

/-- The first free index from `i` on, round the table once. -/
def findFree (s : State) : Nat → Nat → Option Nat
  | 0, _ => none
  | n + 1, i => if (s.obj (i % 65536)).free then some (i % 65536) else findFree s n (i + 1)

/-- Allocate an index, round-robin from after the last one. -/
def State.allocIndex (s : State) : State × Option Nat :=
  match findFree s 65536 (s.lode.lastIndex + 1) with
  | some i =>
    let s := s.setObj i { s.obj i with held := true }
    ({ s with lode := { s.lode with lastIndex := i } }, some i)
  | none => (s, none)

/-- Give back an index that was held for a creation. -/
def State.releaseIndex (s : State) (i : Nat) : State := s.setObj i { s.obj i with held := false }

/-- An index whose object goes: the generation advances, or at 255 the index is retired (R203). -/
def Obj.gone (o : Obj) : Obj :=
  { gen := if o.gen = 255 then 255 else o.gen + 1, retired := o.gen == 255, used := true, tenant := o.tenant }

/-- Stamp D or W of the last destruction or swap. -/
def State.destroyStamp (s : State) : State := { s with lode := { s.lode with dstamp := s.stamp } }

/-! ## Expansions (R125 to R128) -/

/-- Granules of an object's expansion: lattice keys only. -/
def expGranules (alg : Nat) : Nat :=
  if opFamily alg = 1 || opFamily alg = 2 then matrixGranules (opFamily alg) (opParam alg) else 0

/-- Mark an expansion as used: streamed to a Stope, or stored. -/
def State.useExpansion (s : State) (i : Nat) : State :=
  let o := s.obj i
  let s := s.setObj i { o with expUsed := s.lode.useNext }
  { s with lode := { s.lode with useNext := s.lode.useNext + 1 } }

/-- Remove an expansion. -/
def State.dropExpansion (s : State) (i : Nat) : State :=
  (s.setObj i { s.obj i with expGran := 0, expUsed := 0 }).dropFlaws fun p => p == .expansion i

/-- An expansion being streamed proves to hold an uncorrectable error: it is dropped (R127, R512, R222). -/
def State.loseExpansion (s : State) (i : Nat) : State := ((s.dropExpansion i).foundUncorr .lod 4 i).setErr .lod 18

/-- A tenant's least recently used expansion. -/
def State.oldestExpansion (s : State) (t : Nat) : Option Nat :=
  let cands := s.lode.objs.filter fun p => p.2.present && p.2.tenant == t && p.2.expGran != 0
  match cands with
  | [] => none
  | c :: r => some (r.foldl (fun b p => if p.2.expUsed < b.2.expUsed then p else b) c).1

/-- Evict least recently used expansions of a tenant until its granules plus `need` fit its share (R127). -/
def evictFuel (t need share : Nat) : Nat → State → State
  | 0, s => s
  | n + 1, s =>
    if s.granUse t + need ≤ share then s
    else match s.oldestExpansion t with
      | some i => evictFuel t need share n (s.dropExpansion i)
      | none => s

/-- Make room for `need` granules in the tenant's share by eviction. Where the share can never hold them, every expansion
of the tenant goes and the room is still missing: DESIGN CHOICE, log 30. -/
def State.evictFor (s : State) (t need : Nat) : State := evictFuel t need (s.share t) s.lode.objs.length s

/-- Store a handed-over expansion of the key named by `h` (R126): only for the generation checked at dispatch, if no
other was stored meanwhile, and if room is free, or `evict` makes it. -/
def State.storeExpansion (s : State) (t h : Nat) (evict : Bool) : State × Bool :=
  let i := handleIndex h
  let o := s.obj i
  let g := expGranules o.attr.alg
  if s.handleStatus t h = none && o.expGran == 0 && g != 0 && s.share t != 0 then
    let s := if evict then s.evictFor t g else s
    if s.granUse t + g ≤ s.share t then ((s.setObj i { s.obj i with expGran := g }).useExpansion i, true)
    else (s, false)
  else (s, false)

/-! ## Descendants (R214) -/

/-- The children of the objects with the given handles. -/
def State.childrenOf (s : State) (hs : List Nat) : List Nat :=
  (s.lode.objs.filter fun p => p.2.present && p.2.parent != 0 && hs.contains p.2.parent).map fun p => p.1

/-- Every descendant of a node, level by level: DEPTH is at most 8. -/
def descendFuel (s : State) : Nat → List Nat → List Nat
  | 0, _ => []
  | n + 1, hs =>
    let kids := s.childrenOf hs
    if kids.isEmpty then [] else kids ++ descendFuel s n (kids.map fun i => (s.obj i).handle i)

/-- The indexes of every descendant of object `i`. -/
def State.descendants (s : State) (i : Nat) : List Nat :=
  if (s.obj i).attr.kind = kindTree then descendFuel s 9 [(s.obj i).handle i] else []

end Sys2Proof.Machine
end

