-- ==== Sys2Proof/Machine/Units.lean ====
section
/-! DEFINITION. Stopes, engines and Shafts as Tally and Headframe see them: which engines and Shafts are free
(R10, R11, R289, R294), what a unit does when an operation leaves it (R240, R24, R293), and which units are out of
service (R35, R36). -/
namespace Sys2Proof.Machine

def engDefault (_ : Nat) : Eng := {}
def stopeDefault (_ : Nat) : Stope := {}
def shaftDefault (_ : Nat) : Shaft := {}

/-- The key of engine `i` of Stope `n` (R8, R9: 64 Stopes of 16 engines). -/
def engKey (n i : Nat) : Nat := n * 16 + i

def State.eng (s : State) (n i : Nat) : Eng := Cells.get engDefault s.engs (engKey n i)

def State.setEng (s : State) (n i : Nat) (x : Eng) : State :=
  { s with engs := Cells.set engDefault s.engs (engKey n i) x }

def State.stope (s : State) (n : Nat) : Stope := Cells.get stopeDefault s.stopes n

def State.setStope (s : State) (n : Nat) (x : Stope) : State := { s with stopes := Cells.set stopeDefault s.stopes n x }

def State.shaft (s : State) (n : Nat) : Shaft := Cells.get shaftDefault s.shafts n

def State.setShaft (s : State) (n : Nat) (x : Shaft) : State := { s with shafts := Cells.set shaftDefault s.shafts n x }

/-- The run of an entry on a Stope. -/
def State.run (s : State) (e : Nat) : Option Run := lookup s.runs e

def State.setRun (s : State) (e : Nat) (r : Run) : State := { s with runs := Cells.put s.runs e r }

/-- Is a unit out of service (R35, R36)? -/
def State.outOfService (s : State) (p : Page) : Bool := s.dir.disabled.contains p

/-- Is a page's drain request up: `CTL.DRAIN` (R41)? -/
def State.draining (s : State) (p : Page) : Bool := bit (s.reg p 0x008) 1

/-- Is a page's unit enabled: `CTL.EN` (R41)? -/
def State.unitEnabled (s : State) (p : Page) : Bool := bit (s.reg p 0x008) 0

def genDefault (_ : Nat) : Gen := {}
def mrgDefault (_ : Nat) : Mrg := {}

def State.gen (s : State) (n : Nat) : Gen := Cells.get genDefault s.ent.stopes n
def State.setGen (s : State) (n : Nat) (g : Gen) : State :=
  { s with ent := { s.ent with stopes := Cells.set genDefault s.ent.stopes n g } }

def State.mrg (s : State) (n : Nat) : Mrg := Cells.get mrgDefault s.ent.mrgs n
def State.setMrg (s : State) (n : Nat) (m : Mrg) : State :=
  { s with ent := { s.ent with mrgs := Cells.set mrgDefault s.ent.mrgs n m } }

def samplerDefault (_ : Nat) : Sampler := {}

def State.sampler (s : State) (n : Nat) : Sampler := Cells.get samplerDefault s.samplers n

def State.setSampler (s : State) (n : Nat) (x : Sampler) : State :=
  { s with samplers := Cells.set samplerDefault s.samplers n x }

/-! ## Owners (R402) -/

/-- The tenant whose administrator register at `off` has bit `b` set, if any: these registers reset to 0, so only
listed ones can. -/
def State.exclusiveAt (s : State) (off b : Nat) : Option Nat :=
  match s.regs.find? fun p => decide (0x900000 ≤ p.1) && decide (p.1 < 0xA00000) && p.1 % 0x1000 == off && bit p.2 b with
  | some p => some ((p.1 - 0x900000) / 0x1000)
  | none => none

/-- The tenant a Stope is exclusive to, if any (`TNT_EXSTP`). -/
def State.stopeOwner (s : State) (n : Nat) : Option Nat := s.exclusiveAt (if n < 32 then 0x164 else 0x168) (n % 32)

/-- The tenant a Shaft is exclusive to, if any (`TNT_EXSHF`). -/
def State.shaftOwner (s : State) (n : Nat) : Option Nat := s.exclusiveAt 0x16C n

/-- Is a Stope exclusive to a tenant and serving it (R403, R521, R524)? -/
def State.serves (s : State) (n t : Nat) : Bool :=
  s.stopeOwner n == some t && !(s.stope n).handover && !s.outOfService (.stp n)

/-- Is a Shaft exclusive to a tenant and serving it (R402, R403)? -/
def State.servesShaft (s : State) (n t : Nat) : Bool :=
  s.shaftOwner n == some t && !(s.shaft n).handover && !s.outOfService (.shf n)

/-- Is a unit drained and reset for its corrected errors (R513), by its number there? -/
def State.healing (s : State) (k : Nat) : Bool := s.hdf.eccPending.contains k

/-- Does a tenant hold exclusive Stopes that serve it? One that is reset for its corrected errors is pending (R514). -/
def State.hasStopes (s : State) (t : Nat) : Bool :=
  !(s.reg (.tntA t) 0x164 == 0 && s.reg (.tntA t) 0x168 == 0) && (List.range 64).any fun n => s.serves n t && !s.healing n

/-- Does a tenant hold exclusive Shafts that serve it? -/
def State.hasShafts (s : State) (t : Nat) : Bool :=
  s.reg (.tntA t) 0x16C != 0 && (List.range 8).any fun n => s.servesShaft n t && !s.healing (64 + n)

/-- May a tenant's operations go to a Stope (R402, R403)? Its own exclusive ones; the shared pool when it has none
serving, or with `TNT_PLACE.ALSOSHARED`. -/
def State.mayUseStope (s : State) (t n : Nat) : Bool :=
  match s.stopeOwner n with
  | some _ => s.serves n t
  | none => !(s.stope n).handover && (!s.hasStopes t || bit (s.reg (.tntA t) 0x170) 0)

/-- May a tenant's jobs go to a Shaft (R289, R402)? -/
def State.mayUseShaft (s : State) (t n : Nat) : Bool :=
  match s.shaftOwner n with
  | some _ => s.servesShaft n t
  | none => !(s.shaft n).handover && (!s.hasShafts t || bit (s.reg (.tntA t) 0x170) 0)

/-! ## Kernels (R382) -/

/-- Does a directory entry cover an opcode (R375)? -/
def Kernel.covers (k : Kernel) (op : Nat) : Bool := op &&& k.opMask == k.opBase

/-- Does a pack allow a tenant (R374)? Vendor packs allow every tenant. -/
def Pack.allows (p : Pack) (t : Nat) : Bool :=
  p.origin == 1 || (nthD p.tenants (t / 8) 0).toNat.testBit (t % 8)

/-- The kernel of a pack that covers an opcode for a tenant. -/
def Pack.kernelFor (p : Pack) (op t : Nat) : Option Kernel :=
  if p.allows t then p.kernels.find? fun k => k.covers op else none

/-- The kernel that a Stope holds for an opcode and tenant, with its tests passed (R382, R380). -/
def State.kernelAt (s : State) (n op t : Nat) : Option Kernel :=
  ((s.stope n).store.packs.filterMap fun p => if p.2.broken then none else p.2.kernelFor op t).find? fun k => k.katOk

/-- Is a kernel for an opcode loaded, being loaded or being tested on a Stope, as far as a tenant is concerned? -/
def State.kernelNear (s : State) (n op t : Nat) : Bool :=
  (s.stope n).store.packs.any (fun p => (p.2.kernelFor op t).isSome) ||
  s.kstQueue.any fun r => r.stope == n && (r.pack.kernelFor op t).isSome

/-- The Stopes that hold or are getting packs. -/
def State.packedStopes (s : State) : List Nat :=
  ((s.stopes.filter fun p => !p.2.store.packs.isEmpty).map fun p => p.1) ++ s.kstQueue.map fun r => r.stope

/-- Some loaded kernel that covers an opcode for a tenant, whichever Stope holds it. -/
def State.someKernel (s : State) (op t : Nat) : Option Kernel :=
  (s.packedStopes.filterMap fun n => s.kernelAt n op t).head?

/-! ## Event counters (R519 to R523) -/

/-- Is an event a count of operations, charged to a tenant (R520)? -/
def attributable (ev : Nat) : Bool := decide (0x10 ≤ ev)

/-- Does a counter with selection `v` of a page count an event of tenant `t` at Stope `n`, engine `i` (R519, R521)? -/
def State.counts (s : State) (p : Page) (v : Word) (ev t : Nat) (n i : Option Nat) : Bool :=
  let scope := field v 20 19
  let place :=
    match scope with
    | 0 => attributable ev
    | 1 => n == some (field v 18 13)
    | 2 => n == some (field v 18 13) && i == some (field v 12 9)
    | _ => false
  let own :=
    match p with
    | .tpmu u =>
      (if attributable ev then u == t else true) &&
      (if attributable ev && scope == 0 then true else s.serves (field v 18 13) u)
    | _ => !bit v 29 || (attributable ev && field v 28 21 == t)
  bit v 31 && field v 7 0 == ev && place && own

/-- Add `d` to counter `k` of a page; a wrap at 2^64 sets its overflow bit and `INTSTS` OVF (R523). -/
def State.bumpCounter (s : State) (p : Page) (k d : Nat) : State :=
  let c := (s.reg p (0x180 + 8 * k)).toNat + 2 ^ 32 * (s.reg p (0x184 + 8 * k)).toNat + d
  let s := s.setReg p (0x180 + 8 * k) (BitVec.ofNat 32 c)
  let s := s.setReg p (0x184 + 8 * k) (BitVec.ofNat 32 (c / 2 ^ 32))
  if c < 2 ^ 64 then s else (s.setReg p 0x108 (setBit (s.reg p 0x108) k)).setInt p 16

/-- Count an event in the counters of a page that select it, unless the page is frozen (R522) or its block disabled (R41). -/
def State.countIn (s : State) (p : Page) (num ev t : Nat) (n i : Option Nat) (d : Nat) : State :=
  if bit (s.reg p 0x104) 0 || !s.unitEnabled p then s
  else (List.range num).foldl
    (fun s k => if s.counts p (s.reg p (0x140 + 4 * k)) ev t n i then s.bumpCounter p k d else s) s

/-- Count an event: in the physical function's page, and in the page of the tenant whose operation it is. -/
def State.pmu (s : State) (ev t : Nat) (n i : Option Nat) (d : Nat) : State :=
  (s.countIn .pmu 16 ev t n i d).countIn (.tpmu t) 4 ev t n i d

/-! ## Engines -/

/-- The engines `first` to `first + 2^wlog2 − 1` of a Stope. -/
def engSet (first wlog2 : Nat) : List Nat := (List.range (2 ^ wlog2)).map fun k => first + k

/-- A set is aligned to its width (R11). -/
def engAligned (first wlog2 : Nat) : Bool :=
  decide (wlog2 ≤ 4) && first % 2 ^ wlog2 == 0 && decide (first + 2 ^ wlog2 ≤ 16)

/-- Is an engine idle and in order? -/
def State.engFree (s : State) (n i : Nat) : Bool := (s.eng n i).mode == 0 && !(s.eng n i).dead

/-- Are all engines of a set free? -/
def State.setFree (s : State) (n first wlog2 : Nat) : Bool := (engSet first wlog2).all fun i => s.engFree n i

/-- Change every engine of a set. -/
def State.mapEngs (s : State) (n : Nat) (l : List Nat) (f : Eng → Eng) : State :=
  l.foldl (fun s i => s.setEng n i (f (s.eng n i))) s

/-- An engine leaves its operation (R240): its register files and stream contexts are cleared, and its local memory
too when `wipe` says so (R24: after an abandoned or faulted kernel). The fault record stays (R340). -/
def Eng.leave (wipe : Bool) (x : Eng) : Eng :=
  { x with mode := 0, run := none, idx := 0, pc := 0, npc := 0, slot := 0, regs := {}, old := {},
           loc := if wipe then [] else x.loc, bars := [], atBar := none, trapped := false, stepAt := 0 }

/-- A region's size in bytes: each declared window rounded up to 4 KiB, the secret window as three planes (R312). -/
def Kernel.region (k : Kernel) : Nat :=
  let up (n : Nat) : Nat := ceilDiv (n * 64) 4096 * 4096
  up k.winInput + up k.winPub + up (3 * k.winSec) + up k.winWork + up k.winOut

/-- The 4 KiB that an active sampler takes from a Stope's shared memory (R525, R312). -/
def State.samplerBytes (s : State) (n : Nat) : Nat := if (s.sampler n).active then 4096 else 0

/-- The shared memory of a Stope that regions take. -/
def State.regionUse (s : State) (n : Nat) : Nat :=
  Cells.sum (fun r : Run => if r.stope == n && !r.released then r.kernel.region else 0) s.runs

/-- Has a Stope's shared memory room for a kernel's region (R312)? -/
def State.regionRoom (s : State) (n : Nat) (k : Kernel) : Bool :=
  decide (s.regionUse n + k.region + s.samplerBytes n ≤ 262144)

/-- Does a Stope run nothing and hold no finished output (`STS.IDLE`)? -/
def State.stopeIdle (s : State) (n : Nat) : Bool :=
  ((List.range 16).all fun i => (s.eng n i).mode == 0 || (s.eng n i).mode == 8) &&
    !s.runs.any fun p => p.2.stope == n

/-- Is no job and no wipe on the Shaft (R294)? -/
def Shaft.idle (x : Shaft) : Bool := x.main.isNone && x.inner.isNone && x.wipeMain == 0 && x.wipeYield == 0 && !x.wipeAll

/-- The kernels of a pack wait for their tests. -/
def Pack.untested (p : Pack) : Pack := { p with kernels := p.kernels.map fun k => { k with katOk := false } }

/-- A load or a reset of a store's kernels: header estimates serve again (R87). -/
def State.forgetMeasures (s : State) (st : Store) : State :=
  let ops := (st.packs.map fun p => p.2.kernels.map fun k => k.opBase).flatten
  { s with tally := { s.tally with measured := s.tally.measured.filter fun q => !ops.contains q.1 } }

/-! ## Memory errors (R24, R512, R513) -/

/-- Is a place in the local memory of an engine of a set? -/
def FlawAt.inLocal (n : Nat) (l : List Nat) : FlawAt → Bool
  | .loc m i _ => m == n && l.contains i
  | _ => false

/-- Is a place in the region of a run, or in the kernel store of a Stope? -/
def FlawAt.inRegion (e : Nat) : FlawAt → Bool
  | .region f _ => f == e
  | _ => false

def FlawAt.inStore (n : Nat) : FlawAt → Bool
  | .word m _ => m == n
  | _ => false

/-- Headframe counts corrected errors of a unit: those of the last second are kept (R513). -/
def State.countCorrected (s : State) (unit n : Nat) : State :=
  { s with hdf := { s.hdf with
    eccCount := (s.hdf.eccCount.filter fun q => decide (s.stamp < q.2.1 + 1000000000)) ++ [(unit, s.stamp, n)] } }

/-- The corrected errors of a unit within the last second. -/
def State.correctedLately (s : State) (unit : Nat) : Nat :=
  (s.hdf.eccCount.map fun q => if q.1 == unit && decide (s.stamp < q.2.1 + 1000000000) then q.2.2 else 0).foldl (· + ·) 0

/-- A block-level reset of a Stope (R446, R24): engines, shared memory and sampler cleared, the same packs written back
and tested again; DRBG and MRG are instantiated before it serves (R261). -/
def State.resetStope (s : State) (n : Nat) : State :=
  let s := s.mapEngs n (List.range 16) fun _ => {}
  let s := s.dropFlaws fun p => p.inLocal n (List.range 16) || p.inStore n
  let s := s.setSampler n { s.sampler n with active := false, entries := [], tagged := none, lost := 0 }
  let x := s.stope n
  let s := s.setStope n { x with
    store := { x.store with packs := x.store.packs.map fun p => (p.1, p.2.untested) }, retest := true }
  ((s.setGen n {}).setMrg n {}).forgetMeasures x.store

/-- A block-level reset of a Shaft (R446): the whole memory is wiped and the self-test runs. -/
def State.resetShaft (s : State) (n : Nat) : State := s.setShaft n { s.shaft n with wipeAll := true, test := 1 }

/-- The number of a Stope or Shaft among the units whose corrected errors Headframe counts (R513). -/
def eccKey : Page → Nat
  | .stp n => n
  | .shf n => 64 + n
  | _ => 128

/-- A block-level reset of a Stope or Shaft that is drained and idle. -/
def State.blockReset (s : State) (p : Page) : State :=
  match p with
  | .stp n => s.resetStope n
  | .shf n => s.resetShaft n
  | _ => s

/-- A draining unit has become idle: `INTSTS.DRAINED` (R41), and the block-level reset of R513 where one waits. -/
def State.unitDrained (s : State) (p : Page) : State :=
  let s := s.setInt p 1
  if s.hdf.eccPending.contains (eccKey p) then s.blockReset p else s

/-- A Stope's engines were released. -/
def State.stopeSettled (s : State) (n : Nat) : State :=
  if s.stopeIdle n && s.draining (.stp n) then s.unitDrained (.stp n) else s

/-- A Shaft's job or wipe ended. -/
def State.shaftSettled (s : State) (n : Nat) : State :=
  if (s.shaft n).idle && s.draining (.shf n) then s.unitDrained (.shf n) else s

/-- Sampling that was enabled takes effect once no region occupies the sampler's space; the first interval begins (R525). -/
def State.samplerSettle (s : State) (n : Nat) : State :=
  let x := s.sampler n
  if bit x.cfg 8 && !x.active && decide (s.regionUse n ≤ 258048) then
    let p := field x.cfg 4 0
    let k := 2 ^ (if 8 ≤ p ∧ p ≤ 20 then p else 20) + (Config.freeValue 8 s.freeNext).toNat
    ({ s with freeNext := s.freeNext + 1 }).setSampler n { x with active := true, words := 0, interval := k }
  else s

/-- The engines of an operation's run are released and cleared, and its region freed (R240, R312); `wipe` also
clears local memory (R24). -/
def State.endRun (s : State) (e : Nat) (wipe : Bool) : State :=
  match s.run e with
  | none => s
  | some r =>
    let s := { s with runs := Cells.erase s.runs e }.samplerSettle r.stope
    let s := s.dropFlaws fun p => p.inRegion e || (wipe && p.inLocal r.stope (engSet r.first r.wlog2))
    if r.released then s.stopeSettled r.stope
    else (s.mapEngs r.stope ((engSet r.first r.wlog2).filter fun i => (s.eng r.stope i).run == some e)
      (Eng.leave wipe)).stopeSettled r.stope

/-- The engines are released at COMMIT while the output staging stays (R122). -/
def State.releaseEngines (s : State) (e : Nat) : State :=
  match s.run e with
  | none => s
  | some r =>
    let s := s.mapEngs r.stope ((engSet r.first r.wlog2).filter fun i => (s.eng r.stope i).run == some e) (Eng.leave false)
    (s.setRun e { r with released := true }).stopeSettled r.stope

/-! ## Stope clocks (R337, R548) -/

/-- The clock Stope `n` runs at: the lowest of its configured clock, the power limit and the thermal limit (R25, R548), and
1.0 GHz once the AVS loop has stopped (R541). -/
def State.clockFor (s : State) (n : Nat) : Nat :=
  Nat.min (Nat.min (s.stope n).clockTarget (s.stope n).powerLimit) (if s.avs.stopped then 1000 else s.avs.limit)

/-! ## Shafts -/

/-- A Shaft's job types by opcode (R287); 0 for an opcode no Shaft runs. -/
def shaftType (k : OpKind) : Nat :=
  match k with
  | .rsaSign | .rsaDecrypt => 1
  | .rsaVerify | .rsaEncrypt => 2
  | .rsaKeygen => 3
  | .mceKeygen => 4
  | _ => 0

/-- The job table's estimate in ns of Shaft time (R290, R303, R172). -/
def shaftEstimate (ty pp : Nat) : Nat :=
  match ty with
  | 1 => match pp with
    | 0x08 => 65000 | 0x0C => 200000 | 0x10 => 445000 | 0x18 => 1500000 | 0x20 => 3300000 | 0x30 => 10700000
    | _ => 26700000
  | 2 => match pp with | 0x18 => 32000 | 0x20 => 53000 | 0x30 => 114000 | _ => 200000
  | 3 => match pp with
    | 0x08 => 15000000 | 0x0C => 45000000 | 0x10 => 110000000 | 0x18 => 400000000 | _ => 1100000000
  | 4 => match (pp + 1) / 2 with | 1 => 1300000 | 2 => 2900000 | 3 => 6400000 | 4 => 6700000 | _ => 8900000
  | _ => 0

/-- The job type of an entry, and the parameter set its row of the job table is found by (R287, R290). -/
def State.jobOf (s : State) (k : OpKind) (d : Desc) : Nat × Nat :=
  if k = .keyReplace then
    let a := (s.obj (handleIndex d.key)).attr.alg
    (if opFamily a = 9 then 3 else 4, opParam a)
  else (shaftType k, opParam d.opcode)

/-- What the completions of a job type and parameter set are counted under: past every opcode. -/
def shaftKey (j : Nat × Nat) : Nat := 0x20000 + 256 * j.1 + j.2

/-- The most lines a job of a type writes (R287). -/
def shaftLines (ty : Nat) : Nat := match ty with | 1 | 2 => 1024 | 3 => 4096 | _ => 31744

/-- The lines a job has written (R293): 256 for a private RSA-2048 job that commits; the spec states no other number, and
it is a free value from 1 to the most its type may write. -/
def ShaftJob.written (j : ShaftJob) (free : Nat) (committed : Bool) : Nat :=
  if committed && j.kind == 1 && j.set == 0x08 then 256 else 1 + (Config.freeValue 32 free).toNat % Nat.max 1 j.lines

/-- A job of entry `e` leaves its Shaft: the lines it wrote wait to be wiped (R293), and the counters of committed
and ended jobs move (R305). -/
def State.leaveShaft (s : State) (n e : Nat) (committed : Bool) : State :=
  let x := s.shaft n
  let lines (j : ShaftJob) : Nat := j.written s.freeNext committed
  let s := { s with freeNext := s.freeNext + 1 }
  let count (x : Shaft) : Shaft :=
    if committed then { x with jobs := (x.jobs + 1) % 2 ^ 32 } else { x with aborts := (x.aborts + 1) % 2 ^ 32 }
  match x.main, x.inner with
  | some m, inn =>
    if m.entry == e then s.setShaft n (count { x with main := none, wipeMain := lines m })
    else match inn with
      | some j =>
        if j.entry == e then
          s.setShaft n (count { x with inner := none, wipeYield := lines j })
        else s
      | none => s
  | none, some j => if j.entry == e then s.setShaft n (count { x with inner := none, wipeYield := lines j }) else s
  | none, none => s

/-- Release whatever unit an entry's operation holds: engines are cleared under R240, a Shaft's lines wiped under
R293. -/
def State.releaseUnit (s : State) (e : Nat) (target : Target) (committed : Bool) : State :=
  match target with
  | .stope _ _ _ => s.endRun e (!committed)
  | .shaft n => s.leaveShaft n e committed
  | _ => s

end Sys2Proof.Machine
end

