-- ==== Sys2Proof/Machine/Tally.lean ====
section
/-! DEFINITION. Tally's entries and Adit's data moves: host reads and writes, scatter-gather lists (R75, R76),
descriptors (R71), completion records (R69, R79, R80, R95, R102), and the ways an operation ends (R82, R83, R88,
R93, R94, R99, R122, R130). -/
namespace Sys2Proof.Machine

/-! ## Host memory -/

/-- Adit reads `n` bytes of host memory. -/
def State.hostRead (s : State) (a n : Nat) : Bytes := Cells.readBytes s.host a n

/-- Adit writes bytes to host memory. -/
def State.hostWrite (s : State) (a : Nat) (bs : Bytes) : State := { s with host := Cells.writeBytes s.host a bs }

/-- A descriptor's fields (R71). -/
def descOf (bs : Bytes) : Desc :=
  { opcode := leField bs 0 2, options := leField bs 2 1, flags := leField bs 3 1, key := leField bs 4 4,
    key2 := leField bs 8 4, qseq := leField bs 12 4, tag := leField bs 16 8, inAddr := leField bs 24 8,
    inLen := leField bs 32 4, auxLen := leField bs 36 4, outAddr := leField bs 40 8, outCap := leField bs 48 4,
    deadline := leField bs 52 4, auxAddr := leField bs 56 8 }

/-- FLAGS (R72). -/
def Desc.prio (d : Desc) : Nat := d.flags % 4
def Desc.fence (d : Desc) : Bool := d.flags.testBit 2
def Desc.irq (d : Desc) : Bool := d.flags.testBit 3
def Desc.sgl (d : Desc) : Bool := d.flags.testBit 4
def Desc.eqt (d : Desc) : Bool := d.flags.testBit 5
def Desc.reshint (d : Desc) : Bool := d.flags.testBit 6

/-- The operation a descriptor asks for. -/
def Desc.kind (d : Desc) : Option OpKind := opKind d.opcode

/-! ## Scatter-gather lists (R75) -/

/-- Walk a list from address `a` with `left` bytes of the segment to go: the data entries in order, or none where a
rule of R75 is broken. What the spec leaves open of a CHAIN entry (its segment's length, LAST beside it, how many there
may be) is the model's choice: DESIGN CHOICE, log 26. -/
def sglWalk (s : State) : Nat → Nat → Nat → Nat → Option (List (Nat × Nat))
  | 0, _, _, _ => none
  | fuel + 1, a, left, data =>
    let bs := s.hostRead a 16
    let addr := leField bs 0 8
    let len := leField bs 8 4
    let flags := leField bs 14 2
    if left < 16 || leField bs 12 2 != 0 || flags / 4 != 0 || flags == 3 then none
    else if flags.testBit 1 then
      if addr % 16 = 0 && len % 16 == 0 && len != 0 && decide (len ≤ 4096) then sglWalk s fuel addr len data else none
    else if len = 0 || data = 0 then none
    else if flags.testBit 0 then some [(addr, len)]
    else match sglWalk s fuel (a + 16) (left - 16) (data - 1) with
      | some r => some ((addr, len) :: r)
      | none => none

/-- The data entries of the list at an address: 16-byte aligned, at most 4,096 of them. -/
def State.sgl (s : State) (a : Nat) : Option (List (Nat × Nat)) :=
  if a % 16 = 0 then sglWalk s 8193 a 4096 4096 else none

/-- The bytes of a list's entries, in order. -/
def State.gather (s : State) (l : List (Nat × Nat)) : Bytes := (l.map fun p => s.hostRead p.1 p.2).flatten

/-- Write bytes over a list's entries, in order. -/
def State.scatter : State → List (Nat × Nat) → Bytes → State
  | s, [], _ => s
  | s, (a, n) :: r, bs => (s.hostWrite a (bs.take n)).scatter r (bs.drop n)

/-- Do a descriptor's lists hold (R75, R76)? The input list must sum to IN_LEN, the output list to OUT_CAP. An opcode
that writes no output ignores OUT_CAP and OUT_ADDR, so its output list is not read (R73). -/
def State.sglOk (s : State) (d : Desc) (writes : Bool) : Bool :=
  let sums (a len : Nat) : Bool :=
    len == 0 || (match s.sgl a with
      | some l => (l.map fun p => p.2).foldl (· + ·) 0 == len
      | none => false)
  sums d.inAddr d.inLen && (!writes || sums d.outAddr d.outCap)

/-- Adit reads a descriptor's lists, once, before any data moves (R76): the input list's data entries, and the output
list's where one is read. -/
def State.takeLists (s : State) (x : Entry) : Entry :=
  let l (a len : Nat) : List (Nat × Nat) := if x.desc.sgl && len != 0 then (s.sgl a).getD [] else []
  { x with inList := l x.desc.inAddr x.desc.inLen, outList := l x.desc.outAddr x.desc.outCap }

/-- May Adit read an operation's buffers: its function is a bus master (R61)? A spilled operation brought its data. -/
def State.dmaOk (s : State) (x : Entry) : Bool := x.spilled.isSome || (s.fn x.tenant).bme

/-- An operation's input, gathered through the list that was read; a spilled operation brought it (R422). -/
def State.inputOf (s : State) (x : Entry) : Bytes :=
  if x.spilled.isSome then x.input
  else if x.desc.inLen = 0 then []
  else if x.desc.sgl then s.gather x.inList
  else s.hostRead x.desc.inAddr x.desc.inLen

/-- An operation's auxiliary data; it is always contiguous (R73). -/
def State.auxOf (s : State) (x : Entry) : Bytes := if x.spilled.isSome then x.aux else s.hostRead x.desc.auxAddr x.desc.auxLen

/-- The part of a list from byte `off` of its data on. -/
def listFrom (l : List (Nat × Nat)) (off : Nat) : List (Nat × Nat) :=
  (l.foldl (fun (acc : Nat × List (Nat × Nat)) p =>
    let drop := Nat.min acc.1 p.2
    (acc.1 - drop, if drop = p.2 then acc.2 else acc.2 ++ [(p.1 + drop, p.2 - drop)])) (off, [])).2

/-- Write `bs` into an operation's output buffer from offset `off`, through the list that was read. -/
def State.outputTo (s : State) (x : Entry) (off : Nat) (bs : Bytes) : State :=
  if bs.isEmpty then s
  else if x.desc.sgl then s.scatter (listFrom x.outList off) bs
  else s.hostWrite (x.desc.outAddr + off) bs

/-! ## Entries -/

/-- An entry in use. -/
def State.entry (s : State) (e : Nat) : Option Entry := lookup s.tally.entries e

def State.setEntry (s : State) (e : Nat) (x : Entry) : State :=
  { s with tally := { s.tally with entries := Cells.put s.tally.entries e x } }

/-- Change an entry that is in use. -/
def State.modEntry (s : State) (e : Nat) (f : Entry → Entry) : State :=
  match s.entry e with
  | some x => s.setEntry e (f x)
  | none => s

/-- The lowest free entry number from `k` on. -/
def freeKey : Nat → List (Nat × Entry) → Nat
  | k, [] => k
  | k, (j, _) :: r => if j = k then freeKey (k + 1) r else k

/-- A new entry stands in Tally: the next in admission order; the peak of entries in use follows (R103). -/
def State.addEntry (s : State) (e : Nat) (x : Entry) : State :=
  let s := s.setEntry e { x with order := s.tally.nextOrder }
  { s with tally := { s.tally with
    nextOrder := s.tally.nextOrder + 1, occPeak := Nat.max s.tally.occPeak s.tally.entries.length } }

/-- Entries in use by a tenant (R78, R408). -/
def State.tallyUse (s : State) (t : Nat) : Nat := Cells.count (fun x : Entry => x.tenant == t) s.tally.entries

/-- Has the outcome of an entry been decided, so that only its record is still to be written? -/
def Entry.decided (x : Entry) : Bool := x.state == .committed || x.state == .recordWait

/-- Operations of an SQ that are admitted and not yet completed (`TNT_SQ_STS.ACTIVE`). -/
def State.sqActive (s : State) (t q : Nat) : Nat :=
  Cells.count (fun x : Entry => x.tenant == t && x.sq == q && x.parent.isNone) s.tally.entries

/-- Is the entry's operation running on a unit, with no stop under way? -/
def Entry.live (x : Entry) : Bool := x.state == .dispatched && x.stopping.isNone

/-! ## Completion records -/

/-- The status codes of R81. -/
def Status.code : Status → Nat
  | .ok => 0x0000 | .verifyReject => 0x0010
  | .lengthMismatch => 0x0101 | .encodingInvalid => 0x0102 | .pointInvalid => 0x0103 | .valueRange => 0x0104
  | .keyCheckFail => 0x0105 | .outputTooSmall => 0x0106 | .descriptorInvalid => 0x0107 | .opcodeInvalid => 0x0108
  | .sequenceMismatch => 0x0109
  | .handleInvalid => 0x0201 | .handleStale => 0x0202 | .usageDenied => 0x0203
  | .quotaExceeded => 0x0301 | .noEntropy => 0x0302 | .notReady => 0x0303 | .resourceBusy => 0x0304
  | .abortedHost => 0x0401 | .abortedAlarm => 0x0402 | .abortedReset => 0x0403 | .deadlineExpired => 0x0404
  | .partnerLost => 0x0405 | .quarantined => 0x0406
  | .indexExhausted => 0x0501 | .leaseUnknown => 0x0502 | .leaseExpired => 0x0503
  | .memoryUncorrectable => 0x0601 | .kernelFault => 0x0602 | .dmaFault => 0x0603

/-- OK or VERIFY_REJECT: a completed operation. -/
def Status.done (st : Status) : Bool := st == .ok || st == .verifyReject

/-- OUT_BYTES of a record (R80, R100): bytes written, the size required, or the units of a partial completion. -/
def Entry.recordBytes (x : Entry) : Nat :=
  if x.status.done || x.status == .outputTooSmall then x.outBytes else x.published

/-- INFO of a record (R79, R188): the reserved index of a stateful signature, 0xFFFF_FFFF with none. -/
def Entry.recordInfo (x : Entry) : Nat :=
  if opKind x.desc.opcode = some .stfSign then
    match x.index with
    | some i => i % 2 ^ 32
    | none => 0xFFFFFFFF
  else x.info

/-- A completion record's 32 bytes (R79). -/
def Entry.record (x : Entry) (head : Nat) (phase : Bool) : Bytes :=
  leBytes 8 x.desc.tag ++ leBytes 2 x.status.code ++ leBytes 2 x.sq ++ leBytes 4 x.recordBytes ++ leBytes 8 x.stamp ++
    leBytes 4 x.recordInfo ++ leBytes 2 head ++ leBytes 1 (b2n phase) ++ [0]

/-- A queue's slots: 2^LOG2SIZE. -/
def queueSize (cfg : Word) : Nat := 2 ^ field cfg 4 0

/-- May a record be written to the CQ now: enabled, not in error, and a slot free (R66, R69)? -/
def Cq.open (c : Cq) : Bool :=
  c.en && !c.error && (c.tail + 1) % queueSize c.cfg != c.hostHead % queueSize c.cfg

/-- Does a queue's being full alone keep a record from its slot TAIL (R63 STALLED, R69)? -/
def Cq.stalled (c : Cq) : Bool :=
  c.en && !c.error && (c.tail + 1) % queueSize c.cfg == c.hostHead % queueSize c.cfg

/-- Raise the interrupt of a CQ: the pending count returns to 0 (R102). -/
def State.raiseCq (s : State) (t q : Nat) : State := (s.setCq t q { s.cq t q with counted := 0 }).raiseVector t q

/-- Raise the interrupt of a CQ in use for which COUNT counted records are pending (R102). -/
def State.moderate (s : State) (t q : Nat) : State :=
  let c := s.cq t q
  if bit c.irq 0 && decide (Nat.max 1 (field c.irq 15 8) ≤ c.counted) then s.raiseCq t q else s

/-- Count a record toward moderation (R102). -/
def State.countRecord (s : State) (t q : Nat) (x : Entry) : State :=
  if x.desc.irq || !x.status.done then
    let c := s.cq t q
    let c := { c with counted := c.counted + 1, firstCounted := if c.counted = 0 then s.stamp else c.firstCounted }
    (s.setCq t q c).moderate t q
  else s

/-- Write an entry's record into the CQ's slot TAIL and free the entry (R66, R69). -/
def State.writeRecord (s : State) (e : Nat) (x : Entry) : State :=
  let t := x.tenant
  let c := s.cq t x.cq
  let base := c.baseHi.toNat * 2 ^ 32 + c.baseLo.toNat
  let s := s.hostWrite (base + 32 * c.tail) (x.record (s.sq t x.sq).head c.phase)
  let next := (c.tail + 1) % queueSize c.cfg
  let s := s.setCq t x.cq { c with tail := next, phase := if next = 0 then !c.phase else c.phase
                                   waiting := without c.waiting e }
  let s := { s with tally := { s.tally with entries := Cells.erase s.tally.entries e } }
  let s := s.pmu 0x21 t none none 1
  let s := if x.status.done then s else s.pmu 0x22 t none none 1
  s.countRecord t x.cq x

/-- Write the records that wait for a CQ, in order, while slots are free (R69, R95). -/
def drainFuel (t q : Nat) : Nat → State → State
  | 0, s => s
  | n + 1, s =>
    let c := s.cq t q
    match c.waiting with
    | e :: _ =>
      if c.open && (s.fn t).bme then
        match s.entry e with
        | some x => drainFuel t q n (s.writeRecord e x)
        | none => drainFuel t q n (s.setCq t q { c with waiting := without c.waiting e })
      else s
    | [] => s

def State.drainCq (s : State) (t q : Nat) : State := drainFuel t q (s.cq t q).waiting.length s

/-- The place of a record among those that wait: ascending STAMP, ties in admission order (R95). -/
def insertRecord (s : State) (e : Nat) (x : Entry) : List Nat → List Nat
  | [] => [e]
  | f :: r =>
    match s.entry f with
    | some y =>
      if y.stamp < x.stamp || (y.stamp == x.stamp && decide (y.order < x.order)) then f :: insertRecord s e x r
      else e :: f :: r
    | none => insertRecord s e x r

/-! ## Freeing an entry -/

/-- Ask for a lease write: requests are served one at a time, in order (R185). -/
def State.askLease (s : State) (w : LeaseWrite) : State :=
  { s with lode := { s.lode with leaseQueue := s.lode.leaseQueue ++ [w] } }

/-- The last record of a stateful key that is gone (R217): its indexes are burned and the slot is free. -/
def State.askRetired (s : State) (i : Nat) (keyId : Bytes) (f : Stateful) : State :=
  s.askLease { index := i, slot := f.slot, entry := none, frontier := f.frontier, retired := true, keyId := keyId
               last := some { f with burned := f.burned + (f.total - f.next) } }

/-- SHA3-256 of a public key: the KEYID of a lease record (R183). -/
def Obj.keyId (o : Obj) : Bytes := fit 32 (Config.prim (.hash 0x08) [o.pub])

/-- Free the Lode reservation of a creation that made nothing (R199): the index, what was staged and the record that was
to be written; a lease record that already stands is followed by a RETIRED one (R179). -/
def State.dropResv (s : State) (e : Nat) : State :=
  match s.entry e with
  | some x =>
    let s := match x.resv with
      | some r => (match r.index with | some i => s.releaseIndex i | none => s)
      | none => s
    let mine := s.lode.staged.filter fun g => g.entry == e
    let s := mine.foldl (fun (s : State) g =>
      match g.obj.stf with
      | some f => if g.leased then s.askRetired g.index g.obj.keyId f else s
      | none => s) s
    let s := { s with lode := { s.lode with
      staged := s.lode.staged.filter fun g => g.entry != e
      writes := if mine.isEmpty then s.lode.writes else s.lode.writes.filter fun w => w.marker || w.entry != some e
      leaseQueue := s.lode.leaseQueue.filter fun w => !w.create || w.entry != some e } }
    s.setEntry e { x with resv := none }
  | none => s

/-- The operations that wait for the tree cache of key `i` wait no more. -/
def State.wakeCache (s : State) (i : Nat) : State :=
  let wake (q : Nat × Entry) : Nat × Entry := if q.2.await = .cache i then (q.1, { q.2 with await := .none }) else q
  { s with tally := { s.tally with entries := s.tally.entries.map wake } }

/-- The subsidiary entries of a split job that have not been dispatched go with their coordinator (R178); a tree-cache
build goes with it too, and another operation that waits for the cache starts it again (DESIGN CHOICE, log 31). -/
def State.dropKids (s : State) (e : Nat) (x : Entry) : State :=
  let kid (y : Entry) : Bool := y.parent == some e && y.spillToken == x.order && y.state == .queued
  let s := { s with tally := { s.tally with entries := s.tally.entries.filter fun q => !kid q.2 } }
  match x.await with
  | .cache i =>
    match (s.obj i).stf with
    | some f =>
      if f.cacheBy = some x.order then
        (s.setObj i { s.obj i with stf := some { f with cache := 0, cacheGran := 0, cacheBy := none } }).wakeCache i
      else s
    | none => s
  | _ => s

/-- A reserved index whose operation ends without OK is counted as lost (R194). -/
def State.countLost (s : State) (x : Entry) (st : Status) : State :=
  let i := handleIndex x.desc.key
  match x.index, (s.obj i).stf with
  | some _, some f =>
    if st == .ok || (s.obj i).handle i != x.desc.key then s
    else s.setObj i { s.obj i with stf := some { f with lost := satAdd 0xFFFFFFFF f.lost 1 } }
  | _, _ => s

/-- Free an entry without a record: a function-level reset, a discarded record, a subsidiary entry's end. A reserved
index whose operation had no outcome yet is lost (R194). -/
def State.freeEntry (s : State) (e : Nat) : State :=
  match s.entry e with
  | some x =>
    let s := (s.dropResv e).dropKids e x
    let s := if x.state = .dispatched || x.state = .hold then s.countLost x .abortedReset else s
    let s := if x.state = .dispatched then s.releaseUnit e x.target false else s
    let s := s.setCq x.tenant x.cq { s.cq x.tenant x.cq with waiting := without (s.cq x.tenant x.cq).waiting e }
    { s with tally := { s.tally with entries := Cells.erase s.tally.entries e } }
  | none => s

/-! ## How an operation ends -/

/-- Send a RESULT to the manager (R422). -/
def State.sendResult (s : State) (r : SpillResult) : State :=
  let made := match r.made with | some m => m.1 ++ m.2 | none => []
  s.send 0 { kind := .result, nums := [s.zdp.devid, r.token, r.status.code, r.info, r.outBytes], data := r.output ++ made }

/-- A worker's spilled operation ends: its RESULT goes to the manager, or waits while the manager is lost (R422, R426),
and the entry is gone. -/
def State.spillResult (s : State) (e : Nat) (x : Entry) (token : Nat) : State :=
  let r : SpillResult := { token := token, status := x.status, info := x.recordInfo, outBytes := x.recordBytes
                           output := x.output, made := x.made }
  let s := { s with tally := { s.tally with entries := Cells.erase s.tally.entries e } }
  if !s.isWorker then s
  else if s.zdp.lostManager.isSome then { s with zdp := { s.zdp with results := s.zdp.results ++ [r] } }
  else s.sendResult r

/-- Publish output bytes of an operation: to its host buffer, or, for a spilled operation on a worker, into the RESULT
it returns (R422). -/
def State.publish (s : State) (e : Nat) (x : Entry) (off : Nat) (bs : Bytes) : State :=
  if x.spilled.isSome then s.modEntry e fun y => { y with output := y.output ++ bs }
  else if (s.fn x.tenant).bme && !x.discard then s.outputTo x off bs
  else s

/-- The outcome is decided with a status and a stamp (R94): the unit is released, a reservation that created nothing
is freed, and the record is written or waits. Where the function is no bus master, record and entry are dropped
(R61); a subsidiary entry has no record. An entry that ends without a COMMIT has INFO as it stood, 0 for a lattice
operation whose expansion was already streamed (the spec gives it none: DESIGN CHOICE, log 26). -/
def State.settleOne (s : State) (e : Nat) (st : Status) (at_ : Stamp) : State :=
  match s.entry e with
  | none => s
  | some x =>
    let s := if x.state = .dispatched then s.releaseUnit e x.target st.done else s
    let s := ((s.dropResv e).dropKids e x).countLost x st
    let x := { x with state := if st.done then .committed else .recordWait, status := st, stamp := at_,
                      stopping := none, target := .none, resv := none, await := .none, sluice := .none }
    let s := s.setEntry e x
    if x.parent.isSome then { s with tally := { s.tally with entries := Cells.erase s.tally.entries e } }
    else if x.spilled.isSome then s.spillResult e x (x.spilled.getD 0)
    else if x.discard || !(s.fn x.tenant).bme then s.freeEntry e
    else
      let c := s.cq x.tenant x.cq
      let s := s.setCq x.tenant x.cq { c with waiting := insertRecord s e x c.waiting }
      s.drainCq x.tenant x.cq

/-- The outcome of an entry is decided; a subsidiary entry that fails ends its split job with its status (DEDUCED, log 31). -/
def State.settle (s : State) (e : Nat) (st : Status) (at_ : Stamp) : State :=
  match s.entry e with
  | none => s
  | some x =>
    let s := s.settleOne e st at_
    match x.parent with
    | none => s
    | some p =>
      match s.entry p with
      | some y => if y.order = x.spillToken && !y.decided && !st.done then s.settleOne p st at_ else s
      | none => s

/-- Complete an entry now. -/
def State.finish (s : State) (e : Nat) (st : Status) : State := s.settle e st s.stamp

/-- Whose completions are counted: the kernel's, by its OPBASE, and on a Shaft those of the job's type and parameter set
(R87, R290). -/
def State.measureKey (s : State) (e : Nat) (x : Entry) : Nat :=
  match s.run e with
  | some r => r.kernel.opBase
  | none =>
    match x.target, x.desc.kind with
    | .shaft _, some k => shaftKey (s.jobOf k x.desc)
    | _, _ => x.desc.opcode

/-- Count a completion of an operation's kernel (R87: header estimates serve until 1,024 of them). -/
def State.measure (s : State) (e : Nat) (x : Entry) : State :=
  { s with tally := { s.tally with measured := bumpAt s.tally.measured (s.measureKey e x) 1 } }

/-- COMMIT with OK: output that fits is written before the record (R12, R69, R99); output above OUT_CAP is
OUTPUT_TOO_SMALL with the size required (R80, R385). -/
def State.commitOut (s : State) (e : Nat) (out : Bytes) (info : Nat) : State :=
  match s.entry e with
  | none => s
  | some x =>
    if out.length > x.desc.outCap then
      (s.setEntry e { x with outBytes := out.length }).finish e .outputTooSmall
    else
      let s := s.setEntry e { x with outBytes := out.length, output := [], info := info }
      let s := s.publish e x 0 out
      let s := s.measure e x
      let n := match x.target with | .stope n _ _ => some n | _ => none
      (s.pmu 0x11 x.tenant n none 1).finish e .ok

/-- COMMIT with VERIFY_REJECT: a completed operation with no output (R124). -/
def State.commitReject (s : State) (e : Nat) (info : Nat) : State :=
  match s.entry e with
  | none => s
  | some x =>
    let s := s.setEntry e { x with outBytes := 0, output := [], info := info }
    let s := s.measure e x
    let n := match x.target with | .stope n _ _ => some n | _ => none
    (s.pmu 0x11 x.tenant n none 1).finish e .verifyReject

/-- A failure of a secret-using operation (R83, R130, R239): the entry enters HOLD until its dispatch stamp plus
`t`; one that comes after its release point is released at once. The unit is free, and nothing is created. -/
def State.hold (s : State) (e : Nat) (st : Status) (t : Nat) : State :=
  match s.entry e with
  | none => s
  | some x =>
    let n := match x.target with | .stope n _ _ => some n | _ => none
    let s := s.pmu 0x13 x.tenant n none 1
    if x.dispatched + t ≤ s.stamp then s.finish e st
    else
      let s := s.releaseUnit e x.target false
      let s := s.dropResv e
      s.modEntry e fun x => { x with state := .hold, status := st, releaseAt := x.dispatched + t, target := .none,
                                     output := [], stopping := none, await := .none }

/-- A signature under EQT (R122): the engines are released at COMMIT, and the output waits for the release point; a
kernel that comes after it completes at its COMMIT. -/
def State.eqtCommit (s : State) (e : Nat) (out : Bytes) (info t : Nat) : State :=
  match s.entry e with
  | none => s
  | some x =>
    if x.dispatched + t ≤ s.stamp then s.commitOut e out info
    else (s.releaseEngines e).setEntry e { x with output := out, info := info, await := .eqt, releaseAt := x.dispatched + t }

/-! ## Stopping -/

/-- Does a second reason to stop replace the first? An alarm replaces any other; any status replaces a return to
QUEUED; otherwise the first stands. -/
def StopEnd.over (new old : StopEnd) : StopEnd :=
  match new, old with
  | .free, _ => .free
  | _, .free => .free
  | .status .abortedAlarm, _ => new
  | .status st, .requeue => .status st
  | _, o => o

/-- Return an entry to QUEUED with its stamps and deadline unchanged (R13, R86, R388). -/
def State.requeue (s : State) (e : Nat) : State :=
  match s.entry e with
  | none => s
  | some x =>
    let s := s.releaseUnit e x.target false
    s.setEntry e { x with state := .queued, target := .none, stopping := none, started := false, bound1 := none,
                          bound2 := none, output := [], hit := false, await := .none }

/-- A stop has been acknowledged: the operation ends as its cause says. -/
def State.endStopped (s : State) (e : Nat) (how : StopEnd) : State :=
  match how with
  | .status st => s.finish e st
  | .requeue => s.requeue e
  | .free => s.freeEntry e

/-- Engines of an operation are told to stop (R339). -/
def State.stopEngines (s : State) (e : Nat) : State :=
  match s.run e with
  | none => s
  | some r => s.mapEngs r.stope ((engSet r.first r.wlog2).filter fun i => (s.eng r.stope i).run == some e)
      fun x => { x with mode := 5 }

/-- Stop a DISPATCHED operation (R88, R93, R339, R300): engines and Shafts acknowledge first; what holds no unit, a
job that has not started on its Shaft, and a signature that only waits for its EQT release, ends at once; so does
the manager's entry of an operation on a worker, which gets STOP (R422). -/
def State.stop (s : State) (e : Nat) (how : StopEnd) : State :=
  match s.entry e with
  | none => s
  | some x =>
    if x.state != .dispatched then s
    else
      let how := match x.stopping with | some o => how.over o | none => how
      match x.target with
      | .stope _ _ _ =>
        if x.await = .eqt then s.endStopped e how
        else (s.setEntry e { x with stopping := some how, stopAt := s.stamp }).stopEngines e
      | .shaft n =>
        let h := s.shaft n
        let runs := (match h.main with | some m => m.entry == e | none => false) ||
          (match h.inner with | some j => j.entry == e | none => false)
        if runs then s.setEntry e { x with stopping := some how, stopAt := s.stamp }
        else (s.setShaft n { h with candidate := if h.candidate = some e then none else h.candidate }).endStopped e how
      | .worker d => (s.sendStop d x.order).endStopped e how
      | .none => s.endStopped e how

/-- End an operation in whatever state it is with a status: waiting ones at once, dispatched ones once stopped,
decided ones not at all. `hold` says whether an entry in HOLD ends too. -/
def State.endWith (s : State) (e : Nat) (st : Status) (held : Bool) : State :=
  match s.entry e with
  | none => s
  | some x =>
    match x.state with
    | .queued | .waitEntropy => s.finish e st
    | .hold => if held then s.finish e st else s
    | .dispatched => s.stop e (.status st)
    | .committed | .recordWait => s

/-- Put an entry in its place among others in admission order. -/
def insertAdmitted (a : Nat × Entry) : List (Nat × Entry) → List (Nat × Entry)
  | [] => [a]
  | b :: r => if b.2.order ≤ a.2.order then b :: insertAdmitted a r else a :: b :: r

/-- The entries that satisfy a condition, in admission order: those that end at one stamp write their records in it
(R95). -/
def State.entriesWhere (s : State) (p : Entry → Bool) : List Nat :=
  ((s.tally.entries.filter fun q => p q.2).foldr insertAdmitted []).map fun q => q.1

/-- Apply an action to each of a list of entries. -/
def State.forEntries (s : State) (l : List Nat) (f : State → Nat → State) : State := l.foldl f s

end Sys2Proof.Machine
end

