-- ==== Sys2Proof/Machine/LodeActs.lean ====
section
/-! DEFINITION. What Lode does to keys and to the work that holds them: creation (R199, R220), destruction with every
descendant (R205, R214, R217, R218), replacement at the swap (R216), the flash writes that persistence needs (R220),
and the lease records of stateful keys (R180, R181, R185, R217). -/
namespace Sys2Proof.Machine

/-! ## Digest contexts bound to keys (R279) -/

def ctxDefault (_ : Nat) : Ctx := {}

/-- The key of context `c` of tenant `t`: 1,024 local numbers each (R266). -/
def ctxKey (t c : Nat) : Nat := t * 1024 + c % 1024

def State.ctx (s : State) (t c : Nat) : Ctx := Cells.get ctxDefault s.ctxs (ctxKey t c)

def State.setCtx (s : State) (t c : Nat) (x : Ctx) : State :=
  { s with ctxs := Cells.set ctxDefault s.ctxs (ctxKey t c) x }

/-- Set a `DGS_ERR` bit of a context; the page's `ERR` CTXERR is set with it (R285). -/
def State.dgsFlag (s : State) (t c b : Nat) : State :=
  let x := s.ctx t c
  (s.setCtx t c { x with err := setBit x.err b }).setErr (.tdgs t) 16

/-- A cleared context (R273): it keeps its slot and configuration; state, buffer and result are zeroised. -/
def Ctx.cleared (x : Ctx) : Ctx :=
  { x with state := 4, count := 0, data := [], waiting := 0, secret := [], result := [], window := 0,
           squeezing := false, readWords := [], spent := false, cmpAt := none, extra := 0, bound := none }

/-- Whatever core works on a context leaves it. -/
def State.dropCore (s : State) (t c : Nat) : State :=
  { s with dgs := { s.dgs with cores := s.dgs.cores.filter fun p => p.2 != ctxKey t c } }

/-- Clear a context and set a flag. -/
def State.dgsClear (s : State) (t c b : Nat) : State := ((s.dropCore t c).setCtx t c (s.ctx t c).cleared).dgsFlag t c b

/-- Is the context keyed? -/
def Ctx.keyed (x : Ctx) : Bool := field x.cfg 3 0 != 0

/-- Is the context open and not cleared? -/
def Ctx.working (x : Ctx) : Bool := decide (1 ≤ x.state) && decide (x.state ≤ 3)

/-- Clear every working context that satisfies a condition, with a flag. -/
def State.dgsClearWhere (s : State) (p : Ctx → Bool) (b : Nat) : State :=
  ((s.ctxs.filter fun q => q.2.working && p q.2).map fun q => q.1).foldl
    (fun s k => s.dgsClear (k / 1024) (k % 1024) b) s

/-! ## Indexes (R180, R181, R189, R195) -/

/-- Change the stateful part of an object. -/
def State.modStf (s : State) (i : Nat) (f : Stateful → Stateful) : State :=
  match (s.obj i).stf with
  | some x => s.setObj i { s.obj i with stf := some (f x) }
  | none => s

/-- B, the lease block (R176). -/
def Stateful.block (x : Stateful) : Nat := 2 ^ x.leaseLog2

/-- Ask for an extension by B, capped at T, unless one is under way or FRONTIER is T (R181). -/
def State.askExtension (s : State) (i : Nat) : State :=
  match (s.obj i).stf with
  | some x =>
    if x.sub.isNone && !x.extending && x.flooring == 0 && decide (x.frontier < x.total) then
      (s.modStf i fun x => { x with extending := true }).askLease
        { index := i, slot := x.slot, entry := none, frontier := Nat.min x.total (x.frontier + x.block) }
    else s
  | none => s

/-- The extension of R181, once fewer than B/2 indexes remain below the frontier. -/
def State.extendLease (s : State) (i : Nat) : State :=
  match (s.obj i).stf with
  | some x => if 2 * (x.frontier - x.next) < x.block then s.askExtension i else s
  | none => s

/-- Log an index-low record and raise the tenant's event vector (R189, R505). -/
def State.leaseEvent (s : State) (t cause slot remaining : Nat) : State :=
  (s.logEvent 0x0008 1 t 0x0020 0 (cause + slot * 65536) s.stamp remaining).raiseVector t eventVector

/-- The two low-index events (R189): below WARN_PCT of T, and below B, each the first time. -/
def State.warnLow (s : State) (i : Nat) : State :=
  let t := (s.obj i).tenant
  let s := match (s.obj i).stf with
    | some x =>
      if !x.warnedPct && decide ((x.total - x.next) * 100 < x.warnPct * x.total) then
        (s.modStf i fun x => { x with warnedPct := true }).leaseEvent t 1 x.slot (x.total - x.next)
      else s
    | none => s
  match (s.obj i).stf with
  | some x =>
    if !x.warnedBlock && decide (x.total - x.next < x.block) then
      (s.modStf i fun x => { x with warnedBlock := true }).leaseEvent t 2 x.slot (x.total - x.next)
    else s
  | none => s

/-- Is an index never issued: bits [31:0] all ones (R180)? -/
def neverIssued (n : Nat) : Bool := n % 2 ^ 32 == 2 ^ 32 - 1

/-- Burn an index that is never issued. -/
def Stateful.skip (x : Stateful) : Stateful :=
  if neverIssued x.next && decide (x.next < x.total) then { x with next := x.next + 1, burned := x.burned + 1 } else x

/-- A worker's key whose sub-range is used up goes on in the next one (R195). -/
def Stateful.nextRange (x : Stateful) : Stateful :=
  match x.sub, x.subNext with
  | some (_, hi), some (lo, hi2) =>
    if hi ≤ x.next then { x with next := lo, sub := some (lo, hi2), subNext := none } else x
  | _, _ => x

/-- The indexes left in a worker's sub-ranges. -/
def Stateful.subLeft (x : Stateful) : Nat :=
  (match x.sub with | some (_, hi) => hi - x.next | none => 0) + (match x.subNext with | some (lo, hi) => hi - lo | none => 0)

/-- A worker asks the manager for the next sub-range when fewer than 2,048 indexes remain (R195). -/
def State.askSubrange (s : State) (i : Nat) : State :=
  match (s.obj i).stf, (s.obj i).cacheOf with
  | some x, some h =>
    if x.sub.isSome && !x.extending && !x.withdrawn && decide (x.subLeft < 2048) then
      (s.modStf i fun x => { x with extending := true }).send 0 { kind := .subrangeRequest, nums := [s.zdp.devid, h] }
    else s
  | _, _ => s

/-- May the key reserve an index now (R180, R181, R193, R195)? -/
def Stateful.canReserve (x : Stateful) : Bool :=
  !x.unknown && x.ready &&
  (match x.sub with | some (_, hi) => decide (x.next < hi) && !x.withdrawn | none => decide (x.next < x.frontier))

/-- Reserve the next index of a stateful key (R180): the index, and the requests and events that follow; after the last one
that can be issued, a record with EXHAUSTED set (R189). -/
def State.reserveIndex (s : State) (i : Nat) : State × Option Nat :=
  match (s.obj i).stf with
  | none => (s, none)
  | some x0 =>
    let x := x0.nextRange.skip
    if !x.canReserve then (s.setObj i { s.obj i with stf := some x }, none)
    else
      let n := x.next
      let s := s.setObj i { s.obj i with stf := some { x with next := n + 1 } }
      let s := ((s.extendLease i).askSubrange i).warnLow i
      let s := if ({ x with next := n + 1 } : Stateful).skip.next = x.total && x.sub.isNone then
          s.askLease { index := i, slot := x.slot, entry := none, frontier := x.frontier, exhausted := true }
        else s
      (s, some n)

/-! ## Destruction -/

/-- The entries on a unit that hold the material of a handle. -/
def State.holdersOf (s : State) (h : Nat) : List Nat :=
  s.entriesWhere fun x =>
    x.state == .dispatched &&
    ((match x.bound1 with | some b => b.handle == h | none => false) ||
     (match x.bound2 with | some b => b.handle == h | none => false))

/-- Is a place in what Lode holds of one object? -/
def FlawAt.ofObject (i : Nat) : FlawAt → Bool
  | .object j | .expansion j | .pinned j | .cache j => j == i
  | _ => false

/-- Destroy the object at one index (R205, R217, R279): holders are stopped as HANDLE_STALE, keyed contexts cleared
as STALE, a destruction marker asked for where the object persists, a stateful key's indexes burned with a RETIRED
record, and the generation advances with material and expansion gone. `why` is DETAIL1 of the record (R505);
`entry` is the operation that waits for it. -/
def State.destroyOne (s : State) (i why : Nat) (entry : Option Nat) (markers : Bool) : State :=
  let o := s.obj i
  if !o.present then s
  else
    let h := o.handle i
    let holders := (s.holdersOf h).filter fun f => some f != entry
    let s := match entry with
      | some e => { s with lode := { s.lode with holders := s.lode.holders ++ holders.map fun f => (e, f) } }
      | none => s
    let s := (s.setObj i o.gone).dropFlaws (FlawAt.ofObject i)
    let s := if o.cacheOf.isSome then s else s.purge h true entry
    let s := s.forEntries holders fun s f => s.stop f (.status .handleStale)
    let s := s.dgsClearWhere (fun x => x.bound == some i) 7
    let s := if markers && o.persists then
        { s with lode := { s.lode with writes := s.lode.writes ++
            [{ entry := entry, index := i, handle := h, marker := true, obj := {} }] } }
      else s
    let s := match o.stf with
      | some x =>
        (if markers && o.cacheOf.isNone then s.askRetired i o.keyId x else s).wakeCache i
      | none => s
    let s := { s with lode := { s.lode with writes := s.lode.writes.filter fun w => w.marker || w.index != i || w.entry.isSome } }
    s.logEvent 0x0005 0 o.tenant 0x0020 0 h s.stamp why

/-- Destroy the objects at some indexes, each with its descendants, at one stamp D (R214, R218). -/
def State.destroyAll (s : State) (is : List Nat) (why : Nat) (entry : Option Nat) (markers : Bool) : State :=
  let all := (is ++ (is.map fun i => s.descendants i).flatten).eraseDups
  let all := all.filter fun i => (s.obj i).present
  if all.isEmpty then s
  else (all.foldl (fun s i => s.destroyOne i why entry markers) s).destroyStamp

/-- Every object that satisfies a condition. -/
def State.objectsWhere (s : State) (p : Obj → Bool) : List Nat :=
  (s.lode.objs.filter fun q => q.2.present && p q.2).map fun q => q.1

/-! ## Creation and swap -/

/-- The handle record (R109). -/
def handleRecord (h : Nat) : Bytes := leBytes 4 h ++ [0, 0, 0, 0]

/-- A new object appears at an index that was held for it (R203), with the index's generation. -/
def State.placeObject (s : State) (i : Nat) (o : Obj) : State :=
  let old := s.obj i
  s.setObj i { o with present := true, held := false, gen := old.gen, used := true, created := s.stamp }

/-- Does an opcode's kernel take the expansion of its key: ML-KEM, ML-DSA and the composites (R126)? -/
def Desc.lattice (d : Desc) : Bool := opFamily d.opcode == 1 || opFamily d.opcode == 2 || opFamily d.opcode == 13

/-- The creation of entry `e` is done: the object exists, its handle record and public key go out, and an ML-KEM or ML-DSA
key generation's expansion may be stored (R109, R126, R400). -/
def State.completeCreation (s : State) (e i : Nat) (o : Obj) (pub : Bytes) (info : Nat) : State :=
  let s := s.placeObject i o
  let h := (s.obj i).handle i
  let s := s.modEntry e fun x => { x with resv := none }
  let s := match s.entry e with
    | some x => if x.desc.lattice && x.keepExp then (s.storeExpansion o.tenant h x.desc.reshint).1 else s
    | none => s
  s.commitOut e (handleRecord h ++ pub) info

/-- Ask for the first key record of an object (R220); a node's record holds its material, computed or not (R213). -/
def State.askRecord (s : State) (e i t : Nat) (o : Obj) : State :=
  let w : StoreWrite := { entry := some e, index := i, handle := handleOf t (s.obj i).gen i, marker := false
                          obj := { o with computed := true } }
  { s with lode := { s.lode with writes := s.lode.writes ++ [w] } }

/-- A kernel or Lode hands over a new object for entry `e` (R199, R220): at once, or, when it persists, after its key
record has been written, and before it a stateful key's first lease record (R179); the unit is free meanwhile. -/
def State.createObject (s : State) (e : Nat) (o : Obj) (pub : Bytes) (info : Nat) : State :=
  match s.entry e with
  | none => s
  | some x =>
    if x.spilled.isSome then (s.setEntry e { x with made := some (o.secret, o.pub) }).commitOut e [] info
    else match x.resv with
    | none => s
    | some r =>
      match r.index with
      | none => s
      | some i =>
        let o := { o with tenant := x.tenant, vendorTest := s.lcc.state == 1 }
        if !o.persists then s.completeCreation e i o pub info
        else
          let s := s.releaseUnit e x.target true
          let s := s.setEntry e { x with target := .none, await := .keyRecord, info := info }
          let g : Staged := { entry := e, index := i, obj := o, replace := false, output := pub, leased := o.stf.isNone }
          let s := { s with lode := { s.lode with staged := s.lode.staged ++ [g] } }
          match o.stf with
          | some f => s.askLease { index := i, slot := f.slot, entry := some e, frontier := Nat.min f.total f.block,
                                   create := true, keyId := o.keyId, last := some f }
          | none => s.askRecord e i x.tenant o

/-- Swap the new material of a replacement in (R216 step 4, R203, R214): one stamp W; the generation advances, or at
255 the old index retires and the fresh one takes the object; descendants are destroyed; holders of the old material
run on. -/
def State.swapKey (s : State) (g : Staged) : State :=
  let i := g.oldIndex
  let old := s.obj i
  let kids := s.descendants i
  let s := s.destroyAll kids 0 none true
  let new := { g.obj with present := true, held := false, used := true, tenant := old.tenant, attr := old.attr,
                          vendorTest := s.lcc.state == 1, created := s.stamp, expGran := 0, pinGran := 0, seals := 0 }
  let s := if old.gen = 255 then
      let s := s.setObj i old.gone
      s.setObj g.index { new with gen := (s.obj g.index).gen }
    else s.setObj i { new with gen := old.gen + 1 }
  let j := if old.gen = 255 then g.index else i
  let h := (s.obj j).handle j
  let s := (s.logEvent 0x0006 0 old.tenant 0x0020 0 h s.stamp g.oldHandle).destroyStamp
  let s := s.purge g.oldHandle false none
  let s := { s with lode := { s.lode with staged := s.lode.staged.filter fun x => x.entry != g.entry } }
  let s := s.modEntry g.entry fun x => { x with resv := none }
  let pub := if g.output.isEmpty then [] else g.output
  s.commitOut g.entry (handleRecord h ++ pub) 0

/-- Stage the new, checked material of a replacement (R216 steps 1 to 3): with PERSIST its record is written first. -/
def State.stageReplacement (s : State) (e : Nat) (o : Obj) (pub : Bytes) : State :=
  match s.entry e with
  | none => s
  | some x =>
    let i := handleIndex x.desc.key
    let old := s.obj i
    let fresh := match x.resv with | some r => r.index.getD i | none => i
    let s := s.releaseUnit e x.target true
    let s := s.setEntry e { x with target := .none, await := .keyRecord }
    let g : Staged := { entry := e, index := fresh, obj := { o with tenant := old.tenant, attr := old.attr, vendorTest := s.lcc.state == 1 }, replace := true, oldIndex := i,
                        oldHandle := x.desc.key, output := pub, written := !old.persists }
    let s := { s with lode := { s.lode with staged := s.lode.staged ++ [g] } }
    if old.persists then
      let h := if old.gen = 255 then handleOf old.tenant (s.obj fresh).gen fresh else handleOf old.tenant (old.gen + 1) i
      { s with lode := { s.lode with writes := s.lode.writes ++
          [{ entry := some e, index := i, handle := h, marker := false, obj := g.obj }] } }
    else s

/-! ## Streaming keys to an operation (R205) -/

/-- The ML-KEM or ML-DSA material the expansion is computed from. -/
def Obj.bind (o : Obj) (i : Nat) : Bound :=
  { handle := o.handle i, index := i, secret := o.secret, pub := o.pub, alg := o.attr.alg, kind := o.attr.kind }

/-- The seed of a derived node or leaf (R212): KMAC256(parent material, L, "FV tree" ‖ KIND ‖ ALG). -/
def treeSeed (parent label : Bytes) (kind alg len : Nat) : Bytes :=
  fit len (Config.prim (.kmac 2 false len) [parent, label, ascii "FV tree" ++ leBytes 1 kind ++ leBytes 2 alg])

/-- The first use of a node or symmetric leaf computes it (R213): its material depends on its chain alone, and stands
beside the mark from its derivation on. -/
def State.computeNode (s : State) (i : Nat) : State :=
  if (s.obj i).computed then s else s.setObj i { s.obj i with computed := true }

/-- Does an opcode use the object of its first handle as a key or as a parent? The management opcodes only name it. -/
def usesKey (k : Option OpKind) : Bool :=
  !([some OpKind.keyInfo, some .pubExport, some .usageClear, some .keyDestroy, some .keyReplace].contains k)

/-- Bind an operation to the material of its handles, at the generation just checked (R205, R213); a resident
expansion is streamed with its key and counts as used (R127, R128); one found bad is dropped, and was no hit. -/
def State.bindKeys (s : State) (e : Nat) : State :=
  match s.entry e with
  | none => s
  | some x =>
    let one (s : State) (h : Nat) (use : Bool) : State × Option Bound :=
      if h = 0 then (s, none)
      else
        let s := if use then s.computeNode (handleIndex h) else s
        (s, some ((s.obj (handleIndex h)).bind (handleIndex h)))
    let r1 := one s x.desc.key (usesKey x.desc.kind)
    let r2 := one r1.1 x.desc.key2 true
    let s := r2.1
    let i := handleIndex x.desc.key
    let held := x.desc.lattice && x.desc.key != 0 && (s.obj i).expGran != 0
    let s := if held && s.flawed (.expansion i) then s.loseExpansion i else s
    let hit := held && (s.obj i).expGran != 0
    let s := if hit then s.useExpansion i else s
    s.setEntry e { x with bound1 := r1.2, bound2 := r2.2, hit := hit }

end Sys2Proof.Machine
end

