-- ==== Sys2Proof/Machine/StfTypes.lean ====
section
/-! DEFINITION. The types of stateful public keys and signatures, by their typecodes or OID, and the lengths they imply
(R173 to R175, R555). The codes and the layouts are those of RFC 8554, RFC 8391 and SP 800-208, which the spec names and
does not state: PRESUMED, log 31. -/
namespace Sys2Proof.Machine

/-- A big-endian field of 4 bytes. -/
def be4 (bs : Bytes) (off : Nat) : Nat := ofBe (slice bs off 4)

/-- Does a number name an LMS type of R173, or an LM-OTS type? -/
def lmsCode (t : Nat) : Bool := decide (5 ≤ t) && decide (t ≤ 24)
def otsCode (t : Nat) : Bool := decide (1 ≤ t) && decide (t ≤ 16)

/-- The parameter code (R173) of an LMS and an LM-OTS type; both have one hash function. -/
def lmsParam (t ot : Nat) : Option Nat :=
  if lmsCode t && otsCode ot && (t - 5) / 5 == (ot - 1) / 4 then some ((t - 5) / 5 * 64 + (t - 5) % 5 * 8 + (ot - 1) % 4)
  else none

/-- n of a HASH code (R173). -/
def hashN (h : Nat) : Nat := if h % 2 = 0 then 32 else 24

/-- The OID of an XMSS or XMSS^MT set (R174): one series for each hash function. -/
def xmssOid (pp : Nat) : Nat :=
  let tree := pp % 64
  if tree < 8 then (match pp / 64 with | 0 => 0x01 | 1 => 0x0D | 2 => 0x10 | _ => 0x13) + tree
  else (match pp / 64 with | 0 => 0x01 | 1 => 0x21 | 2 => 0x29 | _ => 0x31) + (tree - 8)

/-- The sets of R174 that an OID names. OIDs 1 to 3 name one of XMSS and one of XMSS^MT; both have the same n. -/
def xmssParams (oid : Nat) : List Nat := (List.range 256).filter fun pp => stfParamOk 5 pp && xmssOid pp == oid

/-- Where an LMS signature that begins a byte string ends, and the parameter code it names: none where a typecode is
unknown; a string cut short ends before the place given. -/
def lmsSigEnd (bs : Bytes) : Option (Nat × Nat) :=
  let ot := be4 bs 4
  if bs.length < 8 || !otsCode ot then none
  else
    let at_ := 8 + hashN ((ot - 1) / 4) * (lmsChains ((ot - 1) / 4 * 64 + (ot - 1) % 4) + 1)
    if bs.length < at_ + 4 then some (at_ + 4, 0)
    else (lmsParam (be4 bs at_) ot).map fun pp => (lmsSig pp, pp)

/-- Where an HSS signature's signed public keys and last signature end, and whether each level's types are those of the
public key above it: `n` signed public keys, the first signature under a key of parameter code `pp`. -/
def hssEnd : Nat → Nat → Bytes → Option (Nat × Bool)
  | 0, pp, bs => (lmsSigEnd bs).map fun p => (p.1, p.2 == pp)
  | n + 1, pp, bs =>
    match lmsSigEnd bs with
    | none => none
    | some (a, sp) =>
      let pub := bs.drop a
      if bs.length < a + 8 then some (a + 8, false)
      else match lmsParam (be4 pub 0) (be4 pub 4) with
        | none => none
        | some next =>
          let b := a + lmsPub next
          if bs.length < b then some (b, false)
          else (hssEnd n next (bs.drop b)).map fun p => (b + p.1, p.2 && sp == pp)

/-- What the auxiliary buffer of an STF_VERIFY shows (R555): the key's parameter code and level count, and the length of
its public key there. -/
structure StfKey where
  pp : Nat
  levels : Nat
  len : Nat
deriving DecidableEq, Repr

/-- The key by value, or the status of a buffer that holds none: too short for the type that its leading typecode or OID
names, or of no type. Where an OID names two sets, the one whose signature fits the rest of the buffer is meant, else the
first (DESIGN CHOICE, log 31). -/
def stfKeyOf (f : Nat) (raw : Bool) (aux : Bytes) : Except Status StfKey :=
  if f = 4 then
    let off := if raw then 0 else 4
    let t := be4 aux off
    let l := if raw then 1 else be4 aux 0
    let len := off + 24 + hashN ((t - 5) / 5)
    if aux.length < off + 4 || (lmsCode t && decide (aux.length < len)) then .error .lengthMismatch
    else match lmsParam t (be4 aux (off + 4)) with
      | some pp => if 1 ≤ l ∧ l ≤ 8 then .ok { pp := pp, levels := l, len := len } else .error .encodingInvalid
      | none => .error .encodingInvalid
  else if aux.length < 4 then .error .lengthMismatch
  else
    let l := xmssParams (be4 aux 0)
    match l with
    | [] => .error .encodingInvalid
    | p :: _ =>
      let len := stfPubLen 5 p
      if aux.length < len then .error .lengthMismatch
      else .ok { pp := (l.find? fun q => aux.length == len + stfSigLen 5 q 1).getD p, levels := 1, len := len }

/-- What a signature's own typecodes say (R555): the length they imply, and whether they match the key; none where they are
unknown. A signature of family 5 carries none, and has the length of its key's type. -/
def stfSigOf (f : Nat) (raw : Bool) (k : StfKey) (sig : Bytes) : Option (Nat × Bool) :=
  if f = 4 then
    if raw then hssEnd 0 k.pp sig
    else
      let n := be4 sig 0
      if sig.length < 4 || decide (7 < n) then none
      else (hssEnd n k.pp (sig.drop 4)).map fun p => (4 + p.1, p.2 && n + 1 == k.levels)
  else some (stfSigLen 5 k.pp 1, true)

end Sys2Proof.Machine
end

