-- ==== Sys2Proof/Machine/Admission.lean ====
section
/-! DEFINITION. Admission (R72 to R78): what a descriptor's flags, options, lengths and handles must be, opcode by
opcode (R104 to R107, R116, R132, R134, R139, R143, R150, R157, R163, R167, R171, R175, R206, R212, R215), the nine
checks in their order, and what an admitted creation reserves (R199, R203). -/
namespace Sys2Proof.Machine

/-! ## Lengths (check 7) -/

/-- Supply options: SEED or MSEED, bit [0]. -/
def Desc.opt (d : Desc) (b : Nat) : Bool := d.options.testBit b

/-- MODE, bits [1:0]; PH or HASH, bits [7:4]. -/
def Desc.mode (d : Desc) : Nat := d.options % 4
def Desc.ph (d : Desc) : Nat := d.options / 16

/-- Classical public-key lengths by value: NIST points may be compressed (R156, R161). -/
def ecPubLens (pp : Nat) : List Nat := if ecNist pp then [(ecSizes pp).2.1, ecCompressed pp] else [(ecSizes pp).2.1]

/-- The lengths in which an ALG's public key may be given for import (R156, R161, R206). -/
def pubLens (alg : Nat) : List Nat := if opFamily alg = 8 then ecPubLens (opParam alg) else [pubLen alg]

/-- K of families 6 and 7. -/
def codeK (f : Nat) : Nat := if f = 6 then 32 else 64

/-- Public key and ciphertext of families 6 and 7. -/
def codeSizes (f pp : Nat) : Nat × Nat := if f = 6 then ((mceSizes pp).1, (mceSizes pp).2.2) else ((hqcSizes pp).1, (hqcSizes pp).2.2)

/-- The blob's length without its material (R209): header 48, ciphertext, IV 12, tag 16. -/
def blobExtra (ff : Nat) : Nat := 76 + (match ff with | 2 => 1088 | 3 => 1568 | _ => 0)

/-- The length rules of an opcode: whether IN_LEN and AUX_LEN are allowed, and the output size that OUT_CAP must
hold (none: nothing is written). `o` is the object KEY names, `lead` the auxiliary bytes that the rule itself reads
at admission (SLEN of KMAC_VERIFY, LLEN and KIND of TREE_DERIVE). -/
structure Lens where
  inOk : Bool
  auxOk : Bool
  out : Option Nat
deriving DecidableEq, Repr

/-- The lengths of an opcode (R73 and the opcode tables). -/
def lensOf (k : OpKind) (d : Desc) (o : Obj) (lead : Bytes) : Lens :=
  let pp := opParam d.opcode
  let f := opFamily d.opcode
  let il := d.inLen
  let al := d.auxLen
  let byVal (n : Nat) : Nat := if d.key = 0 then n else 0
  let byVal2 (n : Nat) : Nat := if d.key2 = 0 then n else 0
  let seed (n : Nat) : Nat := if d.opt 0 then n else 0
  let no : Bool := il == 0
  let dig (n : Nat) : Bool := !d.opt 3 || il == n
  let objPub := pubLen o.attr.alg
  match k with
  | .kemKeygen => ⟨no, al == 32 + seed 64, some (8 + (kemSizes pp).1)⟩
  | .kemEncaps => ⟨no, al == byVal (kemSizes pp).1 + seed 32, some ((kemSizes pp).2.2 + 32)⟩
  | .kemDecaps => ⟨no, al == (kemSizes pp).2.2, some 32⟩
  | .kemEkcheck => ⟨no, al == (kemSizes pp).1, none⟩
  | .kemExpand | .kemEvict | .dsaExpand | .dsaEvict => ⟨no, al == 0, none⟩
  | .dsaKeygen => ⟨no, al == 32 + seed 32, some (8 + (dsaSizes pp).1)⟩
  | .dsaSign =>
    ⟨if d.mode = 2 then il == 64 else dig (phLen d.ph), d.mode != 2 || al == 0, some (dsaSizes pp).2.2⟩
  | .dsaVerify =>
    ⟨if d.mode = 2 then il == 64 else dig (phLen d.ph), d.mode != 2 || al == byVal (dsaSizes pp).1 + (dsaSizes pp).2.2, none⟩
  | .compEncaps =>
    ⟨no, al == byVal (kemSizes (pairOf pp).lat).1 + byVal2 (pairOf pp).pub, some (pairLen pp + 32)⟩
  | .compDecaps => ⟨no, al == pairLen pp, some 32⟩
  | .compSign => ⟨true, true, some (pairLen pp)⟩
  | .compVerify => ⟨true, true, none⟩
  | .slhKeygen => ⟨no, al == 32 + seed (3 * slhN pp), some (8 + 2 * slhN pp)⟩
  | .slhSign => ⟨dig (phLen d.ph), true, some (slhSigLen pp)⟩
  | .slhVerify => ⟨dig (phLen d.ph), true, none⟩
  | .mceKeygen | .hqcKeygen => ⟨no, al == 32 + seed 32, some (8 + (codeSizes f pp).1)⟩
  | .mceEncaps | .hqcEncaps => ⟨no, al == byVal (codeSizes f pp).1, some ((codeSizes f pp).2 + codeK f)⟩
  | .mceDecaps | .hqcDecaps => ⟨no, al == (codeSizes f pp).2, some (codeK f)⟩
  | .ecKeygen => ⟨no, al == 32 + seed (ecSizes pp).1, some (8 + (ecSizes pp).2.1)⟩
  | .ecSign =>
    if ecNist pp then ⟨dig (phLen d.ph), al == 0, some (ecSizes pp).2.2.1⟩
    else ⟨if d.mode = 1 then dig 64 else decide (il ≤ 16384), true, some (ecSizes pp).2.2.1⟩
  | .ecVerify =>
    if ecNist pp then
      ⟨dig (phLen d.ph),
        if d.key = 0 then (ecPubLens pp).any (fun n => al == n + (ecSizes pp).2.2.1) else al == (ecSizes pp).2.2.1, none⟩
    else ⟨if d.mode = 1 then dig 64 else true, true, none⟩
  | .ecAgree => ⟨no, (ecPubLens pp).contains al, some (ecSizes pp).2.2.2⟩
  | .ecPkcheck => ⟨no, (ecPubLens pp).contains al, none⟩
  | .rsaKeygen => ⟨no, al == 32, some (8 + rsaK pp + 4)⟩
  | .rsaSign => ⟨dig (phLen d.ph), al == 0, some (rsaK pp)⟩
  | .rsaVerify => ⟨dig (phLen d.ph), al == byVal (rsaK pp + 4) + rsaK pp, none⟩
  | .rsaEncrypt => ⟨decide (il + 2 * phLen d.ph + 2 ≤ rsaK pp), true, some (rsaK pp)⟩
  | .rsaDecrypt => ⟨no, true, some (rsaK pp - 2 * phLen d.ph - 2)⟩
  | .hash =>
    if hashLen pp = 0 then ⟨decide (1 ≤ d.outCap) && decide (d.outCap ≤ 65536), decide (0x0D ≤ pp) || al == 0, some d.outCap⟩
    else ⟨true, al == 0, some (hashLen pp)⟩
  | .hmac => ⟨true, al == 0, some (hashLen pp)⟩
  | .hmacVerify => ⟨true, al == hashLen pp, none⟩
  | .kmac => ⟨decide (1 ≤ d.outCap) && decide (d.outCap ≤ 65536), true, some d.outCap⟩
  | .kmacVerify => ⟨true, decide (1 + leField lead 0 1 + 4 ≤ al), none⟩
  | .kdf => ⟨no, decide (32 ≤ al), some 8⟩
  | .gcmSeal => ⟨decide (il ≤ 65536), decide (seed 12 ≤ al) && decide (al ≤ 65536 + seed 12), some (28 + il)⟩
  | .gcmOpen => ⟨decide (il ≤ 65536), decide (28 ≤ al) && decide (al ≤ 65536 + 28), some il⟩
  | .random => ⟨no && d.outCap != 0, decide (al ≤ 256), some d.outCap⟩
  | .stfKeygen => ⟨no, al == 40 + seed (stfSeedLen f pp), some (8 + stfPubLen f pp)⟩
  | .stfSign =>
    ⟨true, al == 0, some (stfSigLen f pp (match o.stf with | some x => x.levels | none => 1))⟩
  | .stfVerify => ⟨true, true, none⟩
  | .stfQuery => ⟨no, al == 0, some 64⟩
  | .stfSetfloor => ⟨no, al == 8, none⟩
  | .stfCache => ⟨no, al == 0, none⟩
  | .keyInfo => ⟨no, al == 0, some 64⟩
  | .pubImport => ⟨no, decide (32 ≤ al), some 8⟩
  | .symGen => ⟨no, al == 32, some 8⟩
  | .keyWrap => ⟨no, al == 0, some (blobExtra pp + materialLen o.attr.kind o.attr.alg o.attr.keyLen)⟩
  | .keyUnwrap => ⟨no, true, some 8⟩
  | .keyReplace =>
    match d.mode with
    | 0 => ⟨no, al == 0, some (if o.attr.kind = kindKeypair then 8 + objPub else 8)⟩
    | 1 => ⟨no, (pubLens o.attr.alg).contains al, some 8⟩
    | _ => ⟨no, true, some 8⟩
  | .keyDestroy => ⟨no, al == 0, none⟩
  | .treeDerive =>
    let ll := leField lead 32 1
    ⟨no, decide (1 ≤ ll) && decide (ll ≤ 64) && al == 33 + ll,
      some (if leField lead 0 1 = kindKeypair then 8 + pubLen (leField lead 2 2) else 8)⟩
  | .pubExport => ⟨no, al == 0, some objPub⟩
  | .usageClear => ⟨no, al == 2, none⟩
  | .nop | .fence | .abortTag => ⟨no, al == 0, none⟩
  | .custom => ⟨true, true, none⟩

/-- Does the auxiliary buffer fit the kernel's INPUT window (R375)? -/
def Kernel.auxFits (k : Kernel) (d : Desc) : Bool :=
  match k.layout with
  | 1 | 2 => decide (d.auxLen ≤ k.winInput * 64)
  | 3 => decide (64 + d.auxLen ≤ k.winInput * 64)
  | _ => true

/-! ## The checks of R77 -/

/-- Is MSEED accepted now (R106, R456)? -/
def State.injectOk (s : State) : Bool := decide (s.lcc.state ≤ 1) || (s.lcc.state == 2 && s.lcc.grant == 3)

/-- Check 1 for a defined opcode: FLAGS, OPTIONS and handle presence; what R90 and R91 ask of family 0xF. -/
def State.descriptorOk (s : State) (t : Nat) (d : Desc) (k : OpKind) : Bool :=
  !d.flags.testBit 7 && optionsOk k (opParam d.opcode) d.options (opFamily d.opcode) s.injectOk &&
  (!d.eqt || eqtAllowed k) && (needKey k).ok d.key && (needKey2 k d.options).ok d.key2 &&
  (match k with
    | .nop | .abortTag => d.inLen == 0 && d.auxLen == 0 && d.outCap == 0
    | .fence => d.inLen == 0 && d.auxLen == 0 && d.outCap == 0 &&
        (List.range 64).all fun q => !d.auxAddr.testBit q || (s.sq t q).en
    | _ => true)

/-- The boot packs still to be loaded that bind an opcode for a tenant: the Stopes each is for (R453). -/
def State.bootFor (s : State) (op t : Nat) : List Nat :=
  if s.rst.bootCommitted then []
  else ((s.rst.packs.drop s.rst.packNext).filter fun q => (q.2.kernelFor op t).isSome).map fun q => q.1

/-- Is a boot pack still to be loaded that binds an opcode, on a Stope that the tenant may use (R453)? -/
def State.bootBinds (s : State) (op t : Nat) : Bool :=
  (s.bootFor op t).any fun mask =>
    (List.range 64).any fun n => mask.testBit n && !s.outOfService (.stp n) && s.mayUseStope t n

/-- Check 2: a custom opcode needs a pack that binds it for the tenant, loaded, loading or testing (R382), or a boot pack
still to be loaded (R453). -/
def State.opcodeOk (s : State) (t : Nat) (d : Desc) : Option OpKind :=
  match opKind d.opcode with
  | some .custom =>
    if (s.packedStopes.any fun n => s.kernelNear n d.opcode t) || !(s.bootFor d.opcode t).isEmpty then some .custom else none
  | k => k

/-- Is a Lode-served EXPAND: its expansion already resident (R552)? -/
def State.residentExpand (s : State) (k : OpKind) (d : Desc) : Bool :=
  (k == .kemExpand || k == .dsaExpand) && (s.obj (handleIndex d.key)).expGran != 0

/-- Does the operation run without a Stope or Shaft (R90, R168, R552)? -/
def State.unitFree (s : State) (k : OpKind) (d : Desc) : Bool := noUnit k || s.residentExpand k d

/-- Does KEY_REPLACE with source generate run on a Shaft (R215, R287)? -/
def replaceOnShaft (o : Obj) : Bool :=
  o.attr.kind == kindKeypair && (opFamily o.attr.alg == 6 || opFamily o.attr.alg == 9)

/-- Is the operation assigned to Shafts (R287, R290)? -/
def State.toShaft (s : State) (k : OpKind) (d : Desc) : Bool :=
  onShaft k (opParam d.opcode) ||
  (k == .keyReplace && d.mode == 0 && replaceOnShaft (s.obj (handleIndex d.key)))

/-- Check 5: some unit that the tenant may use holds, or is getting, a kernel for the opcode (R290, R382). -/
def State.unitOk (s : State) (t : Nat) (k : OpKind) (d : Desc) : Bool :=
  s.unitFree k d ||
  (if s.toShaft k d then
      (List.range 8).any fun n => !s.outOfService (.shf n) && s.mayUseShaft t n && (s.shaft n).test != 3
    else s.bootBinds d.opcode t ||
      s.packedStopes.any fun n => !s.outOfService (.stp n) && s.mayUseStope t n && s.kernelNear n d.opcode t)

/-- The handle check of one field (check 8): a handle whose object a pending restore may bring back waits (R221). -/
def State.handleCheck (s : State) (t h : Nat) (suits : Obj → Bool) : Option Status :=
  if h = 0 then none
  else
    let o := s.obj (handleIndex h)
    if o.cacheOf.isSome then some .handleInvalid
    else if handleTenant h == t && !o.present && s.restoring then none
    else match s.handleStatus t h with
      | some st => some st
      | none => if suits o then none else some .usageDenied

/-- Does a handle wait for the restore? -/
def State.waitsRestore (s : State) (t h : Nat) : Bool :=
  h != 0 && handleTenant h == t && !(s.obj (handleIndex h)).present && s.restoring

/-- Does the opcode take handles at all? -/
def takesKey (k : OpKind) : Bool := needKey k != .zero

/-- Check 8 for both handles. In BLANK no object is created (R456). -/
def State.handlesOk (s : State) (t : Nat) (d : Desc) (k : OpKind) : Option Status :=
  if createsObject k && s.lcc.state == 0 then some .usageDenied else
  match s.handleCheck t d.key (useOk k d.opcode d.options) with
  | some st => some st
  | none => s.handleCheck t d.key2 (useOk2 k d.opcode)

/-- The stateful block of R176 is valid for the family and parameter set. -/
def stfBlockOk (f pp : Nat) (b : Bytes) : Bool :=
  let l := leField b 0 1
  let lg := leField b 1 1
  let w := leField b 2 1
  (if f = 4 then decide (1 ≤ l) && decide (l ≤ 4) && decide (l * lmsHeight pp ≤ 64) else l == 0) &&
  (lg == 0 || (decide (10 ≤ lg) && decide (lg ≤ 24))) && decide (w ≤ 50) && leField b 3 5 == 0

/-- What a creation asks of Lode: units, persistence, whether it makes a new object, or only needs a new index (R216). -/
structure Ask where
  units : Nat
  newObject : Bool
  fresh : Bool := false
  persist : Bool
deriving DecidableEq, Repr

/-- Check 9 (R77): the attribute block (R202) and what room it asks for (R199, R216, R220); for unwrapping, room is
computed from MATLEN. -/
def State.creation (s : State) (d : Desc) (k : OpKind) (lead : Bytes) : Except Status (Option Ask) :=
  match k with
  | .keyUnwrap =>
    .ok (some { units := ceilDiv (leField lead 8 4) 64, newObject := true, persist := (leField lead 22 2).testBit 0 })
  | .keyReplace =>
    let o := s.obj (handleIndex d.key)
    let u := if d.mode = 2 then ceilDiv (leField lead 8 4) 64 else o.units
    .ok (some { units := u, newObject := false, fresh := o.gen == 255, persist := false })
  | _ =>
    if !createsObject k then .ok none
    else
      let a := attrOf (slice lead 0 32)
      let f := opFamily d.opcode
      let pp := opParam d.opcode
      if !attrValid (slice lead 0 32) || !attrSuits k d.opcode a then .error .valueRange
      else if k = .stfKeygen && !stfBlockOk f pp (slice lead 32 8) then .error .valueRange
      else if k = .treeDerive && !derivable a then .error .usageDenied
      else if k = .treeDerive && decide (8 ≤ (s.obj (handleIndex d.key)).depth) then .error .valueRange
      else .ok (some { units := materialUnits a.kind a.alg a.keyLen, newObject := true
                       persist := a.persist || (a.kind == kindKeypair && algStf a.alg) })

/-- Is there room to pin a Classic McEliece public key (R152)? -/
def State.pinRoom (s : State) (t pp : Nat) : Bool :=
  decide (s.pinUse < 4) && decide (s.granFixed t + mceGranules pp ≤ s.share t)

/-- The auxiliary bytes that admission itself reads: an attribute block and the lengths that follow it. -/
def State.leadOf (s : State) (d : Desc) (k : OpKind) : Bytes :=
  if createsObject k || k == .keyReplace || k == .kmacVerify then s.hostRead d.auxAddr (Nat.min d.auxLen 48) else []

/-- Checks 6 to 9 but for the lists: lengths, output, handles, room. -/
def State.checksKey (s : State) (t : Nat) (d : Desc) (k : OpKind) : Except (Status × Nat) (Option Ask) :=
  let lead := s.leadOf d k
  let l := lensOf k d (s.obj (handleIndex d.key)) lead
  if !l.inOk || !l.auxOk then .error (.lengthMismatch, 0)
  else if !(match s.someKernel d.opcode t with | some kn => kn.auxFits d | none => true) && !s.unitFree k d then
    .error (.lengthMismatch, 0)
  else if !(match l.out with | some n => decide (n ≤ d.outCap) | none => true) then
    .error (.outputTooSmall, l.out.getD 0)
  else match s.handlesOk t d k with
    | some st => .error (st, 0)
    | none =>
      match s.creation d k lead with
      | .error st => .error (st, 0)
      | .ok none => .ok none
      | .ok (some a) =>
        if !s.room t a.units a.newObject a.persist (k == .stfKeygen) || (a.fresh && !s.indexLeft) then .error (.quotaExceeded, 0)
        else if k == .mceKeygen && d.opt 1 && !s.pinRoom t (opParam d.opcode) then .error (.quotaExceeded, 0)
        else .ok (some a)

/-- Does what an opcode's checks ask depend on the object its handle names: a size, a level, a generation? -/
def boundToObject (k : OpKind) : Bool :=
  [OpKind.stfSign, .keyWrap, .keyReplace, .pubExport, .treeDerive].contains k

/-- Does an operation wait for the restore of persistent objects (R221)? -/
def State.awaitsRestore (s : State) (t : Nat) (d : Desc) (k : OpKind) : Bool :=
  takesKey k && (s.waitsRestore t d.key || s.waitsRestore t d.key2)

/-- Checks 6 to 9, made once the lists have been read (R76, R77); those that depend on an object not yet restored are made
after the restore (R221). -/
def State.checksAfter (s : State) (t : Nat) (d : Desc) (k : OpKind) : Except (Status × Nat) (Option Ask) :=
  let l := lensOf k d (s.obj (handleIndex d.key)) (s.leadOf d k)
  if d.sgl && !s.sglOk d (l.out.isSome || k == .custom) then .error (.lengthMismatch, 0)
  else if boundToObject k && s.awaitsRestore t d k then .ok none
  else s.checksKey t d k

/-- Checks 1 to 5. `seq` is the queue sequence expected, when it is checked. -/
def State.checksBefore (s : State) (t : Nat) (d : Desc) (seq : Option Nat) : Except Status OpKind :=
  match opKind d.opcode with
  | none => if d.flags.testBit 7 then .error .descriptorInvalid else .error .opcodeInvalid
  | some k0 =>
    if !s.descriptorOk t d k0 then .error .descriptorInvalid
    else match s.opcodeOk t d with
      | none => .error .opcodeInvalid
      | some k =>
        if !(match seq with | some n => d.qseq == n | none => true) then .error .sequenceMismatch
        else if s.zdp.quarantined then .error .quarantined
        else if !s.unitOk t k d then .error .notReady
        else .ok k

/-! ## Sluice (R280, R281) -/

/-- Does Sluice hash this descriptor before dispatch (R118, R137, R146, R148, R158, R159, R164, R168, R555)? -/
def sluiceFirst (k : OpKind) (d : Desc) : Bool :=
  match k with
  | .hash | .compSign | .compVerify | .slhVerify | .stfVerify => true
  | .dsaSign | .dsaVerify => d.mode != 2
  | .slhSign => d.mode == 1 && !d.opt 3
  | .ecSign => if ecNist (opParam d.opcode) then !d.opt 3 else d.mode == 1 && !d.opt 3
  | .ecVerify => if ecNist (opParam d.opcode) then !d.opt 3 else true
  | .rsaSign | .rsaVerify => !d.opt 3
  | _ => false

/-- Is channel `c` busy: held by an entry, or 31 reserved for measurement (R283)? -/
def State.channelBusy (s : State) (c : Nat) : Bool :=
  (s.tally.entries.any fun q => q.2.sluice == .hashing c) || (c == 31 && bit (s.reg .slc 0x10C) 0)

/-- A free channel. -/
def State.freeChannel (s : State) : Option Nat := (List.range 32).find? fun c => !s.channelBusy c

/-- A length-prefixed string at an offset, and where the next field starts. -/
def shortAt (bs : Bytes) (off : Nat) : Bytes × Nat := (slice bs (off + 1) (leField bs off 1), off + 1 + leField bs off 1)

/-- The parameter header of cSHAKE: N, S and its length (R167). -/
def cshakeHead (aux : Bytes) : Bytes × Bytes × Nat :=
  let n := shortAt aux 0
  let c := shortAt aux n.2
  (n.1, c.1, c.2)

/-- The key of an STF_VERIFY (R555): by handle that of the object, by value what leads the auxiliary buffer. -/
def State.stfKey (s : State) (x : Entry) (aux : Bytes) : Except Status StfKey :=
  if x.desc.key = 0 then stfKeyOf (opFamily x.desc.opcode) (x.desc.opt 0) aux
  else
    let o := s.obj (handleIndex x.desc.key)
    .ok { pp := opParam o.attr.alg, levels := (match o.stf with | some f => f.levels | none => 1), len := 0 }

/-- What the auxiliary buffer of an STF_VERIFY shows at once (R555). -/
def State.stfFinding (s : State) (x : Entry) (aux : Bytes) : Option Status :=
  match s.stfKey x aux with
  | .error st => some st
  | .ok key =>
    match stfSigOf (opFamily x.desc.opcode) (x.desc.opt 0) key (aux.drop key.len) with
    | some p => if aux.length = key.len + p.1 then none else some .lengthMismatch
    | none => none

/-- What Adit finds when it reads the auxiliary buffer (R119, R167, R555): the status of an inconsistent length or type. -/
def State.sluiceFinding (s : State) (k : OpKind) (x : Entry) (aux : Bytes) : Option Status :=
  let d := x.desc
  let pp := opParam d.opcode
  let own (n : Nat) : Nat := if d.key = 0 then n else 0
  let lens (n : Nat) : Option Status := if d.auxLen = n then none else some .lengthMismatch
  match k with
  | .dsaSign => lens (1 + leField aux 0 1)
  | .dsaVerify =>
    let off := own (dsaSizes pp).1
    lens (off + 1 + leField aux off 1 + (dsaSizes pp).2.2)
  | .compSign => lens (1 + leField aux 0 1)
  | .compVerify =>
    let off := own (dsaSizes (pairOf pp).lat).1 + (if d.key2 = 0 then (pairOf pp).pub else 0)
    lens (off + 1 + leField aux off 1 + pairLen pp)
  | .hash => if 0x0D ≤ pp then lens (cshakeHead aux).2.2 else none
  | .stfVerify => s.stfFinding x aux
  | _ => none

/-- An entry gets channel `c` (R118, R281): before dispatch Adit reads the auxiliary buffer first, and what it finds there
ends a public operation at once, without more hashing, while a signature is left to report it (R119). -/
def State.openChannel (s : State) (e c : Nat) : State :=
  match s.entry e with
  | none => s
  | some x =>
    match x.desc.kind with
    | none => s
    | some k =>
      if x.state = .dispatched then s.setEntry e { x with sluice := .hashing c }
      else if !s.dmaOk x && x.desc.auxLen != 0 then (s.setEntry e { x with sluice := .none }).endWith e .dmaFault true
      else
        let aux := s.auxOf x
        match s.sluiceFinding k x aux with
        | some st =>
          if k = .dsaSign || k = .compSign then s.setEntry e { x with sluice := .hashed, aux := aux, lenFault := true }
          else s.finish e st
        | none => s.setEntry e { x with sluice := .hashing c, aux := aux }

/-- Ask for a channel: at once if one is free, otherwise the entry waits for one in its state (R281). -/
def State.askChannel (s : State) (e : Nat) : State :=
  match s.entry e with
  | none => s
  | some x =>
    match s.freeChannel with
    | some c => s.openChannel e c
    | none =>
      let s := s.setEntry e { x with sluice := .waiting, sluiceOrder := s.slc.nextOrder }
      { s with slc := { s.slc with nextOrder := s.slc.nextOrder + 1 } }.pmu 0x26 x.tenant none none 1

/-! ## Admitting -/

/-- The deadline of an operation (R88), in ns of stamp. -/
def State.deadlineOf (s : State) (t q : Nat) (d : Desc) (k : OpKind) : Stamp :=
  if d.deadline ≠ 0 then s.stamp + d.deadline * 1000
  else if field (s.sq t q).dl 23 0 ≠ 0 then s.stamp + field (s.sq t q).dl 23 0 * 1000000
  else s.stamp + (if s.toShaft k d then s.regField .tly 0x114 23 0 else s.regField .tly 0x110 23 0) * 1000000

/-- What a FENCE covers (R91): for each SQ of its mask, how many of its descriptors were made visible by doorbells
before the one that made the FENCE visible. -/
def State.fenceCover (s : State) (t q sub mask : Nat) : List (Nat × Nat) :=
  let mine := match (s.sq t q).bells.find? fun b => decide (sub < b.2) with
    | some b => b.1
    | none => s.tally.nextBell
  ((List.range 64).filter fun r => mask.testBit r).map fun r =>
    (r, ((s.sq t r).bells.filter fun b => decide (b.1 < mine)).foldl (fun m b => Nat.max m b.2) 0)

/-- Reserve what an admitted creation needs until it completes (R199, R203). -/
def State.reserveFor (s : State) (e t : Nat) (a : Ask) : State :=
  let r := if a.newObject || a.fresh then s.allocIndex else (s, none)
  r.1.modEntry e fun x =>
    { x with resv := some { index := r.2, fresh := a.fresh, units := a.units, persist := a.persist, tenant := t } }

/-- Checks 6 to 9 on an entry whose lists can be read now; on success it stands QUEUED, admitted. The PH(M) of HashSLH-DSA
with DIGEST is read now, once, before dispatch (R146). -/
def State.admitEntry (s : State) (e : Nat) : State :=
  match s.entry e with
  | none => s
  | some x =>
    match x.desc.kind with
    | none => s.finish e .opcodeInvalid
    | some k =>
      match s.checksAfter x.tenant x.desc k with
      | .error (st, need) => (s.setEntry e { x with outBytes := need, sglDone := true }).finish e st
      | .ok ask =>
        let wait := s.awaitsRestore x.tenant x.desc k
        let x := s.takeLists x
        let early := k == .slhSign && x.desc.mode == 1 && x.desc.opt 3
        let x := { x with sglDone := true, keyWait := wait, input := if early then s.inputOf x else x.input }
        let s := s.setEntry e x
        let s := match ask with | some a => s.reserveFor e x.tenant a | none => s
        let s := s.pmu 0x20 x.tenant none none 1
        if sluiceFirst k x.desc && !wait then s.askChannel e else s

end Sys2Proof.Machine
end

