-- ==== Sys2Proof/Machine/Drbg.lean ====
section
/-! DEFINITION. The random bit generators (R229, R248, R254 to R258): the pool of conditioned blocks, the central DRBG, the
Stopes' DRBGs and the masking generators, how each is seeded, when it reseeds, and what a draw from it gives. -/
namespace Sys2Proof.Machine

/-- Is the entropy source READY: HEALTHY or DEGRADED (R252)? -/
def State.entReady (s : State) : Bool := s.ent.phase == 2 || s.ent.phase == 3

/-- `n` fresh random bytes: free values, none used twice. -/
def State.freshBytes (s : State) (n : Nat) : State × Bytes :=
  ({ s with freeNext := s.freeNext + n }, (List.range n).map fun k => Config.freeValue 8 (s.freeNext + k))

/-! ## The pool (R248) -/

/-- The 384 conditioned bits of a reseed: three blocks of the pool, in arrival order, each used once. Blocks of samples that
no command brought are free values (DESIGN CHOICE, log 33). -/
def State.takeEntropy (s : State) : State × Bytes :=
  let have_ := s.ent.pool.take 3
  let r := s.freshBytes (16 * (3 - have_.length))
  ({ r.1 with ent := { r.1.ent with pool := s.ent.pool.drop 3 } }, have_.flatten ++ r.2)

/-! ## Seeding (R255, R256) -/

/-- `ENT_PERS` as committed. -/
def State.persValue (s : State) : Bytes := ((List.range 8).map fun k => leBytes 4 (s.reg .ent (0x120 + 4 * k)).toNat).flatten

/-- The personalisation string of an instantiation: `ENT_PERS`, its stamp, the Stope number, 0xFF for the central DRBG. -/
def State.persString (s : State) (n : Nat) : Bytes := s.persValue ++ leBytes 8 s.stamp ++ leBytes 1 n

/-- A generator that has just been instantiated. -/
def Gen.seeded (entropy pers : Bytes) (at_ : Stamp) : Gen :=
  { live := true, seededAt := at_, seedings := 1, work := Config.prim .drbgSeed [entropy, pers] }

/-- A generator that has just reseeded, with additional input. -/
def Gen.reseeded (g : Gen) (entropy extra : Bytes) (at_ : Stamp) : Gen :=
  { g with requests := 0, seededAt := at_, seedings := g.seedings + 1, persLater := false
           work := Config.prim .drbgReseed [g.work, entropy, extra] }

/-- A generator after one request, with its length and additional input. -/
def Gen.stepped (g : Gen) (len : Nat) (extra : Bytes) : Gen :=
  { g with requests := g.requests + 1, work := Config.prim .drbgNext [g.work, leBytes 4 len, extra] }

/-- What a generator gives on a request. -/
def Gen.give (g : Gen) (len : Nat) (extra : Bytes) : Bytes := fit len (Config.prim .drbgOut [g.work, extra])

/-! ## The central DRBG -/

def State.setCentral (s : State) (g : Gen) : State := { s with ent := { s.ent with central := g } }

/-- The central DRBG is instantiated from the pool. -/
def State.instantiateCentral (s : State) : State :=
  let r := s.takeEntropy
  r.1.setCentral (Gen.seeded r.2 (s.persString 0xFF) s.stamp)

/-- The central DRBG reseeds from the pool; a changed `ENT_PERS` goes with it (R255, R256). -/
def State.centralReseed (s : State) : State :=
  if s.ent.central.live then
    let r := s.takeEntropy
    r.1.setCentral (s.ent.central.reseeded r.2 (if s.ent.central.persLater then s.persValue else []) s.stamp)
  else s

/-- A request at the central DRBG: refused unless it is instantiated and the source has not failed (R259). -/
def State.askCentral (s : State) (len : Nat) : State × Option Bytes :=
  if !s.ent.central.live || s.ent.phase == 4 then (s, none)
  else (s.setCentral (s.ent.central.stepped len []), some (s.ent.central.give len []))

/-- Is a DRBG's reseed due: by its requests, or by its time? -/
def Gen.due (g : Gen) (period : Nat) (now : Stamp) : Bool := decide (4096 ≤ g.requests) || decide (g.seededAt + period ≤ now)

/-- A request of a class, after the reseed that goes before it: every class 1 or class 2 request has one, any other where it
is due (R255). -/
def State.centralFor (s : State) (cls len : Nat) : State × Option Bytes :=
  (if cls ≤ 2 || s.ent.central.due 100000 s.stamp then s.centralReseed else s).askCentral len

/-- A draw from the central DRBG for a consumer: nothing before READY (R252, R254, R257). -/
def State.drawCentral (s : State) (cls len : Nat) : State × Option Bytes :=
  if s.entReady then s.centralFor cls len else (s, none)

/-- A Shaft takes a job: a private RSA one (kind 1) draws its blinding values r1, r2 and v at class 3, and holds them if it
got them (R233, R257, R259). -/
def State.blindJob (s : State) (j : ShaftJob) : State × ShaftJob :=
  if j.kind = 1 then
    match s.drawCentral 3 (16 + rsaK j.set) with
    | (s, some _) => (s, { j with blinded := true })
    | (s, none) => (s, j)
  else (s, j)

/-! ## The Stopes' DRBGs -/

/-- A Stope DRBG's reseed period, `ENT_RESEED.US`, in nanoseconds. -/
def State.reseedPeriod (s : State) : Nat := s.regField .ent 0x114 15 0 * 1000

/-- A Stope DRBG reseeds with 384 bits generated by the central DRBG for that reseed alone, after fresh entropy (R255); a
refusal leaves it zeroed (R259). -/
def State.reseedStope (s : State) (n : Nat) : State × Bool :=
  match s.centralFor 1 48 with
  | (s, some seed) => (s.setGen n ((s.gen n).reseeded seed [] s.stamp), true)
  | (s, none) => (s.setGen n {}, false)

/-- A request at a Stope's DRBG, with additional input. -/
def State.askStope (s : State) (n len : Nat) (extra : Bytes) : State × Option Bytes :=
  let g := s.gen n
  if g.live then (s.setGen n (g.stepped len extra), some (g.give len extra)) else (s, none)

/-- A draw from a Stope's DRBG for a consumer (R254, R255, R259): refused unless it is instantiated and the source READY,
and zeroed where the source has failed since; a reseed that is due comes first. -/
def State.drawStopeWith (s : State) (n len : Nat) (extra : Bytes) : State × Option Bytes :=
  if !(s.gen n).live then (s, none)
  else if !s.entReady then (s.setGen n {}, none)
  else if (s.gen n).due s.reseedPeriod s.stamp then (s.reseedStope n).1.askStope n len extra
  else s.askStope n len extra

def State.drawStope (s : State) (n len : Nat) : State × Option Bytes := s.drawStopeWith n len []

/-! ## The masking generators (R229) -/

/-- The nanoseconds in which a Stope's MRG gives 2^16 outputs, one each Stope cycle. -/
def State.mrgPeriod (s : State) (n : Nat) : Nat := 2 ^ 16 * 1000 / Nat.max 1 (s.stope n).clock

/-- The same for the Lode masking generator, one output each Lode cycle (1.2 GHz). -/
def maskPeriod : Nat := 2 ^ 16 * 1000 / 1200

/-- A Stope's MRG is seeded with 256 bits of its DRBG; a refusal leaves it invalid. -/
def State.seedMrg (s : State) (n : Nat) : State :=
  let g := s.gen n
  if s.ent.phase = 4 then s.setMrg n {}
  else match s.askStope n 32 [] with
    | (s, some _) => s.setMrg n { valid := g.live, seededAt := s.stamp }
    | (s, none) => s.setMrg n {}

/-- The Lode masking generator is seeded with 256 bits of the central DRBG, at class 1. -/
def State.seedMask (s : State) : State :=
  match s.centralFor 1 32 with
  | (s, some _) => { s with lode := { s.lode with maskGen := true, maskAt := s.stamp } }
  | (s, none) => { s with lode := { s.lode with maskGen := false } }

/-- A Stope's MRG as its next draw finds it: reseeded where its 2^16 outputs are over. -/
def State.mrgFresh (s : State) (n : Nat) : State :=
  if (s.mrg n).valid && decide ((s.mrg n).seededAt + s.mrgPeriod n ≤ s.stamp) then s.seedMrg n else s

/-- The Lode masking generator as its next draw finds it. -/
def State.maskFresh (s : State) : State :=
  if s.lode.maskGen && decide (s.lode.maskAt + maskPeriod ≤ s.stamp) then s.seedMask else s

/-! ## Health tests (R249) -/

/-- Where the two continuous tests of a cell stand: the last sample and its run, the window's first sample, its count and
the samples the window has had. -/
def HealthTest.take (h : HealthTest) (b : Byte) : HealthTest :=
  let run := if h.run ≠ 0 ∧ h.last = b then h.run + 1 else 1
  if h.seen = 0 ∨ 512 ≤ h.seen then { last := b, run := run, first := b, count := 1, seen := 1 }
  else { h with last := b, run := run, count := if b = h.first then h.count + 1 else h.count, seen := h.seen + 1 }

/-- The cause of a failure: 1 the 23rd identical sample, 2 the 156th occurrence in a window. -/
def HealthTest.cause (h : HealthTest) : Option Nat :=
  if 23 ≤ h.run then some 1 else if 156 ≤ h.count then some 2 else none

/-- The tests take samples in order: the tests' standing, the highest window count, the samples that went on to the
conditioner, and the cause of the first failure. -/
def healthRun : HealthTest → Nat → Bytes → HealthTest × Nat × Bytes × Option Nat
  | h, top, [] => (h, top, [], none)
  | h, top, b :: r =>
    let g := h.take b
    let top := Nat.max top g.count
    match g.cause with
    | some c => (g, top, [], some c)
    | none => let q := healthRun g top r; (q.1, q.2.1, b :: q.2.2.1, q.2.2.2)

/-- The conditioner takes samples 64 at a time (R248): what is left for the next block, and the blocks. -/
def conditionFuel : Nat → Bytes → Bytes × List Bytes
  | 0, bs => (bs, [])
  | n + 1, bs =>
    if bs.length < 64 then (bs, [])
    else
      let r := conditionFuel n (bs.drop 64)
      (r.1, fit 16 (Config.prim .conditioner [bs.take 64]) :: r.2)

end Sys2Proof.Machine
end

