-- ==== Sys2Proof/Machine/KeyMath.lean ====
section
/-! DEFINITION. The arithmetic of the key checks, bit for bit: the FIPS 203 checks (R111), the padding bits of
code-based keys (R154), the points and scalars of the elliptic curves (R157, R161, R171), RSA values (R166). The curve
constants are those of FIPS 186-5, SP 800-186, RFC 7748 and RFC 8032, which the spec names: PRESUMED, log 11. -/
namespace Sys2Proof.Machine

/-! ## ML-KEM (R111) -/

/-- The 12-bit coefficients that bytes encode, two in three bytes. -/
def coeffs12 : Bytes → List Nat
  | a :: b :: c :: r =>
    (a.toNat + 256 * (b.toNat % 16)) :: (b.toNat / 16 + 16 * c.toNat) :: coeffs12 r
  | _ => []

/-- The bytes of the encoded vector in an ek, 384 for each of its k elements. -/
def kemVec (pp : Nat) : Nat := (kemSizes pp).1 - 32

/-- The modulus check: ByteEncode12(ByteDecode12(ek)) = ek, so every coefficient is below q = 3,329. -/
def modulusOk (pp : Nat) (ek : Bytes) : Bool :=
  ek.length == (kemSizes pp).1 && (coeffs12 (ek.take (kemVec pp))).all fun c => decide (c < 3329)

/-- The ek, the stored H(ek) and z of a dk: dk_PKE ‖ ek ‖ H(ek) ‖ z. -/
def dkEk (pp : Nat) (dk : Bytes) : Bytes := slice dk (kemVec pp) (kemSizes pp).1
def dkHash (pp : Nat) (dk : Bytes) : Bytes := slice dk (kemVec pp + (kemSizes pp).1) 32

/-! ## Code-based keys (R154) -/

/-- Is the last byte of every `n`-byte row below `2^(8 − pad)`? The padding bits are a byte's highest. -/
def rowsPadded (n pad : Nat) : Nat → Bytes → Bool
  | 0, _ => true
  | rows + 1, bs => decide (leField bs (n - 1) 1 < 2 ^ (8 - pad)) && rowsPadded n pad rows (bs.drop n)

/-- The padding bits of a public key are 0: the 1,547 rows of T of mceliece6960119, the last byte of HQC's s. That they
are the highest bits of a byte is DEDUCED, log 11. -/
def paddingOk (f pp : Nat) (pk : Bytes) : Bool :=
  if f = 7 then
    decide (leField pk ((hqcSizes pp).1 - 1) 1 < 2 ^ (8 - (if pp = 2 then 5 else 3)))
  else pp != 7 && pp != 8 || rowsPadded 677 3 1547 pk

/-! ## Elliptic curves -/

/-- b^e mod m, bit by bit. -/
def expMod (m : Nat) : Nat → Nat → Nat → Nat
  | 0, _, _ => 1 % m
  | n + 1, b, e =>
    let r := expMod m n (b * b % m) (e / 2)
    if e % 2 = 1 then b * r % m else r

/-- Does v have a square root modulo an odd prime p below 2^521? -/
def isSquare (p v : Nat) : Bool := v % p == 0 || expMod p 521 (v % p) ((p - 1) / 2) == 1

/-- The inverse modulo a prime p below 2^521; 0 of 0. -/
def invMod (p v : Nat) : Nat := expMod p 521 (v % p) (p - 2)

/-- The field prime of a curve. -/
def ecP : Nat → Nat
  | 0x01 => 2 ^ 256 - 2 ^ 224 + 2 ^ 192 + 2 ^ 96 - 1
  | 0x02 => 2 ^ 384 - 2 ^ 128 - 2 ^ 96 + 2 ^ 32 - 1
  | 0x03 => 2 ^ 521 - 1
  | 0x10 | 0x20 => 2 ^ 255 - 19
  | _ => 2 ^ 448 - 2 ^ 224 - 1

/-- b of a NIST curve y² = x³ − 3x + b. -/
def ecB : Nat → Nat
  | 0x01 => 0x5ac635d8aa3a93e7b3ebbd55769886bc651d06b0cc53b0f63bce3c3e27d2604b
  | 0x02 => 0xb3312fa7e23ee7e4988e056be3f82d19181d9c6efe8141120314088f5013875ac656398d8a2ed19d2a85c8edd3ec2aef
  | _ => 0x51953eb9618e1c9a1f929a21a0b68540eea2da725b99b315f3b8b489918ef109e156193951ec7e937b1652c0bd3bb1bf073573df883d2c34f1ef451fd46b503f00

/-- The order of a signature or NIST curve's base point. -/
def ecN : Nat → Nat
  | 0x01 => 0xffffffff00000000ffffffffffffffffbce6faada7179e84f3b9cac2fc632551
  | 0x02 => 0xffffffffffffffffffffffffffffffffffffffffffffffffc7634d81f4372ddf581a0db248b0a77aecec196accc52973
  | 0x03 => 0x1fffffffffffffffffffffffffffffffffffffffffffffffffffffffffffffffffa51868783bf2f966b7fcc0148f709a5d03bb5c9b8899c47aebb6fb71e91386409
  | 0x10 => 2 ^ 252 + 27742317777372353535851937790883648493
  | _ => 2 ^ 446 - 13818066809895115352007386748515426880336692474882178609894547503885

/-- x³ − 3x + b of a NIST curve, modulo p. -/
def nistRhs (pp x : Nat) : Nat :=
  let p := ecP pp
  (x * x % p * x + (p - 3) * x + ecB pp) % p

/-- Is a SEC1 point's first byte right for its length (R161)? -/
def sec1Ok (pp : Nat) (b : Bytes) : Bool :=
  (b.length == (ecSizes pp).2.1 && leField b 0 1 == 4) ||
  (b.length == ecCompressed pp && (leField b 0 1 == 2 || leField b 0 1 == 3))

/-- The coordinates of a SEC1 point; of a compressed one, x alone. -/
def sec1X (pp : Nat) (b : Bytes) : Nat := ofBe (slice b 1 (ecSizes pp).1)
def sec1Y (pp : Nat) (b : Bytes) : Nat := ofBe (slice b (1 + (ecSizes pp).1) (ecSizes pp).1)

/-- A NIST point: coordinates below p, on the curve, or with a square root for its x. -/
def nistPoint (pp : Nat) (b : Bytes) : Bool :=
  let p := ecP pp
  let x := sec1X pp b
  decide (x < p) &&
    (if leField b 0 1 = 4 then decide (sec1Y pp b < p) && sec1Y pp b * sec1Y pp b % p == nistRhs pp x
     else isSquare p (nistRhs pp x))

/-- A NIST point as it is held, uncompressed: the root has the parity that the first byte of a compressed one names (R156).
Every prime here is 3 modulo 4. -/
def unpacked (pp : Nat) (b : Bytes) : Bytes :=
  if ecNist pp && b.length == ecCompressed pp then
    let p := ecP pp
    let n := (ecSizes pp).1
    let y := expMod p 521 (nistRhs pp (sec1X pp b)) ((p + 1) / 4)
    let y := if y % 2 = leField b 0 1 % 2 then y else (p - y) % p
    [4] ++ slice b 1 n ++ beBytes n y
  else b

/-- The Edwards curves a·x² + y² = 1 + d·x²·y²: whether a is −1, and d. -/
def edD (pp : Nat) : Nat :=
  if pp = 0x10 then 0x52036cee2b6ffe738cc740797779e89800700a4d4141d8ab75eb4dca135978a3 else ecP pp - 39081

/-- Numerator and denominator of x² from y² = w, modulo p. -/
def edX2 (pp w : Nat) : Nat × Nat :=
  let p := ecP pp
  if pp = 0x10 then ((w + p - 1) % p, (edD pp * w + 1) % p)
  else ((p + 1 - w) % p, (1 + (p - edD pp) * w) % p)

/-- y of the doubled point: the doubling of an Edwards point reads x only through x². -/
def edDouble (pp y : Nat) : Nat :=
  let p := ecP pp
  let w := y * y % p
  let x := edX2 pp w
  let x2 := x.1 * invMod p x.2 % p
  let t := edD pp * x2 % p * w % p
  (if pp = 0x10 then w + x2 else w + p - x2) % p * invMod p (p + 1 - t) % p

/-- y of the point doubled n times. -/
def edTimes (pp : Nat) : Nat → Nat → Nat
  | 0, y => y
  | n + 1, y => edTimes pp n (edDouble pp y)

/-- The bits of y in an Edwards point's encoding; the bit above them is the sign of x. -/
def edBits (pp : Nat) : Nat := if pp = 0x10 then 255 else 455

/-- An Edwards point: y below p, x recoverable, not x = 0 with sign 1, not of small order (cofactors 8 and 4). -/
def edPoint (pp : Nat) (b : Bytes) : Bool :=
  let p := ecP pp
  let v := ofLe b
  let y := v % 2 ^ edBits pp
  let x := edX2 pp (y * y % p)
  decide (y < p) && isSquare p (x.1 * x.2) && !(x.1 == 0 && v / 2 ^ edBits pp == 1) &&
    edTimes pp (if pp = 0x10 then 3 else 2) y != 1

/-- A Montgomery u doubled n times, as X : Z; Z is 0 exactly at infinity. -/
def montTimes (p a : Nat) : Nat → Nat → Nat → Nat
  | 0, _, z => z
  | n + 1, x, z =>
    let x2 := x * x % p
    let z2 := z * z % p
    let d := (x2 + p - z2) % p
    montTimes p a n (d * d % p) (4 * x % p * z % p * ((x2 + a * x % p * z + z2) % p) % p)

/-- A Montgomery u: below p, X25519's bit 255 ignored, of an order that does not divide the cofactor. -/
def montPoint (pp : Nat) (b : Bytes) : Bool :=
  let p := ecP pp
  let u := if pp = 0x20 then ofLe b % 2 ^ 255 else ofLe b
  decide (u < p) && montTimes p (if pp = 0x20 then 486662 else 156326) (if pp = 0x20 then 3 else 2) u 1 != 0

/-- The failing checks of a public key, peer key or ciphertext point (R161). -/
def pointFails (pp : Nat) (b : Bytes) : List Status :=
  if ecNist pp then (if !sec1Ok pp b then [.encodingInvalid] else if nistPoint pp b then [] else [.pointInvalid])
  else if (if pp = 0x10 ∨ pp = 0x11 then edPoint pp b else montPoint pp b) then [] else [.pointInvalid]

/-- Is a NIST private value, r or s in 1 to n − 1 (R171)? -/
def scalarOk (pp : Nat) (b : Bytes) : Bool := decide (0 < ofBe b) && decide (ofBe b < ecN pp)

/-- A NIST private value or nonce from random or derived bytes: (x mod (n − 1)) + 1 (R212; for drawn ones the method of
FIPS 186-5 with extra random bits: PRESUMED, log 11). -/
def scalarFrom (pp : Nat) (x : Bytes) : Bytes := beBytes (ecSizes pp).1 (ofBe x % (ecN pp - 1) + 1)

/-- RFC 7748's clamping of a Montgomery private value; another curve's is kept (R157). -/
def clamped (pp : Nat) (k : Bytes) : Bytes :=
  match pp with
  | 0x20 => leBytes 32 (ofLe k % 2 ^ 254 / 8 * 8 + 2 ^ 254)
  | 0x21 => leBytes 56 (ofLe k % 2 ^ 447 / 4 * 4 + 2 ^ 447)
  | _ => k

/-- Bytes drawn for a private value: 8 more than its length on a NIST curve, so that its reduction is even. -/
def ecDrawLen (pp : Nat) : Nat := if ecNist pp then (ecSizes pp).1 + 8 else (ecSizes pp).1

/-- A private value from drawn or derived bytes (R157, R212). -/
def ecPrivate (pp : Nat) (x : Bytes) : Bytes := if ecNist pp then scalarFrom pp x else clamped pp x

/-- Can the R and S, or r and s, of a signature be accepted (R161)? -/
def ecSigOk (pp : Nat) (sig : Bytes) : Bool :=
  let h := (ecSizes pp).2.2.1 / 2
  if ecNist pp then scalarOk pp (slice sig 0 h) && scalarOk pp (slice sig h h)
  else (pointFails pp (slice sig 0 h)).isEmpty && decide (ofLe (slice sig h h) < ecN pp)

/-! ## RSA (R162, R166) -/

/-- n and e of a public key n ‖ e. -/
def rsaN (pp : Nat) (pub : Bytes) : Nat := ofBe (slice pub 0 (rsaK pp))
def rsaE (pp : Nat) (pub : Bytes) : Nat := ofBe (slice pub (rsaK pp) 4)

/-- n odd and of exactly the code's bit length, e odd and at least 3. -/
def rsaPubOk (pp : Nat) (pub : Bytes) : Bool :=
  let n := rsaN pp pub
  n % 2 == 1 && decide (2 ^ (256 * pp - 1) ≤ n) && rsaE pp pub % 2 == 1 && decide (3 ≤ rsaE pp pub)

/-- May s be a signature: not 0, 1 or ≥ n? -/
def rsaSigOk (pp : Nat) (pub sig : Bytes) : Bool := decide (1 < ofBe sig) && decide (ofBe sig < rsaN pp pub)

/-- May c be a ciphertext: not 0, 1, n − 1 or ≥ n? -/
def rsaCtOk (pp : Nat) (pub c : Bytes) : Bool := decide (1 < ofBe c) && decide (ofBe c + 1 < rsaN pp pub)

end Sys2Proof.Machine
end

