-- ==== Sys2Proof/Machine/OpBase.lean ====
section
/-! DEFINITION. What every operation's kernel shares: the guard under which it runs, its randomness (R120, R230,
R255, R259), content checks and equalised failures (R130, R140, R207), cold expansions (R126, R400), and INFO's HIT
bit (R121). -/
namespace Sys2Proof.Machine

/-! ## Generators -/

/-- The class of an operation's draws (R257). -/
def drawClass (k : Option OpKind) : Nat :=
  if [some OpKind.kemKeygen, some .dsaKeygen, some .slhKeygen, some .mceKeygen, some .hqcKeygen, some .ecKeygen, some .rsaKeygen,
      some .stfKeygen, some .symGen, some .keyReplace].contains k then 2
  else if k = some .random then 4 else 3

/-- A draw for an operation: from its Stope's DRBG, or, for a Shaft job and for Lode, from the central one (R257). RANDOM's
additional input goes into each of its draws (R170, R256). -/
def State.drawFor (s : State) (x : Entry) (len : Nat) : State × Option Bytes :=
  match x.target with
  | .stope n _ _ => s.drawStopeWith n len (if x.desc.kind = some .random then x.aux else [])
  | _ => s.drawCentral (drawClass x.desc.kind) len

/-- Does a Shaft job hold its blinding values (R233, R259)? -/
def State.blindHeld (s : State) (e : Nat) (x : Entry) : Bool :=
  match x.target with
  | .shaft n =>
    let held (j : Option ShaftJob) : Bool := match j with | some j => j.entry == e && j.blinded | none => false
    held (s.shaft n).main || held (s.shaft n).inner
  | _ => false

/-- Does an operation still have the masking randomness it needs (R120, R230, R259)? A Stope's MRG, or the blinding
values a Shaft job already holds. -/
def State.maskOk (s : State) (e : Nat) (x : Entry) : Bool :=
  match x.target with
  | .stope n _ _ => (s.mrg n).valid && s.ent.phase != 4
  | .shaft _ => s.blindHeld e x || s.entReady
  | _ => s.lode.maskGen

/-! ## The guard -/

/-- Is the Sluice work before the kernel over? -/
def Entry.hashed (x : Entry) : Bool := x.sluice == .none || x.sluice == .hashed

/-- May the kernel of entry `e` reach its outcome: dispatched, started where it runs on a Stope, no stop under way,
nothing awaited, and its opcode of kind `k`? A suspended Shaft job may not. -/
def State.running (s : State) (e : Nat) (k : OpKind) : Option Entry :=
  match s.entry e with
  | some x =>
    if x.live && x.desc.kind == some k && x.await == .none && x.hashed &&
      (match x.target with
        | .stope _ _ _ => x.started
        | .shaft n =>
          ((s.shaft n).wipeMain == 0 && (match (s.shaft n).inner with | some j => j.entry == e | none => false)) ||
          ((s.shaft n).inner.isNone && (s.shaft n).wipeYield == 0 &&
            (match (s.shaft n).main with | some j => j.entry == e | none => false))
        | .none => true
        | .worker _ => false)
    then some x else none
  | none => none

/-- Does T_err grow with an operation's data, so that no one number of a header gives it (R140, R207)? -/
def growing (k : OpKind) : Bool :=
  [.slhSign, .hmac, .hmacVerify, .kmac, .kmacVerify, .kdf, .gcmSeal, .gcmOpen, .keyWrap, .keyUnwrap, .keyReplace,
   .treeDerive].contains k

/-- What the loaded pack declares for the kernel an operation runs (R83, R375): TEQ or TERR, 0 for none. -/
def State.declaredTime (s : State) (e : Nat) (eqt : Bool) : Nat :=
  match s.run e with
  | some r => if eqt then r.kernel.tEq else r.kernel.tErr
  | none => 0

/-- The release point of a signature under EQT, from its dispatch (R122): the pack's TEQ, which is that of R131. -/
def State.eqtTime (s : State) (e : Nat) (k : OpKind) (x : Entry) : Nat :=
  let t := s.declaredTime e true
  if t = 0 then tEq k (opParam x.desc.opcode) else t

/-- The T_err or T_eq of an operation (R83, R122, R131, R140, R207): what its kernel's pack declares, counted on the
descriptor and the key object where the rule counts their data. -/
def State.equalTime (s : State) (e : Nat) (k : OpKind) (x : Entry) : Nat :=
  let t := s.declaredTime e false
  if x.desc.eqt then s.eqtTime e k x
  else if t ≠ 0 ∧ growing k = false then t
  else
    let i := handleIndex x.desc.key
    let o := s.obj i
    match k with
    | .kmac | .kmacVerify => tErr k x.desc (leField x.aux 0 1) 0 0
    | .keyUnwrap => tErr k x.desc (leField x.aux 8 4) 0 0
    | .treeDerive => tErr k x.desc 0 (leField x.aux 2 2) (leField x.aux 0 1)
    | .keyWrap =>
      tErr k x.desc (materialLen o.attr.kind o.attr.alg o.attr.keyLen) o.attr.alg o.attr.kind +
        (if o.computed then 0 else 3000)
    | .keyReplace =>
      if x.desc.mode = 2 then
        tErr k x.desc (leField x.aux 8 4) o.attr.alg o.attr.kind +
          (match leField x.aux 6 1 with | 2 => 9000 | 3 => 12000 | _ => 0)
      else tErr k x.desc 0 o.attr.alg o.attr.kind
    | _ => tErr k x.desc 0 0 0

/-- The failing check with the lowest code (R130). -/
def lowest : List Status → Option Status
  | [] => none
  | a :: r =>
    match lowest r with
    | some b => if b.code < a.code then some b else some a
    | none => some a

/-- INFO's HIT bit (R121). -/
def hitInfo (x : Entry) : Nat := if x.hit then 0x10000 else 0

/-- A failing content check: held for a secret-using operation, at once for a public one (R130). INFO reports the
expansion that was streamed, and no iteration (R121). -/
def State.failContent (s : State) (e : Nat) (k : OpKind) (x : Entry) (st : Status) : State :=
  let s := if x.hit then s.modEntry e fun y => { y with info := hitInfo x } else s
  if secretUsing k x.desc.options && !(k == .keyReplace && x.desc.mode == 0 && s.toShaft k x.desc) then
    s.hold e st (s.equalTime e k x)
  else s.finish e st

/-- Run a kernel's work behind the guard: `fails` are the content checks that failed; otherwise `act` gives the outcome.
Without the randomness it needs it ends as NO_ENTROPY, at once: a secret-using kernel, whose masking needs it, before its
checks (R130, R230), a public one after them, where it would draw (R112, R136, R154). -/
def State.kernel (s : State) (e : Nat) (k : OpKind) (fails : State → Entry → List Status)
    (act : State → Entry → State) : State :=
  match s.running e k with
  | none => s
  | some x =>
    let dry := needsEntropy k x.desc.options && !s.maskOk e x
    if dry && secretUsing k x.desc.options then s.finish e .noEntropy
    else match lowest (fails s x) with
      | some st => s.failContent e k x st
      | none => if dry then s.finish e .noEntropy else act s x

/-- Draw for an operation, or end it as NO_ENTROPY. -/
def State.withDraw (s : State) (e : Nat) (x : Entry) (len : Nat) (f : State → Bytes → State) : State :=
  match s.drawFor x len with
  | (s, some bs) => f s bs
  | (s, none) => s.finish e .noEntropy

/-- A value supplied by an option, or drawn. -/
def State.seedOr (s : State) (e : Nat) (x : Entry) (given : Bool) (bs : Bytes) (len : Nat) (f : State → Bytes → State) :
    State := if given then f s bs else s.withDraw e x len f

/-- A private RSA job computes on blinded values: those it holds, else drawn now (R233). -/
def State.blindRsa (s : State) (e : Nat) (x : Entry) (f : State → State) : State :=
  if s.blindHeld e x then f s else s.withDraw e x (16 + rsaK (opParam x.desc.opcode)) fun s _ => f s

/-- A point multiplication by a secret scalar draws 64 bits of scalar blinding and the coordinate Z (R235, R257). -/
def State.blindCurve (s : State) (e : Nat) (x : Entry) (pp : Nat) (f : State → State) : State :=
  s.withDraw e x (8 + (ecSizes pp).1) fun s _ => f s

/-- The same where a key pair of an ALG is one of a curve. -/
def State.blindPair (s : State) (e : Nat) (x : Entry) (alg : Nat) (f : State → State) : State :=
  if opFamily alg = 8 then s.blindCurve e x (opParam alg) f else f s

/-- Lode stores the expansion that a cold use of a key by handle hands over with its COMMIT, where the tenant keeps them
(R126, R400). -/
def State.keepExpansion (s : State) (x : Entry) : State :=
  if x.desc.key = 0 || x.hit || !x.keepExp then s else (s.storeExpansion x.tenant x.desc.key x.desc.reshint).1

/-- A cold use of a key by handle may store its expansion with the COMMIT (R126, R400), and the use counts as a hit
or a miss of an expandable key (R520). -/
def State.coldExpand (s : State) (x : Entry) : State :=
  if x.desc.key = 0 then s
  else (s.pmu (if x.hit then 0x24 else 0x25) x.tenant none none 1).keepExpansion x

/-- The public key an operation uses: by value from the auxiliary buffer, or of the object it was bound to. -/
def Entry.pubKey (x : Entry) (len : Nat) : Bytes :=
  if x.desc.key = 0 then slice x.aux 0 len else match x.bound1 with | some b => b.pub | none => []

/-- The second public key, `off` bytes into the auxiliary buffer when by value. -/
def Entry.pubKey2 (x : Entry) (off len : Nat) : Bytes :=
  if x.desc.key2 = 0 then slice x.aux off len else match x.bound2 with | some b => b.pub | none => []

/-- The secret material an operation was bound to. -/
def Entry.secret (x : Entry) : Bytes := match x.bound1 with | some b => b.secret | none => []
def Entry.secret2 (x : Entry) : Bytes := match x.bound2 with | some b => b.secret | none => []

/-- A hash by its R167 code, to its digest length. -/
def hashOf (code : Nat) (m : Bytes) : Bytes := fit (hashLen code) (Config.prim (.hash code) [m])

/-- SHAKE256 to `n` bytes. -/
def shake256 (n : Nat) (m : Bytes) : Bytes := fit n (Config.prim (.hash 0x0C) [m])

/-- SHA3-256. -/
def sha3 (m : Bytes) : Bytes := hashOf 0x08 m

/-- KMAC256 to 32 bytes. -/
def kmac32 (key msg : Bytes) (custom : String) : Bytes :=
  fit 32 (Config.prim (.kmac 2 false 32) [key, msg, ascii custom])

/-- The FIPS 203 checks of an ML-KEM key that enters Lode (R111): the ek's length and modulus; for a key pair also H(ek)
against the copy in dk. -/
def kemEntryOk (pp : Nat) (pub : Bytes) (dk : Option Bytes) : Bool :=
  modulusOk pp pub && (match dk with | some d => sha3 (dkEk pp d) == dkHash pp d | none => true)

/-- A pre-hash PH(M) (R117). -/
def preHash (ph : Nat) (m : Bytes) : Bytes := fit (phLen ph) (Config.prim (.hash (phHash ph)) [m])

end Sys2Proof.Machine
end

