-- ==== Sys2Proof/Machine/Lattice.lean ====
section
/-! DEFINITION. The operations of families 0x1, 0x2 and 0xD (chapter 04): ML-KEM, ML-DSA, expansions, composites. -/
namespace Sys2Proof.Machine

/-! ## ML-KEM -/

/-- A lattice key's tr = SHAKE256(pk, 64) (R115). -/
def trOf (pk : Bytes) : Bytes := shake256 64 pk

/-- A fresh key pair of an ALG: public part and private encoding from a seed or, on a curve, the private value (R110,
R115, R142, R150, R157, R165, R210). dk is dk_PKE ‖ ek ‖ H(ek) ‖ z; sk of SLH-DSA its three seeds ‖ PK.root; an RSA
private key n ‖ e and the CRT parts, with e = 65,537. -/
def keyPair (alg : Nat) (seed : Bytes) : Bytes × Bytes :=
  let f := opFamily alg
  let pp := opParam alg
  match f with
  | 1 =>
    let ek := fit (pubLen alg) (Config.prim (.kemPub pp) [seed])
    (ek, fit (kemVec pp) (Config.prim (.kemPke pp) [seed]) ++ ek ++ sha3 ek ++ slice seed 32 32)
  | 2 => (fit (pubLen alg) (Config.prim (.dsaPub pp) [seed]), fit (secLen alg) (Config.prim (.dsaSec pp) [seed]))
  | 3 =>
    let n := slhN pp
    let root := fit n (Config.prim (.slhRoot pp) [slice seed 0 n, slice seed (2 * n) n])
    (slice seed (2 * n) n ++ root, slice seed 0 (3 * n) ++ root)
  | 8 =>
    let k := fit (secLen alg) (clamped pp seed)
    (fit (pubLen alg) (Config.prim (.ecPub pp) [k]), k)
  | 9 =>
    let pub := fit (rsaK pp) (Config.prim (.rsaMod pp) [seed]) ++ beBytes 4 65537
    (pub, pub ++ fit (5 * (rsaK pp / 2)) (Config.prim (.rsaCrt pp) [seed]))
  | _ => (fit (pubLen alg) (Config.prim (.codePub f pp) [seed]), fit (secLen alg) (Config.prim (.codeSec f pp) [seed]))

/-- The seed bytes that a key generation is given (R110, R115, R143, R150, R157). -/
def seedLen (alg : Nat) : Nat :=
  let pp := opParam alg
  match opFamily alg with
  | 1 => 64
  | 2 => 32
  | 3 => 3 * slhN pp
  | 8 => (ecSizes pp).1
  | _ => 32

/-- The bytes that it draws, and the seed they make (R157). -/
def drawLen (alg : Nat) : Nat := if opFamily alg = 8 then ecDrawLen (opParam alg) else seedLen alg
def drawnSeed (alg : Nat) (r : Bytes) : Bytes := if opFamily alg = 8 then ecPrivate (opParam alg) r else r

/-- A pairwise consistency test: one encapsulation with its decapsulation, one signature with its verification, or the
public value computed again (R110, R115, R151, R157, R165). -/
def pairTest (alg : Nat) (pub sec : Bytes) : Bool :=
  let f := opFamily alg
  let pp := opParam alg
  let t := fit 32 Config.testBytes
  match f with
  | 1 => fit 32 (Config.prim (.kemDec pp) [sec, fit (kemSizes pp).2.2 (Config.prim (.kemCt pp) [pub, t])]) ==
      fit 32 (Config.prim (.kemKey pp) [pub, t])
  | 2 =>
    let mu := shake256 64 (trOf pub ++ [0, 0] ++ t)
    Config.holds (.dsaVerify pp)
      [pub, mu, fit (dsaSizes pp).2.2 (Config.prim (.dsaSig pp) [sec, mu, slice Config.testBytes 32 32])]
  | 6 | 7 =>
    let r := fit 64 Config.testBytes
    fit (codeK f) (Config.prim (.codeDec f pp) [sec, fit (codeSizes f pp).2 (Config.prim (.codeCt f pp) [pub, r])]) ==
      fit (codeK f) (Config.prim (.codeKey f pp) [pub, r])
  | 8 =>
    let n := (ecSizes pp).2.2.1
    if n = 0 then fit (pubLen alg) (Config.prim (.ecPub pp) [sec]) == pub
    else
      let sig := fit n (if ecNist pp then Config.prim (.ecSig pp) [sec, t, scalarFrom pp Config.testBytes]
        else Config.prim (.edSig pp 0) [sec, t, []])
      ecSigOk pp sig && Config.holds (.ecVerify pp 0) [pub, t, sig]
  | 9 =>
    let sig := fit (rsaK pp) (Config.prim (.rsaSig pp 0) [sec, t, []])
    rsaSigOk pp pub sig && Config.holds (.rsaVerify pp 0) [pub, t, sig]
  | _ => true

/-- What a new key pair must pass: an ML-KEM pair the checks of R111; SLH-DSA's PK.root, computed twice (R145); any other
its pairwise consistency test. -/
def pairOk (alg : Nat) (kp : Bytes × Bytes) : Bool :=
  let pp := opParam alg
  match opFamily alg with
  | 1 => kemEntryOk pp kp.1 (some kp.2) && pairTest alg kp.1 kp.2
  | 3 =>
    let n := slhN pp
    slice kp.1 n n == fit n (Config.prim (.slhRoot pp) [slice kp.2 0 n, slice kp.2 (2 * n) n]) &&
      Config.holds (.recompute 3 pp) [kp.1, kp.2]
  | _ => pairTest alg kp.1 kp.2

/-- A key generation's object from its attribute block. -/
def newPair (x : Entry) (kp : Bytes × Bytes) : Obj :=
  { attr := attrOf (slice x.aux 0 32), pub := kp.1, secret := kp.2 }

/-- Key generation of an engine family: seed, pair, consistency test, object (R109, R110, R115, R145, R150, R157).
A seed given for an ECDSA or ECDH key must be in range (R171). -/
def State.keygen (s : State) (e : Nat) (k : OpKind) : State :=
  s.kernel e k
    (fun _ x =>
      let pp := opParam x.desc.opcode
      if k == .ecKeygen && x.desc.opt 0 && ecNist pp && !scalarOk pp (slice x.aux 32 (ecSizes pp).1)
      then [.valueRange] else [])
    (fun s x =>
      let alg := opAlg x.desc.opcode
      s.seedOr e x (x.desc.opt 0) (slice x.aux 32 (seedLen alg)) (drawLen alg) fun s r =>
        s.blindPair e x alg fun s =>
          let kp := keyPair alg (if x.desc.opt 0 then r else drawnSeed alg r)
          if pairOk alg kp then s.createObject e (newPair x kp) kp.1 0
          else s.failContent e k x .keyCheckFail)

def execKemKeygen (e : Nat) (s : State) : Out := s.clocked (.next (s.keygen e .kemKeygen))

/-- KEM_ENCAPS (R112): the modulus check of a key by value, then c ‖ K. -/
def State.kemEncaps (s : State) (e : Nat) : State :=
  s.kernel e .kemEncaps
    (fun _ x =>
      let pp := opParam x.desc.opcode
      if x.desc.key == 0 && !modulusOk pp (slice x.aux 0 (kemSizes pp).1) then [.keyCheckFail] else [])
    (fun s x =>
      let pp := opParam x.desc.opcode
      let ekLen := (kemSizes pp).1
      let ek := x.pubKey ekLen
      let off := if x.desc.key = 0 then ekLen else 0
      s.seedOr e x (x.desc.opt 0) (slice x.aux off 32) 32 fun s m =>
        (s.coldExpand x).commitOut e
          (fit (kemSizes pp).2.2 (Config.prim (.kemCt pp) [ek, m]) ++ fit 32 (Config.prim (.kemKey pp) [ek, m])) (hitInfo x))

def execKemEncaps (e : Nat) (s : State) : Out := s.clocked (.next (s.kemEncaps e))

/-- KEM_DECAPS (R113): K, or the implicit-rejection key; always OK. -/
def State.kemDecaps (s : State) (e : Nat) : State :=
  s.kernel e .kemDecaps (fun _ _ => [])
    (fun s x => (s.coldExpand x).commitOut e
      (fit 32 (Config.prim (.kemDec (opParam x.desc.opcode)) [x.secret, x.aux])) (hitInfo x))

def execKemDecaps (e : Nat) (s : State) : Out := s.clocked (.next (s.kemDecaps e))

/-- KEM_EKCHECK (R114). -/
def execKemEkcheck (e : Nat) (s : State) : Out :=
  s.clocked (.next (s.kernel e .kemEkcheck
    (fun _ x => if modulusOk (opParam x.desc.opcode) x.aux then [] else [.keyCheckFail])
    (fun s _ => s.commitOut e [] 0)))

/-- Is an expansion of the key that an operation names resident, at the generation it was bound to? -/
def State.resident (s : State) (x : Entry) : Bool :=
  s.handleStatus x.tenant x.desc.key == none && (s.obj (handleIndex x.desc.key)).expGran != 0

/-- EXPAND (R126, R121): a resident expansion counts as used; otherwise Lode stores the one handed over, evicting.
INFO bit [16] says whether one is resident when the outcome is decided. Where one was stored while the kernel ran, it too
counts as used: DESIGN CHOICE, log 30. -/
def State.expand (s : State) (e : Nat) (k : OpKind) : State :=
  s.kernel e k (fun _ _ => [])
    (fun s x =>
      if s.resident x then (s.useExpansion (handleIndex x.desc.key)).commitOut e [] 0x10000
      else
        let r := s.storeExpansion x.tenant x.desc.key true
        r.1.commitOut e [] (if r.2 then 0x10000 else 0))

def execKemExpand (e : Nat) (s : State) : Out := s.clocked (.next (s.expand e .kemExpand))
def execDsaExpand (e : Nat) (s : State) : Out := s.clocked (.next (s.expand e .dsaExpand))

/-- EVICT (R127): OK whether or not an expansion was resident. -/
def State.evict (s : State) (e : Nat) (k : OpKind) : State :=
  s.kernel e k (fun _ _ => []) (fun s x => (s.dropExpansion (handleIndex x.desc.key)).commitOut e [] 0)

def execKemEvict (e : Nat) (s : State) : Out := s.clocked (.next (s.evict e .kemEvict))
def execDsaEvict (e : Nat) (s : State) : Out := s.clocked (.next (s.evict e .dsaEvict))

/-! ## ML-DSA -/

def execDsaKeygen (e : Nat) (s : State) : Out := s.clocked (.next (s.keygen e .dsaKeygen))

/-- M′ ahead of the message in pure mode, whole in HashML-DSA and HashSLH-DSA (R118, R144). -/
def mPrime (prehash : Bool) (ctx : Bytes) (ph : Nat) (m : Bytes) : Bytes :=
  (if prehash then [1] else [0]) ++ leBytes 1 ctx.length ++ ctx ++ (if prehash then phOid ph else []) ++ m

/-- CTXLEN and context at an offset of the auxiliary buffer. -/
def ctxAt (aux : Bytes) (off : Nat) : Bytes := slice aux (off + 1) (leField aux off 1)

/-- μ = SHAKE256(tr ‖ M′, 64) (R118). -/
def muOf (pk m' : Bytes) : Bytes := shake256 64 (trOf pk ++ m')

/-- The iteration count that a signing loop reports, at least 1 (R121). -/
def iterations (pp : Nat) (sk mu rnd : Bytes) : Nat := Nat.max 1 (leField (Config.prim (.dsaIter pp) [sk, mu, rnd]) 0 2)

/-- A signature commits, or under EQT waits for its release point with INFO's count 0 (R121, R122). -/
def State.commitSig (s : State) (e : Nat) (k : OpKind) (x : Entry) (sig : Bytes) (iters : Nat) : State :=
  if x.desc.eqt then (s.coldExpand x).eqtCommit e sig (hitInfo x) (s.eqtTime e k x)
  else (s.coldExpand x).commitOut e sig (iters + hitInfo x)

/-- DSA_SIGN (R116, R119, R120): hedged unless DET. With the finding of R119 it signs a drawn substitute μ, discards the
signature, and is held (R239). -/
def State.dsaSign (s : State) (e : Nat) : State :=
  s.kernel e .dsaSign (fun _ _ => [])
    (fun s x =>
      let pp := opParam x.desc.opcode
      let mu := if x.desc.mode = 2 then fit 64 x.input else fit 64 x.digest
      if x.lenFault then
        s.withDraw e x 64 fun s _ => s.seedOr e x (x.desc.opt 2) [] 32 fun s _ => s.failContent e .dsaSign x .lengthMismatch
      else s.seedOr e x (x.desc.opt 2) (List.replicate 32 0) 32 fun s rnd =>
        s.commitSig e .dsaSign x (fit (dsaSizes pp).2.2 (Config.prim (.dsaSig pp) [x.secret, mu, rnd]))
          (iterations pp x.secret mu rnd))

def execDsaSign (e : Nat) (s : State) : Out := s.clocked (.next (s.dsaSign e))

/-- DSA_VERIFY (R124): VERIFY_REJECT for every failure in the signature's content. -/
def State.dsaVerify (s : State) (e : Nat) : State :=
  s.kernel e .dsaVerify (fun _ x => if x.lenFault then [.lengthMismatch] else [])
    (fun s x =>
      let pp := opParam x.desc.opcode
      let z := dsaSizes pp
      let mu := if x.desc.mode = 2 then fit 64 x.input else fit 64 x.digest
      let sig := slice x.aux (x.desc.auxLen - z.2.2) z.2.2
      let s := s.coldExpand x
      if Config.holds (.dsaVerify pp) [x.pubKey z.1, mu, sig] then s.commitOut e [] (hitInfo x)
      else s.commitReject e (hitInfo x))

def execDsaVerify (e : Nat) (s : State) : Out := s.clocked (.next (s.dsaVerify e))

/-! ## Composites -/

/-- The KEM combiner's Z (R135). -/
def combinerZ (id : Nat) (ssPq ssTrad cTrad pkTrad cPq : Bytes) : Bytes :=
  ascii "FVCK" ++ leBytes 1 id ++ ssPq ++ ssTrad ++ cTrad ++ pkTrad ++ sha3 cPq

/-- Composite encapsulation (R134 to R136): both keys by value are checked before anything is drawn. -/
def State.compEncaps (s : State) (e : Nat) : State :=
  s.kernel e .compEncaps
    (fun _ x =>
      let p := pairOf (opParam x.desc.opcode)
      let ekLen := (kemSizes p.lat).1
      let off := if x.desc.key = 0 then ekLen else 0
      (if x.desc.key == 0 && !modulusOk p.lat (slice x.aux 0 ekLen) then [.keyCheckFail] else []) ++
      (if x.desc.key2 == 0 then pointFails p.ec (slice x.aux off p.pub) else []))
    (fun s x =>
      let id := opParam x.desc.opcode
      let p := pairOf id
      let ekLen := (kemSizes p.lat).1
      let ek := x.pubKey ekLen
      let pk := x.pubKey2 (if x.desc.key = 0 then ekLen else 0) p.pub
      s.withDraw e x (32 + ecDrawLen p.ec) fun s r => s.blindCurve e x p.ec fun s =>
        let m := slice r 0 32
        let eph := ecPrivate p.ec (slice r 32 (ecDrawLen p.ec))
        let cPq := fit (kemSizes p.lat).2.2 (Config.prim (.kemCt p.lat) [ek, m])
        let cTrad := fit p.ct (Config.prim (.ecPub p.ec) [eph])
        let ssTrad := fit p.ss (Config.prim (.ecShared p.ec) [eph, pk])
        let z := combinerZ id (fit 32 (Config.prim (.kemKey p.lat) [ek, m])) ssTrad cTrad pk cPq
        (s.coldExpand x).commitOut e (cPq ++ cTrad ++ sha3 z) (hitInfo x))

def execCompositeEncaps (e : Nat) (s : State) : Out := s.clocked (.next (s.compEncaps e))

/-- Composite decapsulation (R136): c_trad is checked before either private key is used; a failure is
POINT_INVALID. -/
def State.compDecaps (s : State) (e : Nat) : State :=
  s.kernel e .compDecaps
    (fun _ x =>
      let p := pairOf (opParam x.desc.opcode)
      if (pointFails p.ec (slice x.aux (kemSizes p.lat).2.2 p.ct)).isEmpty then [] else [.pointInvalid])
    (fun s x =>
      let id := opParam x.desc.opcode
      let p := pairOf id
      let ctLen := (kemSizes p.lat).2.2
      let cPq := slice x.aux 0 ctLen
      let cTrad := slice x.aux ctLen p.ct
      let pk := match x.bound2 with | some b => b.pub | none => []
      let ssTrad := fit p.ss (Config.prim (.ecShared p.ec) [x.secret2, cTrad])
      let z := combinerZ id (fit 32 (Config.prim (.kemDec p.lat) [x.secret, cPq])) ssTrad cTrad pk cPq
      s.blindCurve e x p.ec fun s => (s.coldExpand x).commitOut e (sha3 z) (hitInfo x))

def execCompositeDecaps (e : Nat) (s : State) : Out := s.clocked (.next (s.compDecaps e))

/-- The signature combiner's M′ (R137): `h` is SHA-512(M). -/
def combinerM (id : Nat) (ctx h : Bytes) : Bytes := ascii "FVCS" ++ leBytes 1 id ++ leBytes 1 ctx.length ++ ctx ++ h

/-- What the classical half signs: M′ itself, or its SHA-256 or SHA-384 digest under ECDSA (R137). -/
def tradMessage (ec : Nat) (m' : Bytes) : Bytes :=
  match ec with
  | 1 => hashOf 0x02 m'
  | 2 => hashOf 0x03 m'
  | _ => m'

/-- The hash of R117 that a composite's ECDSA half uses (R133). -/
def tradHash (ec : Nat) : Nat := if ec = 1 then 0 else 1

/-- Is a signature the ML-DSA-87 one of a key over a message, in pure mode with a context (R377, R469, R473)? -/
def pureSigned (pk ctx m sig : Bytes) : Bool := Config.holds (.dsaVerify 3) [pk, muOf pk (mPrime false ctx 0 m), sig]

/-- Do both signatures of Cleorara over a message verify (R377): ML-DSA-87, then ECDSA P-384 over its SHA-384? -/
def romSigned (purpose : Nat) (ctx m sig : Bytes) : Bool :=
  pureSigned (Config.romKey purpose) ctx m (sig.take 4627) &&
    (ecSigOk 2 (sig.drop 4627) && Config.holds (.ecVerify 2 0) [Config.romCurveKey purpose, hashOf 0x03 m, sig.drop 4627])

/-- The classical half's signature (R137): ECDSA with the nonce of FIPS 186-5 under DET, else with a drawn one; EdDSA,
deterministic by definition. -/
def tradSig (ec : Nat) (det : Bool) (key m' r : Bytes) : Bytes :=
  if ecNist ec then
    let h := tradMessage ec m'
    let k := if det then fit (ecSizes ec).1 (Config.prim (.ecNonce ec (tradHash ec)) [key, h]) else scalarFrom ec r
    Config.prim (.ecSig ec) [key, h, k]
  else Config.prim (.edSig ec 0) [key, m', []]

/-- Composite signing (R134, R137). -/
def State.compSign (s : State) (e : Nat) : State :=
  s.kernel e .compSign (fun _ x => if x.lenFault then [.lengthMismatch] else [])
    (fun s x =>
      let id := opParam x.desc.opcode
      let p := pairOf id
      let m' := combinerM id (ctxAt x.aux 0) (fit 64 x.digest)
      let pk := match x.bound1 with | some b => b.pub | none => []
      let mu := muOf pk (mPrime false [] 0 m')
      s.seedOr e x (x.desc.opt 2) (List.replicate 32 0) (32 + (if ecNist p.ec then ecDrawLen p.ec else 0)) fun s r =>
        s.blindCurve e x p.ec fun s =>
        let rnd := slice r 0 32
        let sig := fit (dsaSizes p.lat).2.2 (Config.prim (.dsaSig p.lat) [x.secret, mu, rnd]) ++
          fit p.ct (tradSig p.ec (x.desc.opt 2) x.secret2 m' (r.drop 32))
        s.commitSig e .compSign x sig (iterations p.lat x.secret mu rnd))

def execCompositeSign (e : Nat) (s : State) : Out := s.clocked (.next (s.compSign e))

/-- Composite verification (R134, R137): both halves are checked in full. Keys by value pass the point checks. -/
def State.compVerify (s : State) (e : Nat) : State :=
  s.kernel e .compVerify
    (fun _ x =>
      let p := pairOf (opParam x.desc.opcode)
      let off := if x.desc.key = 0 then (dsaSizes p.lat).1 else 0
      (if x.lenFault then [.lengthMismatch] else []) ++
      (if x.desc.key2 == 0 && !x.lenFault then pointFails p.ec (slice x.aux off p.pub) else []))
    (fun s x =>
      let id := opParam x.desc.opcode
      let p := pairOf id
      let z := dsaSizes p.lat
      let o1 := if x.desc.key = 0 then z.1 else 0
      let o2 := o1 + (if x.desc.key2 = 0 then p.pub else 0)
      let m' := combinerM id (ctxAt x.aux o2) (fit 64 x.digest)
      let pk := x.pubKey z.1
      let sig := slice x.aux (x.desc.auxLen - pairLen id) (pairLen id)
      let ok1 := Config.holds (.dsaVerify p.lat) [pk, muOf pk (mPrime false [] 0 m'), slice sig 0 z.2.2]
      let trad := slice sig z.2.2 p.ct
      let ok2 := ecSigOk p.ec trad && Config.holds (.ecVerify p.ec 0) [x.pubKey2 o1 p.pub, tradMessage p.ec m', trad]
      let s := s.coldExpand x
      if ok1 && ok2 then s.commitOut e [] (hitInfo x) else s.commitReject e (hitInfo x))

def execCompositeVerify (e : Nat) (s : State) : Out := s.clocked (.next (s.compVerify e))

end Sys2Proof.Machine
end

