-- ==== Sys2Proof/Machine/Classic.lean ====
section
/-! DEFINITION. The operations of families 0x3 and 0x6 to 0xB (chapter 05): SLH-DSA, Classic McEliece, HQC, elliptic
curves, RSA, hashes, MACs, key derivation, AES-GCM and random bytes. -/
namespace Sys2Proof.Machine

/-! ## SLH-DSA (R142 to R148) -/

def execSlhKeygen (e : Nat) (s : State) : Out := s.clocked (.next (s.keygen e .slhKeygen))

/-- M′ of an SLH-DSA operation whose context part starts at `off` (R144). -/
def slhMessage (x : Entry) (off : Nat) : Bytes :=
  let ctx := ctxAt x.aux off
  if x.desc.mode = 0 then mPrime false ctx 0 x.input
  else mPrime true ctx x.desc.ph (if x.desc.opt 3 then x.input else x.digest)

/-- SLH_SIGN (R144, R146, R147): in pure mode the second pass needs a Sluice channel, which the operation waits for
with its engines held (R281); the signature is over the bytes of that pass. -/
def State.slhSign (s : State) (e : Nat) : State :=
  s.kernel e .slhSign (fun _ x => if x.desc.auxLen = 1 + leField x.aux 0 1 then [] else [.lengthMismatch])
    (fun s x =>
      let pp := opParam x.desc.opcode
      if x.desc.mode = 0 && x.sluice == .none && s.freeChannel.isNone then s.askChannel e
      else
        let x := if x.desc.mode = 0 then { x with input := s.inputOf x } else x
        let pkSeed := slice x.secret (2 * slhN pp) (slhN pp)
        s.seedOr e x (x.desc.opt 2) pkSeed (slhN pp) fun s r =>
          s.commitOut e (fit (slhSigLen pp) (Config.prim (.slhSig pp) [x.secret, slhMessage x 0, r])) 0)

def execSlhSign (e : Nat) (s : State) : Out := s.clocked (.next (s.slhSign e))

/-- Are the auxiliary lengths of a verification consistent: public key, CTXLEN and context, signature? -/
def ctxLensOk (x : Entry) (off sigLen : Nat) : Bool := x.desc.auxLen == off + 1 + leField x.aux off 1 + sigLen

/-- SLH_VERIFY (R148). -/
def State.slhVerify (s : State) (e : Nat) : State :=
  s.kernel e .slhVerify
    (fun _ x =>
      let pp := opParam x.desc.opcode
      let off := if x.desc.key = 0 then 2 * slhN pp else 0
      if ctxLensOk x off (slhSigLen pp) then [] else [.lengthMismatch])
    (fun s x =>
      let pp := opParam x.desc.opcode
      let sig := slice x.aux (x.desc.auxLen - slhSigLen pp) (slhSigLen pp)
      if Config.holds (.slhVerify pp) [x.pubKey (2 * slhN pp), x.digest, sig] then s.commitOut e [] 0
      else s.commitReject e 0)

def execSlhVerify (e : Nat) (s : State) : Out := s.clocked (.next (s.slhVerify e))

/-! ## Classic McEliece and HQC (R149 to R155) -/

/-- MCE_KEYGEN (R150 to R152): on a Shaft; with KEEPPK the public key is pinned in the tenant's share. -/
def State.mceKeygen (s : State) (e : Nat) : State :=
  s.kernel e .mceKeygen (fun _ _ => [])
    (fun s x =>
      let alg := opAlg x.desc.opcode
      s.seedOr e x (x.desc.opt 0) (slice x.aux 32 32) 32 fun s seed =>
        let kp := keyPair alg seed
        if pairOk alg kp then
          let o := newPair x kp
          let o := if x.desc.opt 1 then { o with pinGran := mceGranules (opParam alg) } else o
          let s := if x.desc.opt 1 then s.evictFor x.tenant (mceGranules (opParam alg)) else s
          s.createObject e o kp.1 x.info
        else s.finish e .keyCheckFail)

def execMceKeygen (e : Nat) (s : State) : Out := s.clocked (.next (s.mceKeygen e))
def execHqcKeygen (e : Nat) (s : State) : Out := s.clocked (.next (s.keygen e .hqcKeygen))

/-- ENCAPS of families 6 and 7 (R153, R154): padding of a key by value is checked before anything is drawn. -/
def State.codeEncaps (s : State) (e : Nat) (k : OpKind) : State :=
  s.kernel e k
    (fun _ x =>
      let f := opFamily x.desc.opcode
      let pp := opParam x.desc.opcode
      if x.desc.key == 0 && !paddingOk f pp x.aux then [.encodingInvalid] else [])
    (fun s x =>
      let f := opFamily x.desc.opcode
      let pp := opParam x.desc.opcode
      let z := codeSizes f pp
      s.withDraw e x 64 fun s r =>
        let pk := x.pubKey z.1
        s.commitOut e (fit z.2 (Config.prim (.codeCt f pp) [pk, r]) ++ fit (codeK f) (Config.prim (.codeKey f pp) [pk, r])) 0)

def execMceEncaps (e : Nat) (s : State) : Out := s.clocked (.next (s.codeEncaps e .mceEncaps))
def execHqcEncaps (e : Nat) (s : State) : Out := s.clocked (.next (s.codeEncaps e .hqcEncaps))

/-- DECAPS of families 6 and 7 (R155): always OK, with the implicit-rejection key where decoding fails. -/
def State.codeDecaps (s : State) (e : Nat) (k : OpKind) : State :=
  s.kernel e k (fun _ _ => [])
    (fun s x =>
      let f := opFamily x.desc.opcode
      s.commitOut e (fit (codeK f) (Config.prim (.codeDec f (opParam x.desc.opcode)) [x.secret, x.aux])) 0)

def execMceDecaps (e : Nat) (s : State) : Out := s.clocked (.next (s.codeDecaps e .mceDecaps))
def execHqcDecaps (e : Nat) (s : State) : Out := s.clocked (.next (s.codeDecaps e .hqcDecaps))

/-! ## Elliptic curves (R156 to R161) -/

def execEcKeygen (e : Nat) (s : State) : Out := s.clocked (.next (s.keygen e .ecKeygen))

/-- Does an EdDSA mode refuse a context length (R159)? -/
def edCtxBad (pp mode ctxLen : Nat) : Bool :=
  pp == 0x10 && ((mode == 0 && ctxLen != 0) || (mode == 2 && ctxLen == 0))

/-- EC_SIGN (R158, R159, R171): an ECDSA nonce is drawn, or under DET that of FIPS 186-5 with HASH. -/
def State.ecSign (s : State) (e : Nat) : State :=
  s.kernel e .ecSign
    (fun _ x =>
      let pp := opParam x.desc.opcode
      if ecNist pp then []
      else
        (if x.desc.auxLen = 1 + leField x.aux 0 1 then [] else [.lengthMismatch]) ++
        (if edCtxBad pp x.desc.mode (leField x.aux 0 1) then [.valueRange] else []))
    (fun s x =>
      let pp := opParam x.desc.opcode
      let n := (ecSizes pp).2.2.1
      if ecNist pp then
        let h := if x.desc.opt 3 then x.input else x.digest
        let det := fit (ecSizes pp).1 (Config.prim (.ecNonce pp x.desc.ph) [x.secret, h])
        s.seedOr e x (x.desc.opt 2) [] (ecDrawLen pp) fun s r => s.blindCurve e x pp fun s =>
          let k := if x.desc.opt 2 then det else scalarFrom pp r
          s.commitOut e (fit n (Config.prim (.ecSig pp) [x.secret, h, k])) 0
      else
        let m := if x.desc.mode = 1 then (if x.desc.opt 3 then x.input else x.digest) else x.input
        s.blindCurve e x pp fun s => s.commitOut e (fit n (Config.prim (.edSig pp x.desc.mode) [x.secret, m, ctxAt x.aux 0])) 0)

def execEcSign (e : Nat) (s : State) : Out := s.clocked (.next (s.ecSign e))

/-- The length of a public key by value in an EC_VERIFY (R157, R161). -/
def Entry.ecPubLen (x : Entry) : Nat :=
  let pp := opParam x.desc.opcode
  if x.desc.key ≠ 0 then 0
  else if ecNist pp then x.desc.auxLen - (ecSizes pp).2.2.1
  else (ecSizes pp).2.1

/-- EC_VERIFY (R158, R159, R161, R171): failures of the key at once, failures in the signature VERIFY_REJECT. -/
def State.ecVerify (s : State) (e : Nat) : State :=
  s.kernel e .ecVerify
    (fun _ x =>
      let pp := opParam x.desc.opcode
      let pl := x.ecPubLen
      (if x.desc.key = 0 then pointFails pp (slice x.aux 0 pl) else []) ++
      (if ecNist pp then []
       else
        (if ctxLensOk x pl (ecSizes pp).2.2.1 then [] else [.lengthMismatch]) ++
        (if edCtxBad pp x.desc.mode (leField x.aux pl 1) then [.valueRange] else [])))
    (fun s x =>
      let pp := opParam x.desc.opcode
      let n := (ecSizes pp).2.2.1
      let sig := slice x.aux (x.desc.auxLen - n) n
      let m := if x.desc.opt 3 && ecNist pp then x.input else x.digest
      if ecSigOk pp sig && Config.holds (.ecVerify pp x.desc.mode) [unpacked pp (x.pubKey x.ecPubLen), m, sig] then s.commitOut e [] 0
      else s.commitReject e 0)

def execEcVerify (e : Nat) (s : State) : Out := s.clocked (.next (s.ecVerify e))

/-- EC_AGREE (R160): the peer key is checked before the private value is used. -/
def State.ecAgree (s : State) (e : Nat) : State :=
  s.kernel e .ecAgree (fun _ x => pointFails (opParam x.desc.opcode) x.aux)
    (fun s x =>
      let pp := opParam x.desc.opcode
      s.blindCurve e x pp fun s =>
        s.commitOut e (fit (ecSizes pp).2.2.2 (Config.prim (.ecShared pp) [x.secret, unpacked pp x.aux])) 0)

def execEcAgree (e : Nat) (s : State) : Out := s.clocked (.next (s.ecAgree e))

/-- EC_PKCHECK (R161). -/
def execEcPkcheck (e : Nat) (s : State) : Out :=
  s.clocked (.next (s.kernel e .ecPkcheck (fun _ x => pointFails (opParam x.desc.opcode) x.aux) (fun s _ => s.commitOut e [] 0)))

/-! ## RSA (R162 to R166) -/

/-- RSA_KEYGEN (R165). -/
def State.rsaKeygen (s : State) (e : Nat) : State :=
  s.kernel e .rsaKeygen (fun _ _ => [])
    (fun s x =>
      let alg := opAlg x.desc.opcode
      s.withDraw e x 32 fun s seed =>
        let kp := keyPair alg seed
        if pairOk alg kp then s.createObject e (newPair x kp) kp.1 x.info else s.finish e .keyCheckFail)

def execRsaKeygen (e : Nat) (s : State) : Out := s.clocked (.next (s.rsaKeygen e))

/-- The representative an RSA signature covers: the digest given or hashed in flight (R164). -/
def Entry.rsaDigest (x : Entry) : Bytes := if x.desc.opt 3 then x.input else x.digest

/-- RSA_SIGN (R164): PSS with a drawn salt unless DET. -/
def State.rsaSign (s : State) (e : Nat) : State :=
  s.kernel e .rsaSign (fun _ _ => [])
    (fun s x =>
      let pp := opParam x.desc.opcode
      s.seedOr e x (x.desc.opt 0 || x.desc.opt 2) [] (phLen x.desc.ph) fun s salt => s.blindRsa e x fun s =>
        s.commitOut e (fit (rsaK pp) (Config.prim (.rsaSig pp x.desc.options) [x.secret, x.rsaDigest, salt])) x.info)

def execRsaSign (e : Nat) (s : State) : Out := s.clocked (.next (s.rsaSign e))

/-- The checks of an RSA public key by value (R166). -/
def rsaKeyFails (x : Entry) : List Status :=
  let pp := opParam x.desc.opcode
  if x.desc.key == 0 && !rsaPubOk pp (slice x.aux 0 (rsaK pp + 4)) then [.valueRange] else []

/-- RSA_VERIFY (R166). -/
def State.rsaVerify (s : State) (e : Nat) : State :=
  s.kernel e .rsaVerify (fun _ x => rsaKeyFails x)
    (fun s x =>
      let pp := opParam x.desc.opcode
      let sig := slice x.aux (x.desc.auxLen - rsaK pp) (rsaK pp)
      let pub := x.pubKey (rsaK pp + 4)
      if rsaSigOk pp pub sig && Config.holds (.rsaVerify pp x.desc.options) [pub, x.rsaDigest, sig]
      then s.commitOut e [] x.info else s.commitReject e x.info)

def execRsaVerify (e : Nat) (s : State) : Out := s.clocked (.next (s.rsaVerify e))

/-- LABLEN and label at an offset of the auxiliary buffer, and whether they end it exactly. -/
def labelAt (x : Entry) (off : Nat) : Bytes × Bool :=
  let n := leField x.aux off 2
  (slice x.aux (off + 2) n, x.desc.auxLen == off + 2 + n)

/-- RSA_ENCRYPT (R164, R166). -/
def State.rsaEncrypt (s : State) (e : Nat) : State :=
  s.kernel e .rsaEncrypt
    (fun _ x =>
      let off := if x.desc.key = 0 then rsaK (opParam x.desc.opcode) + 4 else 0
      (if (labelAt x off).2 then [] else [.lengthMismatch]) ++ rsaKeyFails x)
    (fun s x =>
      let pp := opParam x.desc.opcode
      let off := if x.desc.key = 0 then rsaK pp + 4 else 0
      s.withDraw e x (phLen x.desc.ph) fun s seed =>
        s.commitOut e (fit (rsaK pp) (Config.prim (.rsaEnc pp x.desc.options)
          [x.pubKey (rsaK pp + 4), x.input, (labelAt x off).1, seed])) x.info)

def execRsaEncrypt (e : Nat) (s : State) : Out := s.clocked (.next (s.rsaEncrypt e))

/-- RSA_DECRYPT (R164, R166, R171): every failure is held; only a ciphertext in range is decoded. -/
def State.rsaDecrypt (s : State) (e : Nat) : State :=
  s.kernel e .rsaDecrypt
    (fun _ x =>
      let pp := opParam x.desc.opcode
      let c := slice x.aux 0 (rsaK pp)
      let pub := match x.bound1 with | some b => b.pub | none => []
      (if (labelAt x (rsaK pp)).2 then [] else [.lengthMismatch]) ++
      (if !rsaCtOk pp pub c then [.valueRange]
       else if Config.holds (.rsaOaep pp x.desc.options) [x.secret, c, (labelAt x (rsaK pp)).1] then []
       else [.encodingInvalid]))
    (fun s x =>
      let pp := opParam x.desc.opcode
      let m := Config.prim (.rsaDec pp x.desc.options) [x.secret, slice x.aux 0 (rsaK pp), (labelAt x (rsaK pp)).1]
      s.blindRsa e x fun s => s.commitOut e (m.take (rsaK pp - 2 * phLen x.desc.ph - 2)) x.info)

def execRsaDecrypt (e : Nat) (s : State) : Out := s.clocked (.next (s.rsaDecrypt e))

/-! ## Hashes, MACs, key derivation and AES-GCM (R167 to R169) -/

/-- HASH (R168): in the descriptor's Sluice channel; the digest is what that channel formed. -/
def State.hashOp (s : State) (e : Nat) : State :=
  s.kernel e .hash (fun _ x => if x.lenFault then [.lengthMismatch] else [])
    (fun s x =>
      let n := hashLen (opParam x.desc.opcode)
      s.commitOut e (fit (if n = 0 then x.desc.outCap else n) x.digest) 0)

def execHashOp (e : Nat) (s : State) : Out := s.clocked (.next (s.hashOp e))

/-- An HMAC tag (R168). -/
def hmacTag (x : Entry) : Bytes :=
  let pp := opParam x.desc.opcode
  fit (hashLen pp) (Config.prim (.hmac pp) [x.secret, x.input])

def execHmac (e : Nat) (s : State) : Out :=
  s.clocked (.next (s.kernel e .hmac (fun _ _ => []) (fun s x => s.commitOut e (hmacTag x) 0)))

def execHmacVerify (e : Nat) (s : State) : Out :=
  s.clocked (.next (s.kernel e .hmacVerify (fun _ _ => [])
    (fun s x => if hmacTag x = x.aux then s.commitOut e [] 0 else s.commitReject e 0)))

/-- A KMAC tag of `len` bytes: SLEN and S lead the auxiliary buffer (R167, R168). -/
def kmacTag (x : Entry) (xof : Bool) (len : Nat) : Bytes :=
  fit len (Config.prim (.kmac (opParam x.desc.opcode) xof len) [x.secret, x.input, (shortAt x.aux 0).1])

def execKmac (e : Nat) (s : State) : Out :=
  s.clocked (.next (s.kernel e .kmac (fun _ x => if x.desc.auxLen = (shortAt x.aux 0).2 then [] else [.lengthMismatch])
    (fun s x => s.commitOut e (kmacTag x (x.desc.opt 0) x.desc.outCap) 0)))

/-- KMAC_VERIFY: the tag's length is AUX_LEN − 1 − SLEN (R168). -/
def execKmacVerify (e : Nat) (s : State) : Out :=
  s.clocked (.next (s.kernel e .kmacVerify (fun _ _ => [])
    (fun s x =>
      let off := (shortAt x.aux 0).2
      let n := x.desc.auxLen - off
      if kmacTag x false n = slice x.aux off n then s.commitOut e [] 0 else s.commitReject e 0)))

/-- KDF (R168): the KMAC-based KDF of SP 800-108 into a new object. -/
def State.kdf (s : State) (e : Nat) : State :=
  s.kernel e .kdf
    (fun _ x =>
      let l := shortAt x.aux 32
      if x.desc.auxLen = l.2 + 2 + leField x.aux l.2 2 then [] else [.lengthMismatch])
    (fun s x =>
      let a := attrOf (slice x.aux 0 32)
      let l := shortAt x.aux 32
      let ctx := slice x.aux (l.2 + 2) (leField x.aux l.2 2)
      let key := fit a.keyLen (Config.prim (.kmac (opParam x.desc.opcode) false a.keyLen) [x.secret, ctx, l.1])
      s.createObject e { attr := a, secret := key } [] 0)

def execKdf (e : Nat) (s : State) : Out := s.clocked (.next (s.kdf e))

/-- Count a seal whose IV was drawn (R169). -/
def State.countSeal (s : State) (x : Entry) : State :=
  let i := handleIndex x.desc.key
  if s.handleStatus x.tenant x.desc.key = none then s.setObj i { s.obj i with seals := (s.obj i).seals + 1 } else s

/-- GCM_SEAL (R169): IV ‖ C ‖ T. -/
def State.gcmSeal (s : State) (e : Nat) : State :=
  s.kernel e .gcmSeal (fun _ _ => [])
    (fun s x =>
      let off := if x.desc.opt 0 then 12 else 0
      let aad := x.aux.drop off
      s.seedOr e x (x.desc.opt 0) (slice x.aux 0 12) 12 fun s iv =>
        let s := if x.desc.opt 0 then s else s.countSeal x
        let c := fit x.desc.inLen (Config.prim .gcmCt [x.secret, iv, aad, x.input])
        s.commitOut e (iv ++ c ++ fit 16 (Config.prim .gcmTag [x.secret, iv, aad, x.input])) 0)

def execGcmSeal (e : Nat) (s : State) : Out := s.clocked (.next (s.gcmSeal e))

/-- GCM_OPEN (R169): a tag mismatch is VERIFY_REJECT and writes no plaintext. -/
def State.gcmOpen (s : State) (e : Nat) : State :=
  s.kernel e .gcmOpen (fun _ _ => [])
    (fun s x =>
      let iv := slice x.aux 0 12
      let tag := slice x.aux 12 16
      let aad := x.aux.drop 28
      if Config.holds .gcmTag [x.secret, iv, aad, x.input, tag] then
        s.commitOut e (fit x.desc.inLen (Config.prim .gcmPt [x.secret, iv, aad, x.input])) 0
      else s.commitReject e 0)

def execGcmOpen (e : Nat) (s : State) : Out := s.clocked (.next (s.gcmOpen e))

/-! ## Random bytes (R170, R100) -/

/-- RANDOM (R170, R100): each generate call gives at most 64 KiB, reseeded first with PR. A request of 64 KiB or less
is written whole at its COMMIT; a larger one is published unit by unit, one at each step of this command. -/
def State.randomOp (s : State) (e : Nat) : State :=
  s.kernel e .random (fun _ _ => [])
    (fun s x =>
      let left := x.desc.outCap - x.published
      let n := Nat.min left 65536
      let go (s : State) : State :=
        s.withDraw e x n fun s bs =>
          if x.desc.outCap ≤ 65536 then s.commitOut e bs 0
          else
            let s := s.publish e x x.published bs
            let s := s.modEntry e fun x => { x with published := x.published + n, outBytes := x.published + n }
            if n = left then (s.measure e x).finish e .ok else s
      if x.desc.opt 0 then
        match x.target with
        | .stope m _ _ => (match s.reseedStope m with | (s, true) => go s | (s, false) => s.finish e .noEntropy)
        | _ => go s
      else go s)

def execRandomOp (e : Nat) (s : State) : Out := s.clocked (.next (s.randomOp e))

end Sys2Proof.Machine
end

