-- ==== Sys2Proof/Machine/Stateful.lean ====
section
/-! DEFINITION. Stateful signatures and index leasing (chapter 06): key generation and cache builds as split jobs
(R178, R190, R191), signing with its two commit points (R186 to R189), the query, floor and cache commands (R191,
R193, R194), and the lease writes, their retries, the sectors and the power-up pass (R183 to R185, R192). -/
namespace Sys2Proof.Machine

/-! ## Chunks (R178) -/

/-- The trees a key generation or a cache build computes, and the leaves of each (R178). -/
def stfTrees (f pp l : Nat) : Nat × Nat :=
  if f = 4 then (l, 2 ^ lmsHeight pp)
  else match xmssTree (pp % 64) with
    | some (h, d) => (d, 2 ^ (h / d))
    | none => (0, 0)

/-- The chunks of at most 1,024 leaves. -/
def stfChunks (f pp l : Nat) : Nat := (stfTrees f pp l).1 * ceilDiv (stfTrees f pp l).2 1024

/-- The opcode under which a chunk runs: the key generation's, for a cache build that of the key (R178, R191). -/
def State.chunkOp (s : State) (d : Desc) : Nat :=
  if d.kind = some .stfKeygen then d.opcode else (s.obj (handleIndex d.key)).attr.alg

/-- Start one subsidiary entry of a split job, at the descriptor's priority, counted in the tenant's quota (R178): a chunk,
or, once no chunk is left, a recomputation. -/
def State.startChunk (s : State) (e : Nat) : State :=
  match s.entry e with
  | none => s
  | some x =>
    if decide (16 ≤ x.kids) || decide (s.regField (.tntA x.tenant) 0x148 18 0 ≤ s.tallyUse x.tenant) then s
    else
      let kid : Entry :=
        { tenant := x.tenant, sq := x.sq, cq := x.cq, sub := x.sub
          desc := { x.desc with opcode := s.chunkOp x.desc, flags := x.desc.flags % 4 }, state := .queued, sglDone := true,
          admitted := s.stamp, deadline := x.deadline, parent := some e, spillToken := x.order }
      let k := freeKey 0 s.tally.entries
      if x.part ≠ 0 then
        (s.setEntry e { x with part := x.part - 1, kids := x.kids + 1 }).addEntry k { kid with chunk := x.part - 1 }
      else match x.again with
        | [] => s
        | (n, l) :: r => (s.setEntry e { x with again := r, kids := x.kids + 1 }).addEntry k { kid with notOn := some n, leaves := l }

/-- Start subsidiary entries until 16 run, the quota is full, or none is left. -/
def startChunksFuel (e : Nat) : Nat → State → State
  | 0, s => s
  | n + 1, s => startChunksFuel e n (s.startChunk e)

def State.startChunks (s : State) (e : Nat) : State := startChunksFuel e 16 s

/-- ADMISSION_RESUME: a tenant's entries fall below its quota (R78). Adit fetches again, as `DESCRIPTOR_FETCH` then
allows, and the jobs of the tenant that wait for entries to run their parts in get them (R178, R191). -/
def State.admissionResume (s : State) (t : Nat) : State :=
  s.forEntries (s.entriesWhere fun x => x.tenant == t && (x.part != 0 || !x.again.isEmpty)) fun s e => s.startChunks e

def execAdmissionResume (t : Nat) (s : State) : Out := s.clocked (.next (s.admissionResume t))

/-! ## Key generation (R175 to R179) -/

/-- The object that owns a lease slot: a key, or one whose first record is being written (R177, R183). -/
def State.slotOwner (s : State) (n : Nat) : Option Obj :=
  let owns (o : Obj) : Bool := match o.stf with | some f => f.slot == n && o.cacheOf.isNone | none => false
  match (s.lode.objs.filter fun p => p.2.present && owns p.2).head? with
  | some p => some p.2
  | none => (s.lode.staged.find? fun g => owns g.obj).map fun g => g.obj

/-- The lowest lease slot without an owner: one for which no record is still to be written, if there is one. -/
def State.freeSlot (s : State) : Nat :=
  let free := (List.range 1024).filter fun n => (s.slotOwner n).isNone
  let busy := (s.lode.leaseQueue ++ s.lode.leaseActive.toList).map fun w => w.slot
  ((free.find? fun n => !busy.contains n).orElse fun _ => free.head?).getD 0

/-- The index state of a new stateful key from its stateful block (R176). -/
def newStateful (f pp slot : Nat) (block : Bytes) : Stateful :=
  let l := leField block 0 1
  let b := leField block 1 1
  let w := leField block 2 1
  { levels := Nat.max 1 l, leaseLog2 := if b = 0 then 16 else b, warnPct := if w = 0 then 10 else w,
    total := stfTotal f pp (Nat.max 1 l), slot := slot }

/-- STF_KEYGEN (R178): the coordinator takes its seed, and its chunks become subsidiary entries; its unit is free. -/
def State.stfKeygen (s : State) (e : Nat) : State :=
  s.kernel e .stfKeygen (fun _ _ => [])
    (fun s x =>
      if x.parent.isSome then s
      else
        let f := opFamily x.desc.opcode
        let pp := opParam x.desc.opcode
        let n := stfSeedLen f pp
        s.seedOr e x (x.desc.opt 0) (slice x.aux 40 n) n fun s seed =>
          let s := s.releaseUnit e x.target true
          (s.setEntry e { x with target := .none, await := .kids, output := seed
                                 part := stfChunks f pp (Nat.max 1 (leField x.aux 32 1)), kids := 0 }).startChunks e)

def execStfKeygen (e : Nat) (s : State) : Out := s.clocked (.next (s.stfKeygen e))

/-- The chosen leaves agree, and the root makes the object (R178), which waits for its first lease record and its key
record (R179, R220). -/
def State.stfFormRoot (s : State) (e : Nat) : State :=
  match s.entry e with
  | none => s
  | some x =>
    let f := opFamily x.desc.opcode
    let pp := opParam x.desc.opcode
    let alg := opAlg x.desc.opcode
    let st := newStateful f pp s.freeSlot (slice x.aux 32 8)
    let pub := fit (stfPubLen f pp) (Config.prim (.stfPub f pp st.levels) [x.output])
    let o : Obj := { attr := attrOf (slice x.aux 0 32), secret := fit (secLen alg) x.output, pub := pub, stf := some st }
    (s.setEntry e { x with output := [] }).createObject e o pub 0

/-- The leaves of a job, over all its trees. -/
def stfLeaves (f pp l : Nat) : Nat := (stfTrees f pp l).1 * (stfTrees f pp l).2

/-- The chunk that computed a leaf. -/
def chunkOf (f pp l leaf : Nat) : Nat :=
  let n := (stfTrees f pp l).2
  leaf / n * ceilDiv n 1024 + leaf % n / 1024

/-- The leaves to recompute (R178): all of them below 64, else 64 drawn from the DRBG of Stope `n`, 8 bytes for each. Which
Stope's DRBG, and that a leaf may be drawn twice, is open: DESIGN CHOICE, log 31. -/
def State.chooseLeaves (s : State) (n total : Nat) : State × Option (List Nat) :=
  if total < 64 then (s, some (List.range total))
  else match s.drawStope n 512 with
    | (s, some bs) => (s, some ((List.range 64).map fun k => leField bs (8 * k) 8 % total))
    | (s, none) => (s, none)

/-- Every chunk is computed: the chosen leaves are to be recomputed, each on a Stope other than the one that computed it. -/
def State.recomputeLeaves (s : State) (e n : Nat) : State :=
  match s.entry e with
  | none => s
  | some x =>
    let f := opFamily x.desc.opcode
    let pp := opParam x.desc.opcode
    let l := Nat.max 1 (leField x.aux 32 1)
    match s.chooseLeaves n (stfLeaves f pp l) with
    | (s, none) => s.finish e .noEntropy
    | (s, some leaves) =>
      let by_ (leaf : Nat) : Nat := (lookup x.doneBy (chunkOf f pp l leaf)).getD n
      let stopes := (leaves.map by_).eraseDups
      (s.setEntry e { x with doneBy := [], again := stopes.map fun m => (m, leaves.filter fun leaf => by_ leaf == m) }).startChunks e

/-- Nothing of a key generation's present phase is left: its leaves are recomputed, or its root makes the key. -/
def State.splitNext (s : State) (e n : Nat) : State :=
  match s.entry e with
  | some y =>
    if y.kids = 0 && y.part = 0 && y.again.isEmpty && y.await == .kids then
      if y.doneBy.isEmpty then s.stfFormRoot e else s.recomputeLeaves e n
    else s
  | none => s

/-- The Stope of a subsidiary entry. -/
def Entry.onStope (x : Entry) : Nat := match x.target with | .stope n _ _ => n | _ => 0

/-- A chunk of a key generation or a cache build, or a recomputation, is done (R178, R191): the subsidiary entry is free and
the next starts. Recomputed leaves that differ end the key generation as KEY_CHECK_FAIL. -/
def State.chunkDone (s : State) (k : Nat) : State :=
  match s.entry k with
  | none => s
  | some c =>
    if !c.live || !c.started then s
    else
      match c.parent with
      | none => s
      | some e =>
        let s := s.freeEntry k
        match s.entry e with
        | none => s
        | some x =>
          if x.order != c.spillToken then s
          else
            let good := c.leaves.isEmpty ||
              Config.holds (.recompute (opFamily x.desc.opcode) (opParam x.desc.opcode)) (x.output :: c.leaves.map (leBytes 8))
            if !good then s.finish e .keyCheckFail
            else
              let x := { x with kids := x.kids - 1
                                doneBy := if c.leaves.isEmpty then (c.chunk, c.onStope) :: x.doneBy else x.doneBy }
              ((s.setEntry e x).startChunks e).splitNext e c.onStope

def execKeygenChunkDone (k : Nat) (s : State) : Out := s.clocked (.next (s.chunkDone k))

/-! ## Tree caches (R190, R191) -/

/-- Start a cache build for the key of an entry: granules are taken from the free ones of the share, evicting
expansions; where pinned keys and other caches leave too little, the operation is QUOTA_EXCEEDED. -/
def State.startCache (s : State) (e : Nat) : State :=
  match s.entry e with
  | none => s
  | some x =>
    let i := handleIndex x.desc.key
    let o := s.obj i
    match o.stf with
    | none => s
    | some f =>
      let g := cacheGranules (opFamily o.attr.alg) (opParam o.attr.alg) f.levels
      if s.share x.tenant < s.granFixed x.tenant + g then s.finish e .quotaExceeded
      else
        let s := s.evictFor x.tenant g
        let s := s.modStf i fun f => { f with cache := 1, cacheGran := g, cacheBy := some x.order }
        (s.setEntry e { x with await := .cache i, kids := 0,
                               part := stfChunks (opFamily o.attr.alg) (opParam o.attr.alg) f.levels }).startChunks e

/-- STF_CACHE (R191): starts the build and completes when it ends; a ready cache completes at once. -/
def State.stfCache (s : State) (e : Nat) : State :=
  s.kernel e .stfCache (fun _ _ => [])
    (fun s x =>
      match (s.obj (handleIndex x.desc.key)).stf with
      | some f =>
        if f.cache = 2 then s.commitOut e [] 0
        else if f.cache = 1 then s.setEntry e { x with await := .cache (handleIndex x.desc.key) }
        else s.startCache e
      | none => s)

def execStfCache (e : Nat) (s : State) : Out := s.clocked (.next (s.stfCache e))

/-- A cache build has ended (R191): the cache is ready; an STF_CACHE completes, and signatures that waited go on. -/
def State.cacheDone (s : State) (i : Nat) : State :=
  match (s.obj i).stf with
  | some f =>
    let waiting := s.entriesWhere fun x => x.await == .cache i
    let busy := waiting.any fun e => match s.entry e with | some x => x.kids != 0 || x.part != 0 | none => false
    if f.cache != 1 || f.cacheBy.isNone || busy then s
    else
      let s := s.modStf i fun f => { f with cache := 2, cacheBy := none }
      s.forEntries waiting fun s e =>
        match s.entry e with
        | some x =>
          let s := s.setEntry e { x with await := .none }
          if x.desc.kind = some .stfCache then s.commitOut e [] 0 else s
        | none => s
  | none => s

def execCacheBuildDone (i : Nat) (s : State) : Out := s.clocked (.next (s.cacheDone i))

/-! ## Signing (R186 to R189) -/

/-- Why a signature cannot reserve an index: exhausted, lease unknown, sub-range withdrawn (R189). -/
def Stateful.refusal (x : Stateful) : Option Status :=
  if x.unknown then some .leaseUnknown
  else if x.withdrawn then some .leaseExpired
  else if x.skip.next = x.total then some .indexExhausted
  else none

/-- Is the key waiting for a lease record, or for its power-up (R181, R192)? -/
def Stateful.waitLease (x : Stateful) : Bool := x.refusal.isNone && !x.nextRange.skip.canReserve

/-- Reserve the index of entry `e`: its first COMMIT (R186 step 2, R387). A key in WAIT_LEASE waits. -/
def State.reserveFor' (s : State) (e : Nat) : State :=
  match s.entry e with
  | none => s
  | some x =>
    let i := handleIndex x.desc.key
    if (s.obj i).handle i != x.desc.key then s.finish e .handleStale
    else match (s.obj i).stf with
      | none => s.finish e .usageDenied
      | some f =>
        match f.refusal with
        | some st => s.finish e st
        | none =>
          let r := s.reserveIndex i
          match r.2 with
          | some n => r.1.modEntry e fun x => { x with index := some n }
          | none => r.1

/-- STF_SIGN (R186): randomiser, index, message hash in the descriptor's channel, signature. -/
def State.stfSign (s : State) (e : Nat) : State :=
  s.kernel e .stfSign (fun _ _ => [])
    (fun s x =>
      let f := opFamily x.desc.opcode
      let pp := opParam x.desc.opcode
      let begin_ (s : State) : State :=
        if x.index.isSome then s
        else s.seedOr e x (f = 5) [] (stfN pp) fun s c => (s.modEntry e fun x => { x with output := c }).reserveFor' e
      let s := begin_ s
      match s.entry e with
      | none => s
      | some x =>
        if x.decided then s
        else match x.index with
          | none => s
          | some n =>
            if x.sluice == .none && s.freeChannel.isNone then s.askChannel e
            else
              let l := match (s.obj (handleIndex x.desc.key)).stf with | some g => g.levels | none => 1
              let sig := Config.prim (.stfSig f pp l) [x.secret, leBytes 8 n, x.output, s.inputOf x]
              s.commitOut e (fit (stfSigLen f pp l) sig) 0)

def execStfSign (e : Nat) (s : State) : Out := s.clocked (.next (s.stfSign e))

/-- STF_VERIFY (R555): a signature whose types are unknown or do not match the key's is VERIFY_REJECT, like one that fails. -/
def State.stfVerify (s : State) (e : Nat) : State :=
  s.kernel e .stfVerify (fun _ _ => [])
    (fun s x =>
      let f := opFamily x.desc.opcode
      let raw := x.desc.opt 0
      let good :=
        match s.stfKey x x.aux with
        | .ok key =>
          let sig := x.aux.drop key.len
          (match stfSigOf f raw key sig with
            | some p => p.2 && Config.holds (.stfVerify f key.pp raw) [x.pubKey key.len, x.digest, sig]
            | none => false)
        | .error _ => false
      if good then s.commitOut e [] 0 else s.commitReject e 0)

def execStfVerify (e : Nat) (s : State) : Out := s.clocked (.next (s.stfVerify e))

/-! ## Query and floor (R193, R194) -/

/-- `STATE` of the query record (R194). -/
def Stateful.stateCode (x : Stateful) : Nat :=
  if x.unknown then 2 else if x.sub.isSome then 4 else if x.skip.next = x.total then 3 else if x.waitLease then 1 else 0

def sectorDefault (_ : Nat) : Sector := {}

/-- The sector of a lease slot: flash A, or flash B (R183). -/
def State.sector (s : State) (b : Bool) (n : Nat) : Sector :=
  Cells.get sectorDefault (if b then s.lode.sectorsB else s.lode.sectorsA) n

def State.setSector (s : State) (b : Bool) (n : Nat) (x : Sector) : State :=
  if b then { s with lode := { s.lode with sectorsB := Cells.set sectorDefault s.lode.sectorsB n x } }
  else { s with lode := { s.lode with sectorsA := Cells.set sectorDefault s.lode.sectorsA n x } }

/-- WEAR: the higher erase count of a slot's sectors over 1,024, saturating at 255 (R194). -/
def State.slotWear (s : State) (n : Nat) : Nat :=
  Nat.min 255 (Nat.max (s.sector false n).erases (s.sector true n).erases / 1024)

/-- The 64-byte query record (R194). -/
def State.queryRecord (s : State) (x : Stateful) : Bytes :=
  leBytes 8 x.total ++ leBytes 8 x.next ++ leBytes 8 x.frontier ++ leBytes 8 (x.total - x.next) ++ leBytes 8 x.seq ++
    leBytes 8 x.burned ++ leBytes 4 x.lost ++ leBytes 1 x.leaseLog2 ++ leBytes 1 x.stateCode ++ leBytes 1 x.cache ++
    leBytes 1 (s.slotWear x.slot) ++ List.replicate 8 0

/-- STF_QUERY (R194). -/
def execStfQuery (e : Nat) (s : State) : Out :=
  s.clocked (.next (s.kernel e .stfQuery (fun _ _ => [])
    (fun s x => match (s.obj (handleIndex x.desc.key)).stf with
      | some f => s.commitOut e (s.queryRecord f) 0
      | none => s)))

/-- STF_SETFLOOR (R193): NEXT and FRONTIER become the floor once its record is persisted; until then the key
reserves nothing. A floor at or below NEXT changes nothing, one above T is VALUE_RANGE. A NEXT that has moved is held
against the low-index marks (R189). -/
def State.stfSetfloor (s : State) (e : Nat) : State :=
  s.kernel e .stfSetfloor
    (fun s x =>
      match (s.obj (handleIndex x.desc.key)).stf with
      | some f => if leField x.aux 0 8 > f.total then [.valueRange] else []
      | none => [])
    (fun s x =>
      let i := handleIndex x.desc.key
      let floor := leField x.aux 0 8
      match (s.obj i).stf with
      | some f =>
        if !f.unknown && decide (floor ≤ f.next) then s.commitOut e [] 0
        else
          let s := s.modStf i fun f =>
            { f with ready := false, flooring := f.flooring + 1, next := if f.unknown then f.next else floor,
                     burned := if f.unknown then f.burned else f.burned + (floor - f.next) }
          let s := if f.unknown then s else s.warnLow i
          (s.setEntry e { x with await := .lease i }).askLease
            { index := i, slot := f.slot, entry := some e, frontier := floor, floor := some floor }
      | none => s)

def execStfSetfloor (e : Nat) (s : State) : Out := s.clocked (.next (s.stfSetfloor e))

/-! ## Lease writes (R183 to R185) -/

/-- Bytes 0 to 95 of a lease record (R183). -/
def LeaseRec.body (r : LeaseRec) : Bytes :=
  ascii "FVLR" ++ leBytes 2 1 ++ leBytes 2 r.slot ++ leBytes 8 r.seq ++ fit 32 r.keyId ++ leBytes 8 r.frontier ++
    leBytes 8 r.total ++ leBytes 8 r.burned ++ leBytes 1 r.log2 ++ leBytes 1 (b2n r.retired + 2 * b2n r.exhausted) ++
    List.replicate 22 0

/-- The MAC of a record under a lease key. -/
def LeaseRec.macUnder (r : LeaseRec) (key : Bytes) : Bytes := kmac32 key r.body "FV lease"

/-- The 128 bytes of a record position. -/
def LeaseRec.bytes (r : LeaseRec) : Bytes := r.body ++ fit 32 r.mac

/-- Is a record valid for its slot: position, and MAC under the lease key in force (R184)? -/
def State.leaseValid (s : State) (n : Nat) (r : LeaseRec) : Bool :=
  r.slot == n && (match s.lode.leaseKey with | some k => r.mac == r.macUnder k | none => false)

/-- The valid records of a slot, both flashes: those of its owner's KEYID; of a slot without one, those of a key that has no
RETIRED record (R184, R192). -/
def State.slotRecs (s : State) (n : Nat) : List LeaseRec :=
  let l := ((s.sector false n).recs ++ (s.sector true n).recs).filter fun r => s.leaseValid n r
  match s.slotOwner n with
  | some o => l.filter fun r => r.keyId == o.keyId
  | none => l.filter fun r => !l.any fun q => q.keyId == r.keyId && q.retired

/-- The valid record with the highest SEQ among some. -/
def newest (l : List LeaseRec) : Option LeaseRec :=
  l.foldl (fun (b : Option LeaseRec) r =>
    match b with
    | some q => if q.seq < r.seq then some r else b
    | none => some r) none

/-- The record in force of a slot (R184). -/
def State.inForce (s : State) (n : Nat) : Option LeaseRec := newest (s.slotRecs n)

/-- The digest over SEQ and FRONTIER of the record in force of every occupied slot, in slot order (R185); `new`
replaces one slot's record. -/
def State.leaseDigest (s : State) (new : Option LeaseRec) : Bytes :=
  let slots := (List.range 1024).filterMap fun n =>
    let r := match new with | some r => if r.slot = n then some r else s.inForce n | none => s.inForce n
    match r with
    | some r => if r.retired then none else some r
    | none => none
  sha3 ((slots.map fun r => leBytes 8 r.seq ++ leBytes 8 r.frontier).flatten)

/-- The record that a lease write programs. SEQ goes on from the newest record even where its sector has been erased. -/
def State.leaseRecord (s : State) (w : LeaseWrite) : LeaseRec :=
  let key := s.obj w.index
  let f := (w.last.orElse fun _ => key.stf).getD {}
  let seen := match s.inForce w.slot with | some r => r.seq | none => 0
  let r : LeaseRec :=
    { slot := w.slot, seq := if w.create then 1 else Nat.max seen f.seq + 1, keyId := if w.last.isSome then w.keyId else key.keyId
      frontier := w.frontier, total := f.total, burned := f.burned, log2 := f.leaseLog2, retired := w.retired
      exhausted := w.exhausted }
  { r with mac := r.macUnder (s.lode.leaseKey.getD []) }

/-- Can a sector take a record: not erasing, a position left? -/
def Sector.open (x : Sector) : Bool := !x.erasing && decide (x.recs.length < 32)

/-- The flash a write goes to (R184, R185): alternating, skipping a full or erasing sector; the third attempt takes
the other one. None while both are unavailable. -/
def State.leaseFlash (s : State) (w : LeaseWrite) : Option Bool :=
  let last := Cells.get (fun _ => true) s.lode.lastSlotB w.slot
  let want := if w.tries = 2 then last else !last
  if (s.sector want w.slot).open then some want
  else if (s.sector (!want) w.slot).open then some (!want)
  else none

/-- A lease write starts (R185 step 1): the first request that is not waiting for its retry, when no other runs;
Headframe writes the anchor's pending pair. -/
def State.leaseStart (s : State) : State :=
  if s.lode.leaseActive.isSome then s
  else match s.lode.leaseQueue.find? fun w => !w.waitRetry with
    | none => s
    | some w =>
      if (s.leaseFlash w).isNone || s.lode.leaseKey.isNone then s
      else
        let a := s.lode.anchor
        { s with lode := { s.lode with
          leaseActive := some w, leaseQueue := s.lode.leaseQueue.erase w
          anchor := { a with seqP := a.seqC + 1, digP := s.leaseDigest (some (s.leaseRecord w)) } } }

def execLeaseWriteStart (s : State) : Out := s.clocked (.next s.leaseStart)

/-- Cut a sub-range of 4,096 indexes, or B, from below the frontier of a stateful key, for a device (R195); where so many
do not remain, the request waits for the next extension, and takes what is left below T. -/
def State.cutRange (s : State) (d i h : Nat) : State × Option (Nat × Nat) :=
  match (s.obj i).stf with
  | some f0 =>
    let f := f0.skip
    let n := Nat.min 4096 f.block
    let n := if f.frontier = f.total then Nat.min n (f.frontier - f.next) else n
    let own (f : Stateful) : State := s.setObj i { s.obj i with stf := some f }
    if f.unknown || !f.ready || decide (f.frontier < f.next + n) then
      ((own { f with wanted := f.wanted.filter (· != (d, h)) ++ [(d, h)] }).askExtension i, none)
    else if n = 0 then (own f, none)
    else
      let g := (f.next, f.next + n)
      (((own { f with next := f.next + n, grants := f.grants ++ [(d, g.1, g.2)] }).extendLease i).warnLow i, some g)
  | none => (s, none)

/-- Grant a device the next sub-range of a key. -/
def State.grantRange (s : State) (d i h : Nat) : State :=
  match s.cutRange d i h with
  | (s, some g) =>
    let f := (s.obj i).stf.getD {}
    s.send d { kind := .subrangeGrant, nums := [h, g.1, g.2, f.levels, f.leaseLog2] }
  | (s, none) => s

/-- The devices that wait for a sub-range of a key ask again. -/
def State.grantWanted (s : State) (i : Nat) : State :=
  match (s.obj i).stf with
  | some f => f.wanted.foldl (fun s q => s.grantRange q.1 i q.2) (s.modStf i fun f => { f with wanted := [] })
  | none => s

/-- Is a staged object the one whose first record a write carries? -/
def LeaseWrite.creates (w : LeaseWrite) (g : Staged) : Bool := w.create && some g.entry == w.entry && g.obj.keyId == w.keyId

/-- What a persisted lease record brings about (R179, R181, R193, R217): a creation's key record is written next (R220); a
key is usable again unless a floor's record is still to come. Where the creation has ended meanwhile, its slot is retired. -/
def State.leaseApply (s : State) (w : LeaseWrite) (r : LeaseRec) : State :=
  if w.retired then s
  else if w.create then
    let lease (f : Stateful) : Stateful := { f with frontier := w.frontier, seq := r.seq }
    let mark (g : Staged) : Staged :=
      if w.creates g then { g with leased := true, obj := { g.obj with stf := g.obj.stf.map lease } } else g
    let s := { s with lode := { s.lode with staged := s.lode.staged.map mark } }
    match s.lode.staged.find? w.creates with
    | some g => s.askRecord g.entry g.index g.obj.tenant g.obj
    | none => s.askRetired w.index w.keyId (lease (w.last.getD {}))
  else
    let s := s.modStf w.index fun f =>
      let f := { f with frontier := w.frontier, seq := r.seq, extending := false }
      let f := match w.floor with
        | some n => { f with next := n, unknown := false, flooring := f.flooring - 1 }
        | none => f
      { f with ready := f.flooring == 0 }
    let s := if w.floor.isSome then s.warnLow w.index else s
    let s := match w.entry with
      | some e => (match s.entry e with
        | some x => if x.await == Await.lease w.index then (s.setEntry e { x with await := .none }).commitOut e [] 0 else s
        | none => s)
      | none => s
    (s.extendLease w.index).grantWanted w.index

/-- A staged creation whose records have all been written comes into being (R179, R220). -/
def State.finishStaged (s : State) (e : Nat) : State :=
  match s.lode.staged.find? fun g => g.entry == e with
  | some g =>
    if g.written && g.leased && !g.replace then
      match s.entry e with
      | some x =>
        let s := s.setEntry e { x with await := .none }
        let s := { s with lode := { s.lode with staged := s.lode.staged.filter fun h => h.entry != e } }
        s.completeCreation e g.index g.obj g.output x.info
      | none => { s with lode := { s.lode with staged := s.lode.staged.filter fun h => h.entry != e } }
    else s
  | none => s

/-- A lease write ends (R184, R185). Read back well, the record stands, the pending pair becomes the committed one,
and FRONTIER rises; a sector's 32nd record starts its erase. Otherwise it is tried again in the same slot, then in
the other; after that the write waits 10 ms, behind the next request, and a LEASE record of cause 3 is logged; a
creation instead ends as MEMORY_UNCORRECTABLE. -/
def State.leaseDone (s : State) (ok : Bool) : State :=
  match s.lode.leaseActive with
  | none => s
  | some w =>
    let r := s.leaseRecord w
    let b := (s.leaseFlash w).getD false
    let x := s.sector b w.slot
    let x := { x with recs := x.recs ++ [if ok then r else { r with mac := [] }] }
    let s := s.setSector b w.slot { x with erasing := decide (32 ≤ x.recs.length) }
    if ok then
      let a := s.lode.anchor
      let s := { s with lode := { s.lode with
        leaseActive := none, lastSlotB := Cells.set (fun _ => true) s.lode.lastSlotB w.slot b
        anchor := { a with seqC := a.seqP, digC := a.digP } } }
      s.leaseApply w r
    else if w.tries < 2 then
      { s with lode := { s.lode with leaseActive := some { w with tries := w.tries + 1 } } }
    else if w.create then
      let s := { s with lode := { s.lode with leaseActive := none } }
      match s.lode.staged.find? w.creates with
      | some g => s.finish g.entry .memoryUncorrectable
      | none => s
    else
      let s := { s with lode := { s.lode with
        leaseActive := none, leaseQueue := s.lode.leaseQueue ++ [{ w with tries := 0, waitRetry := true }] } }
      let o := s.obj w.index
      let f := (w.last.orElse fun _ => o.stf).getD {}
      s.logEvent 0x0008 1 o.tenant 0x0020 0 (3 + w.slot * 65536) s.stamp (f.total - f.next)

def execLeaseWriteDone (ok : Bool) (s : State) : Out := s.clocked (.next (s.leaseDone ok))

/-- Ten milliseconds have passed for the writes that wait to be retried (R185). -/
def execLeaseWriteRetry (s : State) : Out :=
  s.clocked (.next { s with lode := { s.lode with leaseQueue := s.lode.leaseQueue.map fun w => { w with waitRetry := false } } })

/-- A sector's erase has ended (R184). -/
def execSectorEraseDone (b : Bool) (n : Nat) (s : State) : Out :=
  s.clocked (.next (let x := s.sector b n
    if x.erasing then s.setSector b n { recs := [], erases := x.erases + 1, erasing := false } else s))

/-! ## Power-up (R182, R192) -/

/-- The block that a slot's record in force opened (R192): its FRONTIER less that of the record before it, or less 0 for
the first; where that record's sector has been erased, B, or all of a lower FRONTIER (DEDUCED, log 31). -/
def State.openedBlock (s : State) (n : Nat) (r : LeaseRec) : Nat :=
  if r.seq = 1 then r.frontier
  else match (s.slotRecs n).find? fun q => q.seq + 1 == r.seq with
    | some q => r.frontier - q.frontier
    | none => Nat.min (2 ^ r.log2) r.frontier

/-- A key without a usable record (R192): LEASE_UNKNOWN, with an event record. -/
def State.leaseUnknown (s : State) (i : Nat) : State :=
  let s := s.modStf i fun f => { f with unknown := true, ready := true }
  let o := s.obj i
  let f := o.stf.getD {}
  s.logEvent 0x0008 1 o.tenant 0x0020 0 (4 + f.slot * 65536) s.stamp (f.total - f.next)

/-- One key's record in force (R192 steps 3 and 4). -/
def State.leaseResume (s : State) (i : Nat) : State :=
  match (s.obj i).stf with
  | none => s
  | some f =>
    match s.inForce f.slot with
    | some r =>
      let s := s.modStf i fun f =>
        { f with next := r.frontier, frontier := r.frontier, seq := r.seq, burned := r.burned + s.openedBlock f.slot r
                 unknown := false, ready := false, extending := true, flooring := 0 }
      (s.warnLow i).askLease
        { index := i, slot := f.slot, entry := none, frontier := Nat.min f.total (r.frontier + f.block) }
    | none => s.leaseUnknown i

/-- The power-up pass (R192): the table digest against the committed, then the pending pair; on a match every key
resumes above its recorded frontier; otherwise every stateful key is LEASE_UNKNOWN. Slots in force without a key get
a RETIRED record and an event of cause 5, whichever it was. -/
def State.leasePowerup (s : State) : State :=
  let keys := s.objectsWhere fun o => o.isStf
  let d := s.leaseDigest none
  let a := s.lode.anchor
  let occupied := (List.range 1024).any fun n => (s.inForce n).isSome
  let ok := s.lode.leaseKey.isSome && (!occupied || d == a.digC || d == a.digP)
  let s := if ok then s.forEntries keys fun s i => s.leaseResume i else s.forEntries keys fun s i => s.leaseUnknown i
  let s := (List.range 1024).foldl (fun s n =>
    match s.slotOwner n, s.inForce n with
    | none, some r =>
      let f : Stateful := { total := r.total, next := r.total, frontier := r.frontier, burned := r.burned + (r.total - r.frontier)
                            leaseLog2 := r.log2, slot := n, seq := r.seq }
      (s.askRetired (65536 + n) r.keyId f).logEvent 0x0008 1 deviceTenant 0x0020 0 (5 + n * 65536) s.stamp 0
    | _, _ => s) s
  { s with lode := { s.lode with leaseReady := true } }

def execLeasePowerup (s : State) : Out :=
  s.clocked (.next (if s.lode.leaseReady || !s.released 4 || s.restoring then s else s.leasePowerup))

end Sys2Proof.Machine
end

