-- ==== Sys2Proof/Machine/KeyOps.lean ====
section
/-! DEFINITION. Key management (chapter 07): information, import, generation, wrapping and unwrapping, replacement
and its swap, destruction and its end, derivation trees, usage bits, and the flash writes of persistent objects. -/
namespace Sys2Proof.Machine

/-! ## Information -/

/-- KEYID (R208): the first 16 bytes of SHA3-256 of the public key, 0 for symmetric kinds. -/
def Obj.keyIdShort (o : Obj) : Bytes :=
  if o.attr.kind = kindKeypair || o.attr.kind = kindPublic then (sha3 o.pub).take 16 else List.replicate 16 0

/-- STATE of the info record (R208). -/
def State.objState (s : State) (i : Nat) : Nat :=
  if s.lode.staged.any fun g => g.replace && g.oldIndex == i && !g.written then 2 else if (s.obj i).computed then 0 else 1

/-- The 64-byte info record (R208). -/
def State.infoRecord (s : State) (i : Nat) : Bytes :=
  let o := s.obj i
  leBytes 4 (o.handle i) ++ leBytes 1 o.attr.kind ++ leBytes 1 (b2n o.vendorTest) ++ leBytes 2 o.attr.alg ++
    leBytes 2 o.attr.usage ++ leBytes 2 (b2n o.persists) ++ leBytes 1 o.depth ++
    leBytes 3 (materialLen o.attr.kind o.attr.alg o.attr.keyLen) ++ leBytes 8 o.attr.label ++ leBytes 4 o.parent ++
    leBytes 8 o.created ++ leBytes 8 o.seals ++ o.keyIdShort ++ leBytes 1 (s.objState i) ++ [0, 0, 0]

/-- KEY_INFO (R208). -/
def execKeyInfo (e : Nat) (s : State) : Out :=
  s.clocked (.next (s.kernel e .keyInfo (fun _ _ => [])
    (fun s x =>
      s.commitOut e (s.infoRecord (handleIndex x.desc.key)) 0)))

/-- PUB_EXPORT (R206). -/
def execPubExport (e : Nat) (s : State) : Out :=
  s.clocked (.next (s.kernel e .pubExport (fun _ _ => [])
    (fun s x => s.commitOut e (fit (pubLen (s.obj (handleIndex x.desc.key)).attr.alg) (s.obj (handleIndex x.desc.key)).pub) 0)))

/-! ## Import and generation -/

/-- The entry checks of a public key (R111, R154, R161); those of the other families have none (R206). -/
def publicFails (alg : Nat) (pub : Bytes) : List Status :=
  let pp := opParam alg
  match opFamily alg with
  | 1 => if modulusOk pp pub then [] else [.keyCheckFail]
  | 6 | 7 => if paddingOk (opFamily alg) pp pub then [] else [.encodingInvalid]
  | 8 => pointFails pp pub
  | _ => []

/-- A public key as Lode holds it: a NIST point uncompressed (R156). -/
def heldPublic (alg : Nat) (pub : Bytes) : Bytes := if opFamily alg = 8 then unpacked (opParam alg) pub else pub

/-- PUB_IMPORT (R206): the entry checks, then a PUBLIC object. -/
def State.pubImport (s : State) (e : Nat) : State :=
  s.kernel e .pubImport
    (fun _ x =>
      let a := attrOf (slice x.aux 0 32)
      if !(pubLens a.alg).contains (x.desc.auxLen - 32) then [.lengthMismatch] else publicFails a.alg (x.aux.drop 32))
    (fun s x =>
      let a := attrOf (slice x.aux 0 32)
      s.createObject e { attr := a, pub := heldPublic a.alg (x.aux.drop 32) } [] 0)

def execPubImport (e : Nat) (s : State) : Out := s.clocked (.next (s.pubImport e))

/-- Bytes of symmetric or TREE material. -/
def Attr.symLen (a : Attr) : Nat := if a.kind = kindTree then 64 else a.keyLen

/-- SYM_GEN (R206, R212). -/
def State.symGen (s : State) (e : Nat) : State :=
  s.kernel e .symGen (fun _ _ => [])
    (fun s x =>
      let a := attrOf (slice x.aux 0 32)
      s.withDraw e x a.symLen fun s key => s.createObject e { attr := a, secret := key } [] 0)

def execSymGen (e : Nat) (s : State) : Out := s.clocked (.next (s.symGen e))

/-! ## Wrapping (R209, R210) -/

/-- Does the private encoding contain the public key (R210)? -/
def selfContained (alg : Nat) : Bool := [1, 3, 6, 7, 9].contains (opFamily alg)

/-- The material of an object as it is wrapped (R210); a PUBLIC object's is its public key with what Lode keeps of it
(R198). -/
def Obj.material (o : Obj) : Bytes :=
  let n := materialLen o.attr.kind o.attr.alg o.attr.keyLen
  if o.attr.kind = kindKeypair then fit n (if selfContained o.attr.alg then o.secret else o.secret ++ o.pub)
  else if o.attr.kind = kindPublic then
    fit n (o.pub ++ (match opFamily o.attr.alg with | 1 => sha3 o.pub | 2 => trOf o.pub | _ => []))
  else fit n o.secret

/-- Bytes 0 to 47 of a blob (R209). -/
def blobHeader (ff matLen : Nat) (kekId : Bytes) (attr : Attr) : Bytes :=
  ascii "FVKW" ++ leBytes 2 1 ++ leBytes 1 ff ++ [0] ++ leBytes 4 matLen ++ fit 4 kekId ++ attr.bytes

/-- KEKID (R209): of the KEK, or of its public key. -/
def kekIdOf (ff : Nat) (kek : Bound) : Bytes :=
  if ff = 1 then (kmac32 kek.secret [] "FV kekid").take 4 else (sha3 kek.pub).take 4

/-- KEY_WRAP (R209). -/
def State.keyWrap (s : State) (e : Nat) : State :=
  s.kernel e .keyWrap (fun _ _ => [])
    (fun s x =>
      match x.bound2 with
      | none => s
      | some kek =>
        let ff := opParam x.desc.opcode
        let o := s.obj (handleIndex x.desc.key)
        let mat := { o with secret := x.secret }.material
        let hdr := blobHeader ff mat.length (kekIdOf ff kek) o.attr
        let wrapUp (key iv c : Bytes) : Bytes :=
          hdr ++ c ++ iv ++ fit mat.length (Config.prim .gcmCt [key, iv, hdr ++ c, mat]) ++
            fit 16 (Config.prim .gcmTag [key, iv, hdr ++ c, mat])
        if ff = 1 then
          s.withDraw e x 12 fun s iv =>
            let i := kek.index
            let s := if s.handleStatus x.tenant kek.handle = none
              then s.setObj i { s.obj i with seals := (s.obj i).seals + 1 } else s
            s.commitOut e (wrapUp kek.secret iv []) 0
        else
          s.withDraw e x 32 fun s m =>
            let pp := wrapSet ff
            let c := fit (kemSizes pp).2.2 (Config.prim (.kemCt pp) [kek.pub, m])
            let k := fit 32 (Config.prim (.kemKey pp) [kek.pub, m])
            s.commitOut e (wrapUp (kmac32 k hdr "FV wrap") (List.replicate 12 0) c) 0)

def execKeyWrap (e : Nat) (s : State) : Out := s.clocked (.next (s.keyWrap e))

/-! ## Unwrapping (R211) -/

/-- A blob's fields, at the places its format gives them. -/
structure Blob where
  format : Nat
  matLen : Nat
  kekId : Bytes
  attrBytes : Bytes
  aad : Bytes
  ct : Bytes
  iv : Bytes
  body : Bytes
  tag : Bytes
  headOk : Bool
deriving DecidableEq, Repr

/-- Read a blob as one of format `ff`. -/
def blobOf (ff : Nat) (bs : Bytes) : Blob :=
  let cl := blobExtra ff - 76
  let n := leField bs 8 4
  { format := leField bs 6 1, matLen := n, kekId := slice bs 12 4, attrBytes := slice bs 16 32, aad := slice bs 0 (48 + cl),
    ct := slice bs 48 cl, iv := slice bs (48 + cl) 12, body := slice bs (60 + cl) n, tag := slice bs (60 + cl + n) 16,
    headOk := slice bs 0 4 == ascii "FVKW" && leField bs 4 2 == 1 && leField bs 7 1 == 0 }

/-- The wrapping key of a blob under a KEK (R209). -/
def blobKey (ff : Nat) (kek : Bound) (b : Blob) : Bytes :=
  if ff = 1 then kek.secret
  else kmac32 (fit 32 (Config.prim (.kemDec (wrapSet ff)) [kek.secret, b.ct])) (b.aad.take 48) "FV wrap"

/-- The object that unwrapped material makes (R210): an ordinary object of its attribute block. -/
def unwrapped (a : Attr) (mat : Bytes) : Obj :=
  let f := opFamily a.alg
  let pp := opParam a.alg
  if a.kind = kindPublic then { attr := a, pub := mat.take (pubLen a.alg) }
  else if a.kind = kindKeypair then
    let sec := mat.take (secLen a.alg)
    { attr := a, secret := sec
      pub := if f = 9 then mat.take (pubLen a.alg)
             else if f = 1 then dkEk pp sec
             else if f = 3 then slice sec (2 * slhN pp) (2 * slhN pp)
             else if selfContained a.alg then fit (pubLen a.alg) (Config.prim (.embedded f pp) [sec])
             else mat.drop (secLen a.alg) }
  else { attr := a, secret := mat }

/-- The entry checks and the pairwise test of unwrapped material: all KEY_CHECK_FAIL (R211). -/
def unwrapFails (o : Obj) : List Status :=
  if o.attr.kind = kindPublic then (publicFails o.attr.alg o.pub).map fun _ => .keyCheckFail
  else if o.attr.kind = kindKeypair then
    ((publicFails o.attr.alg o.pub).map fun _ => Status.keyCheckFail) ++
    (if pairOk o.attr.alg (o.pub, o.secret) then [] else [.keyCheckFail])
  else []

/-- Every failing check of a blob (R211); `ffOk` says whether its FORMAT is one asked for. -/
def blobFails (x : Entry) (ff : Nat) (ffOk : Bool) (kek : Bound) (b : Blob) : List Status :=
  let a := attrOf b.attrBytes
  let key := blobKey ff kek b
  let mat := fit b.matLen (Config.prim .gcmPt [key, b.iv, b.aad, b.body])
  (if x.desc.auxLen != blobExtra ff + b.matLen || b.matLen != materialLen a.kind a.alg a.keyLen then [.lengthMismatch] else []) ++
  (if !b.headOk || !ffOk || !attrValid b.attrBytes then [.encodingInvalid] else []) ++
  (if algStf a.alg then [.usageDenied] else []) ++
  (if b.kekId != kekIdOf ff kek then [.keyCheckFail] else []) ++
  (if Config.holds .gcmTag [key, b.iv, b.aad, b.body, b.tag] then unwrapFails (unwrapped a mat) else [.verifyReject])

/-- The object a blob makes. -/
def blobObj (ff : Nat) (kek : Bound) (b : Blob) : Obj :=
  unwrapped (attrOf b.attrBytes) (fit b.matLen (Config.prim .gcmPt [blobKey ff kek b, b.iv, b.aad, b.body]))

/-- KEY_UNWRAP (R211). -/
def State.keyUnwrap (s : State) (e : Nat) : State :=
  s.kernel e .keyUnwrap
    (fun _ x =>
      let ff := opParam x.desc.opcode
      let b := blobOf ff x.aux
      match x.bound2 with | some kek => blobFails x ff (b.format == ff) kek b | none => [])
    (fun s x =>
      match x.bound2 with
      | some kek => s.createObject e (blobObj (opParam x.desc.opcode) kek (blobOf (opParam x.desc.opcode) x.aux)) [] 0
      | none => s)

def execKeyUnwrap (e : Nat) (s : State) : Out := s.clocked (.next (s.keyUnwrap e))

/-! ## Replacement (R215, R216) -/

/-- The failing checks of a replacement's source (R215). -/
def replaceFails (s : State) (x : Entry) : List Status :=
  let old := s.obj (handleIndex x.desc.key)
  match x.desc.mode with
  | 1 => publicFails old.attr.alg x.aux
  | 2 =>
    let ff := leField x.aux 6 1
    let b := blobOf ff x.aux
    let a := attrOf b.attrBytes
    match x.bound2 with
    | some kek =>
      let suits := if ff = 1 then kek.kind == kindKek else kek.alg == 0x1000 + wrapSet ff && kek.kind == kindKeypair
      blobFails x ff (decide (1 ≤ ff) && decide (ff ≤ 3)) kek b ++
        (if a.kind != old.attr.kind || a.alg != old.attr.alg || !suits then [.usageDenied] else []) ++
        (if kindSym a.kind && !Config.holds (.knownAnswer 1) [(blobObj ff kek b).secret] then [.keyCheckFail] else [])
    | none => []
  | _ => []

/-- KEY_REPLACE (R215, R216): the new material, checked and staged; the swap comes after its record. -/
def State.keyReplace (s : State) (e : Nat) : State :=
  s.kernel e .keyReplace replaceFails
    (fun s x =>
      let old := s.obj (handleIndex x.desc.key)
      match x.desc.mode with
      | 1 => s.stageReplacement e { attr := old.attr, pub := heldPublic old.attr.alg x.aux } []
      | 2 =>
        let ff := leField x.aux 6 1
        (match x.bound2 with
          | some kek => s.stageReplacement e (blobObj ff kek (blobOf ff x.aux)) []
          | none => s)
      | _ =>
        if old.attr.kind = kindKeypair then
          let alg := old.attr.alg
          s.withDraw e x (drawLen alg) fun s r => s.blindPair e x alg fun s =>
            let kp := keyPair alg (drawnSeed alg r)
            if pairOk alg kp then s.stageReplacement e { attr := old.attr, pub := kp.1, secret := kp.2 } kp.1
            else s.failContent e .keyReplace x .keyCheckFail
        else
          s.withDraw e x old.attr.symLen fun s key =>
            if Config.holds (.knownAnswer 1) [key] then s.stageReplacement e { attr := old.attr, secret := key } []
            else s.failContent e .keyReplace x .keyCheckFail)

def execKeyReplace (e : Nat) (s : State) : Out := s.clocked (.next (s.keyReplace e))

/-- KEY_SWAP (R216 step 4): the staged replacement of entry `e` takes the index once its record, if any, is written. -/
def State.keySwap (s : State) (e : Nat) : State :=
  match s.lode.staged.find? fun g => g.entry == e && g.replace with
  | some g => if g.written && (s.entry e).isSome then s.swapKey g else s
  | none => s

def execKeySwap (e : Nat) (s : State) : Out := s.clocked (.next (s.keySwap e))

/-! ## Destruction (R217) -/

/-- KEY_DESTROY (R217): the object and its descendants go at stamp D; the completion waits for the holders and the
markers. -/
def State.keyDestroy (s : State) (e : Nat) : State :=
  s.kernel e .keyDestroy (fun _ _ => [])
    (fun s x => (s.setEntry e { x with await := .holders }).destroyAll [handleIndex x.desc.key] 0 (some e) true)

def execKeyDestroy (e : Nat) (s : State) : Out := s.clocked (.next (s.keyDestroy e))

/-- Does entry `f` still hold material: is it still on a unit? -/
def State.holding (s : State) (f : Nat) : Bool :=
  match s.entry f with
  | some y => y.state == .dispatched && y.stopping.isSome
  | none => false

/-- Once the holders and the workers have acknowledged and the markers are in both flashes, the destruction completes
(R217, R424). -/
def State.destroyComplete (s : State) (e : Nat) : State :=
  match s.entry e with
  | some x =>
    let busy := (s.lode.holders.any fun p => p.1 == e && s.holding p.2) ||
      (s.lode.writes.any fun w => w.marker && w.entry == some e) || s.zdp.purges.any fun q => q.2.2 == some e
    if x.live && x.await == .holders && !busy then
      let s := { s with lode := { s.lode with holders := s.lode.holders.filter fun p => p.1 != e } }
      (s.setEntry e { x with await := .none }).commitOut e [] 0
    else s
  | none => s

def execDestroyComplete (e : Nat) (s : State) : Out := s.clocked (.next (s.destroyComplete e))

/-! ## Derivation trees (R212, R213) -/

/-- TREE_DERIVE (R212, R213): a node or symmetric leaf is placed with the mark that it is not computed; a key pair is computed now, its seed as long
as a drawn one, and d = (seed mod (n − 1)) + 1 on a NIST curve. -/
def State.treeDerive (s : State) (e : Nat) : State :=
  s.kernel e .treeDerive (fun _ _ => [])
    (fun s x =>
      let a := attrOf (slice x.aux 0 32)
      let label := slice x.aux 33 (leField x.aux 32 1)
      let base : Obj := { attr := a, parent := x.desc.key, depth := (s.obj (handleIndex x.desc.key)).depth + 1,
                          treeLabel := label }
      if a.kind = kindKeypair then s.blindPair e x a.alg fun s =>
        let kp := keyPair a.alg (drawnSeed a.alg (treeSeed x.secret label a.kind a.alg (drawLen a.alg)))
        if pairOk a.alg kp then s.createObject e { base with pub := kp.1, secret := kp.2 } kp.1 0
        else s.failContent e .treeDerive x .keyCheckFail
      else s.createObject e { base with computed := false, secret := treeSeed x.secret label a.kind a.alg a.symLen } [] 0)

def execTreeDerive (e : Nat) (s : State) : Out := s.clocked (.next (s.treeDerive e))

/-! ## Usage bits (R206, R552) -/

/-- USAGE_CLEAR: the bits go; with PERSIST it completes after the updated record is in both flashes. -/
def State.usageClear (s : State) (e : Nat) : State :=
  s.kernel e .usageClear (fun _ _ => [])
    (fun s x =>
      let i := handleIndex x.desc.key
      let o := s.obj i
      let o := { o with attr := { o.attr with usage := o.attr.usage &&& (0xFFFF - leField x.aux 0 2) } }
      let s := s.setObj i o
      if o.persists then
        let s := s.setEntry e { x with await := .keyRecord }
        { s with lode := { s.lode with writes := s.lode.writes ++
            [{ entry := some e, index := i, handle := o.handle i, marker := false, obj := o }] } }
      else s.commitOut e [] 0)

def execUsageClear (e : Nat) (s : State) : Out := s.clocked (.next (s.usageClear e))

/-! ## Flash writes of key records (R217, R220) -/

/-- An object's blob in format 0x80 (R209, R220): handle and record sequence are additional data. -/
def recordBlob (key iv : Bytes) (o : Obj) (handle seq : Nat) : Bytes :=
  let mat := o.material
  let hdr := blobHeader 0x80 mat.length (kekIdOf 1 { secret := key }) o.attr
  let aad := hdr ++ leBytes 4 handle ++ leBytes 8 seq
  hdr ++ iv ++ fit mat.length (Config.prim .gcmCt [key, iv, aad, mat]) ++ fit 16 (Config.prim .gcmTag [key, iv, aad, mat])

/-- The record an object's write leaves in both flashes (R220); a destruction marker holds no material. None while Lode has
no storage key, or no generator for the IV. -/
def State.recordOf (s : State) (w : StoreWrite) : State × Option KeyRecord :=
  match s.lode.storageKey with
  | none => (s, none)
  | some key =>
    let r : KeyRecord := { handle := w.handle, seq := s.lode.recordSeq + 1, marker := w.marker, obj := w.obj, under := key }
    if w.marker then (s, some r)
    else match s.drawCentral 3 12 with
      | (s, some iv) => (s, some { r with blob := recordBlob key iv w.obj w.handle r.seq })
      | (s, none) => (s, none)

/-- The records of an index that stay when a new one is written: the newest (DESIGN CHOICE, log 30). -/
def newestRecord (l : List KeyRecord) : Option KeyRecord :=
  l.foldl (fun (b : Option KeyRecord) r =>
    match b with
    | some q => if q.seq < r.seq then some r else b
    | none => some r) none

/-- A write that failed waits for its retry; it is logged and shown (R217, R222, R505). -/
def State.storeFailed (s : State) (w : StoreWrite) : State :=
  let ws := (s.lode.writes.erase w) ++ [{ w with failed := true, tries := w.tries + 1 }]
  let s := { s with lode := { s.lode with writes := ws, storeRetry := true } }
  (s.setErr .lod 16).logEvent 0x0015 1 (handleTenant w.handle) 0x0020 0 w.handle s.stamp w.tries

/-- A write that succeeded (R220): its record is the object's newest; a new object comes into being, a replacement
may swap, an update completes. -/
def State.storeWritten (s : State) (w : StoreWrite) (r : KeyRecord) : State :=
  let ws := s.lode.writes.erase w
  let old := s.lode.records.filter fun q => handleIndex q.handle == w.index
  let s := { s with lode := { s.lode with
    writes := ws
    records := (s.lode.records.filter fun q => handleIndex q.handle != w.index) ++ (newestRecord old).toList ++ [r]
    recordSeq := r.seq, storeRetry := ws.any fun v => v.failed } }
  match w.entry with
  | none => s
  | some e =>
    if w.marker then s
    else if s.lode.staged.any fun g => g.entry == e then
      let mark (g : Staged) : Staged := if g.entry = e then { g with written := true } else g
      { s with lode := { s.lode with staged := s.lode.staged.map mark } }.finishStaged e
    else match s.entry e with
      | some x => if x.await == .keyRecord then (s.setEntry e { x with await := .none }).commitOut e [] 0 else s
      | none => s

/-- Once the last destruction marker of a removed tenant is written, the removal is complete (R407). -/
def State.removalCheck (s : State) (t : Nat) : State :=
  let f := s.fn t
  let left := s.lode.writes.any fun w => w.marker && handleTenant w.handle == t
  if f.removeWait && !left then
    (s.setFn t { f with removeWait := false, phase := if f.enabled then .active else .absent }).setInt (.tntA t) 20
  else s

/-- A key-record write for a handle ends (R220). -/
def State.keyRecordDone (s : State) (handle : Nat) (ok : Bool) : State :=
  match s.lode.writes.find? fun w => w.handle == handle && !w.failed with
  | some w =>
    match s.recordOf w with
    | (s, some r) => if ok then (s.storeWritten w r).removalCheck (handleTenant handle) else s.storeFailed w
    | (_, none) => s
  | none => s

def execKeyRecordWriteDone (handle : Nat) (ok : Bool) (s : State) : Out := s.clocked (.next (s.keyRecordDone handle ok))

/-- Ten milliseconds have passed: the failed writes are tried again (R217). -/
def State.storeRetryAll (s : State) : State :=
  { s with lode := { s.lode with writes := s.lode.writes.map fun w => { w with failed := false }, storeRetry := false } }

def execStoreWriteRetry (s : State) : Out := s.clocked (.next s.storeRetryAll)

end Sys2Proof.Machine
end

