-- ==== Sys2Proof/Machine/Sluice.lean ====
section
/-! DEFINITION. Sluice (R280 to R283): what a channel forms while a descriptor's input streams in (R118, R119, R137,
R146, R148, R158, R159, R164, R168, R555), how channels are granted, and the reservation of channel 31. -/
namespace Sys2Proof.Machine

/-- PH(M) of an operation, or the digest its input buffer holds (DIGEST). -/
def formedHash (d : Desc) (m : Bytes) : Bytes := if d.opt 3 then m else preHash d.ph m

/-- A public key at the head of the auxiliary buffer, or of the object KEY names as Lode supplies it (R118). -/
def State.sluicePub (s : State) (x : Entry) (aux : Bytes) (n : Nat) : Bytes :=
  if x.desc.key = 0 then slice aux 0 n else (s.obj (handleIndex x.desc.key)).pub

/-- The digest that a channel forms for an operation: `aux` is its auxiliary buffer, `m` its input (R118, R137, R146,
R148, R158, R159, R164, R168, R555). -/
def State.sluiceDigest (s : State) (k : OpKind) (x : Entry) (aux m : Bytes) : Bytes :=
  let d := x.desc
  let pp := opParam d.opcode
  let own (n : Nat) : Nat := if d.key = 0 then n else 0
  let msg (off : Nat) : Bytes :=
    if d.mode = 0 then mPrime false (ctxAt aux off) 0 m else mPrime true (ctxAt aux off) d.ph (formedHash d m)
  match k with
  | .dsaSign | .dsaVerify =>
    let n := (dsaSizes pp).1
    muOf (s.sluicePub x aux n) (msg (if k = .dsaVerify then own n else 0))
  | .compSign | .compVerify => hashOf 0x04 m
  | .slhVerify =>
    let n := 2 * slhN pp
    fit 64 (Config.prim (.slhMsg pp) [slice aux (d.auxLen - slhSigLen pp) (slhN pp), s.sluicePub x aux n, msg (own n)])
  | .ecVerify =>
    if ecNist pp then preHash d.ph m
    else
      let n := (ecSizes pp).2.1
      let off := own n
      let text := if d.mode = 1 then (if d.opt 3 then m else if pp = 0x10 then hashOf 0x04 m else shake256 64 m) else m
      Config.prim (.edHash pp d.mode)
        [slice aux (d.auxLen - (ecSizes pp).2.2.1) ((ecSizes pp).2.2.1 / 2), s.sluicePub x aux n, ctxAt aux off, text]
  | .ecSign => if ecNist pp then preHash d.ph m else if pp = 0x10 then hashOf 0x04 m else shake256 64 m
  | .slhSign | .rsaSign | .rsaVerify => preHash d.ph m
  | .hash =>
    let n := if hashLen pp = 0 then d.outCap else hashLen pp
    let h := cshakeHead aux
    fit n (Config.prim (.hash pp) (if 0x0D ≤ pp then [m, h.1, h.2.1] else [m]))
  | .stfVerify =>
    (match s.stfKey x aux with
      | .ok key => Config.prim (.stfMsg (opFamily d.opcode) key.pp) [s.sluicePub x aux key.len, aux.drop key.len, m]
      | .error _ => [])
  | _ => []

/-- A channel has hashed a descriptor's input (R118, R281): the digest goes with the entry and the channel is free. After
a hand-off the operation simply goes on. -/
def State.sluiceDone (s : State) (e : Nat) : State :=
  match s.entry e with
  | none => s
  | some x =>
    match x.sluice, x.desc.kind with
    | .hashing _, some k =>
      if !s.dmaOk x && x.desc.inLen != 0 then (s.modEntry e fun y => { y with sluice := .none }).endWith e .dmaFault true
      else if x.state == .dispatched then
        let handed := match s.run e with | some r => r.handed | none => []
        let digest := if handed = [] then x.digest else fit 64 (Config.prim (.handOff x.desc.opcode) [handed, s.inputOf x])
        s.setEntry e { x with sluice := .hashed, digest := digest }
      else s.setEntry e { x with sluice := .hashed, digest := s.sluiceDigest k x x.aux (s.inputOf x) }
    | _, _ => s

def execSluiceHashDone (e : Nat) (s : State) : Out := s.clocked (.next (s.sluiceDone e))

/-- Is request `y` granted before request `x` (R281): urgent first, then in the order of request? -/
def channelBefore (y x : Entry) : Bool :=
  let uy := y.desc.prio == 0
  let ux := x.desc.prio == 0
  (uy && !ux) || (uy == ux && decide (y.sluiceOrder < x.sluiceOrder))

/-- The waiting request to grant next. -/
def State.nextChannel (s : State) : Option Nat :=
  let cands := s.tally.entries.filter fun q => q.2.sluice == .waiting
  match cands with
  | [] => none
  | c :: r => some (r.foldl (fun b p => if channelBefore p.2 b.2 then p else b) c).1

/-- A free channel goes to the oldest waiting request, urgent first (R281). -/
def State.grantChannel (s : State) : State :=
  match s.freeChannel, s.nextChannel with
  | some c, some e => s.openChannel e c
  | _, _ => s

def execSluiceChannelGrant (s : State) : Out := s.clocked (.next s.grantChannel)

/-- A write of `SLC_RESV` (R283, R286): Headframe's alone; anyone else's is ignored with `ERR.ACCESS`. -/
def State.resvWrite (s : State) (req : Requester) (v : Word) : State :=
  s.gated req .slc 0x10C fun s =>
    if req.isHeadframe then s.setReg .slc 0x10C (v &&& 1) else s.accessErr .slc

def execSlcResvWrite (req : Requester) (value : BitVec 32) (s : State) : Out := .next (s.resvWrite req value)

end Sys2Proof.Machine
end

