-- ==== Sys2Proof/Machine/Dgs.lean ====
section
/-! DEFINITION. The digest service (R265 to R279, R284, R285): contexts, their commands and data writes, the cores'
round robin, results and comparisons. -/
namespace Sys2Proof.Machine

/-! ## A context's configuration -/

def Ctx.mode (x : Ctx) : Nat := field x.cfg 3 0
def Ctx.alg (x : Ctx) : Nat := field x.cfg 15 8
def Ctx.lastword (x : Ctx) : Bool := bit x.cfg 16
def Ctx.msgLen (x : Ctx) : Nat := x.lenLo.toNat + 2 ^ 32 * x.lenHi.toNat

/-- Is the result squeezed: SHAKE, cSHAKE, KMACXOF? -/
def Ctx.xof (x : Ctx) : Bool := (x.mode == 0 && decide (0x0B ≤ x.alg)) || x.mode == 3

/-- The block of the context's algorithm in bytes (R265). -/
def Ctx.block (x : Ctx) : Nat := if x.mode ≤ 1 then hashBlock x.alg else kmacRate x.alg

/-- The length of the whole result (R275). -/
def Ctx.resultLen (x : Ctx) : Nat :=
  let n := field x.outlen 16 0
  match x.mode with
  | 0 => if x.alg < 0x0B then hashLen x.alg else if n = 0 then 64 else n
  | 1 => hashLen x.alg
  | _ => if n = 0 then 64 else n

/-- Is the configuration valid at OPEN (R285, R275)? -/
def Ctx.valid (x : Ctx) : Bool :=
  let n := field x.outlen 16 0
  match x.mode with
  | 0 => decide (1 ≤ x.alg) && decide (x.alg ≤ 0x0E) && (!x.xof || decide (n ≤ 65536))
  | 1 => hmacCodes.contains x.alg
  | 2 => (x.alg == 1 || x.alg == 2) && decide (n ≤ 64)
  | 3 => (x.alg == 1 || x.alg == 2) && decide (n ≤ 65536)
  | _ => false

/-- Does a parameter header lead the data (R271)? 0 none, 1 S alone, 2 N and S. -/
def Ctx.header (x : Ctx) : Nat := if 2 ≤ x.mode then 1 else if x.mode = 0 && decide (0x0D ≤ x.alg) then 2 else 0

/-- The header's length once the bytes that state it are there. -/
def Ctx.headerLen (x : Ctx) : Option Nat :=
  let have_ (n : Nat) : Option Nat := if n ≤ x.data.length then some n else none
  match x.header with
  | 0 => some 0
  | 1 => if x.data.length < 1 then none else have_ (1 + leField x.data 0 1)
  | _ =>
    let n := leField x.data 0 1
    if x.data.length < 2 + n then none else have_ (2 + n + leField x.data (1 + n) 1)

/-- Message bytes absorbed (R271): what follows the header. -/
def Ctx.counted (x : Ctx) : Nat := match x.headerLen with | some n => x.data.length - n | none => 0

/-- `DGS_STS.SPACE` (R269): free input words, two blocks less what is buffered. -/
def Ctx.space (x : Ctx) : Nat := if x.state = 1 then (2 * x.block - x.waiting) / 4 else 0

/-- Padding bytes that every message takes at least (FIPS 180-4, FIPS 202; KMAC encodes L after the message). -/
def Ctx.padMin (x : Ctx) : Nat :=
  if 2 ≤ x.mode then 4 else if x.alg ≤ 2 then 9 else if x.alg ≤ 6 then 17 else 1

/-! ## The tenant's contexts -/

/-- The context that a tenant's `DGS_CTX` selects. -/
def State.dgsSel (s : State) (t : Nat) : Nat := s.regField (.tdgs t) 0x100 9 0

def State.dgsCur (s : State) (t : Nat) : Ctx := s.ctx t (s.dgsSel t)

def State.setCur (s : State) (t : Nat) (x : Ctx) : State := s.setCtx t (s.dgsSel t) x

/-- Set a flag of the selected context. -/
def State.dgsErr (s : State) (t b : Nat) : State := s.dgsFlag t (s.dgsSel t) b

/-- Clear the selected context with a flag. -/
def State.dgsKill (s : State) (t b : Nat) : State := s.dgsClear t (s.dgsSel t) b

/-- Slots in use by a tenant, and on the device. -/
def State.slotUse (s : State) (t : Nat) : Nat := (s.ctxs.filter fun p => p.1 / 1024 == t && p.2.state != 0).length
def State.slotUseAll (s : State) : Nat := Cells.count (fun x : Ctx => x.state != 0) s.ctxs

/-! ## Cores (R268) -/

/-- Has the context a block for a core: a whole one buffered, or blocks owed, and no core on it yet? -/
def State.blockPending (s : State) (k : Nat) (x : Ctx) : Bool :=
  (x.state == 1 || x.state == 2) && (decide (x.block ≤ x.waiting) || x.extra != 0) && !s.dgs.cores.any fun p => p.2 == k

/-- The first pending context after a place, in cyclic order of tenant and local number. -/
def nextAfter (l : List Nat) (last : Nat) : Option Nat :=
  match l.find? fun k => decide (last < k) with
  | some k => some k
  | none => l.head?

/-- The context the round robin serves next: tenants in turn, and a tenant's contexts in turn (R268). -/
def State.nextContext (s : State) : Option Nat :=
  let pend := (s.ctxs.filter fun p => s.blockPending p.1 p.2).map fun p => p.1
  let ts := (pend.map fun k => k / 1024).eraseDups
  match nextAfter ts s.dgs.lastTenant with
  | some t => nextAfter (pend.filter fun k => k / 1024 == t) (t * 1024 + countAt s.dgs.lastCtx t)
  | none => none

/-- Does a core take blocks: in service and not drained (R35, `RST_DCORE.DRAIN`, R445)? -/
def State.coreServes (s : State) (c : Nat) : Bool := !s.dgs.dead.contains c && !bit (s.reg .rst 0x138) c

/-- An idle core takes the next pending context. -/
def State.coreTake (s : State) (c : Nat) : State :=
  if !s.coreServes c || s.dgs.cores.any (fun p => p.1 == c) then s
  else match s.nextContext with
    | some k => { s with dgs := { s.dgs with cores := Cells.put s.dgs.cores c k, lastTenant := k / 1024
                                             lastCtx := Cells.set (fun _ => 0) s.dgs.lastCtx (k / 1024) (k % 1024) } }
    | none => s

/-- Every idle core takes what is pending. -/
def State.feedCores (s : State) : State := (List.range 16).foldl (fun s c => s.coreTake c) s

/-! ## Finalising -/

/-- The result of a context over all it absorbed (R272, R278): the same as the opcodes of R167 give. -/
def Ctx.final (x : Ctx) : Bytes :=
  let n := x.resultLen
  let h := x.headerLen.getD 0
  let m := x.data.drop h
  let custom := if x.header = 2 then (cshakeHead x.data).2.1 else slice x.data 1 (h - 1)
  match x.mode with
  | 0 => fit n (Config.prim (.hash x.alg) (if x.header = 2 then [m, (cshakeHead x.data).1, custom] else [m]))
  | 1 => fit n (Config.prim (.hmac x.alg) [x.secret, m])
  | md => fit n (Config.prim (.kmac x.alg (md == 3) n) [x.secret, m, custom])

/-- The end of the message (R272): the last blocks are owed to a core; a header that disagrees with the bytes written
clears the context (R271). -/
def State.dgsFinalise (s : State) (t c : Nat) : State :=
  let x := s.ctx t c
  match x.headerLen with
  | none => s.dgsClear t c 3
  | some _ =>
    let owed := ceilDiv (x.waiting % x.block + x.padMin) x.block + (if x.mode = 1 then 1 else 0)
    (s.setCtx t c { x with state := 2, extra := x.extra + owed, waiting := x.waiting - x.waiting % x.block }).feedCores

/-- DONE: the result window is valid, and the page's `INTSTS` DONE sets (R274, R285). -/
def State.dgsDone (s : State) (t c : Nat) : State :=
  let x := s.ctx t c
  let x := if x.squeezing then { x with squeezing := false } else { x with result := x.final, window := 0 }
  (s.setCtx t c { x with state := 3, readWords := [], spent := false, data := [], secret := if x.keyed then [] else x.secret }).setInt (.tdgs t) 16

/-- A core ends a block (R268): the context advances, or is DONE after its last; the core takes the next one. -/
def State.blockDone (s : State) (core : Nat) : State :=
  match lookup s.dgs.cores core with
  | none => s
  | some k =>
    let t := k / 1024
    let c := k % 1024
    let x := s.ctx t c
    let s := { s with dgs := { s.dgs with cores := Cells.erase s.dgs.cores core } }
    let s :=
      if x.state = 1 || x.state = 2 then
        let x := if x.block ≤ x.waiting then { x with waiting := x.waiting - x.block } else { x with extra := x.extra - 1 }
        let s := s.setCtx t c x
        if x.state = 2 && x.extra == 0 && decide (x.waiting < x.block) then s.dgsDone t c else s
      else s
    s.feedCores

def execDgsBlockDone (core : Nat) (s : State) : Out := s.clocked (.next (s.blockDone core))

/-! ## Absorbing -/

/-- The longest message of the algorithm: 2^61 − 1 bytes for SHA-224 and SHA-256 (R273); HMAC's key block is part of what its
hash takes. -/
def Ctx.tooLong (x : Ctx) : Bool :=
  decide (x.mode ≤ 1) && decide (x.alg ≤ 2) && decide (2 ^ 61 ≤ x.counted + (if x.mode = 1 then x.block else 0))

/-- Absorb some bytes; in COUNT mode those beyond the message's length are ignored, and reaching it finalises. -/
def State.dgsAbsorb (s : State) (t c : Nat) (bs : Bytes) : State :=
  let step (x : Ctx) (b : Byte) : Ctx :=
    if !x.lastword && x.headerLen.isSome && decide (x.msgLen ≤ x.counted) then x
    else { x with data := x.data ++ [b], waiting := x.waiting + 1 }
  let x := bs.foldl step (s.ctx t c)
  let x := { x with count := x.counted }
  let s := s.setCtx t c x
  if x.tooLong then s.dgsClear t c 2
  else if !x.lastword && x.headerLen.isSome && decide (x.msgLen ≤ x.counted) then s.dgsFinalise t c
  else s.feedCores

/-- A data write (R269, R270, R272, R273, R279) of `n` valid bytes of a word, behind the gate; `last` is a `DGS_DLAST`
write. -/
def State.dgsData (s : State) (t : Nat) (v : Word) (last poisoned : Bool) : State :=
  let c := s.dgsSel t
  let x := s.ctx t c
  let n := if last && x.lastword then field x.lastvb 2 0 else 4
  if poisoned && x.working then s.dgsKill t 5
  else match x.state with
    | 1 =>
      if x.space = 0 then s.dgsKill t 4
      else if 4 < n then s.dgsKill t 13
      else
        let s := s.dgsAbsorb t c ((leBytes 4 v.toNat).take n)
        if last && x.lastword && (s.ctx t c).state == 1 then s.dgsFinalise t c else s
    | 2 | 3 => if x.lastword then s.dgsErr t 12 else s.dgsKill t 2
    | _ => s.dgsErr t 12

def execDgsDinWrite (req : Requester) (t : Nat) (value : BitVec 32) (poisoned : Bool) (s : State) : Out :=
  .next (s.gated req (.tdgs t) 0x130 fun s => s.dgsData t value false poisoned)

def execDgsDlastWrite (req : Requester) (t : Nat) (value : BitVec 32) (poisoned : Bool) (s : State) : Out :=
  .next (s.gated req (.tdgs t) 0x134 fun s => s.dgsData t value true poisoned)

/-! ## Commands -/

/-- The handle checks of a keyed context (R267): those of R201 for the HMAC and KMAC rows, with MAC or MACVERIFY. -/
def State.dgsKeyOk (s : State) (t : Nat) (x : Ctx) : Bool :=
  let h := x.key.toNat
  let o := s.obj (handleIndex h)
  let kind := if x.mode = 1 then kindHmac else kindKmac
  s.handleStatus t h == none && o.cacheOf.isNone && o.attr.kind == kind && o.attr.alg == 0xA000 + x.alg &&
    (o.attr.usage.testBit useMac || o.attr.usage.testBit useMacVerify)

/-- A context enters ABSORB with count 0; a keyed one is bound to its object and receives its key, masked by the Lode masking
generator (R278, R279). -/
def State.dgsStart (s : State) (t c : Nat) : State :=
  let x := s.ctx t c
  let i := handleIndex x.key.toNat
  let s := s.dropCore t c
  let s := if x.keyed then (s.computeNode i).maskFresh else s
  let o := s.obj i
  let x := { x with
    state := 1, count := 0, data := [], waiting := 0, result := [], window := 0, squeezing := false
    readWords := [], spent := false, matched := false, cmpDone := false, cmpAt := none
    extra := if x.keyed then 1 else 0, bound := if x.keyed then some i else none
    secret := if x.keyed then o.secret else [], usage := if x.keyed then o.attr.usage else 0 }
  let s := s.setCtx t c x
  if !x.lastword && x.header == 0 && x.msgLen == 0 then s.dgsFinalise t c else s.feedCores

/-- The next command clears CMPDONE (R285). -/
def State.dgsCmd (s : State) (t : Nat) : State := s.setCur t { s.dgsCur t with cmpDone := false, cmpAt := none }

/-- OPEN (R267). -/
def State.dgsOpen (s : State) (t : Nat) : State :=
  let s := s.dgsCmd t
  let x := s.dgsCur t
  if x.state ≠ 0 then s.dgsErr t 12
  else if !x.valid then s.dgsErr t 13
  else if s.regField (.tntA t) 0x160 10 0 ≤ s.slotUse t then s.dgsErr t 9
  else if 1024 ≤ s.slotUseAll then s.dgsErr t 10
  else if x.keyed && !s.dgsKeyOk t x then s.dgsErr t 8
  else if x.keyed && !s.entReady then s.dgsErr t 11
  else s.dgsStart t (s.dgsSel t)

def execDgsOpen (req : Requester) (t : Nat) (s : State) : Out := .next (s.gated req (.tdgs t) 0x118 fun s => s.dgsOpen t)

/-- FINAL (R272, R273). -/
def State.dgsFinal (s : State) (t : Nat) : State :=
  let s := s.dgsCmd t
  let x := s.dgsCur t
  if x.state ≠ 1 then s.dgsErr t 12
  else if !x.lastword && decide (x.count < x.msgLen) then s.dgsKill t 3
  else s.dgsFinalise t (s.dgsSel t)

def execDgsFinal (req : Requester) (t : Nat) (s : State) : Out := .next (s.gated req (.tdgs t) 0x118 fun s => s.dgsFinal t)

/-- NEXT (R275): the following 64 bytes of an XOF. -/
def State.dgsNext (s : State) (t : Nat) : State :=
  let s := s.dgsCmd t
  let x := s.dgsCur t
  if x.state ≠ 3 || !x.xof || decide (x.resultLen ≤ x.window + 64) then s.dgsErr t 12
  else (s.setCur t { x with state := 2, window := x.window + 64, squeezing := true, extra := 1, matched := false }).feedCores

def execDgsNext (req : Requester) (t : Nat) (s : State) : Out := .next (s.gated req (.tdgs t) 0x118 fun s => s.dgsNext t)

/-- The bytes that the result window shows. -/
def Ctx.windowBytes (x : Ctx) : Bytes := (x.result.drop x.window).take 64

/-- Spend a keyed window: its state is zeroised (R276, R277). -/
def Ctx.spend (x : Ctx) : Ctx :=
  { x with spent := true, result := x.result.take x.window ++ List.replicate x.windowBytes.length 0 ++ x.result.drop (x.window + 64) }

/-- COMPARE (R277). -/
def State.dgsCompare (s : State) (t : Nat) : State :=
  let s := s.dgsCmd t
  let x := s.dgsCur t
  let n := field x.cmplen 6 0
  let low := if x.keyed then 4 else 1
  if x.state ≠ 3 || decide (n < low) || decide (64 < n) || (x.keyed && (x.spent || !x.readWords.isEmpty)) then s.dgsErr t 12
  else if x.keyed && !x.usage.testBit useMacVerify then s.dgsErr t 14
  else
    let cmp := ((List.range 16).map fun i => leBytes 4 (Cells.get (fun _ => (0 : Word)) x.cmp i).toNat).flatten
    let same := slice x.windowBytes 0 n == slice cmp 0 n
    let x := { x with cmpAt := some (s.stamp + 40), cmpPend := same }
    s.setCur t (if x.keyed then x.spend else x)

def execDgsCompare (req : Requester) (t : Nat) (s : State) : Out :=
  .next (s.gated req (.tdgs t) 0x118 fun s => s.dgsCompare t)

/-- 40 ns after COMPARE, whatever the data (R277): CMPDONE sets and MATCH gives the outcome. -/
def State.compareDone (s : State) (t c : Nat) : State :=
  let x := s.ctx t c
  match x.cmpAt with
  | some at_ => (s.advanceTo at_).setCtx t c { x with cmpDone := true, matched := x.cmpPend, cmpAt := none }
  | none => s

def execDgsCompareDone (t c : Nat) (s : State) : Out := s.clocked (.next (s.compareDone t c))

/-- RESET (R273): back to ABSORB with count 0; a keyed context reloads its key, or fails as HANDLE (R279), or, where Lode
streams no secret material, as NO_ENTROPY (R230). -/
def State.dgsReset (s : State) (t : Nat) : State :=
  let s := s.dgsCmd t
  let x := s.dgsCur t
  if x.state = 0 then s.dgsErr t 12
  else if x.keyed && !s.dgsKeyOk t x then s.dgsErr t 8
  else if x.keyed && !s.lode.maskGen then s.dgsErr t 11
  else s.dgsStart t (s.dgsSel t)

def execDgsReset (req : Requester) (t : Nat) (s : State) : Out := .next (s.gated req (.tdgs t) 0x118 fun s => s.dgsReset t)

/-- CLOSE (R266, R267): the context is zeroised and its slot free; its registers keep their values. -/
def Ctx.closed (x : Ctx) : Ctx :=
  { cfg := x.cfg, key := x.key, outlen := x.outlen, lenLo := x.lenLo, lenHi := x.lenHi, lastvb := x.lastvb,
    cmplen := x.cmplen, cmp := x.cmp, err := x.err }

def State.dgsClose (s : State) (t : Nat) : State :=
  let s := s.dgsCmd t
  let x := s.dgsCur t
  if x.state = 0 then s.dgsErr t 12 else (s.dropCore t (s.dgsSel t)).setCur t x.closed

def execDgsClose (req : Requester) (t : Nat) (s : State) : Out := .next (s.gated req (.tdgs t) 0x118 fun s => s.dgsClose t)

/-! ## Reading results (R274, R276) -/

/-- The value that a read of `DGS_RESi` returns. -/
def State.dgsResult (s : State) (t i : Nat) : Word :=
  let x := s.dgsCur t
  if x.state ≠ 3 then 0
  else if x.keyed && (!x.usage.testBit useMac || x.spent || x.readWords.contains i) then 0
  else BitVec.ofNat 32 (leField x.windowBytes (4 * i) 4)

/-- What a read of `DGS_RESi` does: an early read and a forbidden one are flagged; a keyed word is read once, and the
window is spent when its last word has been. -/
def State.dgsRead (s : State) (t i : Nat) : State :=
  let x := s.dgsCur t
  if x.state ≠ 3 then s.dgsErr t 0
  else if !x.keyed then s
  else if !x.usage.testBit useMac then s.dgsErr t 14
  else if x.spent || x.readWords.contains i then s.dgsErr t 1
  else
    let words := ceilDiv x.windowBytes.length 4
    let x := { x with readWords := withOne x.readWords i }
    let all := (List.range words).all fun j => x.readWords.contains j
    s.setCur t (if all then x.spend else x)

def execDgsResultRead (req : Requester) (t i : Nat) (s : State) : Out :=
  .next (if s.onBus req && req.reaches (.tdgs t) && decide (i < 16) && !s.dir.published.contains (.tdgs t) then s.dgsRead t i else s)

end Sys2Proof.Machine
end

