-- ==== Sys2Proof/Machine/Queues.lean ====
section
/-! DEFINITION. Adit's queues and the timed steps of Tally (chapter 03): bus mastering and MSI-X (R61, R101), queue
enables and doorbells (R65, R67), descriptor fetches (R74 to R78), timeouts (R83, R88, R122, R254), stops and engine
resets (R339), interrupt moderation (R102), and family 0xF (R90 to R93). -/
namespace Sys2Proof.Machine

/-! ## Bus mastering and MSI-X -/

/-- May the function use its queues: it exists and no reset or removal is under way (R404)? -/
def Fn.usable (f : Fn) : Bool := f.enabled && f.phase == .active

/-- Does a function take part in queue work: usable, on a link that is up? -/
def State.fnUsable (s : State) (t : Nat) : Bool := s.cfgReady && (s.fn t).usable

/-- Put an SQ in error (R64, R67). -/
def State.sqFail (s : State) (t q cause : Nat) : State :=
  let x := s.sq t q
  if x.error then s
  else ((s.setSq t q { x with error := true, errCause := cause }).setErr (.tnt t) 16).setInt (.tnt t) 16

/-- Put a CQ in error (R64, R67). -/
def State.cqFail (s : State) (t q cause : Nat) : State :=
  let x := s.cq t q
  if x.error then s
  else ((s.setCq t q { x with error := true, errCause := cause }).setErr (.tnt t) 17).setInt (.tnt t) 17

/-- Every SQ and CQ of a function enters error with ERRCAUSE BME (R61), whatever error it was in. -/
def State.bmeFail (s : State) (t : Nat) : State :=
  let s := (List.range 64).foldl (fun s q => s.setSq t q { s.sq t q with error := true, errCause := 4 }) s
  let s := (List.range 64).foldl (fun s q => s.setCq t q { s.cq t q with error := true, errCause := 4 }) s
  ((((s.setErr (.tnt t) 16).setInt (.tnt t) 16).setErr (.tnt t) 17).setInt (.tnt t) 17)

/-- Bus Master Enable is cleared (R61): every queue enters error with ERRCAUSE BME, and the outputs and records of
admitted operations are discarded: those decided go at once, the others when they end. -/
def State.bmeClear (s : State) (t : Nat) : State :=
  let f := s.fn t
  if !f.bme then s
  else
    let s := (s.setFn t { f with bme := false }).bmeFail t
    let s := s.forEntries (s.entriesWhere fun x => x.tenant == t && x.decided) fun s e => s.freeEntry e
    s.forEntries (s.entriesWhere fun x => x.tenant == t) fun s e => s.modEntry e fun x => { x with discard := true }

def execBusMasterEnableClear (t : Nat) (s : State) : Out := s.clocked (.next (s.bmeClear t))

/-- Bus Master Enable is set (R61): pending messages of unmasked vectors go. -/
def execBusMasterEnableSet (t : Nat) (s : State) : Out :=
  s.clocked (.next (if s.cfgReady && (s.fn t).enabled then (s.setFn t { s.fn t with bme := true }).flushPba t else s))

/-- A vector is unmasked (R101): a message its PBA bit holds goes. -/
def execMsixUnmask (t v : Nat) (s : State) : Out :=
  s.clocked (.next (if s.cfgReady && (s.fn t).enabled && decide (v ≤ 64) then
      (s.setFn t { s.fn t with unmasked := withOne (s.fn t).unmasked v }).flushPba t
    else s))

/-! ## Queue enables (R65) -/

/-- The queue that `TNT_QSEL` of the function's own page selects (R63). -/
def State.qsel (s : State) (t : Nat) : Nat := s.regField (.tnt t) 0x100 5 0

/-- Is a size valid: LOG2SIZE 1 to 16? -/
def sizeOk (cfg : Word) : Bool := decide (1 ≤ field cfg 4 0) && decide (field cfg 4 0 ≤ 16)

/-- A FENCE no longer waits for an SQ that is enabled anew: all that it covered there is done (R91, R65). -/
def State.uncover (s : State) (t q : Nat) : State :=
  s.forEntries (s.entriesWhere fun x => x.tenant == t && !x.covers.isEmpty) fun s e =>
    s.modEntry e fun x => { x with covers := x.covers.filter fun c => c.1 != q }

/-- `TNT_SQ_CTL.EN` 0→1. While a function-level reset or a removal is under way nothing happens (DESIGN CHOICE, log 25). -/
def State.sqEnable (s : State) (t : Nat) : State :=
  let q := s.qsel t
  let x := s.sq t q
  if x.en || !s.fnUsable t then s
  else if sizeOk x.cfg && (s.cq t (field x.cfg 13 8)).en && s.sqActive t q == 0 then
    (s.setSq t q { x with en := true, head := 0, tail := 0, seq := 0, error := false, errCause := 0, fetched := 0
                          submitted := 0, abortTo := 0, bells := [] }).uncover t q
  else s.accessErr (.tnt t)

def execSqEnable (req : Requester) (t : Nat) (s : State) : Out := s.clocked (.next (s.gated req (.tnt t) 0x114 fun s => s.sqEnable t))

/-- A FENCE no longer waits for descriptors of a disabled SQ that were never fetched. -/
def State.dropCover (s : State) (t q n : Nat) : State :=
  let clip (c : Nat × Nat) : Nat × Nat := if c.1 = q then (q, Nat.min n c.2) else c
  s.forEntries (s.entriesWhere fun x => x.tenant == t && !x.covers.isEmpty) fun s e =>
    s.modEntry e fun x => { x with covers := x.covers.map clip }

/-- `TNT_SQ_CTL.EN` 1→0: fetching stops at once; admitted operations run on. -/
def State.sqDisable (s : State) (t : Nat) : State :=
  let q := s.qsel t
  let x := s.sq t q
  if x.en then (s.setSq t q { x with en := false }).dropCover t q x.fetched else s

def execSqDisable (req : Requester) (t : Nat) (s : State) : Out := s.clocked (.next (s.gated req (.tnt t) 0x114 fun s => s.sqDisable t))

/-- `TNT_SQ_CTL.ABORT` (R92, R93): every admitted operation of the SQ, and every descriptor up to the tail. A COMMIT of
the same cycle comes before it: later ones carry a later stamp. -/
def State.sqAbort (s : State) (t : Nat) : State :=
  let q := s.qsel t
  let x := s.sq t q
  let s := s.setSq t q { x with abortTo := if x.en then x.submitted else x.abortTo }
  (s.forEntries (s.entriesWhere fun y => y.tenant == t && y.sq == q) fun s e => s.endWith e .abortedHost true).nextStamp

def execSqAbort (req : Requester) (t : Nat) (s : State) : Out := s.clocked (.next (s.gated req (.tnt t) 0x114 fun s => s.sqAbort t))

/-- `TNT_CQ_CTL.EN` 0→1; records that waited for the queue can now be written. Counted records that were pending count
on (DESIGN CHOICE, log 25). -/
def State.cqEnable (s : State) (t : Nat) : State :=
  let q := s.qsel t
  let x := s.cq t q
  if x.en || !s.fnUsable t then s
  else if sizeOk x.cfg && x.baseWritten then
    (s.setCq t q { x with en := true, tail := 0, hostHead := 0, phase := true, error := false, errCause := 0 }).drainCq t q
  else s.accessErr (.tnt t)

def execCqEnable (req : Requester) (t : Nat) (s : State) : Out := s.clocked (.next (s.gated req (.tnt t) 0x128 fun s => s.cqEnable t))

/-- `TNT_CQ_CTL.EN` 1→0. -/
def State.cqDisable (s : State) (t : Nat) : State :=
  let q := s.qsel t
  let x := s.cq t q
  let named := (List.range 64).any fun r => (s.sq t r).en && field (s.sq t r).cfg 13 8 == q
  if !x.en then s
  else if x.error then
    let s := s.setCq t q { x with en := false, waiting := [] }
    s.forEntries x.waiting fun s e => s.freeEntry e
  else if !named && x.waiting.isEmpty then s.setCq t q { x with en := false }
  else s.accessErr (.tnt t)

def execCqDisable (req : Requester) (t : Nat) (s : State) : Out := s.clocked (.next (s.gated req (.tnt t) 0x128 fun s => s.cqDisable t))

/-! ## Doorbells (R67) -/

/-- A tail doorbell. One for a queue that is already in error is ignored (DESIGN CHOICE, log 25). -/
def State.sqBell (s : State) (t q : Nat) (v : Word) : State :=
  let x := s.sq t q
  let size := queueSize x.cfg
  let t1 := field v 15 0
  let gap (p : Nat) : Nat := (p + size - x.head) % size
  if !s.fnUsable t then s
  else if !x.en then s.setErr (.tnt t) 18
  else if x.error then s
  else if size ≤ t1 then s.sqFail t q 1
  else if gap t1 < gap x.tail then s.sqFail t q 2
  else
    let n := x.submitted + (gap t1 - gap x.tail)
    let s := s.setSq t q { x with tail := t1, submitted := n, bells := x.bells ++ [(s.tally.nextBell, n)] }
    { s with tally := { s.tally with nextBell := s.tally.nextBell + 1 } }

def execSqTailDoorbell (t q : Nat) (value : BitVec 32) (s : State) : Out :=
  s.clocked (.next (if decide (t < 256) && decide (q < 64) then s.sqBell t q value else s))

/-- A head doorbell. -/
def State.cqBell (s : State) (t q : Nat) (v : Word) : State :=
  let x := s.cq t q
  let size := queueSize x.cfg
  let h := field v 15 0
  let bad (cause : Nat) : State :=
    (List.range 64).foldl (fun s r => if field (s.sq t r).cfg 13 8 == q then s.sqFail t r 5 else s)
      (s.cqFail t q cause)
  if !s.fnUsable t then s
  else if !x.en then s.setErr (.tnt t) 18
  else if x.error then s
  else if size ≤ h then bad 1
  else if (x.tail + size - x.hostHead) % size < (h + size - x.hostHead) % size then bad 2
  else (s.setCq t q { x with hostHead := h }).drainCq t q

def execCqHeadDoorbell (t q : Nat) (value : BitVec 32) (s : State) : Out :=
  s.clocked (.next (if decide (t < 256) && decide (q < 64) then s.cqBell t q value else s))

/-! ## Fetching descriptors (R74, R77, R78, R92) -/

/-- Adit may fetch: the function is a bus master, the SQ enabled, not in error and not empty, and the tenant below its
quota. -/
def State.mayFetch (s : State) (t q : Nat) : Bool :=
  s.fnUsable t && (s.fn t).bme && (s.sq t q).en && !(s.sq t q).error && (s.sq t q).head != (s.sq t q).tail &&
    decide (s.tallyUse t < s.regField (.tntA t) 0x148 18 0)

/-- The fetch of the descriptor at HEAD: a new entry, completed at once by the first failing check, or QUEUED; with
SGLs it waits for them. -/
def State.fetch (s : State) (t q : Nat) : State :=
  if !s.mayFetch t q then s
  else
    let x := s.sq t q
    let base := x.baseHi.toNat * 2 ^ 32 + x.baseLo.toNat
    let d := descOf (s.hostRead (base + 64 * x.head) 64)
    let e := freeKey 0 s.tally.entries
    let s := s.setSq t q { x with head := (x.head + 1) % queueSize x.cfg, seq := (x.seq + 1) % 2 ^ 32, fetched := x.fetched + 1 }
    let k := (opKind d.opcode).getD .nop
    let s := s.addEntry e { tenant := t, sq := q, cq := field x.cfg 13 8, sub := x.fetched
                            desc := d, admitted := s.stamp, deadline := s.deadlineOf t q d k
                            covers := if opKind d.opcode = some .fence then s.fenceCover t q x.fetched d.auxAddr else [] }
    if x.fetched < x.abortTo then s.finish e .abortedHost
    else match s.checksBefore t d (if bit x.cfg 19 then some x.seq else none) with
      | .error st => s.finish e st
      | .ok _ => if d.sgl && (d.inLen != 0 || d.outCap != 0) then s else s.admitEntry e

def execDescriptorFetch (t q : Nat) (s : State) : Out :=
  s.clocked (.next (if decide (t < 256) && decide (q < 64) then s.fetch t q else s))

/-- The SGLs of an entry arrive (R76). -/
def execSglFetch (e : Nat) (s : State) : Out :=
  s.clocked (.next (match s.entry e with
    | some x =>
      if x.state == .queued && !x.sglDone && x.parent.isNone then
        if s.dmaOk x then s.admitEntry e else s.finish e .dmaFault
      else s
    | none => s))

/-! ## Timeouts and releases -/

/-- `ENT_WAIT_TO` expires for an entry in WAIT_ENTROPY (R254); at the same stamp the deadline wins. -/
def State.entropyTimeout (s : State) (e : Nat) : State :=
  match s.entry e with
  | some x =>
    if x.state == .waitEntropy && decide (x.waitAt < x.deadline) then (s.advanceTo x.waitAt).finish e .noEntropy else s
  | none => s

def execEntropyWaitTimeout (e : Nat) (s : State) : Out := s.clocked (.next (s.entropyTimeout e))

/-- A held entry reaches its release stamp (R83, R94). -/
def State.holdRelease (s : State) (e : Nat) : State :=
  match s.entry e with
  | some x => if x.state == .hold then (s.advanceTo x.releaseAt).finish e x.status else s
  | none => s

def execHoldReleaseTime (e : Nat) (s : State) : Out := s.clocked (.next (s.holdRelease e))

/-- A finished EQT signature reaches T_eq (R122): the commit is recorded now. -/
def State.eqtRelease (s : State) (e : Nat) : State :=
  match s.entry e with
  | some x =>
    if x.live && x.await == .eqt then
      ((s.advanceTo x.releaseAt).setEntry e { x with await := .none }).commitOut e x.output x.info
    else s
  | none => s

def execEqtRelease (e : Nat) (s : State) : Out := s.clocked (.next (s.eqtRelease e))

/-- A deadline passes (R88): waiting entries complete, dispatched ones are stopped, COMMITTED and HOLD are not
affected. A COMMIT of the same cycle has come before it: a later one carries a later stamp. -/
def State.deadlineExpiry (s : State) (e : Nat) : State :=
  match s.entry e with
  | some x =>
    if x.decided || x.state == .hold then s
    else ((s.advanceTo x.deadline).endWith e .deadlineExpired false).nextStamp
  | none => s

def execDeadlineExpiry (e : Nat) (s : State) : Out := s.clocked (.next (s.deadlineExpiry e))

/-- A CQ's moderation timer (R102). -/
def State.irqTimer (s : State) (t q : Nat) : State :=
  let c := s.cq t q
  if bit c.irq 0 && field c.irq 31 16 != 0 && c.counted != 0 then
    (s.advanceTo (c.firstCounted + field c.irq 31 16 * 1000)).raiseCq t q
  else s

def execCqIrqTimer (t q : Nat) (s : State) : Out :=
  s.clocked (.next (if decide (t < 256) && decide (q < 64) then s.irqTimer t q else s))

/-! ## Stops (R339) -/

/-- The engines of a stopped operation acknowledge: it ends as the cause says; an abandonment is counted. -/
def State.engineAck (s : State) (e : Nat) : State :=
  match s.entry e with
  | some x =>
    match x.target, x.stopping with
    | .stope n _ _, some how =>
      let s := if how = .requeue then s.pmu 0x12 x.tenant (some n) none 1 else s
      s.endStopped e how
    | _, _ => s
  | none => s

def execEngineStopAck (e : Nat) (s : State) : Out := s.clocked (.next (s.engineAck e))

/-- Engine `i` of Stope `n` has not acknowledged within the STP page's `TO` (R339), as it was at the dispatch (R53): it is reset, counted and recorded,
and tests itself; when it was the last to stop, the operation ends. -/
def State.engineReset (s : State) (n i : Nat) : State :=
  let x := s.eng n i
  match x.run with
  | none => s
  | some e =>
    let stopping := match s.entry e with | some y => y.stopping.isSome | none => false
    if x.mode ≠ 5 || !stopping then s
    else
      let s := s.advanceTo (match s.entry e with | some y => y.stopAt + y.stopTo | none => 0)
      let s := s.setEng n i { mode := 8, resets := x.resets + 1, restarts := x.restarts, fault := x.fault, faddr := x.faddr
                              fpc := x.fpc, fstamp := x.fstamp, fop := x.fop }
      let s := s.dropFlaws (FlawAt.inLocal n [i])
      let s := (s.setErr (.stp n) 5).setErr (.eng n (i / 2)) (20 + i % 2)
      let s := s.logEvent 0x000C 1 deviceTenant 0x0040 n i s.stamp (x.resets + 1)
      let left := (List.range 16).any fun j => (s.eng n j).run == some e
      if left then s else s.engineAck e

def execEngineStopTimeout (n i : Nat) (s : State) : Out :=
  s.clocked (if decide (n < 64) && decide (i < 16) then .next (s.engineReset n i) else .fault .noSuchUnit)

/-- A reset engine ends its self-test (R339). One that fails does not serve again. -/
def execEngineSelftestDone (n i : Nat) (pass : Bool) (s : State) : Out :=
  s.clocked (if decide (n < 64) && decide (i < 16) then
    .next (if (s.eng n i).mode = 8 then s.setEng n i { s.eng n i with mode := 0, dead := !pass } else s)
  else .fault .noSuchUnit)

/-! ## Family 0xF (R90 to R93) -/

/-- Have all earlier descriptors of an entry's SQ their records written (R89)? -/
def State.aloneInSq (s : State) (x : Entry) : Bool :=
  !s.tally.entries.any fun q =>
    q.2.tenant == x.tenant && q.2.sq == x.sq && q.2.parent.isNone && decide (q.2.sub < x.sub)

/-- Does the entry act as a fence within its SQ? -/
def Entry.isFence (x : Entry) : Bool := x.desc.fence || x.desc.kind == some .fence

/-- Do the fences of its SQ let an entry be dispatched (R89)? -/
def State.fenceFree (s : State) (x : Entry) : Bool :=
  (!x.isFence || s.aloneInSq x) &&
  !s.tally.entries.any fun q =>
    q.2.tenant == x.tenant && q.2.sq == x.sq && q.2.parent.isNone && decide (q.2.sub < x.sub) && q.2.isFence

/-- NOP (R90): OK after dispatch arbitration. -/
def execNopOpcode (e : Nat) (s : State) : Out :=
  s.clocked (.next (match s.running e .nop with
    | some _ => s.commitOut e [] 0
    | none => s))

/-- Has everything a FENCE covers its record written (R91)? -/
def State.covered (s : State) (x : Entry) : Bool :=
  x.covers.all fun c =>
    decide (c.2 ≤ (s.sq x.tenant c.1).fetched) &&
    !s.tally.entries.any fun q =>
      q.2.tenant == x.tenant && q.2.sq == c.1 && q.2.parent.isNone && decide (q.2.sub < c.2) && q.2.order != x.order

/-- Is dispatch suspended as a whole: an A2 hold, an alarm's actions, or a commit between E and its last acknowledgement
(R52, R84, R490)? -/
def State.dispatchHeld (s : State) : Bool := s.cny.held || s.cny.phase != 0 || s.tally.paused

/-- FENCE (R91): a dispatched entry like any other, so none completes while dispatch is suspended (R97). -/
def State.fenceOp (s : State) (e : Nat) : State :=
  match s.entry e with
  | some x =>
    if x.state == .queued && x.sglDone && x.desc.kind == some .fence && !s.dispatchHeld && s.fenceFree x && s.covered x
    then s.commitOut e [] 0 else s
  | none => s

def execFence (e : Nat) (s : State) : Out := s.clocked (.next (s.fenceOp e))

/-- Does an abort end this entry, now or once its unit acknowledges (R93)? Not one that ends for another cause already. -/
def Entry.abortable (x : Entry) : Bool :=
  !x.decided && x.parent.isNone && (match x.stopping with | none => true | some how => how == .requeue)

/-- ABORT_TAG (R92): INFO reports how many operations were aborted. -/
def State.abortTag (s : State) (e : Nat) : State :=
  match s.entry e with
  | some x =>
    if x.state == .queued && x.sglDone && x.desc.kind == some .abortTag then
      let hit := s.entriesWhere fun y =>
        y.tenant == x.tenant && y.desc.tag == x.desc.auxAddr && decide (y.order < x.order) && y.abortable
      let s := s.forEntries hit fun s f => s.endWith f .abortedHost true
      (s.commitOut e [] hit.length).nextStamp
    else s
  | none => s

def execAbortTag (e : Nat) (s : State) : Out := s.clocked (.next (s.abortTag e))

end Sys2Proof.Machine
end

