-- ==== Sys2Proof/Machine/Dispatching.lean ====
section
/-! DEFINITION. Dispatch (R10, R11, R13, R82, R84 to R86, R90, R289, R298, R312, R382, R401, R403) and the start of a
kernel (R205, R226, R311 to R313, R375). -/
namespace Sys2Proof.Machine

/-! ## When an entry may be dispatched -/

/-- The opcodes that are carried out one at a time for each object (R216, R552). -/
def State.management (s : State) (k : OpKind) (d : Desc) : Bool :=
  [OpKind.keyReplace, .keyDestroy, .usageClear, .keyInfo, .pubExport, .keyWrap, .treeDerive, .kemEvict, .dsaEvict, .stfQuery,
   .stfSetfloor, .stfCache].contains k || s.residentExpand k d

/-- Does an earlier management opcode on the same object go first? -/
def State.managementWaits (s : State) (x : Entry) (k : OpKind) : Bool :=
  s.management k x.desc && s.tally.entries.any fun q =>
    q.2.desc.key == x.desc.key && decide (q.2.order < x.order) && !q.2.decided && q.2.state != .hold &&
      (match q.2.desc.kind with | some j => s.management j q.2.desc | none => false)

/-- Is the stateful key of an STF_SIGN in WAIT_LEASE (R181, R189)? -/
def State.leaseWaits (s : State) (x : Entry) : Bool :=
  match (s.obj (handleIndex x.desc.key)).stf with
  | some f => f.waitLease
  | none => false

/-- The conditions that do not depend on a unit. -/
def State.ready (s : State) (x : Entry) (k : OpKind) : Bool :=
  x.state == .queued && x.sglDone && !x.keyWait && x.await == .none && x.hashed && !s.dispatchHeld && s.fenceFree x &&
    !s.managementWaits x k && !(k == .stfSign && s.leaseWaits x) && k != .fence && k != .abortTag

/-- Does a kernel declare a width? EQT kernels run on 16 engines only (R122). -/
def Kernel.takes (k : Kernel) (d : Desc) (wlog2 : Nat) : Bool := k.widths.testBit wlog2 && (!d.eqt || wlog2 == 4)

/-- A Stope's engines can serve the entry: in service, enabled, not draining, the tenant's, with a passed kernel that
declares the width (R84, R382, R403); a chunk of a split job takes width 16, a recomputation another Stope (R178), and an operation of family 0xC
width 1 (R552). -/
def State.stopeSuits (s : State) (x : Entry) (n wlog2 : Nat) : Bool :=
  decide (n < 64) && !s.outOfService (.stp n) && s.unitEnabled (.stp n) && !s.draining (.stp n) && s.mayUseStope x.tenant n &&
    (x.parent.isNone || wlog2 == 4) && x.notOn != some n && (opFamily x.desc.opcode != 0xC || wlog2 == 0) &&
    (match s.kernelAt n x.desc.opcode x.tenant with
      | some k => k.takes x.desc wlog2
      | none => false)

/-- A Stope can serve the entry at all: its engines can, and there is room for its region (R312). -/
def State.stopeServes (s : State) (x : Entry) (n wlog2 : Nat) : Bool :=
  s.stopeSuits x n wlog2 &&
    (match s.kernelAt n x.desc.opcode x.tenant with
      | some k => s.regionRoom n k
      | none => false)

/-- Tally's choice of a width (R11): the widest the Stope could serve while it is idle, a narrower one that is free as
its occupancy rises (which of those is open: log 27). -/
def State.widthChosen (s : State) (x : Entry) (n wlog2 : Nat) : Bool :=
  !s.stopeIdle n || !(List.range 5).any fun v => decide (wlog2 < v) && s.stopeServes x n v

/-- The latency estimate of a Shaft job, by its type and parameter set (R87, R290). -/
def State.jobEstimate (s : State) (j : Nat × Nat) : Nat :=
  let n := countAt s.tally.measured (shaftKey j)
  if n < 1024 then shaftEstimate j.1 j.2 else Config.ownAverage (shaftKey j) n

/-- A Shaft can serve the entry at all (R84, R289, R290, R295, R403). -/
def State.shaftServes (s : State) (x : Entry) (n : Nat) : Bool :=
  decide (n < 8) && !s.outOfService (.shf n) && s.unitEnabled (.shf n) && !s.draining (.shf n) && s.mayUseShaft x.tenant n &&
    (s.shaft n).test == 2 && !(s.shaft n).wipeAll

/-- May the entry's job be yield-in candidate of Shaft `n` (R298)? -/
def State.candidateOk (s : State) (k : OpKind) (x : Entry) (n : Nat) : Bool :=
  let h := s.shaft n
  let j := s.jobOf k x.desc
  match h.main with
  | none => false
  | some m =>
    !m.exclusive && (j.1 == 1 || j.1 == 2) && h.inner.isNone && h.candidate.isNone && h.wipeYield == 0 &&
      decide (s.jobEstimate j * 2 ^ field m.cfg 11 8 ≤ m.estimate) &&
      decide (m.yielded * 100 < field m.cfg 23 16 * (s.stamp - m.started))

/-- May the entry go to this target now? -/
def State.targetOk (s : State) (k : OpKind) (x : Entry) : Target → Bool
  | .none => s.unitFree k x.desc
  | .shaft n =>
    s.toShaft k x.desc && !s.unitFree k x.desc && s.shaftServes x n &&
      (((s.shaft n).main.isNone && (s.shaft n).wipeMain == 0) || s.candidateOk k x n)
  | .stope n first w =>
    !s.toShaft k x.desc && !s.unitFree k x.desc && engAligned first w && s.setFree n first w && s.stopeServes x n w && s.widthChosen x n w
  | .worker _ => false

/-- Every engine set of a Stope: 1 to 16 engines, aligned. -/
def engineSets : List (Nat × Nat) :=
  [(0, 4), (0, 3), (8, 3)] ++ ((List.range 4).map fun k => (4 * k, 2)) ++ ((List.range 8).map fun k => (2 * k, 1)) ++
    (List.range 16).map fun k => (k, 0)

/-- Is there any target the entry could go to now? -/
def State.anyTarget (s : State) (k : OpKind) (x : Entry) : Bool :=
  s.targetOk k x .none || ((List.range 8).any fun n => s.targetOk k x (.shaft n)) ||
    s.packedStopes.any fun n => engineSets.any fun p => s.targetOk k x (.stope n p.1 p.2)

/-- Is an entry dispatchable? -/
def State.dispatchable (s : State) (x : Entry) : Bool :=
  match x.desc.kind with
  | some k => s.ready x k && s.anyTarget k x
  | none => false

/-! ## Whose turn it is (R85, R401) -/

/-- Could an entry go now to a unit that shares a deficit with `target`: the same Shaft, or any Stope or none? -/
def State.contends (s : State) (x : Entry) (target : Target) : Bool :=
  match x.desc.kind with
  | none => false
  | some k =>
    s.ready x k && (match target with
      | .shaft n => s.targetOk k x (.shaft n)
      | _ => s.targetOk k x .none || s.packedStopes.any fun n => engineSets.any fun p => s.targetOk k x (.stope n p.1 p.2))

/-- The entries that contend with `x` for a target, `x` first. -/
def State.contenders (s : State) (x : Entry) (target : Target) : List Entry :=
  x :: (s.tally.entries.filter fun q => q.2.order != x.order && s.contends q.2 target).map fun q => q.2

/-- What the deficit round robin leaves a tenant, on engines or on a Shaft (R401). -/
def Fn.creditOf (f : Fn) : Target → Int
  | .shaft n => (lookup f.shaftCredit n).getD 0
  | _ => f.credit

def Fn.addCredit (f : Fn) (d : Int) : Target → Fn
  | .shaft n => { f with shaftCredit := Cells.set (fun _ => (0 : Int)) f.shaftCredit n ((lookup f.shaftCredit n).getD 0 + d) }
  | _ => { f with credit := f.credit + d }

/-- `TNT_WEIGHT` of a tenant. -/
def State.tenantWeight (s : State) (t : Nat) : Nat := Nat.max 1 (s.regField (.tntA t) 0x150 7 0)

/-- The rounds until a tenant has credit: each credits it its weight, in ns (R401 leaves the quantum open: log 27). -/
def State.roundsTo (s : State) (target : Target) (t : Nat) : Nat :=
  let c := (s.fn t).creditOf target
  if 0 < c then 0 else (-c).toNat / s.tenantWeight t + 1

/-- The rounds until some contender's tenant has credit. -/
def State.rounds (s : State) (target : Target) : List Entry → Nat
  | [] => 0
  | [x] => s.roundsTo target x.tenant
  | x :: r => Nat.min (s.roundsTo target x.tenant) (s.rounds target r)

/-- The weight of an interactive, bulk or background class (`TLY_PRIO_WT`). -/
def State.classWeight (s : State) (p : Nat) : Nat := s.regField .tly 0x118 (8 * (p - 1) + 7) (8 * (p - 1))

/-- The weight of an SQ (`TNT_SQ_CFG.WEIGHT`; 0 is treated as 1). -/
def State.sqWeight (s : State) (t q : Nat) : Nat := Nat.max 1 (field (s.sq t q).cfg 23 20)

/-- Has a class, or an SQ within its class, had its dispatches of the round under way? -/
def State.classSpent (s : State) (x : Entry) : Bool :=
  decide (s.classWeight x.desc.prio ≤ countAt (s.fn x.tenant).prioTaken x.desc.prio)

def State.sqSpent (s : State) (x : Entry) : Bool :=
  decide (s.sqWeight x.tenant x.sq ≤ countAt (s.fn x.tenant).sqTaken (x.desc.prio * 64 + x.sq))

/-- Is it an entry's turn for a target? The tenant has credit, or is among the first to have it again (R401); within the
tenant an urgent entry goes before any other; a class, and an SQ within its class, is taken while its weight in the
round is not spent, or once every contender's is; and within one SQ the order is that of admission (R85). -/
def State.turnOf (s : State) (x : Entry) (target : Target) : Bool :=
  let l := s.contenders x target
  let own := l.filter fun y => y.tenant == x.tenant
  let cls := own.filter fun y => y.desc.prio == x.desc.prio
  decide (s.roundsTo target x.tenant ≤ s.rounds target l) &&
    (x.desc.prio == 0 ||
      (own.all (fun y => y.desc.prio != 0) && (!s.classSpent x || own.all fun y => s.classSpent y))) &&
    (!s.sqSpent x || cls.all fun y => s.sqSpent y) &&
    cls.all fun y => y.sq != x.sq || decide (x.order ≤ y.order)

/-- The turn is taken: the rounds that had to pass credit every contender's tenant, and the entry's class and SQ have one
dispatch less of their round. -/
def State.takeTurn (s : State) (x : Entry) (target : Target) : State :=
  let l := s.contenders x target
  let k := s.rounds target l
  let classDone := s.classSpent x
  let sqDone := s.sqSpent x
  let s := (l.map fun y => y.tenant).eraseDups.foldl (fun s t =>
    s.setFn t ((s.fn t).addCredit (Int.ofNat (k * s.tenantWeight t)) target)) s
  let f := s.fn x.tenant
  let cls := if classDone then [] else f.prioTaken
  let sqs := if sqDone then f.sqTaken.filter (fun q => q.1 / 64 != x.desc.prio) else f.sqTaken
  s.setFn x.tenant { f with prioTaken := if x.desc.prio = 0 then f.prioTaken else bumpAt cls x.desc.prio 1
                            sqTaken := bumpAt sqs (x.desc.prio * 64 + x.sq) 1 }

/-! ## What a dispatch does -/

/-- Read the inputs of an operation, where Sluice has not read them before; where the function is no bus master any
more, the read fails (R61, R81). -/
def State.capture (s : State) (e : Nat) : State :=
  match s.entry e with
  | some x =>
    if x.sluice = .hashed then s
    else if !s.dmaOk x && (x.desc.inLen != 0 || x.desc.auxLen != 0) then s.endWith e .dmaFault true
    else s.setEntry e { x with aux := s.auxOf x, input := s.inputOf x }
  | none => s

/-- Does a handle name an object with secret material? -/
def State.secretObject (s : State) (x : Entry) (h : Nat) : Bool :=
  h != 0 && (s.handleStatus x.tenant h).isNone && !(s.obj (handleIndex h)).secret.isEmpty

/-- Does the operation need randomness: by its opcode, or as its kernel declares, or because Lode streams it the secret
material of a key (R82, R230, R375)? A chunk does not. -/
def State.wantsEntropy (s : State) (k : OpKind) (x : Entry) (target : Target) : Bool :=
  if x.parent.isSome then false
  else if k = .custom then
    match target with
    | .stope n _ _ => (match s.kernelAt n x.desc.opcode x.tenant with
        | some kn => kn.flags.testBit 3 || (kn.winSec != 0 && (s.secretObject x x.desc.key || s.secretObject x x.desc.key2))
        | none => false)
    | _ => false
  else needsEntropy k x.desc.options

/-- Is there randomness for a dispatch to a target: the source READY, and a Stope's MRG valid (R82, R230, R254)? -/
def State.randomAt (s : State) (target : Target) : Bool :=
  s.entReady && (match target with | .stope n _ _ => (s.mrg n).valid | _ => true)

/-- A dispatch charges its tenant, on the deficit of its unit (R401). -/
def State.charge (s : State) (t : Nat) (target : Target) (cost : Nat) : State :=
  s.setFn t ((s.fn t).addCredit (-(Int.ofNat cost)) target)

/-- What a kernel's dispatch costs: its COST, or Tally's own measure (R87, R401). -/
def State.kernelCost (s : State) (kn : Kernel) : Nat :=
  let n := countAt s.tally.measured kn.opBase
  if n < 1024 then kn.cost else Config.ownAverage kn.opBase n

/-- The first word of the pack that holds a kernel (R375, R379). -/
def State.baseOf (s : State) (n : Nat) (kn : Kernel) : Nat :=
  match (s.stope n).store.packs.find? fun p => p.2.kernels.any fun k => k.kslot == kn.kslot with
  | some p => p.2.base
  | none => 0

/-- The Stope controller accepts: engines and region are allocated (R11, R312); local memory left by another tenant is
zeroed (R240). -/
def State.acceptStope (s : State) (e n first w : Nat) (x : Entry) : State :=
  match s.kernelAt n x.desc.opcode x.tenant with
  | none => s
  | some kn =>
    let l := engSet first w
    let s := l.foldl (fun s i =>
      let g := s.eng n i
      s.setEng n i { g with mode := 1, run := some e, idx := i - first, pc := (s.baseOf n kn + kn.entry) % 4096
                            loc := if g.locTenant = x.tenant then g.loc else [], locTenant := x.tenant }) (s.dropFlaws fun p =>
        p.inLocal n (l.filter fun i => (s.eng n i).locTenant != x.tenant))
    let s := { s with runs := Cells.put s.runs e { stope := n, first := first, wlog2 := w, kernel := kn } }
    (s.charge x.tenant (.stope n first w) (s.kernelCost kn)).pmu 0x10 x.tenant (some n) none 1

/-- A Shaft takes the job, as its main job or as its candidate (R289, R291, R296, R298). -/
def State.acceptShaft (s : State) (e n : Nat) (k : OpKind) (x : Entry) : State :=
  let h := s.shaft n
  let j := s.jobOf k x.desc
  let est := s.jobEstimate j
  let s := if h.main.isNone && h.wipeMain == 0 then
      let q := s.blindJob { entry := e, kind := j.1, estimate := est, started := s.stamp, set := j.2
                            exclusive := bit (s.reg (.shf n) 0x104) 0, lines := shaftLines j.1
                            cfg := s.reg (.shf n) 0x104 }
      q.1.setShaft n { h with main := some q.2 }
    else s.setShaft n { h with candidate := some e }
  (s.charge x.tenant (.shaft n) est).pmu 0x10 x.tenant none none 1

/-- A checked entry goes to its unit, bound to its keys (R205). -/
def State.accept (s : State) (e : Nat) (k : OpKind) (target : Target) : State :=
  let s := s.modEntry e fun x => { x with state := .dispatched, dispatched := s.stamp, target := target, stopping := none
                                          started := false, await := .none
                                          keepExp := bit (s.reg (.tnt x.tenant) 0x180) 0
                                          stopTo := match target with
                                            | .stope n _ _ => s.timeoutNs (.stp n) 100000
                                            | .shaft n => s.timeoutNs (.shf n) 10000
                                            | _ => 0 }
  let s := s.bindKeys e
  match s.entry e with
  | none => s
  | some x =>
    match target with
    | .stope n first w => s.acceptStope e n first w x
    | .shaft n => (s.acceptShaft e n k x).capture e
    | _ => (s.capture e).pmu 0x10 x.tenant none none 1

/-- The handle generations, checked a second time (R205). -/
def State.staleAtDispatch (s : State) (x : Entry) (k : OpKind) : Bool :=
  let bad (h : Nat) : Bool := h != 0 && (s.handleStatus x.tenant h).isSome
  takesKey k && (bad x.desc.key || bad x.desc.key2)

/-- A stateful key that cannot sign ends the operation at dispatch (R189); one without its tree cache starts the build,
and the signature waits QUEUED (R191). -/
def State.stfAtDispatch (s : State) (e : Nat) (x : Entry) : Option State :=
  match (s.obj (handleIndex x.desc.key)).stf with
  | some f =>
    match f.refusal with
    | some st => some (s.finish e st)
    | none =>
      if f.cache = 2 then none
      else if f.cache = 1 then some (s.setEntry e { x with await := .cache (handleIndex x.desc.key) })
      else some (s.startCache e)
  | none => none

/-- The objects an operation is to read in which an uncorrectable error stands. -/
def State.flawedKeys (s : State) (x : Entry) : List Nat :=
  (([x.desc.key, x.desc.key2].filter fun h => h != 0 && (s.handleStatus x.tenant h).isNone).map handleIndex).eraseDups.filter
    fun i => s.flawed (.object i)

/-- Lode meets the error as it reads them (R512): the operation completes MEMORY_UNCORRECTABLE, and the objects are zeroised
at stamp D with no destruction marker. -/
def State.loseKeys (s : State) (e : Nat) (l : List Nat) : State :=
  let s := l.foldl (fun s i => s.foundUncorr .lod 3 i) s
  (s.finish e .memoryUncorrectable).destroyAll l 4 none false

/-- Tally takes an entry and sends it to a target it may go to (R84, R205, R82); an operation that needs randomness
ends at once while the source is FAILED (R259), and waits while it is not ready, or the Stope's MRG not valid (R82, R230,
R254). -/
def State.dispatchTo (s : State) (e : Nat) (x : Entry) (k : OpKind) (target : Target) : State :=
  if s.staleAtDispatch x k then s.finish e .handleStale
  else if takesKey k && !(s.flawedKeys x).isEmpty then s.loseKeys e (s.flawedKeys x)
  else if s.wantsEntropy k x target && s.ent.phase == 4 then s.finish e .noEntropy
  else if s.wantsEntropy k x target && !s.randomAt target then
    let s := s.setEntry e { x with state := .waitEntropy, waitAt := s.stamp + s.regField .ent 0x110 15 0 * 1000000 }
    s.pmu 0x23 x.tenant none none 1
  else match (if k = .stfSign && x.parent.isNone then s.stfAtDispatch e x else none) with
    | some s => s
    | none => (s.takeTurn x target).accept e k target

/-! ## Preemption (R86) -/

/-- May an operation be abandoned: its kernel says so, and it is before its first COMMIT (R388)? -/
def State.abandonable (s : State) (e : Nat) (x : Entry) : Bool :=
  x.live && x.index.isNone && x.published == 0 &&
    (match s.run e with | some r => r.kernel.flags.testBit 0 && !r.firstCommit | none => false)

/-- The most recently dispatched bulk or background operation whose engines would do for `x` at width 2^w. -/
def State.victim (s : State) (k : OpKind) (x : Entry) (w : Nat) : Option Nat :=
  let cands := s.tally.entries.filter fun q =>
    decide (2 ≤ q.2.desc.prio) && s.abandonable q.1 q.2 &&
      (match q.2.target with
        | .stope n _ v => decide (w ≤ v) && !s.toShaft k x.desc && s.stopeSuits x n w
        | _ => false)
  match cands with
  | [] => none
  | c :: r => some (r.foldl (fun b p => if b.2.dispatched ≤ p.2.dispatched then p else b) c).1

/-- An urgent entry that finds no free engines has one abandoned (R86); it waits QUEUED for the acknowledgement. -/
def State.preempt (s : State) (k : OpKind) (x : Entry) (w : Nat) : State :=
  if bit (s.reg .tly 0x11C) 0 && x.desc.prio == 0 && !s.anyTarget k x then
    match s.victim k x w with
    | some v => s.stop v .requeue
    | none => s
  else s

/-- DISPATCH to a Stope, a Shaft or no unit. -/
def State.dispatchLocal (s : State) (e : Nat) (target : Target) : State :=
  match s.entry e with
  | none => s
  | some x =>
    match x.desc.kind with
    | none => s
    | some k =>
      if !s.ready x k || !s.turnOf x target then s
      else if s.targetOk k x target then s.dispatchTo e x k target
      else match target with
        | .stope _ _ w => s.preempt k x w
        | _ => s

/-! ## The kernel starts -/

/-- Three Boolean shares of a secret, one plane after the other, from fresh values (R226, R313). -/
def State.sharePlanes (s : State) (secret : Bytes) : State × Bytes :=
  let a := s.freshBytes secret.length
  let b := a.1.freshBytes secret.length
  let c := (secret.zip (a.2.zip b.2)).map fun p => p.1 ^^^ p.2.1 ^^^ p.2.2
  (b.1, a.2 ++ b.2 ++ c)

/-- The INPUT window and the input stream of a layout (R375). -/
def inputLayout (k : Kernel) (input aux digest : Bytes) : List (Nat × Byte) × Bytes :=
  let at_ (off : Nat) (bs : Bytes) (m : List (Nat × Byte)) : List (Nat × Byte) := Cells.writeBytes m off bs
  let next := ceilDiv input.length 64 * 64
  match k.layout with
  | 1 => (at_ 0 aux [], input)
  | 2 => if next + aux.length ≤ k.winInput * 64 then (at_ next aux (at_ 0 input []), []) else (at_ 0 aux [], input)
  | 3 => (at_ 64 aux (at_ 0 (fit 64 digest) []), [])
  | 4 => ([], aux)
  | _ => ([], [])

/-- What the Lode stream delivers (R312): a resident expansion, or a pinned public key. -/
def State.streamOf (s : State) (x : Entry) : Bytes :=
  let o := s.obj (handleIndex x.desc.key)
  let pub := match x.bound1 with | some b => b.pub | none => []
  if x.desc.key = 0 then []
  else if x.hit then
    fit (matrixBytes (opFamily o.attr.alg) (opParam o.attr.alg)) (Config.prim (.matrix (opFamily o.attr.alg) (opParam o.attr.alg)) [pub])
  else if o.pinGran ≠ 0 then pub
  else []

/-- KERNEL_START (R312): the windows are filled, in the layout the kernel declares, and the engines start at its entry
word; the LODE secret window holds three share planes. Without its masking generator Lode streams no secret material, and
the operation ends as NO_ENTROPY (R230, R245). -/
def State.kernelStart (s : State) (e : Nat) : State :=
  match s.entry e, s.run e with
  | some x, some r =>
    if !x.live || x.started then s
    else
      let s := s.capture e
      let y := (s.entry e).getD x
      if y.stopping.isSome then s else
      let sec := (match y.bound1 with | some b => b.secret | none => []) ++ (match y.bound2 with | some b => b.secret | none => [])
      let pub := (match y.bound1 with | some b => b.pub | none => []) ++ (match y.bound2 with | some b => b.pub | none => [])
      let sec := sec.take (r.kernel.winSec * 64)
      let pub := pub.take (r.kernel.winPub * 64)
      let s := if sec.isEmpty then s else s.maskFresh
      if !sec.isEmpty && !s.lode.maskGen then s.finish e .noEntropy else
      let p := s.sharePlanes sec
      let win := inputLayout r.kernel y.input y.aux y.digest
      let s := p.1.setRun e { r with
        input := win.1, inStream := win.2, pub := Cells.writeBytes [] 0 pub, sec := Cells.writeBytes [] 0 p.2
        lsec := sec.length, lpub := pub.length, lodeStream := s.streamOf y, startStamp := s.stamp, stepStamp := s.stamp }
      s.modEntry e fun x => { x with started := true }
  | _, _ => s

def execKernelStart (e : Nat) (s : State) : Out := s.clocked (.next (s.kernelStart e))

end Sys2Proof.Machine
end

