-- ==== Sys2Proof/Machine/EventLog.lean ====
section
/-! DEFINITION. Headframe's error log as the host reads it and the BMC receives it (R504, R506, R507, R517). -/
namespace Sys2Proof.Machine

/-- The 32 bytes of an event record (R504). -/
def EventRec.bytes (r : EventRec) : Bytes :=
  leBytes 2 r.kind ++ leBytes 1 r.cls ++ leBytes 1 r.tenant ++ leBytes 2 r.block ++ leBytes 2 r.unit ++ leBytes 4 r.seq ++
    leBytes 4 r.detail0 ++ leBytes 8 r.stamp ++ leBytes 8 r.detail1

/-- The record that the log holds under a SEQ. -/
def Hdf.record (h : Hdf) (q : Nat) : Option EventRec := h.log.find? fun r => r.seq == q

/-- `HDF_MCTPTHR.CLASS`. -/
def State.mctpThreshold (s : State) : Nat := field (s.regAtE .hdf 0x130) 1 0

/-- Does Headframe's firmware speak MCTP? D2 is released. -/
def State.mctpRuns (s : State) : Bool := s.released 2

/-- The next record goes out if none is on its way. -/
def State.sendRecords (s : State) : State := { s with hdf := s.hdf.sendNext s.mctpThreshold s.stamp }

/-- PLDM_EVENT_ACK: the BMC acknowledges a record it was given. -/
def State.eventAck (s : State) (q : Nat) : State :=
  let h := s.hdf
  if s.mctpRuns && h.offered.contains q then
    let h := { h with ackedSeqs := withOne h.ackedSeqs q, inFlight := if h.inFlight = some q then none else h.inFlight }
    { s with hdf := h }.sendRecords
  else s

def execPldmEventAck (seq : Nat) (s : State) : Out := .next (s.eventAck seq)

/-- EVENT_RESEND_TIMEOUT: 1 s without acknowledgement; sent again up to three times, then given up. -/
def State.eventResend (s : State) : State :=
  match s.hdf.inFlight with
  | none => s
  | some _ =>
    let s := s.advanceTo (s.hdf.sentAt + 1000000000)
    if s.hdf.tries < 3 then { s with hdf := { s.hdf with tries := s.hdf.tries + 1, sentAt := s.stamp } }
    else { s with hdf := { s.hdf with inFlight := none } }.sendRecords

def execEventResendTimeout (s : State) : Out := .next s.eventResend

/-- EVENT_POLL: the BMC asks for the first record from a SEQ on; `enable` is whether it has event generation enabled. -/
def State.eventPoll (s : State) (enable : Bool) (fromSeq : Nat) : State :=
  if !s.mctpRuns then s
  else
    let thr := s.mctpThreshold
    let r := s.hdf.log.find? fun r => decide (fromSeq ≤ r.seq) && r.delivered thr
    let seen := match r with
      | some r => withOne s.hdf.offered r.seq
      | none => s.hdf.offered
    { s with hdf := { s.hdf with mctpOn := enable, polled := r, offered := seen } }.sendRecords

def execEventPoll (enable : Bool) (fromSeq : Nat) (s : State) : Out := .next (s.eventPoll enable fromSeq)

/-- What a read of `LO` latches for its reader (R50 and the other latched groups). -/
def State.latch (s : State) (req : Requester) (k : Nat) (ws : List Word) : State :=
  { s with latches := (s.latches.filter fun x => !(x.req == req && x.key == k)) ++ [{ req := req, key := k, words := ws }] }

/-- The eight registers of a 32-byte value: byte 4i + j in bits [8j+7:8j] of register i. -/
def digestWords (bs : Bytes) : List Word := (List.range 8).map fun i => BitVec.ofNat 32 (leField bs (4 * i) 4)

/-- Does a read of the requester's arrive at a page? Freezing a page stops no read. -/
def State.mayRead (s : State) (req : Requester) (p : Page) : Bool :=
  s.onBus req && req.reaches p && !s.dir.published.contains p

/-- LOGDATA_READ: the record that `HDF_LOGIDX` selects is latched and marked read; one that is not held reads 0 and sets
LOG_MISS. -/
def State.logRead (s : State) (req : Requester) : State :=
  if !s.mayRead req .hdf then s
  else
    let k := Page.hdf.key 0x10C
    match s.hdf.record (s.reg .hdf 0x108).toNat with
    | some r =>
      let h := { s.hdf with readSeqs := withOne s.hdf.readSeqs r.seq }
      { s with hdf := h }.latch req k (digestWords r.bytes)
    | none => (s.latch req k (digestWords [])).setErr .hdf 16

def execLogdataRead (req : Requester) (s : State) : Out := .next (s.logRead req)

end Sys2Proof.Machine
end

