-- ==== Sys2Proof/Machine/Operands.lean ====
section
/-! DEFINITION. An issue word's fields (R321, R345 to R347) and the register files its slots read and write (R307, R308),
with lanes and coefficients as lists of 32-bit numbers. -/
namespace Sys2Proof.Machine

/-! ## Words as lists of 32-bit numbers -/

/-- The `n` 32-bit words of a number, least significant first. -/
def words : Nat → Nat → List Nat
  | 0, _ => []
  | n + 1, v => v % 2 ^ 32 :: words n (v / 2 ^ 32)

/-- The number that 32-bit words spell. -/
def ofWords : List Nat → Nat
  | [] => 0
  | w :: r => w % 2 ^ 32 + 2 ^ 32 * ofWords r

/-- The bytes of 32-bit words, little-endian (R362). -/
def bytesOfWords (l : List Nat) : Bytes := (l.map fun w => leBytes 4 w).flatten

/-- `n` 32-bit words from bytes. -/
def wordsOfBytes (n : Nat) (bs : Bytes) : List Nat := (List.range n).map fun i => leField bs (4 * i) 4

/-- Bits `hi` down to `lo` of a number. -/
def bits (v hi lo : Nat) : Nat := (v >>> lo) % 2 ^ (hi + 1 - lo)

/-- A `w`-bit field read as a two's-complement number, modulo 2^64. -/
def signExt (w v : Nat) : Nat := if v < 2 ^ (w - 1) then v else v + 2 ^ 64 - 2 ^ w

/-! ## Register files (R307) -/

def s0 (_ : Nat) : BitVec 64 := 0
def v0 (_ : Nat) : BitVec 512 := 0
def p0 (_ : Nat) : BitVec 16 := 0
def w0 (_ : Nat) : BitVec 8192 := 0
def k0 (_ : Nat) : BitVec 256 := 0
def m0 (_ : Nat) : MReg := {}

/-- s0 reads 0. -/
def Regs.getS (r : Regs) (n : Nat) : BitVec 64 := if n = 0 then 0 else Cells.get s0 r.s n

/-- s0 ignores writes. -/
def Regs.setS (r : Regs) (n : Nat) (v : BitVec 64) : Regs := if n = 0 then r else { r with s := Cells.set s0 r.s n v }

/-- The 16 lanes of a v register. -/
def Regs.getV (r : Regs) (n : Nat) : List Nat := words 16 (Cells.get v0 r.v n).toNat
def Regs.setV (r : Regs) (n : Nat) (l : List Nat) : Regs := { r with v := Cells.set v0 r.v n (BitVec.ofNat 512 (ofWords l)) }

/-- An accumulator as one number. -/
def Regs.getA (r : Regs) (n : Nat) : Nat := (Cells.get v0 r.a n).toNat
def Regs.setA (r : Regs) (n v : Nat) : Regs := { r with a := Cells.set v0 r.a n (BitVec.ofNat 512 v) }

/-- p0 reads 0xFFFF. -/
def Regs.getP (r : Regs) (n : Nat) : BitVec 16 := if n = 0 then 0xFFFF else Cells.get p0 r.p n

/-- p0 ignores writes. -/
def Regs.setP (r : Regs) (n : Nat) (v : BitVec 16) : Regs := if n = 0 then r else { r with p := Cells.set p0 r.p n v }

/-- k0 reads all ones. -/
def Regs.getK (r : Regs) (n : Nat) : BitVec 256 := if n = 0 then BitVec.allOnes 256 else Cells.get k0 r.k n

/-- k0 ignores writes. -/
def Regs.setK (r : Regs) (n : Nat) (v : BitVec 256) : Regs := if n = 0 then r else { r with k := Cells.set k0 r.k n v }

/-- The 256 coefficients of a w register. -/
def Regs.getW (r : Regs) (n : Nat) : List Nat := words 256 (Cells.get w0 r.w n).toNat
def Regs.setW (r : Regs) (n : Nat) (l : List Nat) : Regs := { r with w := Cells.set w0 r.w n (BitVec.ofNat 8192 (ofWords l)) }

/-- The coefficients of a group of `g` registers (R308). -/
def Regs.getG (r : Regs) (n g : Nat) : List Nat := ((List.range g).map fun j => r.getW (n + j)).flatten
def Regs.setG (r : Regs) (n g : Nat) (l : List Nat) : Regs :=
  (List.range g).foldl (fun r j => r.setW (n + j) ((l.drop (256 * j)).take 256)) r

def Regs.getM (r : Regs) (n : Nat) : MReg := Cells.get m0 r.m n
def Regs.setM (r : Regs) (n : Nat) (v : MReg) : Regs := { r with m := Cells.set m0 r.m n v }

/-- The context a stream handle names, if it is open. -/
def Regs.port (r : Regs) (n : Nat) : Option Port :=
  match r.x.find? fun p => p.1 == n with
  | some p => some p.2
  | none => none

def Regs.setPort (r : Regs) (n : Nat) (p : Port) : Regs := { r with x := Cells.put r.x n p }

/-! ## The issue word (R321) -/

/-- A slot of a word: 0 S, 1 V, 2 W. -/
def slotOf (w : BitVec 128) (slot : Nat) : Nat :=
  match slot with
  | 0 => bits w.toNat 119 80
  | 1 => bits w.toNat 79 40
  | _ => bits w.toNat 39 0

def wordFmt (w : BitVec 128) : Nat := bits w.toNat 127 126
def wordMask (w : BitVec 128) : Bool := w.getLsbD 125
def wordStep (w : BitVec 128) : Bool := w.getLsbD 124
def wordImm (w : BitVec 128) : Nat := bits w.toNat 79 0

/-- A slot's opcode. -/
def slotOp (x : Nat) : Nat := bits x 39 32

/-! ## S-slot fields (R345) -/

def sSd (x : Nat) : Nat := bits x 31 27
def sSa (x : Nat) : Nat := bits x 26 22
def sSb (x : Nat) : Nat := bits x 21 17
def sImm (x : Nat) : Nat := signExt 22 (bits x 21 0)
def sOff13 (x : Nat) : Nat := bits x 12 0

/-! ## V-slot fields (R346) -/

def vVd (x : Nat) : Nat := bits x 31 27
def vVa (x : Nat) : Nat := bits x 26 22
def vVb (x : Nat) : Nat := bits x 21 17
def vPg (x : Nat) : Nat := bits x 16 14
def vSd (x : Nat) : Bool := x.testBit 13
def vSa (x : Nat) : Bool := x.testBit 12
def vSb (x : Nat) : Bool := x.testBit 11
def vMreg (x : Nat) : Nat := bits x 10 9
def vFn (x : Nat) : Nat := bits x 8 0
def vScale (x : Nat) : Nat := 2 ^ bits x 12 11
def vOff (x : Nat) : Nat := signExt 11 (bits x 10 0)
def vXh (x : Nat) : Nat := bits x 26 25
def vLenField (x : Nat) : Nat := bits x 24 17

/-- LEN: 1 to 64, 0 meaning 64. -/
def vLen (x : Nat) : Nat := if vLenField x = 0 then 64 else vLenField x

/-! ## W-slot fields (R347) -/

def wWd (x : Nat) : Nat := bits x 31 28
def wWa (x : Nat) : Nat := bits x 27 24
def wB (x : Nat) : Nat := bits x 23 19
def wGc (x : Nat) : Nat := bits x 18 17
def wG (x : Nat) : Nat := 2 ^ wGc x
def wKg (x : Nat) : Nat := bits x 16 15
def wMreg (x : Nat) : Nat := bits x 14 13
def wSd (x : Nat) : Bool := x.testBit 12
def wSa (x : Nat) : Bool := x.testBit 11
def wSb (x : Nat) : Bool := x.testBit 10
def wFn (x : Nat) : Nat := bits x 9 0
def wOff (x : Nat) : Nat := signExt 12 (bits x 11 0)
def wXh (x : Nat) : Nat := bits x 27 26

/-! ## Predication (R343) -/

/-- Lane by lane: the new value where the governing bit is 1, else the old one. -/
def mergeBits (g : Nat → Bool) (old new : List Nat) : List Nat :=
  ((List.range old.length).zip (old.zip new)).map fun q => if g q.1 then q.2.2 else q.2.1

/-- Lane-wise application. -/
def zipOp (f : Nat → Nat → Nat) (a b : List Nat) : List Nat := (a.zip b).map fun q => f q.1 q.2

end Sys2Proof.Machine
end

