-- ==== Sys2Proof/Machine/Flags.lean ====
section
/-! DEFINITION. What the predicate registers are computed from (R343, R352, R364, R369): comparisons, carries, tails and
reductions. -/
namespace Sys2Proof.Machine

/-- A 32-bit number read as signed. -/
def toInt32 (v : Nat) : Int := if v % 2 ^ 32 < 2 ^ 31 then ((v % 2 ^ 32 : Nat) : Int) else ((v % 2 ^ 32 : Nat) : Int) - 2 ^ 32

/-- A 64-bit number read as signed. -/
def toInt64 (v : BitVec 64) : Int := v.toInt

/-- A predicate from one bit per lane, inactive lanes 0. -/
def ofFlags : List Bool → Nat
  | [] => 0
  | b :: r => b2n b + 2 * ofFlags r

/-- The bits of a comparison, inactive lanes 0 (R352, R364). -/
def compareBits (g : Nat → Bool) (rel : Nat → Nat → Bool) (a b : List Nat) : List Bool :=
  ((List.range a.length).zip (a.zip b)).map fun q => g q.1 && rel q.2.1 q.2.2

def relEq (a b : Nat) : Bool := a == b
def relLtu (a b : Nat) : Bool := decide (a < b)
def relLt (a b : Nat) : Bool := decide (toInt32 a < toInt32 b)

/-- `min(n, width)` low bits set. -/
def tailBits (width n : Nat) : Nat := 2 ^ Nat.min n width - 1

/-- A sum over 512 bits, with its carry (R352). -/
def addCarry (a b c : Nat) : Nat × Bool := ((a + b + c) % 2 ^ 512, decide (2 ^ 512 ≤ a + b + c))

/-- A difference over 512 bits, with its borrow. -/
def subBorrow (a b c : Nat) : Nat × Bool := ((a + 2 * 2 ^ 512 - b - c) % 2 ^ 512, decide (a < b + c))

/-- ALL or ANY of a p register, negated or not (R325, R349). -/
def reduceP (v : BitVec 16) (all : Bool) : Bool := if all then v == 0xFFFF else v != 0

/-- ALL or ANY of a k register. -/
def reduceK (v : BitVec 256) (all : Bool) : Bool := if all then v == BitVec.allOnes 256 else v != 0

/-- Bit `n` of a predicate replaced. -/
def putBit0 (v : BitVec 16) (b : Bool) : BitVec 16 := (v &&& ~~~1#16) ||| (if b then 1#16 else 0#16)

end Sys2Proof.Machine
end

