-- ==== Sys2Proof/Machine/Modular.lean ====
section
/-! DEFINITION. The arithmetic of the ring and vector units: modulus registers (R309), modular operations (R353), the two
transforms (R365), base-case products (R366), rotation, decomposition and hints (R367), compression, packing (R368), and
the samplers (R370). Values are numbers; every result is exact. -/
namespace Sys2Proof.Machine

/-! ## Modulus registers (R309) -/

def MReg.q (m : MReg) : Nat := bits m.value.toNat 30 0
def MReg.qinv (m : MReg) : Nat := bits m.value.toNat 63 32
def MReg.rsq (m : MReg) : Nat := bits m.value.toNat 94 64
def MReg.zeta (m : MReg) : Nat := bits m.value.toNat 126 96
def MReg.layers (m : MReg) : Bool := m.value.getLsbD 127

/-- b^e mod q. -/
def powMod (b q : Nat) : Nat → Nat
  | 0 => 1 % q
  | e + 1 => powMod b q e * b % q

/-- The check of R309. -/
def MReg.good (m : MReg) : Bool :=
  m.q % 2 == 1 && decide (3 ≤ m.q) && (m.q * m.qinv + 1) % 2 ^ 32 == 0 && m.rsq == 2 ^ 64 % m.q &&
    (powMod m.zeta m.q (if m.layers then 128 else 256) + 1) % m.q == 0

/-! ## Modular operations (R326, R353) -/

def addMod (q a b : Nat) : Nat := (a + b) % q
def subMod (q a b : Nat) : Nat := (a % q + (q - b % q)) % q
def mulMod (q a b : Nat) : Nat := a * b % q

/-! ## Transforms (R365) -/

/-- The `n` low bits of `i`, reversed. -/
def bitRev : Nat → Nat → Nat
  | 0, _ => 0
  | n + 1, i => (i % 2) * 2 ^ n + bitRev n (i / 2)

/-- Σ over a list with its indices, modulo q. -/
def sumMod (q : Nat) (f : Nat → Nat) (n : Nat) : Nat := (List.range n).foldl (fun a i => (a + f i) % q) 0

/-- The root that output `i` stands for: ζ^(2·brv(i)+1). -/
def rootAt (m : MReg) (i : Nat) : Nat :=
  powMod m.zeta m.q (2 * (if m.layers then bitRev 7 i else bitRev 8 i) + 1)

/-- The forward transform of 256 coefficients: FIPS 204's (LAYERS 0), or FIPS 203's on even and odd coefficients. -/
def ntt (m : MReg) (a : List Nat) : List Nat :=
  if m.layers then
    ((List.range 128).map fun i =>
      let z := rootAt m i
      [sumMod m.q (fun j => nthD a (2 * j) 0 * powMod z m.q j) 128,
       sumMod m.q (fun j => nthD a (2 * j + 1) 0 * powMod z m.q j) 128]).flatten
  else
    (List.range 256).map fun i => sumMod m.q (fun j => nthD a j 0 * powMod (rootAt m i) m.q j) 256

/-- The inverse of a root: ζ has order 512 (LAYERS 0) or 256 (LAYERS 1). -/
def rootInv (m : MReg) (i : Nat) : Nat :=
  let n := if m.layers then 256 else 512
  powMod m.zeta m.q (n - (2 * (if m.layers then bitRev 7 i else bitRev 8 i) + 1))

/-- 2^−1 mod q. -/
def half (q : Nat) : Nat := (q + 1) / 2

/-- The inverse transform, without scaling or with the factor n^−1. -/
def intt (m : MReg) (scale : Bool) (a : List Nat) : List Nat :=
  let c := if scale then powMod (half m.q) m.q (if m.layers then 7 else 8) else 1 % m.q
  if m.layers then
    ((List.range 128).map fun j =>
      [sumMod m.q (fun i => nthD a (2 * i) 0 * powMod (rootInv m i) m.q j) 128 * c % m.q,
       sumMod m.q (fun i => nthD a (2 * i + 1) 0 * powMod (rootInv m i) m.q j) 128 * c % m.q]).flatten
  else
    (List.range 256).map fun j => sumMod m.q (fun i => nthD a i 0 * powMod (rootInv m i) m.q j) 256 * c % m.q

/-- WBMUL on 256 coefficients (R366). -/
def baseMul (m : MReg) (a b : List Nat) : List Nat :=
  let q := m.q
  ((List.range 128).map fun i =>
    let g := rootAt m i
    let a0 := nthD a (2 * i) 0
    let a1 := nthD a (2 * i + 1) 0
    let b0 := nthD b (2 * i) 0
    let b1 := nthD b (2 * i + 1) 0
    [(a0 * b0 + a1 * b1 % q * g) % q, (a0 * b1 + a1 * b0) % q]).flatten

/-- Apply a function of 256 coefficients to each register of a group (R371). -/
def perReg (f : List Nat → List Nat) : Nat → List Nat → List Nat
  | 0, _ => []
  | g + 1, l => f (l.take 256) ++ perReg f g (l.drop 256)

/-- The same for two operands. -/
def perReg2 (f : List Nat → List Nat → List Nat) : Nat → List Nat → List Nat → List Nat
  | 0, _, _ => []
  | g + 1, a, b => f (a.take 256) (b.take 256) ++ perReg2 f g (a.drop 256) (b.drop 256)

/-- Negacyclic multiplication by x^k (R364). -/
def rotate (q k : Nat) (a : List Nat) : List Nat :=
  let n := a.length
  (List.range n).map fun i =>
    if k ≤ i then nthD a (i - k) 0 % q else subMod q 0 (nthD a (n + i - k) 0)

/-- A carry-less product of two 32-bit numbers. -/
def clmul (a b : Nat) : Nat := (List.range 32).foldl (fun acc i => if b.testBit i then acc ^^^ (a <<< i) else acc) 0

/-! ## Decomposition and hints (R367) -/

/-- Decompose of FIPS 204, with the low part as a value modulo q. -/
def decompose (q g2 r : Nat) : Nat × Nat :=
  let r := r % q
  let a := 2 * g2
  let low := if a = 0 then 0 else r % a
  let high := if a = 0 then 0 else r / a
  let neg := decide (g2 < low)
  let r1 := if neg then high + 1 else high
  let r0 := if neg then subMod q low a else low % q
  if r1 * a + 1 = q then (0, subMod q r0 1) else (r1, r0)

/-- Is the low part, a value modulo q, positive as a centred number? -/
def lowPositive (q v : Nat) : Bool := decide (0 < v) && decide (2 * v < q)

/-- Power2Round with d = 13. -/
def power2Round (q r : Nat) : Nat × Nat :=
  let r := r % q
  let low := r % 8192
  if 4096 < low then (r / 8192 + 1, subMod q low 8192) else (r / 8192, low % q)

/-- γ2 by FN[2]. -/
def gamma2 (q : Nat) (big : Bool) : Nat := if big then (q - 1) / 32 else (q - 1) / 88

/-- WDECOMP. -/
def decompOp (q fn r : Nat) : Nat :=
  match fn % 4 with
  | 0 => (decompose q (gamma2 q (fn.testBit 2)) r).1
  | 1 => (decompose q (gamma2 q (fn.testBit 2)) r).2
  | 2 => (power2Round q r).1
  | _ => (power2Round q r).2

/-- MakeHint(z, r) and UseHint(h, r). -/
def makeHint (q g2 z r : Nat) : Nat := if (decompose q g2 r).1 = (decompose q g2 (r + z)).1 then 0 else 1

def useHint (q g2 h r : Nat) : Nat :=
  let m := (q - 1) / (2 * g2)
  let d := decompose q g2 r
  if h = 1 then (if lowPositive q d.2 then (d.1 + 1) % m else (d.1 + m - 1) % m) else d.1

/-- The magnitude of the centred value. -/
def centred (q v : Nat) : Nat := Nat.min (v % q) (q - v % q)

/-! ## Compression and packing (R364, R368) -/

/-- Compress_d and Decompress_d of FIPS 203. -/
def compress (q d x : Nat) : Nat := (2 ^ (d + 1) * (x % q) + q) / (2 * q) % 2 ^ d
def decompress (q d y : Nat) : Nat := (2 * q * (y % 2 ^ d) + 2 ^ d) / 2 ^ (d + 1)

/-- The bit stream of `b`-bit values, first value lowest, as one number. -/
def packBits (b : Nat) : List Nat → Nat
  | [] => 0
  | v :: r => v % 2 ^ b + 2 ^ b * packBits b r

/-- WPACK: 256 values to 8b stream words, the rest 0. -/
def packWords (b : Nat) (l : List Nat) : List Nat := words 256 (packBits b l)

/-- WUNP. -/
def unpackWords (b : Nat) (l : List Nat) : List Nat :=
  let n := ofWords l
  (List.range 256).map fun i => (n >>> (b * i)) % 2 ^ b

/-- The bias of R368: B − c modulo 2^32, or c. -/
def biased (neg : Bool) (B c : Nat) : Nat := if neg then (B % 2 ^ 32 + 2 ^ 32 - c % 2 ^ 32) % 2 ^ 32 else c % 2 ^ 32

/-! ## Samplers (R370): from a stream of bytes, the coefficients and the bytes taken -/

/-- The candidates of three bytes: two of 12 bits, or one of 23. -/
def uniformCands (wide : Bool) (b : Nat → Nat) (i : Nat) : List Nat :=
  let x := b (3 * i) + 256 * b (3 * i + 1) + 65536 * b (3 * i + 2)
  if wide then [x % 2 ^ 23] else [x % 4096, x / 4096]

/-- Uniform rejection sampling: groups of three bytes until 256 candidates below q are accepted; `fuel` groups are
looked at. -/
def sampleUniform (wide : Bool) (q : Nat) (b : Nat → Nat) : Nat → Nat → List Nat → List Nat × Nat
  | 0, i, acc => (acc, 3 * i)
  | fuel + 1, i, acc =>
    if 256 ≤ acc.length then (acc.take 256, 3 * i)
    else sampleUniform wide q b fuel (i + 1) (acc ++ (uniformCands wide b i).filter fun c => decide (c < q))

/-- Centred binomial sampling. -/
def sampleCbd (eta q : Nat) (b : Nat → Nat) : List Nat :=
  let bitAt (k : Nat) : Nat := (b (k / 8) >>> (k % 8)) % 2
  let sum (o : Nat) : Nat := (List.range eta).foldl (fun a j => a + bitAt (o + j)) 0
  (List.range 256).map fun i => subMod q (sum (2 * i * eta)) (sum (2 * i * eta + eta))

/-- The value of a half-byte candidate of RejBoundedPoly, if it is accepted. -/
def boundedCand (eta q z : Nat) : Option Nat :=
  if eta = 2 then (if z < 15 then some (subMod q 2 (z % 5)) else none)
  else if z < 9 then some (subMod q 4 z) else none

/-- Bounded rejection sampling over bytes `0` to `n − 1`. -/
def sampleBounded (eta q : Nat) (b : Nat → Nat) (n : Nat) : List Nat :=
  ((List.range n).map fun i => [boundedCand eta q (b i % 16), boundedCand eta q (b i / 16)]).flatten.filterMap id

/-- Mask sampling: γ1 − v mod q, v of 18 or 20 bits. -/
def sampleMask (nbits q : Nat) (b : Nat → Nat) : List Nat :=
  let g1 := 2 ^ (nbits - 1)
  let v (i : Nat) : Nat :=
    (List.range nbits).foldl (fun a j => a + ((b ((nbits * i + j) / 8) >>> ((nbits * i + j) % 8)) % 2) * 2 ^ j) 0
  (List.range 256).map fun i => subMod q g1 (v i)

/-- SampleInBall: the first 8 bytes give the signs, each further byte a candidate position; `fuel` bytes are looked at.
None where the stream does not place all τ within them. -/
def sampleBall (tau q : Nat) (b : Nat → Nat) : Nat → Nat → Nat → List Nat → Option (List Nat × Nat)
  | 0, _, _, _ => none
  | fuel + 1, pos, i, c =>
    if 256 ≤ i then some (c, pos)
    else
      let j := b pos
      if i < j then sampleBall tau q b fuel (pos + 1) i c
      else
        let sign := (b ((i + tau - 256) / 8) >>> ((i + tau - 256) % 8)) % 2
        let c := setAt (setAt c i (nthD c j 0)) j (if sign = 1 then q - 1 else 1)
        sampleBall tau q b fuel (pos + 1) (i + 1) c

end Sys2Proof.Machine
end

