-- ==== Sys2Proof/Machine/Legal.lean ====
section
/-! DEFINITION. The checks an issue word passes at decode (R321, R328, R343 to R348, R352, R355, R361, R362, R364, R370):
for each slot, whether its encoding is defined, which registers it writes, and whether it is of the memory class. -/
namespace Sys2Proof.Machine

/-- What a legal slot does as far as the rest of its word is concerned; registers are numbered file by file. -/
structure SlotUse where
  writes : List Nat := []
  mem : Bool := false
deriving DecidableEq, Repr

def refS (n : Nat) : Nat := n
def refV (n : Nat) : Nat := 32 + n
def refA (n : Nat) : Nat := 64 + n
def refP (n : Nat) : Nat := 96 + n
def refW (n : Nat) : Nat := 128 + n
def refK (n : Nat) : Nat := 160 + n
def refM (n : Nat) : Nat := 192 + n

/-- Legal when the condition holds. -/
def useIf (ok : Bool) (writes : List Nat) (mem : Bool) : Option SlotUse :=
  if ok then some { writes := writes, mem := mem } else none

/-- A KIND of POPEN (R361), with whether MSK is allowed. -/
def portKind (kind : Nat) : Option Bool :=
  match kind with
  | 0x10 | 0x20 | 0x21 | 0x30 | 0x31 => some true
  | 0x40 | 0x41 | 0x42 => some false
  | _ => none

/-- The S slot of a bundle (R345, R349). -/
def sUse (x : Nat) : Option SlotUse :=
  let op := slotOp x
  let sd := sSd x
  let low17 := bits x 16 0 == 0
  if op = 0 then useIf (bits x 31 0 == 0) [] false
  else if op ≤ 0x0E then useIf low17 [refS sd] false
  else match op with
  | 0x10 | 0x11 | 0x12 | 0x13 | 0x17 => useIf true [refS sd] false
  | 0x14 | 0x15 | 0x16 => useIf (bits x 21 6 == 0) [refS sd] false
  | 0x20 | 0x21 => useIf true [refS sd] true
  | 0x22 | 0x23 => useIf true [] true
  | 0x30 | 0x31 | 0x32 | 0x33 | 0x34 | 0x35 => useIf (bits x 21 13 == 0) [] false
  | 0x36 => useIf ((bits x 31 30 == 0 || (bits x 31 30 == 1 && decide (bits x 29 27 < 4))) && bits x 24 13 == 0) [] false
  | 0x37 => useIf (bits x 21 13 == (if x.testBit 12 then 0x1FF else 0)) [refS sd] false
  | 0x38 => useIf (low17 && sd == 0 && sSb x == 0) [] false
  | 0x40 => useIf (sSa x == 0 && bits x 13 0 == 0) [refS sd] false
  | 0x41 => useIf (sd == 0 && bits x 13 0 == 0) [] false
  | 0x42 => useIf (low17 && decide (sd < 4)) [refM sd] false
  | 0x50 =>
    useIf (bits x 29 27 == 0 && bits x 12 0 == 0 &&
      (match portKind (bits x 21 14) with
        | some msk => msk || !x.testBit 13
        | none => false)) [] false
  | 0x51 => useIf (bits x 29 0 == 0) [] false
  | 0x60 => useIf (bits x 31 3 == 0) [] false
  | 0x61 => useIf (sd == 0 && bits x 16 2 == 0) [] true
  | 0x62 => useIf (sd == 0 && bits x 21 0 == 0) [] true
  | 0x63 => useIf (bits x 31 0 == 0) [] false
  | _ => none

/-- The S slot of a long-immediate word (R321, R349). -/
def lUse (x imm : Nat) : Option SlotUse :=
  match slotOp x with
  | 0xF0 => useIf (bits x 26 0 == 0 && bits imm 79 64 == 0) [refS (sSd x)] false
  | 0xF1 => useIf (bits x 26 0 == 0 && bits imm 79 12 == 0) [refS (sSd x)] false
  | _ => none

/-- The registers a v operand names, as a single register or a triple (R328). -/
def vRefs (n : Nat) (sh : Bool) : List Nat := if sh then [refV n, refV (n + 1), refV (n + 2)] else [refV n]
def aRefs (n : Nat) (sh : Bool) : List Nat := if sh then [refA n, refA (n + 1), refA (n + 2)] else [refA n]

/-- Does a v operand's triple fit its file? -/
def vFits (n : Nat) (sh : Bool) : Bool := !sh || decide (n ≤ 29)
def aFits (n : Nat) (sh : Bool) : Bool := decide (n < 4) && (!sh || decide (n ≤ 1))

/-- The V slot (R346, R348, R352, R355, R362). -/
def vUse (mask : Bool) (x : Nat) : Option SlotUse :=
  let op := slotOp x
  let vd := vVd x
  let va := vVa x
  let vb := vVb x
  let sd := vSd x
  let sa := vSa x
  let sb := vSb x
  let fn := vFn x
  let shares := mask || (!sd && !sa && !sb)
  let noShare := !sd && !sa && !sb
  let flow := shares && (sd || !(sa || sb)) && vFits vd sd && vFits va sa && vFits vb sb
  let vp := bits x 16 14 == 0 && !x.testBit 11 && (mask || !sd) && vFits vd sd
  let noLen := vLenField x == 0
  let pub := x.testBit 12
  let fn11 := bits x 10 0
  match op with
  | 0x00 => useIf (bits x 31 0 == 0) [] false
  | 0x01 | 0x02 | 0x03 | 0x04 | 0x05 | 0x10 | 0x18 | 0x19 | 0x1A => useIf (flow && fn == 0) (vRefs vd sd) false
  | 0x06 | 0x07 => useIf (flow && !sb && fn == 0) (vRefs vd sd) false
  | 0x08 => useIf (noShare && fn == 0) [refV vd] false
  | 0x09 | 0x0A | 0x0C => useIf (flow && !sb && vb == 0 && bits x 8 5 == 0) (vRefs vd sd) false
  | 0x0B => useIf (noShare && vb == 0 && bits x 8 5 == 0) [refV vd] false
  | 0x11 =>
    useIf (shares && (sd || !(sa || sb)) && vd % 2 == 0 && (!sd || decide (vd + 6 ≤ 32)) && vFits va sa && vFits vb sb && fn == 0)
      ((List.range (if sd then 6 else 2)).map fun k => refV (vd + k)) false
  | 0x12 | 0x13 =>
    useIf (shares && (sd || !(sa || sb)) && aFits vd sd && vFits va sa && vFits vb sb && fn == 0) (aRefs vd sd) false
  | 0x14 => useIf (shares && !sb && (sd || !sa) && aFits va sa && vFits vd sd && vb == 0 && fn == 0) (vRefs vd sd) false
  | 0x15 => useIf (shares && !sb && (sd || !sa) && aFits vd sd && vFits va sa && vb == 0 && fn == 0) (aRefs vd sd) false
  | 0x16 | 0x17 => useIf (flow && decide (fn < 8)) (vRefs vd sd ++ [refP fn]) false
  | 0x1B => useIf (noShare && vb == 0 && fn == 0) [refV vd] false
  | 0x20 | 0x21 | 0x22 =>
    useIf (shares && !sd && vFits va sa && vFits vb sb && decide (vd < 8) && fn == 0) [refP vd] false
  | 0x23 => useIf (flow && decide (fn < 8)) (vRefs vd sd) false
  | 0x28 => useIf (noShare && va == 0) [refV vd] false
  | 0x29 => useIf (noShare && va == 0 && vPg x == 0) [refV vd] false
  | 0x2A => useIf (noShare && vb == 0) [refS vd] false
  | 0x2B => useIf (flow && !sb && fn == 0) (vRefs vd sd) false
  | 0x2C => useIf (flow && !sb && vb == 0 && fn == 0) (vRefs vd sd) false
  | 0x30 | 0x31 | 0x32 =>
    useIf (noShare && decide (vd < 8) && decide (va < 8) && decide (vb < 8) && vPg x == 0 && fn == 0) [refP vd] false
  | 0x33 => useIf (noShare && decide (vd < 8) && decide (va < 8) && vPg x == 0 && fn == 0) [refP vd] false
  | 0x34 | 0x35 => useIf (noShare && decide (vd < 8)) [refP vd] false
  | 0x36 => useIf (noShare && decide (vd < 8) && decide (va < 8) && decide (fn < 2)) [refP vd] false
  | 0x38 | 0x39 => useIf (mask && sd && sa && !sb && vFits vd sd && vFits va sa && decide (fn < 2)) (vRefs vd sd) false
  | 0x3A => useIf (mask && sd && sa && !sb && vFits vd sd && vFits va sa && fn == 0) (vRefs vd sd) false
  | 0x40 => useIf ((mask || !sd) && vFits vd sd) (vRefs vd sd) true
  | 0x41 => useIf ((mask || !sd) && vFits vd sd) [] true
  | 0x42 => useIf ((mask || !sd) && vFits vd sd && fn11 == 0) (vRefs vd sd) true
  | 0x43 => useIf ((mask || !sd) && vFits vd sd && fn11 == 0) [] true
  | 0x44 => useIf (mask && sd && vFits vd sd && bits x 18 17 != 3 && bits x 21 19 == 0) [] true
  | 0x50 => useIf (vp && decide (vLenField x ≤ 64) && fn11 == 0) [] true
  | 0x51 => useIf (vp && !sd && vd == 0 && noLen && decide (fn11 < 256)) [] true
  | 0x52 => useIf (vp && noLen && !pub && fn11 == 0) (vRefs vd sd) true
  | 0x53 => useIf (vp && noLen && !pub && fn11 == 0) [] true
  | 0x54 => useIf (vp && noLen && !pub && fn11 == 0) (vRefs vd sd) true
  | 0x55 => useIf (vp && !sd && noLen && !pub && decide (fn11 < 2)) [] true
  | 0x56 => useIf (vp && noLen && !pub && fn11 == 0) (vRefs vd sd) true
  | 0x58 | 0x59 | 0x5B | 0x5D => useIf (vp && !sd && vXh x == 0 && noLen && !pub && fn11 == 0) [refV vd] true
  | 0x5A => useIf (vp && !sd && vXh x == 0 && decide (vLenField x ≤ 64) && !pub && decide (fn11 < 2)) [] true
  | 0x5C => useIf (vp && !sd && vXh x == 0 && noLen && !pub && decide (fn11 < 3)) [refV vd] true
  | _ => none

/-- The registers a ring operand names: a group, or a triple of groups (R308, R328). -/
def wRefs (n g : Nat) (sh : Bool) : List Nat := (List.range (if sh then 3 * g else g)).map fun j => refW (n + j)

/-- Is a ring operand's base a multiple of its group size, with room for the group or triple? -/
def wFits (n g : Nat) (sh : Bool) : Bool := n % g == 0 && decide (n + (if sh then 3 * g else g) ≤ 16)

/-- The W slot (R347, R348, R355, R364, R368 to R370). -/
def wUse (mask : Bool) (x : Nat) : Option SlotUse :=
  let op := slotOp x
  let wd := wWd x
  let wa := wWa x
  let b := wB x
  let g := wG x
  let sd := wSd x
  let sa := wSa x
  let sb := wSb x
  let fn := wFn x
  let gc := wGc x != 3
  let shares := mask || (!sd && !sa && !sb)
  let noShare := !sd && !sa && !sb
  let two := gc && shares && (sd || !(sa || sb)) && wFits wd g sd && wFits wa g sa && decide (b < 16) && wFits b g sb
  let one := gc && shares && !sb && (sd || !sa) && wFits wd g sd && wFits wa g sa
  let plain := gc && noShare && wFits wd g false && wFits wa g false
  match op with
  | 0x00 => useIf (bits x 31 0 == 0) [] false
  | 0x01 | 0x02 | 0x03 | 0x04 | 0x08 | 0x09 => useIf (two && fn == 0) (wRefs wd g sd) false
  | 0x0A | 0x12 => useIf (one && fn == 0) (wRefs wd g sd) false
  | 0x0B => useIf (plain && decide (b < 16) && wFits b g false && decide (fn < 2)) (wRefs wd g false) false
  | 0x10 => useIf (one && b == 0 && wKg x == 0 && fn == 0) (wRefs wd g sd) false
  | 0x11 => useIf (one && wKg x == 0 && decide (fn < 2)) (wRefs wd g sd) false
  | 0x18 => useIf (plain && decide (fn < 8)) (wRefs wd g false) false
  | 0x19 => useIf (plain && decide (b < 16) && wFits b g false && (fn == 0 || fn == 1 || fn == 4 || fn == 5)) (wRefs wd g false) false
  | 0x1A => useIf (gc && shares && !sd && !sb && decide (wd < 4) && wFits wa g sa && fn == 0) [refK wd] false
  | 0x1B => useIf (gc && shares && !sd && decide (wd < 4) && wFits wa g sa && decide (b < 16) && wFits b g sb && fn == 0) [refK wd] false
  | 0x1C => useIf (two && decide (fn < 4)) (wRefs wd g sd) false
  | 0x20 | 0x21 => useIf (plain && b == 0 && decide (1 ≤ fn) && decide (fn ≤ 12)) (wRefs wd g false) false
  | 0x22 | 0x23 =>
    useIf (one && wGc x == 0 && decide (1 ≤ fn % 64) && decide (fn % 64 ≤ 32) && decide (fn < 128) && !(sd && fn.testBit 6))
      (wRefs wd 1 sd) false
  | 0x28 => useIf (one && fn == 0) (wRefs wd g sd) false
  | 0x29 => useIf (gc && noShare && wFits wd g false && wa == 0 && fn == 0) (wRefs wd g false) false
  | 0x2A =>
    useIf (gc && shares && !sa && (sd || !sb) && wFits wd g sd && vFits b sb && wKg x == 0 && decide (fn < 16 * g))
      (wRefs wd g sd) false
  | 0x2B =>
    useIf (gc && shares && !sb && (sd || !sa) && wd == 0 && wFits wa g sa && vFits b sd && decide (fn < 16 * g)) (vRefs b sd) false
  | 0x2C => useIf (noShare && gc && decide (wd < 4) && fn == 0) [refK wd] false
  | 0x2D =>
    useIf (noShare && gc && wKg x == 0 && decide (wa < 4) && decide (b < 4) && decide (fn < 7) &&
      (decide (wd < 4) || (fn == 6 && decide (wd < 8)))) [if fn = 6 then refP wd else refK wd] false
  | 0x30 | 0x31 => useIf (gc && mask && sd && sa && !sb && wFits wd g sd && wFits wa g sa && decide (fn < 2)) (wRefs wd g sd) false
  | 0x32 => useIf (gc && mask && sd && sa && !sb && wFits wd g sd && wFits wa g sa && fn == 0) (wRefs wd g sd) false
  | 0x38 => useIf (gc && (mask || !sd) && bits x 27 24 == 0 && bits x 14 13 == 0 && wFits wd g sd) (wRefs wd g sd) true
  | 0x39 => useIf (gc && (mask || !sd) && bits x 27 24 == 0 && bits x 14 13 == 0 && wFits wd g sd) [] true
  | 0x3A => useIf (gc && mask && sd && bits x 27 24 == 0 && bits x 14 13 != 3 && wFits wd g sd) [] true
  | 0x40 | 0x41 | 0x42 | 0x43 | 0x44 =>
    let shape := wGc x == 0 && bits x 25 24 == 0 && bits x 16 15 == 0 && bits x 11 10 == 0 && (mask || !sd) && wFits wd 1 sd &&
      (op == 0x44 || b == 0)
    let fnOk := match op with
      | 0x40 => decide (fn < 2) && !sd
      | 0x41 | 0x42 => fn == 2 || fn == 3
      | 0x43 => fn == 18 || fn == 20
      | _ => fn == 0 && !sd
    useIf (shape && fnOk) (wRefs wd 1 sd) true
  | _ => none

/-- Do two lists of registers meet? -/
def meets (a b : List Nat) : Bool := a.any fun n => b.contains n

/-- The slot that makes a word ILLEGAL at decode, if one does (R321): the first whose own encoding fails; the S slot
where the format, a reserved field or two slots together break a rule. `handler` adds the rule of R335 for trap
handlers. -/
def illegalSlot (w : BitVec 128) (handler : Bool) : Option Nat :=
  let s := slotOf w 0
  if bits w.toNat 123 120 ≠ 0 || decide (2 ≤ wordFmt w) then some 0
  else if wordFmt w = 1 then (if (lUse s (wordImm w)).isSome then none else some 0)
  else
    match sUse s, vUse (wordMask w) (slotOf w 1), wUse (wordMask w) (slotOf w 2) with
    | none, _, _ => some 0
    | _, none, _ => some 1
    | _, _, none => some 2
    | some a, some b, some c =>
      if meets a.writes b.writes || meets a.writes c.writes || meets b.writes c.writes then some 0
      else if 1 < b2n a.mem + b2n b.mem + b2n c.mem then some 0
      else if handler && a.mem && slotOp s != 0x62 then some 0
      else if handler && b.mem then some 1
      else if handler && slotOp (slotOf w 2) != 0 then some 2
      else none

end Sys2Proof.Machine
end

