-- ==== Sys2Proof/Machine/Entropy.lean ====
section
/-! DEFINITION. The entropy source and the generators (chapter 09): start-up and retests of the noise cells (R250 to
R253, R260), exclusion (R251), total failure (R259, R230), reseeds (R229, R255), the order in which a generator serves
its requests (R258), and the tenants' data register (R262). -/
namespace Sys2Proof.Machine

def cellDefault (_ : Nat) : Cell := {}

def State.cell (s : State) (c : Nat) : Cell := Cells.get cellDefault s.ent.cells c

def State.setCell (s : State) (c : Nat) (x : Cell) : State :=
  { s with ent := { s.ent with cells := Cells.set cellDefault s.ent.cells c x } }

/-- Change all eight cells. -/
def State.mapCells (s : State) (f : Nat → Cell → Cell) : State :=
  (List.range 8).foldl (fun s c => s.setCell c (f c (s.cell c))) s

/-- How many cells are healthy. -/
def State.healthyCells (s : State) : Nat := ((List.range 8).filter fun c => (s.cell c).cstate == 2).length

/-- One bit per cell. -/
def State.cellBits (s : State) (p : Cell → Bool) : Nat :=
  (List.range 8).foldl (fun v c => v + b2n (p (s.cell c)) * 2 ^ c) 0

/-- `ENT_STS` (R263). -/
def State.entSts (s : State) : Nat :=
  b2n s.ent.central.live * 2 ^ 24 + s.cellBits (fun c => c.excl) * 2 ^ 16 + s.cellBits (fun c => c.cstate == 2) * 2 ^ 8 +
    s.ent.phase * 2 + b2n s.entReady

/-- An ENT event record (R505). -/
def State.entEvent (s : State) (cls cell cause : Nat) : State :=
  s.logEvent 0x0007 cls deviceTenant Page.ent.typeCode 0 (cause * 16 + cell) s.stamp s.entSts

/-! ## Requests at the generators (R255, R257, R258) -/

/-- Put a request at a generator: 64 is the central DRBG. -/
def State.askGen (s : State) (r : DrbgReq) : State := { s with ent := { s.ent with queue := s.ent.queue ++ [r] } }

/-- A tenant's data buffer asks for its missing words at class 5, once at a time (R262). -/
def State.askRefill (s : State) (t : Nat) : State :=
  if s.entReady && (s.fn t).enabled && decide ((s.fn t).entBuf.length < 16) &&
    !s.ent.queue.any (fun r => r.use == .refill t)
  then s.askGen { gen := 64, cls := 5, use := .refill t } else s

/-- A request is served. A generator that refuses leaves a Stope DRBG zeroed and an MRG invalid (R259). -/
def State.serveUse (s : State) (u : DrbgUse) : State :=
  match u with
  | .reseedStope n => (s.reseedStope n).1
  | .reseedMrg n => s.seedMrg n
  | .reseedLode => s.seedMask
  | .refill t =>
    let n := 16 - (s.fn t).entBuf.length
    match s.drawCentral 5 (4 * n) with
    | (s, some bs) =>
      let w := (List.range n).map fun k => BitVec.ofNat 32 (leField bs (4 * k) 4)
      s.setFn t { s.fn t with entBuf := (s.fn t).entBuf ++ w }
    | (s, none) => s

/-- The request a generator serves next: the lowest class, in order of arrival within it. -/
def nextReq (g : Nat) : List DrbgReq → Option DrbgReq
  | [] => none
  | r :: rest =>
    match nextReq g rest with
    | some b => if r.gen = g ∧ r.cls ≤ b.cls then some r else some b
    | none => if r.gen = g then some r else none

/-- A generator serves its next request. -/
def State.serveGen (s : State) (g : Nat) : State :=
  match nextReq g s.ent.queue with
  | some r => ({ s with ent := { s.ent with queue := s.ent.queue.erase r } }).serveUse r.use
  | none => s

/-- A class 1 request: it is the next its generator serves. -/
def State.reseedNow (s : State) (g : Nat) (u : DrbgUse) : State := (s.askGen { gen := g, cls := 1, use := u }).serveGen g

def execDrbgRequestServed (g : Nat) (s : State) : Out := .next (s.serveGen g)

/-! ## Scheduled reseeds (R255, R229) -/

/-- A reseed that is due by its requests, or else by its time. -/
def State.reseedDue (s : State) (g : Gen) (period : Nat) : State :=
  if 4096 ≤ g.requests then s else s.advanceTo (g.seededAt + period)

def execCentralDrbgReseed (s : State) : Out :=
  .next (if s.ent.central.live then (s.reseedDue s.ent.central 100000).centralReseed else s)

def execStopeDrbgReseed (n : Nat) (s : State) : Out :=
  s.clocked (.next (if decide (n < 64) && (s.gen n).live then
      (s.reseedDue (s.gen n) s.reseedPeriod).reseedNow 64 (.reseedStope n)
    else s))

def execMrgReseed (n : Nat) (s : State) : Out :=
  s.clocked (.next (if decide (n < 64) && (s.mrg n).valid then
      (s.advanceTo ((s.mrg n).seededAt + s.mrgPeriod n)).reseedNow n (.reseedMrg n)
    else s))

def execLodeMaskReseed (s : State) : Out :=
  s.clocked (.next (if s.lode.maskGen then (s.advanceTo (s.lode.maskAt + maskPeriod)).reseedNow 64 .reseedLode else s))

/-! ## Instantiation -/

/-- Entries in WAIT_ENTROPY return to QUEUED (R253 step 6). -/
def State.wakeEntropy (s : State) : State :=
  s.forEntries (s.entriesWhere fun x => x.state == .waitEntropy) fun s e =>
    s.modEntry e fun x => { x with state := .queued, waitAt := 0 }

/-- A Stope's DRBG is instantiated and its MRG seeded from it (R253 step 5, R256, R261). -/
def State.instantiateStope (s : State) (n : Nat) : State :=
  if s.ent.central.live then
    match s.centralFor 1 48 with
    | (s, some seed) => (s.setGen n (Gen.seeded seed (s.persString n) s.stamp)).reseedNow n (.reseedMrg n)
    | (s, none) => s
  else s

/-- Lode receives the storage and lease keys, which derive from the root key (R219, R480). -/
def State.holdRoot (s : State) (root : Bytes) : State :=
  { s with lode := { s.lode with
    storageKey := some (kmac32 root (ascii "FV store key") ""), leaseKey := some (kmac32 root (ascii "FV lease key") "")
    rootPresent := true } }

/-- The loops' LFSR seeds, drawn with a root key (R482). -/
def State.seedLoops (s : State) (seeds : Bytes) : State :=
  { s with cny := { s.cny with loops := (List.range 8).foldl (fun (m : List (Nat × Loop)) n =>
      Cells.put m n { (lookup m n).getD {} with lfsr := leField seeds (2 * n) 2 }) s.cny.loops } }

/-- A new root key is drawn from the central DRBG (R496), and the loops' seeds with it. -/
def State.newRootKey (s : State) : State :=
  match s.centralFor 2 48 with
  | (s, some k) => (({ s with cny := { s.cny with rootKey := some (k.take 32) } }).holdRoot (k.take 32)).seedLoops (k.drop 32)
  | (s, none) => s

/-- Steps 3 to 5 of R253: the central DRBG, Lode's masking key and generator, a new root key after VBAT_LOST (R496), every
Stope's DRBG and MRG. -/
def State.instantiateAll (s : State) : State :=
  let r := s.instantiateCentral.centralFor 2 32
  let s := { r.1 with lode := { r.1.lode with maskKey := r.1.lode.maskKey.orElse fun _ => r.2 }, cny := { r.1.cny with genFresh := true } }
  let s := s.reseedNow 64 .reseedLode
  let s := if s.cny.vbatLost && s.cny.rootKey.isNone && s.cny.phase == 0 then s.newRootKey else s
  (List.range 64).foldl (fun s n => s.instantiateStope n) s

/-- READY (R253 step 6): entries in WAIT_ENTROPY return to QUEUED, and the tenants' buffers fill. -/
def State.entBecomesReady (s : State) : State :=
  let s := { s with ent := { s.ent with phase := if s.healthyCells = 8 then 2 else 3, attempt := 0, stage := 0 } }
  let s := s.setInt .ent 18
  let s := s.entEvent 0 0 0
  let s := s.wakeEntropy
  (s.fns.map fun p => p.1).foldl (fun s t => s.askRefill t) (s.askRefill 0)

/-! ## Exclusion and total failure -/

/-- Total failure at stamp F (R259, R230, R253): `startup` says whether a start-up or a restart ended so. -/
def State.entFail (s : State) (startup : Bool) : State :=
  let s := { s with ent := { s.ent with phase := 4, attempt := 0, stage := 0, central := {}, mrgs := [], queue := [], pool := []
                                        failStamp := s.stamp, failTotal := satAdd 0xFFFF s.ent.failTotal 1 } }
  let s := { s with lode := { s.lode with maskGen := false } }
  let s := s.dgsClearWhere Ctx.keyed 11
  let s := s.forEntries (s.entriesWhere fun x => x.state == .waitEntropy) fun s e => s.finish e .noEntropy
  let s := (s.fns.map fun p => p.1).foldl (fun s t => s.setFn t { s.fn t with entBuf := [] }) s
  ((s.setErr .ent (if startup then 18 else 17)).setInt .ent 17).entEvent 3 0 0

/-- A cell is excluded with a cause; an exclusion is counted and recorded, a failed retest of an excluded cell only
notes its cause (R250, R251). -/
def State.excludeCell (s : State) (c cause : Nat) : State :=
  let x := s.cell c
  let s := s.setErr .ent 16
  if x.excl then s.setCell c { x with cstate := 3, cause := cause }
  else
    let s := s.setCell c { x with cstate := 3, cause := cause, excl := true, exclCount := satAdd 0xFFFF x.exclCount 1 }
    let s := { s with ent := { s.ent with failCells := satAdd 0xFFFF s.ent.failCells 1 } }
    (s.setInt .ent 16).entEvent 1 c cause

/-- A healthy cell's next samples, in order (R249, R251, R248): what both tests have passed goes into the conditioner, and its
blocks into the pool; at a test's cutoff the cell is excluded and its block discarded, and fewer than four cells left are
total failure (R259). -/
def State.cellFail (s : State) (c : Nat) (samples : Bytes) : State :=
  let x := s.cell c
  if decide (c < 8) && x.cstate == 2 then
    let r := healthRun x.health x.aptMax samples
    let w := conditionFuel (samples.length / 64 + 1) (x.waiting ++ r.2.2.1)
    let s := { s with ent := { s.ent with pool := s.ent.pool ++ w.2 } }
    let s := s.setCell c { x with health := r.1, aptMax := r.2.1, waiting := w.1 }
    match r.2.2.2 with
    | none => s
    | some cause =>
      let s := (s.setCell c { s.cell c with waiting := [] }).excludeCell c cause
      if !s.entReady then s
      else if s.healthyCells < 4 then s.entFail false
      else { s with ent := { s.ent with phase := 3 } }
  else s

def execCellTestFail (c : Nat) (cause : List (BitVec 8)) (s : State) : Out := .next (s.cellFail c cause)

/-! ## Start-up and restart -/

/-- D4 is released (R253 step 1), or a restart powers the cells afresh: they settle, and are being tested (R252); an
excluded one stays excluded until it passes (R251). -/
def State.entSettle (s : State) (phase attempt : Nat) : State :=
  let s := s.mapCells fun _ x => { x with cstate := 1 }
  { s with ent := { s.ent with phase := phase, attempt := attempt, stage := 0, since := s.stamp } }

/-- Is a start-up or a restart at a stage? -/
def Ent.at (x : Ent) (stage : Nat) : Bool := (x.phase == 1 || x.phase == 5) && x.stage == stage

/-- ENT_SETTLE_DONE (R253 step 2): every cell is tested; `dead` are those with no usable samples (cause 4). -/
def execEntSettleDone (dead : List Nat) (s : State) : Out :=
  .next (if s.ent.at 0 then
      let s := s.advanceTo (s.ent.since + 2500000)
      let s := { s with ent := { s.ent with stage := 1 } }
      (List.range 8).foldl (fun s c =>
        if dead.contains c then s.excludeCell c 4 else s.setCell c { s.cell c with cstate := 1 }) s
    else s)

/-- The verdict of a start-up test (R250): both tests over its 1,024 samples, then the conditioner's known answer; the
tests' standing, and the cause of a failure. -/
def CellTest.verdict (v : CellTest) : HealthTest × Nat × Option Nat :=
  let r := healthRun {} 0 (v.samples.take 1024)
  (r.1, r.2.1, match r.2.2.2 with | some c => some c | none => if v.katOk then none else some 3)

/-- The cells under test get their verdicts (R250, R251): a cell the command says nothing of passed. The continuous tests go
on from where the start-up test's last window stands. -/
def State.cellVerdicts (s : State) (failed : Verdicts) : State :=
  (List.range 8).foldl (fun s c =>
    if (s.cell c).cstate ≠ 1 then s
    else match failed.find? fun p => p.cell == c with
      | some p =>
        let r := p.verdict
        let s := s.setCell c { s.cell c with health := r.1, aptMax := Nat.max (s.cell c).aptMax r.2.1, waiting := [] }
        (match r.2.2 with
          | some cause => s.excludeCell c cause
          | none => s.setCell c { s.cell c with cstate := 2, excl := false })
      | none => s.setCell c { s.cell c with cstate := 2, excl := false, health := {}, waiting := [] }) s

/-- ENT_STARTUP_TEST_DONE (R253 steps 3 to 6, R260): four passing cells bring the source up; a start-up is tried three
times, a restart once; in service, passing cells rejoin the pool. -/
def State.startupTestDone (s : State) (failed : Verdicts) : State :=
  if s.entReady then
    let s := s.cellVerdicts failed
    { s with ent := { s.ent with phase := if s.healthyCells = 8 then 2 else 3 } }
  else if !s.ent.at 1 then s
  else
    let s := s.cellVerdicts failed
    if 4 ≤ s.healthyCells then s.instantiateAll.entBecomesReady
    else if s.ent.phase = 1 ∧ s.ent.attempt < 2 then
      { s with ent := { s.ent with stage := 2, since := s.stamp } }
    else s.entFail true

def execEntStartupTestDone (failed : Verdicts) (s : State) : Out := .next (s.startupTestDone failed)

/-- ENT_STARTUP_RETRY (R253): 10 ms after a failed attempt the next one starts. -/
def execEntStartupRetry (s : State) : Out :=
  .next (if s.ent.phase = 1 ∧ s.ent.stage = 2 then (s.advanceTo (s.ent.since + 10000000)).entSettle 1 (s.ent.attempt + 1) else s)

/-- May `RAWEN` be set (R263)? -/
def State.rawAllowed (s : State) : Bool := decide (s.lcc.state ≤ 1) || (s.lcc.state == 2 && s.lcc.grant == 3)

/-- A restart request (R260). -/
def State.entRestart (s : State) : State :=
  if s.ent.phase = 4 then s.entSettle 5 0
  else if s.entReady then s.mapCells fun _ x => if x.excl then { x with cstate := 1 } else x
  else if s.ent.phase = 0 then s
  else s.accessErr .ent

/-- A write of `ENT_CTL` takes effect: RAWEN, then RESTART. -/
def State.entCtl (s : State) (v : Word) : State :=
  let s :=
    if bit v 1 && !s.rawAllowed then s.accessErr .ent
    else s.setReg .ent 0x100 (if bit v 1 then 2 else 0)
  if bit v 0 then s.entRestart else s

/-- A write of a critical register and its complement, and what it does when it takes effect. -/
def State.critical (s : State) (req : Requester) (p : Page) (off : Nat) (v c : Word) (f : State → Word → State) : State :=
  match s.criticalPair req p off v c with
  | (s, some v) => f (s.freshCopy p off) v
  | (s, none) => s

def execEntRestart (req : Requester) (value compl : BitVec 32) (s : State) : Out :=
  .next (s.critical req .ent 0x100 value compl State.entCtl)

/-! ## The tenant data register (R262, R264) -/

/-- A read of `ENT_DATA`: the word it returns, or 0 with the sticky UNDERRUN. -/
def State.entRead (s : State) (t : Nat) : State × Word :=
  let f := s.fn t
  match f.entBuf with
  | w :: rest => ((s.setFn t { f with entBuf := rest, tDrawn := (f.tDrawn + 1) % 2 ^ 32 }).askRefill t, w)
  | [] => ((s.setFn t { f with entUnderrun := true }).askRefill t, 0)

def execEntDataRead (req : Requester) (t : Nat) (s : State) : Out :=
  .next (if s.onBus req && req.reaches (.tent t) && decide (t < 256) then (s.entRead t).1 else s)

/-- ENT_REFILL: the central DRBG fills a tenant's buffer, when that request is the next it serves. -/
def execEntRefill (t : Nat) (s : State) : Out :=
  .next (match nextReq 64 s.ent.queue with
    | some r => if r.use = .refill t then s.serveGen 64 else s
    | none => s)

end Sys2Proof.Machine
end

