-- ==== Sys2Proof/Machine/Shafts.lean ====
section
/-! DEFINITION. The Shafts (R290 to R302) and the units as Headframe sees them: units taken out of service (R36, R509),
units that need a block-level reset (R446, R513), and units that change owner (R241, R403). -/
namespace Sys2Proof.Machine

/-! ## Units out of service -/

/-- Is an entry on a unit, or waiting as a Shaft's candidate? -/
def Target.isOn (x : Target) (p : Page) : Bool :=
  match x, p with
  | .stope n _ _, .stp m => n == m
  | .shaft n, .shf m => n == m
  | _, _ => false

/-- A unit is taken out of service at once (R36, R509): its operations complete with ABORTED_RESET, the event is
recorded with its cause, and Headframe asks for a commit of its own that publishes the flag. -/
def State.disableUnit (s : State) (p : Page) (cause : Nat) : State :=
  if s.outOfService p then s
  else
    let s := { s with dir := { s.dir with disabled := s.dir.disabled ++ [p] }
                      txn := { s.txn with hfQueue := s.txn.hfQueue ++ [(HfReason.directory, [])] } }
    let s := s.logEvent 0x000D 2 deviceTenant p.typeCode p.instanceNo cause s.stamp 0
    s.forEntries (s.entriesWhere fun x => x.state == .dispatched && x.target.isOn p) fun s e => s.finish e .abortedReset

/-- Could a unit be found unresponsive (R509)? A Stope at any time; a Shaft only in a wipe. -/
def State.mayHang (s : State) (p : Page) : Bool :=
  match p with
  | .stp n => decide (n < 64)
  | .shf n => decide (n < 8) && ((s.shaft n).wipeMain != 0 || (s.shaft n).wipeYield != 0 || (s.shaft n).wipeAll)
  | _ => false

def execUnitUnresponsive (page : Page) (s : State) : Out :=
  s.clocked (.next (if s.mayHang page then s.disableUnit page 3 else s))

/-- Headframe sets a unit's `CTL.DRAIN`. -/
def State.drainUnit (s : State) (p : Page) : State :=
  let s := s.setReg p 0x008 (setBit (s.reg p 0x008) 1)
  match p with
  | .stp n => if s.stopeIdle n then s.unitDrained p else s
  | .shf n => if (s.shaft n).idle then s.unitDrained p else s
  | _ => s

/-- Headframe clears a unit's `CTL.DRAIN`. -/
def State.undrainUnit (s : State) (p : Page) : State := s.setReg p 0x008 (clearBit (s.reg p 0x008) 1)

/-- A unit's block-level reset is over and it serves again: a drain that Headframe asked for ends. -/
def State.unitServes (s : State) (p : Page) : State :=
  if s.hdf.eccPending.contains (eccKey p) then
    ({ s with hdf := { s.hdf with eccPending := without s.hdf.eccPending (eccKey p) } }).undrainUnit p
  else s

/-- A unit whose corrected errors Headframe counts (R513): a Stope, a Shaft or a digest core. -/
def EccUnit.key : EccUnit → Nat
  | .stope n => n
  | .shaft n => 64 + n
  | .core n => 128 + n

/-- Does the unit exist? -/
def EccUnit.exists : EccUnit → Bool
  | .stope n => decide (n < 64)
  | .shaft n => decide (n < 8)
  | .core n => decide (n < 16)

/-- A digest core is reset (R446): what it worked on stays in the slot store, and the block is done again. -/
def State.resetCore (s : State) (n : Nat) : State :=
  ({ s with dgs := { s.dgs with cores := s.dgs.cores.filter fun p => p.1 != n } }).feedCores

/-- Has a unit had more corrected errors within one second than `HDF_ECCTHR`, which 0 disables (R513)? -/
def State.eccExceeded (s : State) (u : EccUnit) : Bool :=
  let thr := s.regField .hdf 0x12C 15 0
  thr != 0 && decide (thr < s.correctedLately u.key)

/-- ECC_THRESHOLD (R513): drained and block-reset; the third time since the last device reset, DISABLED. -/
def State.eccThreshold (s : State) (u : EccUnit) : State :=
  let page : Page := match u with | .stope n => .stp n | .shaft n => .shf n | .core _ => .dgs
  if !u.exists || s.outOfService page || s.hdf.eccPending.contains u.key || !s.eccExceeded u then s
  else
    let h := s.hdf
    let third := decide (2 ≤ countAt h.eccResets u.key)
    let s := { s with hdf := { h with eccResets := bumpAt h.eccResets u.key 1, eccCount := h.eccCount.filter fun q => q.1 != u.key } }
    match u with
    | .core n =>
      if third then
        ({ s.resetCore n with dgs := { (s.resetCore n).dgs with dead := withOne s.dgs.dead n } }).logEvent 0x000D 2 deviceTenant page.typeCode n 4
          s.stamp 0
      else s.resetCore n
    | _ =>
      if third then s.disableUnit page 4
      else ({ s with hdf := { s.hdf with eccPending := s.hdf.eccPending ++ [u.key] } }).drainUnit page

def execEccThreshold (unit : EccUnit) (s : State) : Out := s.clocked (.next (s.eccThreshold unit))

/-! ## Owner changes (R241, R403) -/

/-- The owner in the registers: `TNT_EXSTP`, `TNT_EXSHF`. -/
def State.ownerOf (s : State) (p : Page) : Option Nat :=
  match p with
  | .stp n => s.stopeOwner n
  | .shf n => s.shaftOwner n
  | _ => none

/-- A unit's owner changes at E (R403 step 1); one still changing hands does so again afterwards. -/
def State.startHandover (s : State) (p : Page) : State :=
  match p with
  | .stp n =>
    if (s.stope n).handover then s
    else (s.setStope n { s.stope n with handover := true, handTo := s.ownerOf p }).drainUnit p
  | .shf n =>
    if (s.shaft n).handover then s
    else (s.setShaft n { s.shaft n with handover := true, handTo := s.ownerOf p }).drainUnit p
  | _ => s

/-- Clear a counter whose scope is Stope `n` or an engine of it (R523). -/
def State.clearScoped (s : State) (p : Page) (k n : Nat) : State :=
  let v := s.reg p (0x140 + 4 * k)
  if (field v 20 19 = 1 ∨ field v 20 19 = 2) ∧ field v 18 13 = n then
    ((s.setReg p (0x180 + 8 * k) 0).setReg p (0x184 + 8 * k) 0).setReg p (0x140 + 4 * k) (setBit v 8)
  else s

/-- The monitor's part of a handover: counters scoped to the Stope and its sampling buffer (R523, R525). -/
def State.clearMonitor (s : State) (n : Nat) : State :=
  let s := (List.range 16).foldl (fun s k => s.clearScoped .pmu k n) s
  let s := (List.range 256).foldl (fun s t =>
    if s.regs.any fun r => decide (0x1006000 + t * 0x10000 ≤ r.1) && decide (r.1 < 0x1007000 + t * 0x10000)
    then (List.range 4).foldl (fun s k => s.clearScoped (.tpmu t) k n) s else s) s
  s.setSampler n { s.sampler n with entries := [], tagged := none, lost := 0 }

/-- Steps 2 to 4 of R241 for a Stope, the whole wipe of a Shaft (R403 step 3). -/
def State.handUnit (s : State) (p : Page) : State :=
  match p with
  | .stp n =>
    let s := s.mapEngs n (List.range 16) fun x => { x with loc := [], locTenant := 0 }
    let s := s.dropFlaws (FlawAt.inLocal n (List.range 16))
    let s := if (s.gen n).live then (s.reseedNow 64 (.reseedStope n)).reseedNow n (.reseedMrg n) else s
    s.clearMonitor n
  | .shf n => s.setShaft n { s.shaft n with wipeMain := 0, wipeYield := 0, wipeAll := false }
  | _ => s

/-- UNIT_HANDOVER (R403 steps 3 and 4): a drained unit is cleared and serves its new owner; where a later commit has
changed the owner again, it runs the sequence again. -/
def State.unitHandover (s : State) (p : Page) : State :=
  let go (handTo : Option Nat) (again : State → State) : State :=
    let s := (s.handUnit p).undrainUnit p
    let s := match handTo with
      | some t => (s.setInt (.tnt t) 19).setInt (.tntA t) 19
      | none => s
    let next := again s
    if s.ownerOf p = handTo then next else next.startHandover p
  match p with
  | .stp n =>
    if (s.stope n).handover && s.draining p && s.stopeIdle n then
      go (s.stope n).handTo fun s => s.setStope n { s.stope n with handover := false, handTo := none }
    else s
  | .shf n =>
    if (s.shaft n).handover && s.draining p && (s.shaft n).idle then
      go (s.shaft n).handTo fun s => s.setShaft n { s.shaft n with handover := false, handTo := none }
    else s
  | _ => s

def execUnitHandover (page : Page) (s : State) : Out := s.clocked (.next (s.unitHandover page))

/-! ## Yielding (R297 to R299) -/

/-- A candidate that its Shaft did not start returns to QUEUED. -/
def State.dropCandidate (s : State) (n : Nat) : State :=
  match (s.shaft n).candidate with
  | some e => (s.setShaft n { s.shaft n with candidate := none }).requeue e
  | none => s

/-- SHAFT_CHECKPOINT: the running main job passes a checkpoint, and there gives way to a waiting candidate. -/
def State.checkpoint (s : State) (n : Nat) : State :=
  let h := s.shaft n
  match h.main, h.inner with
  | some m, none =>
    if h.wipeYield ≠ 0 then s
    else
      let m := { m with checkpoints := (m.checkpoints + 1) % 2 ^ 32 }
      match h.candidate with
      | some e =>
        match s.entry e with
        | some x =>
          if m.exclusive || s.draining (.shf n) then s.setShaft n { h with main := some m }
          else
            let j := match x.desc.kind with | some k => s.jobOf k x.desc | none => (0, 0)
            let m := { m with yields := satAdd 0xFFFF m.yields 1 }
            let q := s.blindJob { entry := e, kind := j.1, started := s.stamp, lines := shaftLines j.1, set := j.2 }
            let s := q.1.setShaft n { h with
              main := some m, candidate := none, innerFrom := s.stamp, yieldTotal := satAdd 0xFFFF h.yieldTotal 1
              inner := some q.2 }
            let t := match s.entry m.entry with | some y => y.tenant | none => 0
            (s.modEntry m.entry fun y => { y with info := m.yields }).pmu 0x28 t none none 1
        | none => s.setShaft n { h with main := some m, candidate := none }
      | none => s.setShaft n { h with main := some m }
  | _, _ => s

def execShaftCheckpoint (n : Nat) (s : State) : Out := s.clocked (.next (if n < 8 then s.checkpoint n else s))

/-! ## The end of a job -/

/-- The result check of an RSA private job fails (R234, R301). -/
def State.resultCheckFail (s : State) (n e ty : Nat) : State :=
  let s := ((s.setErr (.shf n) 16).setInt (.shf n) 16).logEvent 0x000A 2 deviceTenant 0x0050 n ty s.stamp n
  s.finish e .kernelFault

/-- The work of a Shaft job, by its opcode. -/
def State.shaftWork (s : State) (e : Nat) (k : OpKind) : State :=
  match k with
  | .rsaSign => s.rsaSign e
  | .rsaDecrypt => s.rsaDecrypt e
  | .rsaVerify => s.rsaVerify e
  | .rsaEncrypt => s.rsaEncrypt e
  | .rsaKeygen => s.rsaKeygen e
  | .mceKeygen => s.mceKeygen e
  | .keyReplace => s.keyReplace e
  | _ => s

/-- SHAFT_COMMIT (R291 steps 4 and 5): the main or the yield-in job of Shaft `n` ends; `pass` is the result check that
only a private RSA job has. -/
def State.shaftCommit (s : State) (n : Nat) (inner pass : Bool) : State :=
  match (if inner then (s.shaft n).inner else (s.shaft n).main) with
  | some j =>
    match s.entry j.entry with
    | some x =>
      match x.desc.kind with
      | some k =>
        match s.running j.entry k with
        | some _ => if j.kind == 1 && !pass then s.resultCheckFail n j.entry j.kind else s.shaftWork j.entry k
        | none => s
      | none => s
    | none => s
  | none => s

def execShaftCommit (n : Nat) (inner pass : Bool) (s : State) : Out :=
  s.clocked (.next (if n < 8 then s.shaftCommit n inner pass else s))

/-- SHAFT_WIPE_DONE (R293, R294, R298): the region is clean; a suspended main job resumes, its time yielded counted. A
candidate whose main job has gone returns to QUEUED. -/
def State.wipeDone (s : State) (n : Nat) (inner : Bool) : State :=
  let h := s.shaft n
  let s :=
    if h.wipeAll then (s.setShaft n { h with wipeMain := 0, wipeYield := 0, wipeAll := false }).dropCandidate n
    else if inner then
      let m := match h.main with
        | some m => some { m with yielded := m.yielded + (s.stamp - h.innerFrom) }
        | none => none
      if h.wipeYield = 0 then s else s.setShaft n { h with wipeYield := 0, main := m }
    else if h.wipeMain = 0 then s else (s.setShaft n { h with wipeMain := 0 }).dropCandidate n
  if h.idle then s else s.shaftSettled n

def execShaftWipeDone (n : Nat) (inner : Bool) (s : State) : Out := s.clocked (.next (if n < 8 then s.wipeDone n inner else s))

/-- SHAFT_STOP_ACK (R300, R93): the stopped job completes with the status of its cause; its wipe follows. -/
def State.shaftAck (s : State) (e : Nat) : State :=
  match s.entry e with
  | some x =>
    match x.target, x.stopping with
    | .shaft _, some how => s.endStopped e how
    | _, _ => s
  | none => s

def execShaftStopAck (e : Nat) (s : State) : Out := s.clocked (.next (s.shaftAck e))

/-- SHAFT_STOP_TIMEOUT (R300): the sequencer is halted, `ERR.TIMEOUT` sets, and all goes on as though acknowledged. -/
def execShaftStopTimeout (e : Nat) (s : State) : Out :=
  s.clocked (.next (match s.entry e with
    | some x =>
      match x.target, x.stopping with
      | .shaft n, some _ => ((s.advanceTo (x.stopAt + x.stopTo)).setErr (.shf n) 5).shaftAck e
      | _, _ => s
    | none => s))

/-- SHAFT_SELFTEST_DONE (R290, R446): the Shaft serves, or is marked DISABLED. -/
def State.selftestDone (s : State) (n : Nat) (pass : Bool) : State :=
  let h := s.shaft n
  if h.test ≠ 1 then s
  else
    let s := s.setShaft n { h with test := if pass then 2 else 3, wipeAll := false }
    if pass then s.unitServes (.shf n) else s.disableUnit (.shf n) 2

def execShaftSelftestDone (n : Nat) (pass : Bool) (s : State) : Out := s.clocked (.next (if n < 8 then s.selftestDone n pass else s))

end Sys2Proof.Machine
end

