-- ==== Sys2Proof/Machine/Engines.lean ====
section
/-! DEFINITION. How an engine issues a word (R321 to R325, R333), its memory windows (R311 to R316), its traps and the
fault record (R332, R335, R336, R340), the step watchdog (R338) and modulus builds (R309). -/
namespace Sys2Proof.Machine

/-! ## Issuing -/

/-- Where a slot executes: the engine, its operation and run, the word with this slot's 40 bits, and the registers as
the word found them (R322). -/
structure At where
  n : Nat
  i : Nat
  e : Nat
  run : Run
  w : BitVec 128
  x : Nat
  pc : Nat
  old : Regs

/-- What a slot did: it completed; it trapped, writing nothing; it waits (a port, a register, WAIT_LEASE) and issues
again later; or it holds the word at a barrier. `bad` is the trap UNCORR, after what its earlier executions did. -/
inductive Did where
  | ok (s : State)
  | trap (cause addr : Nat) (elem : Option Nat)
  | bad (s : State) (addr : Nat) (elem : Option Nat)
  | wait
  | hold (s : State)

/-- Change an engine's registers. -/
def State.modRegs (s : State) (a : At) (f : Regs → Regs) : State :=
  s.setEng a.n a.i { s.eng a.n a.i with regs := f (s.eng a.n a.i).regs }

def word0 (_ : Nat) : BitVec 128 := 0

/-- A word of a Stope's kernel store (R379). -/
def State.storeWord (s : State) (n pc : Nat) : BitVec 128 := Cells.get word0 (s.stope n).store.words (pc % 4096)

/-- The first slot of a word issues: its operands are read now, and a step may begin (R322, R338). -/
def State.beginWord (s : State) (n i e : Nat) (w : BitVec 128) : State :=
  let g := s.eng n i
  let s := s.setEng n i { g with old := g.regs, npc := (g.pc + 1) % 4096, stepAt := if wordStep w then s.stamp else g.stepAt }
  let s := match s.run e with
    | some r => if wordStep w then s.setRun e { r with stepStamp := s.stamp } else s
    | none => s
  let t := match s.entry e with | some y => y.tenant | none => 0
  let x := s.sampler n
  let s := if x.active then s.setSampler n { x with words := x.words + 1 } else s
  s.pmu 0x02 t (some n) (some i) 1

/-- `ENG_FAULT` (R340). -/
def faultWord (valid : Bool) (elem : Option Nat) (slot cause : Nat) : Word :=
  BitVec.ofNat 32 (2 ^ 31 + b2n valid * 2 ^ 30 + (match elem with | some k => 2 ^ 24 + k % 256 * 2 ^ 16 | none => 0) +
    slot * 2 ^ 14 + cause)

/-- A slot traps (R333, R335 step 1): the first of its word is recorded; inside a handler the cause is DOUBLE. -/
def State.trapSlot (s : State) (n i e slot op cause addr : Nat) (elem : Option Nat) : State :=
  let g := s.eng n i
  if g.trapped then s
  else
    let cause := if g.mode = 4 then 9 else cause
    let s := s.setEng n i { g with
      trapped := true, fault := faultWord (bit g.fault 31) elem slot cause, faddr := BitVec.ofNat 32 addr, fpc := g.pc
      fstamp := s.stamp, fop := op }
    let s := (s.setErr (.eng n (i / 2)) (16 + i % 2)).setInt (.eng n (i / 2)) 16
    match s.run e with
    | some r =>
      let info := cause + g.pc % 4096 * 2 ^ 8 + g.idx * 2 ^ 20 + (match elem with | some k => k % 256 | none => 0xFF) * 2 ^ 24
      s.setRun e { r with trapCause := cause, trapped := some (match r.trapped with | some j => j | none => i)
                          firstTrap := if r.trapped.isSome then r.firstTrap else info }
    | none => s

/-- The operation's engines stop at their next word boundary (R335 step 2). -/
def State.haltEngines (s : State) (e : Nat) : State :=
  match s.run e with
  | none => s
  | some r => s.mapEngs r.stope ((engSet r.first r.wlog2).filter fun i => (s.eng r.stope i).run == some e)
      fun x => { x with mode := 5 }

/-- A slot is over: the next slot of the word, or, after the last, the next word; a word with a trap is the engine's
last, and halts the operation. -/
def State.endSlot (s : State) (n i e : Nat) (w : BitVec 128) : State :=
  let g := s.eng n i
  if g.run ≠ some e then s
  else
    let mode := if g.mode = 2 ∨ g.mode = 3 then 1 else g.mode
    if g.slot < 2 ∧ wordFmt w ≠ 1 then s.setEng n i { g with slot := g.slot + 1, mode := mode }
    else if g.trapped then (s.setEng n i { g with slot := 0 }).haltEngines e
    else s.setEng n i { g with slot := 0, pc := g.npc, mode := mode }

/-! ## Memory errors (R332, R334, R512) -/

/-- A correctable error met by an engine of Stope `n` is corrected in memory. -/
def State.corrected (s : State) (n : Nat) (f : Flaw) : State :=
  ({ s with flaws := s.flaws.erase f }.countCorrected n 1).setErr (.stp n) 3

/-- The tenant whose operation an engine runs. -/
def State.runTenant (s : State) (n i : Nat) : Nat :=
  match (s.eng n i).run.bind s.entry with
  | some x => x.tenant
  | none => 0

/-- The instruction is issued again from its first element (R334, R520). -/
def State.restart (s : State) (n i : Nat) (f : Flaw) : State :=
  let s := (s.corrected n f).pmu 0x07 (s.runTenant n i) (some n) (some i) 1
  s.setEng n i { s.eng n i with restarts := satAdd 0xFFFF (s.eng n i).restarts 1 }

/-- The executions of one instruction, with `b` restarts left, over the errors it meets in the order of its elements: the
state after them, and the element and address where it traps UNCORR. One execution meets one error (DEDUCED, log 38). -/
def State.meet (n i : Nat) : Nat → List (Nat × Nat × Flaw) → State → State × Option (Nat × Nat)
  | _, [], s => (s, none)
  | b, (elem, addr, f) :: r, s =>
    if !s.flaws.contains f then State.meet n i b r s
    else if f.uncorr then (s.foundUncorr (.stp n) 1 addr, some (elem, addr))
    else match b with
      | 0 => (s.corrected n f, some (elem, addr))
      | b + 1 => State.meet n i b r (s.restart n i f)

/-- The errors that stand in a word of a Stope's kernel store. -/
def State.wordFlaws (s : State) (n pc : Nat) : List (Nat × Nat × Flaw) :=
  (s.flaws.filter fun f => f.place == .word n (pc % 4096)).map fun f => (0, pc % 4096, f)

/-- Is the operation of a run executing on its engines? -/
def State.executing (s : State) (e : Nat) : Bool :=
  match s.entry e with
  | some x => x.live && x.started
  | none => false

/-- A word that cannot be decoded, or fails its checks, traps as a whole: no slot of it completes. -/
def State.wordTrap (s : State) (n i e slot op cause addr : Nat) : State :=
  let s := s.trapSlot n i e slot op cause addr none
  (s.setEng n i { s.eng n i with slot := 2 }).endSlot n i e 0

/-- Issue one slot of engine `i` of Stope `n`: the engine runs and stands at this slot; its word, checked at decode,
holds opcode `op` there. The checks of a whole word are made with its first slot. -/
def State.issue (s : State) (n i slot op : Nat) (f : State → At → Did) : State :=
  let g := s.eng n i
  match g.run with
  | none => s
  | some e =>
    match s.run e with
    | none => s
    | some r =>
      if s.avs.tripped || !(g.mode == 1 || g.mode == 2 || g.mode == 4) || g.slot != slot || !s.executing e then s
      else
        let w := s.storeWord n g.pc
        let q := if slot = 0 then s.meet n i 3 (s.wordFlaws n g.pc) else (s, none)
        match q.2, (if slot = 0 then illegalSlot w (g.mode == 4) else none) with
        | some p, _ => (q.1.beginWord n i e 0).wordTrap n i e 0 0 4 p.2
        | none, some k => (q.1.beginWord n i e w).wordTrap n i e k (slotOp (slotOf w k)) 1 0
        | none, none =>
          let x := slotOf w slot
          if slotOp x ≠ op then s
          else
            let t := if slot = 0 then q.1.beginWord n i e w else s
            match f t { n := n, i := i, e := e, run := r, w := w, x := x, pc := g.pc, old := (t.eng n i).old } with
            | .ok u => u.endSlot n i e w
            | .trap cause addr elem => (t.trapSlot n i e slot op cause addr elem).endSlot n i e w
            | .bad u addr elem => (u.trapSlot n i e slot op 4 addr elem).endSlot n i e w
            | .wait => if g.mode = 1 then s.setEng n i { g with mode := 2 } else s
            | .hold u => u

/-- An engine command on an engine that exists. -/
def engineCmd (n i : Nat) (s : State) : Out := if n < 64 ∧ i < 16 then .next s else .fault .noSuchUnit

/-- NOP (R349): nothing, in whichever slot the engine stands at. -/
def execNopS (n i : Nat) (s : State) : Out := engineCmd n i (s.issue n i (s.eng n i).slot 0 fun s _ => .ok s)

/-! ## Memory windows (R311 to R316) -/

inductive Win where
  | loc | input | pub | sec | work | out
deriving DecidableEq, Repr

/-- The window an address lies in, with the offset and the window's size. -/
def Run.window (r : Run) (a : Nat) : Option (Win × Nat × Nat) :=
  let k := r.kernel
  if a < 0x8000 then some (.loc, a, 0x8000)
  else if 0x100000 ≤ a ∧ a < 0x100000 + 64 * k.winInput then some (.input, a - 0x100000, 64 * k.winInput)
  else if 0x200000 ≤ a ∧ a < 0x200000 + 64 * k.winPub then some (.pub, a - 0x200000, 64 * k.winPub)
  else if 0x280000 ≤ a ∧ a < 0x280000 + 64 * k.winSec then some (.sec, a - 0x280000, 64 * k.winSec)
  else if 0x300000 ≤ a ∧ a < 0x300000 + 64 * k.winWork then some (.work, a - 0x300000, 64 * k.winWork)
  else if 0x400000 ≤ a ∧ a < 0x400000 + 64 * k.winOut then some (.out, a - 0x400000, 64 * k.winOut)
  else none

/-- The kinds of access. -/
inductive Access where
  | load (masked : Bool) | store (masked : Bool) | unmask
deriving DecidableEq, Repr

/-- Is the access one of a share triple? -/
def Access.masked : Access → Bool
  | .load m | .store m => m
  | .unmask => false

/-- The trap an access of `len` bytes at `addr` takes (R314, R316), if any. -/
def accessTrap (a : At) (k : Access) (addr len : Nat) : Option Nat :=
  match a.run.window addr with
  | none => some 2
  | some (w, off, size) =>
    let allowed : Bool :=
      match k with
      | .load m => w != .out && (w != .sec || m)
      | .store m => w == .loc || w == .work || (w == .out && !m)
      | .unmask => w == .out
    let far := if k.masked && (w == .loc || w == .work) then 2 * a.old.sstride else 0
    if !allowed || decide (size < off + far + len) then some 2
    else if addr % len ≠ 0 then some 3
    else none

/-- The bytes at an offset of a window. -/
def State.winRead (s : State) (a : At) (w : Win) (off len : Nat) : Bytes :=
  match w with
  | .loc => Cells.readBytes (s.eng a.n a.i).loc off len
  | .input => Cells.readBytes a.run.input off len
  | .pub => Cells.readBytes a.run.pub off len
  | .sec => Cells.readBytes a.run.sec off len
  | .work => Cells.readBytes a.run.work off len
  | .out => Cells.readBytes a.run.out off len

/-- One share of an access that has passed its checks, or the plain data (share 0). A triple load from a window whose
shares the spec does not place gives free values. -/
def State.loadShare (s : State) (a : At) (masked : Bool) (addr len share : Nat) : State × Bytes :=
  match a.run.window addr with
  | none => (s, List.replicate len 0)
  | some (w, off, _) =>
    if !masked then (s, s.winRead a w off len)
    else match w with
      | .loc | .work => (s, s.winRead a w (off + share * a.old.sstride) len)
      | .sec => (s, s.winRead a .sec (off + share * a.run.lsec) len)
      | _ => s.freshBytes len

/-- Is a place among `len` bytes from an address, as engine `a` sees its memories? -/
def At.covers (a : At) (addr len : Nat) : FlawAt → Bool
  | .loc n i x => n == a.n && i == a.i && decide (addr ≤ x) && decide (x < addr + len)
  | .region e x => e == a.e && decide (0x8000 ≤ addr) && decide (addr ≤ x) && decide (x < addr + len)
  | _ => false

/-- The addresses an access reads: one, or one for each share of a triple. -/
def At.places (a : At) (masked : Bool) (addr : Nat) : List Nat :=
  match a.run.window addr with
  | some (.loc, _, _) | some (.work, _, _) =>
    if masked then [addr, addr + a.old.sstride, addr + 2 * a.old.sstride] else [addr]
  | some (.sec, _, _) => if masked then [addr, addr + a.run.lsec, addr + 2 * a.run.lsec] else [addr]
  | _ => [addr]

/-- The errors that stand where an access of some elements reads. -/
def State.flawsIn (s : State) (a : At) (masked : Bool) (len : Nat) (els : List (Nat × Nat)) : List (Nat × Nat × Flaw) :=
  (els.map fun q => ((a.places masked q.2).map fun x =>
    (s.flaws.filter fun f => a.covers x len f.place).map fun f => (q.1, q.2, f)).flatten).flatten

/-- An access goes on after the errors it meets, corrected, or traps UNCORR. -/
def State.meeting (s : State) (a : At) (met : List (Nat × Nat × Flaw)) (numbered : Bool) (f : State → Did) : Did :=
  match s.meet a.n a.i 3 met with
  | (s, none) => f s
  | (s, some (elem, addr)) => .bad s addr (if numbered then some elem else none)

/-- Read memory, or write part of its words, after the access checks: with the errors met corrected, or the trap UNCORR. -/
def State.reading (s : State) (a : At) (masked : Bool) (len : Nat) (els : List (Nat × Nat)) (numbered : Bool)
    (f : State → Did) : Did := s.meeting a (s.flawsIn a masked len els) numbered f

/-- Store bytes at an address that has passed its checks: one share, or plain data. -/
def State.storeShare (s : State) (a : At) (addr share : Nat) (bs : Bytes) : State :=
  match a.run.window addr with
  | none => s
  | some (w, off, _) =>
    let s := s.dropFlaws (a.covers (addr + share * a.old.sstride) bs.length)
    let off := off + share * a.old.sstride
    match w with
    | .loc =>
      let g := s.eng a.n a.i
      s.setEng a.n a.i { g with loc := Cells.writeBytes g.loc off bs }
    | .work =>
      match s.run a.e with
      | some r => s.setRun a.e { r with work := Cells.writeBytes r.work off bs }
      | none => s
    | .out =>
      match s.run a.e with
      | some r => s.setRun a.e { r with out := Cells.writeBytes r.out off bs }
      | none => s
    | _ => s

/-! ## Traps (R332, R335) -/

/-- The status that ends an operation for a trap cause (R332). -/
def trapStatus (cause : Nat) : Status :=
  match cause with
  | 4 => .memoryUncorrectable
  | 6 => .noEntropy
  | _ => .kernelFault

/-- An operation ends for a trap or by FAIL: a custom kernel's record carries the first trap (R383). -/
def State.faultEnd (s : State) (e : Nat) (st : Status) : State :=
  match s.entry e, s.run e with
  | some x, some r =>
    let info := if opFamily x.desc.opcode = 14 ∧ (st = .kernelFault ∨ st = .memoryUncorrectable) then r.firstTrap else x.info
    (s.setEntry e { x with info := info }).finish e st
  | _, _ => s

/-- TRAP_ENTRY (R335 step 3): with a trap entry, and a cause other than WATCHDOG, DOUBLE or BREAK, the lead engine
starts there; otherwise the operation completes. A stop request wins (R336). -/
def State.trapEntry (s : State) (e : Nat) : State :=
  match s.run e with
  | some r =>
    if r.trapped.isNone || !s.executing e then s
    else if r.kernel.trap ≠ 0xFFFF ∧ r.handler = false ∧ r.trapCause ∉ [8, 9, 10] then
      let g := s.eng r.stope r.first
      let s := s.setEng r.stope r.first { g with
        mode := 4, pc := (s.baseOf r.stope r.kernel + r.kernel.trap) % 4096, slot := 0, trapped := false, atBar := none }
      s.setRun e { r with handler := true, handlerAt := s.stamp }
    else if r.handler ∧ r.trapCause ≠ 9 then s
    else s.faultEnd e (trapStatus r.trapCause)
  | none => s

def execTrapEntry (e : Nat) (s : State) : Out := s.clocked (.next (s.trapEntry e))

/-- The nanoseconds of some cycles of a Stope, at its present clock. -/
def State.cyclesNs (s : State) (n cycles : Nat) : Nat := ceilDiv (cycles * 1000) (Nat.max 1 (s.stope n).clock)

/-- TRAP_HANDLER_OVERRUN (R335 step 4, R332), 4,096 cycles after the handler began: DOUBLE. -/
def State.handlerOverrun (s : State) (e : Nat) : State :=
  match s.run e with
  | some r =>
    if r.handler && s.executing e then
      let s := s.advanceTo (r.handlerAt + s.cyclesNs r.stope 4096)
      let g := s.eng r.stope r.first
      (s.trapSlot r.stope r.first e 0 g.fop 9 0 none).faultEnd e .kernelFault
    else s
  | none => s

def execTrapHandlerOverrun (e : Nat) (s : State) : Out := s.clocked (.next (s.handlerOverrun e))

/-- The engine of a run that has gone longest without a step. -/
def State.oldestStep (s : State) (r : Run) : Nat :=
  (engSet r.first r.wlog2).foldl (fun b i => if (s.eng r.stope i).stepAt < (s.eng r.stope b).stepAt then i else b) r.first

/-- STEP_WATCHDOG_EXPIRY (R338), 4 times the step budget or 50 ms after the step began, whichever is first: that engine records WATCHDOG, the expiry is logged, and the operation is stopped with
KERNEL_FAULT; a stop request already under way wins (R514). -/
def State.watchdog (s : State) (e : Nat) : State :=
  match s.run e with
  | some r =>
    if s.executing e then
      let n := r.stope
      let s := s.advanceTo (r.stepStamp + Nat.min 50000000 (s.cyclesNs n (4 * r.kernel.budget)))
      let i := s.oldestStep r
      let s := (s.trapSlot n i e 0 0 8 0 none).setErr (.eng n (i / 2)) (18 + i % 2)
      let s := s.logEvent 0x0009 2 deviceTenant 0x0041 (n * 8 + i / 2) (s.eng n i).fault.toNat s.stamp (n + i * 65536)
      match s.entry e, s.run e with
      | some x, some r =>
        (s.setEntry e { x with info := if opFamily x.desc.opcode = 14 then r.firstTrap else x.info }).stop e (.status .kernelFault)
      | _, _ => s
    else s
  | none => s

def execStepWatchdogExpiry (e : Nat) (s : State) : Out := s.clocked (.next (s.watchdog e))

/-! ## Modulus builds -/

/-- MSET_BUILD_DONE (R309): the check's verdict. -/
def execMsetBuildDone (n i k : Nat) (s : State) : Out := engineCmd n i (if s.avs.tripped then s else (
    let g := s.eng n i
    let m := g.regs.getM k
    if g.run.isSome && decide (k < 4) && m.status == 1 then
      let m := { m with status := if m.good then 2 else 3 }
      s.setEng n i { g with regs := g.regs.setM k m, old := g.old.setM k m }
    else s))

end Sys2Proof.Machine
end

