-- ==== Sys2Proof/Machine/Lanes.lean ====
section
/-! DEFINITION. The lanes of the V and W slots: operands as single registers or share triples (R328), the two kinds of
masked instruction (R329), resharing with fresh randomness (R227, R354), and merging under a predicate (R343). The
argument `ring` says which slot: V (false) or W (true). -/
namespace Sys2Proof.Machine

/-- An operand: its shares; an unshared operand is share 0 beside two zero shares, so that an unshared addend combines
with share 0 only (R329). -/
structure Tri where
  a : List Nat
  b : List Nat
  c : List Nat

/-- How shares combine: exclusive or, or a sum modulo a number. -/
inductive Sharing where
  | bool
  | arith (m : Nat)

def triOf (shared : Bool) (get : Nat → List Nat) : Tri :=
  let x := get 0
  if shared then { a := x, b := get 1, c := get 2 }
  else { a := x, b := List.replicate x.length 0, c := List.replicate x.length 0 }

/-- Apply a function share by share. -/
def Tri.map (f : List Nat → List Nat) (t : Tri) : Tri := { a := f t.a, b := f t.b, c := f t.c }
def Tri.map2 (f : List Nat → List Nat → List Nat) (t u : Tri) : Tri := { a := f t.a u.a, b := f t.b u.b, c := f t.c u.c }

/-- The value that a triple shares. -/
def Tri.value (d : Sharing) (t : Tri) : List Nat :=
  match d with
  | .bool => zipOp (· ^^^ ·) (zipOp (· ^^^ ·) t.a t.b) t.c
  | .arith m => zipOp (fun x y => (x + y) % m) (zipOp (· + ·) t.a t.b) t.c

/-- `n` fresh free numbers of `w` bits. -/
def State.freshNats (s : State) (w n : Nat) : State × List Nat :=
  ({ s with freeNext := s.freeNext + n }, (List.range n).map fun k => (Config.freeValue w (s.freeNext + k)).toNat)

/-- A fresh sharing of a value. -/
def State.reshare (s : State) (d : Sharing) (w : Nat) (v : List Nat) : State × Tri :=
  let r := s.freshNats w v.length
  let q := r.1.freshNats w v.length
  match d with
  | .bool => (q.1, { a := zipOp (· ^^^ ·) (zipOp (· ^^^ ·) v r.2) q.2, b := r.2, c := q.2 })
  | .arith m =>
    let b := r.2.map (· % m)
    let c := q.2.map (· % m)
    (q.1, { a := zipOp (subMod m) (zipOp (subMod m) v b) c, b := b, c := c })

/-! ## Operands -/

def At.shD (a : At) (ring : Bool) : Bool := if ring then wSd a.x else vSd a.x
def At.shA (a : At) (ring : Bool) : Bool := if ring then wSa a.x else vSa a.x
def At.shB (a : At) (ring : Bool) : Bool := if ring then wSb a.x else vSb a.x

/-- Does a share bit make the instruction a masked one? -/
def At.isMasked (a : At) (ring : Bool) : Bool := a.shD ring || a.shA ring || a.shB ring

/-- A register or group as lanes: the register with number `n`, `k` registers or groups on. -/
def At.lanesOf (a : At) (ring : Bool) (n k : Nat) : List Nat :=
  if ring then a.old.getG (n + k * wG a.x) (wG a.x) else a.old.getV (n + k)

def At.srcA (a : At) (ring : Bool) : Tri := triOf (a.shA ring) fun k => a.lanesOf ring (if ring then wWa a.x else vVa a.x) k
def At.srcB (a : At) (ring : Bool) : Tri := triOf (a.shB ring) fun k => a.lanesOf ring (if ring then wB a.x else vVb a.x) k

/-- The governing predicate's bit of a lane; a coefficient's is that of its place in its register (R371). -/
def At.active (a : At) (ring : Bool) (lane : Nat) : Bool :=
  if ring then (a.old.getK (wKg a.x)).getLsbD (lane % 256) else (a.old.getP (vPg a.x)).getLsbD lane

/-- Write a destination register, group or triple under a predicate. -/
def putLanes (s : State) (a : At) (ring : Bool) (d : Nat) (shared : Bool) (act : Nat → Bool) (t : Tri) : State :=
  let g := if ring then wG a.x else 1
  let put (k : Nat) (l : List Nat) (r : Regs) : Regs :=
    if ring then r.setG (d + k * g) g (mergeBits act (a.old.getG (d + k * g) g) l)
    else r.setV (d + k) (mergeBits act (a.old.getV (d + k)) l)
  s.modRegs a fun r => if shared then put 2 t.c (put 1 t.b (put 0 t.a r)) else put 0 t.a r

/-- Write the instruction's own destination. -/
def State.putDest (s : State) (a : At) (ring : Bool) (t : Tri) : Did :=
  .ok (putLanes s a ring (if ring then wWd a.x else vVd a.x) (a.shD ring) (a.active ring) t)

/-- The same for an unshared result. -/
def State.putPlain (s : State) (a : At) (ring : Bool) (l : List Nat) : Did :=
  s.putDest a ring { a := l, b := List.replicate l.length 0, c := List.replicate l.length 0 }

/-- The MRG bits of a masked instruction (R227, R329): without a valid MRG it traps RANDOMNESS (R320). -/
def State.withMrg (s : State) (a : At) (ring : Bool) (f : State → Did) : Did :=
  if a.isMasked ring then
    let s := s.mrgFresh a.n
    if !(s.mrg a.n).valid || s.ent.phase == 4 then .trap 6 0 none
    else
      let t := match s.entry a.e with | some x => x.tenant | none => 0
      f (s.pmu 0x06 t (some a.n) (some a.i) 3)
  else f s

/-- The modulus an instruction reads (R309, R353): it waits for a build, and traps MODULUS on a register that is not
VALID. -/
def withM (a : At) (k : Nat) (f : MReg → Did) : Did :=
  let m := a.old.getM k
  if m.status = 2 then f m else if m.status = 1 then .wait else .trap 5 0 none

def At.mreg (a : At) (ring : Bool) : Nat := if ring then wMreg a.x else vMreg a.x

def withQ (a : At) (ring : Bool) (f : Nat → Did) : Did := withM a (a.mreg ring) fun m => f m.q

/-! ## Elementwise instructions -/

/-- A linear instruction: each share on its own. -/
def State.linear (s : State) (a : At) (ring : Bool) (f : List Nat → List Nat → List Nat) : Did :=
  s.withMrg a ring fun s => s.putDest a ring ((a.srcA ring).map2 f (a.srcB ring))

/-- The same with one source. -/
def State.linear1 (s : State) (a : At) (ring : Bool) (f : List Nat → List Nat) : Did :=
  s.withMrg a ring fun s => s.putDest a ring ((a.srcA ring).map f)

/-- A product of a sharing: with both sources shared a gadget, its result freshly shared; otherwise each share of the
shared source times the unshared one. -/
def State.product (s : State) (a : At) (ring : Bool) (d : Sharing) (w : Nat) (f : List Nat → List Nat → List Nat) :
    State × Tri :=
  let x := a.srcA ring
  let y := a.srcB ring
  if a.shA ring && a.shB ring then s.reshare d w (f (x.value d) (y.value d))
  else if a.shB ring then (s, { a := f x.a y.a, b := f x.a y.b, c := f x.a y.c })
  else if a.shA ring then (s, { a := f x.a y.a, b := f x.b y.a, c := f x.c y.a })
  else (s, triOf false fun _ => f x.a y.a)

def State.bilinear (s : State) (a : At) (ring : Bool) (d : Sharing) (f : List Nat → List Nat → List Nat) : Did :=
  s.withMrg a ring fun s =>
    let r := s.product a ring d 32 f
    r.1.putDest a ring r.2

/-- An instruction on values that is a gadget as soon as a source is shared: its result is freshly shared. -/
def State.gadget (s : State) (a : At) (ring : Bool) (d : Sharing) (f : List Nat → List Nat → List Nat) : Did :=
  s.withMrg a ring fun s =>
    let v := f ((a.srcA ring).value d) ((a.srcB ring).value d)
    if a.shA ring || a.shB ring then
      let r := s.reshare d 32 v
      r.1.putDest a ring r.2
    else s.putPlain a ring v

/-- A conversion of a triple's sharing (R352, R353): the value is kept, the shares are fresh. -/
def State.convert (s : State) (a : At) (ring : Bool) (from_ toS : Sharing) : Did :=
  s.withMrg a ring fun s =>
    let r := s.reshare toS 32 ((a.srcA ring).value from_)
    r.1.putDest a ring r.2

/-- The arithmetic sharing a conversion names: modulo 2^32, or modulo Q with FN[0] 1. -/
def withArith (a : At) (ring : Bool) (f : Sharing → Did) : Did :=
  let fn := if ring then wFn a.x else vFn a.x
  if fn.testBit 0 then withQ a ring fun q => f (.arith q) else f (.arith (2 ^ 32))

/-- The sharing of a triple where no field of the instruction names it: a free choice between exclusive or, sums modulo
2^32 and sums modulo the Q of a VALID modulus register among some. -/
def State.someSharing (s : State) (ms : List MReg) : State × Sharing :=
  let l : List Sharing := [.bool, .arith (2 ^ 32)] ++ (ms.filter fun m => m.status == 2).map fun m => .arith m.q
  ({ s with freeNext := s.freeNext + 1 }, l.getD ((Config.freeValue 8 s.freeNext).toNat % l.length) .bool)

/-- A refresh keeps a triple's sharing (R352). -/
def State.refresh (s : State) (a : At) (ring : Bool) : Did :=
  let r := s.someSharing [a.old.getM (a.mreg ring)]
  r.1.convert a ring r.2 r.2

/-- A triple with fresh shares, as it is before it goes into Stope shared memory (R227). -/
def State.refreshed (s : State) (a : At) (t : Tri) : State × Tri :=
  let r := s.someSharing ((List.range 4).map fun k => a.old.getM k)
  r.1.reshare r.2 32 (t.value r.2)

/-- A selection by public bits: a gadget where a source is shared, with fresh shares of what each lane selects (R354). -/
def State.select (s : State) (a : At) (ring : Bool) (pick : Nat → Bool) : Did :=
  s.withMrg a ring fun s =>
    let t := (a.srcA ring).map2 (fun x y => mergeBits pick y x) (a.srcB ring)
    if a.shA ring || a.shB ring then
      let r := s.refreshed a t
      r.1.putDest a ring r.2
    else s.putDest a ring t

end Sys2Proof.Machine
end

