-- ==== Sys2Proof/Machine/Ring.lean ====
section
/-! DEFINITION. The ring slot's arithmetic, transforms, decisions, packing and moves (R364 to R369, R371). -/
namespace Sys2Proof.Machine

/-- The W slot of a word. -/
def State.wslot (s : State) (n i op : Nat) (f : State → At → Did) : State := s.issue n i 2 op f

/-- The s register in the B position. -/
def At.ws (a : At) : Nat := (a.old.getS (wB a.x)).toNat

def execWadd (n i : Nat) (s : State) : Out :=
  engineCmd n i (s.wslot n i 0x01 fun s a => withQ a true fun q => s.linear a true (zipOp (addMod q)))
def execWsub (n i : Nat) (s : State) : Out :=
  engineCmd n i (s.wslot n i 0x02 fun s a => withQ a true fun q => s.linear a true (zipOp (subMod q)))
def execWxor (n i : Nat) (s : State) : Out :=
  engineCmd n i (s.wslot n i 0x03 fun s a => s.linear a true (zipOp (· ^^^ ·)))
def execWand (n i : Nat) (s : State) : Out :=
  engineCmd n i (s.wslot n i 0x04 fun s a => s.bilinear a true .bool (zipOp (· &&& ·)))
def execWpmul (n i : Nat) (s : State) : Out :=
  engineCmd n i (s.wslot n i 0x08 fun s a => withQ a true fun q => s.bilinear a true (.arith q) (zipOp (mulMod q)))

/-- WBMUL: each register of the group by R366; a pair is written when bit 2i of KG is 1; LAYERS 0 traps MODULUS. -/
def State.wbmul (s : State) (a : At) : Did :=
  withM a (wMreg a.x) fun m =>
    if !m.layers then .trap 5 0 none
    else s.withMrg a true fun s =>
      let r := s.product a true (.arith m.q) 32 (perReg2 (baseMul m) (wG a.x))
      .ok (putLanes r.1 a true (wWd a.x) (wSd a.x) (fun k => a.active true (k / 2 * 2)) r.2)

def execWbmul (n i : Nat) (s : State) : Out := engineCmd n i (s.wslot n i 0x09 fun s a => s.wbmul a)

def execWsmul (n i : Nat) (s : State) : Out :=
  engineCmd n i (s.wslot n i 0x0A fun s a => withQ a true fun q =>
    s.linear1 a true fun l => l.map fun c => mulMod q c (a.ws % 2 ^ 32))

def execWclmul (n i : Nat) (s : State) : Out :=
  engineCmd n i (s.wslot n i 0x0B fun s a =>
    s.linear a true (zipOp fun x y => if (wFn a.x).testBit 0 then clmul x y / 2 ^ 32 else clmul x y % 2 ^ 32))

/-- A transform of each register of the group; a masked one refreshes its result, which is shared modulo Q (R329). -/
def State.transform (s : State) (a : At) (f : MReg → List Nat → List Nat) : Did :=
  withM a (wMreg a.x) fun m =>
    s.withMrg a true fun s =>
      let t := (a.srcA true).map (perReg (f m) (wG a.x))
      if wSd a.x then
        let r := s.reshare (.arith m.q) 32 (t.value (.arith m.q))
        r.1.putDest a true r.2
      else s.putDest a true t

def execWntt (n i : Nat) (s : State) : Out := engineCmd n i (s.wslot n i 0x10 fun s a => s.transform a ntt)
def execWintt (n i : Nat) (s : State) : Out :=
  engineCmd n i (s.wslot n i 0x11 fun s a => s.transform a fun m => intt m ((wFn a.x).testBit 0))

def execWrot (n i : Nat) (s : State) : Out :=
  engineCmd n i (s.wslot n i 0x12 fun s a => withQ a true fun q => s.linear1 a true (rotate q (a.ws % (256 * wG a.x))))

/-! ## Decisions -/

def execWdecomp (n i : Nat) (s : State) : Out :=
  engineCmd n i (s.wslot n i 0x18 fun s a => withQ a true fun q => s.linear1 a true fun l => l.map (decompOp q (wFn a.x)))

/-- WHINT: MakeHint(wb, wa) or UseHint(wb, wa). -/
def execWhint (n i : Nat) (s : State) : Out :=
  engineCmd n i (s.wslot n i 0x19 fun s a => withQ a true fun q =>
    let g2 := gamma2 q ((wFn a.x).testBit 2)
    s.linear a true (zipOp fun r z => if (wFn a.x).testBit 0 then useHint q g2 z r else makeHint q g2 z r))

/-- The verdicts of a group folded onto the 256 bits of a k register: a bit is set when its coefficient's verdict is true
in some register of the group; inactive bits are 0. -/
def foldBits (l : List Bool) : List Bool :=
  (List.range 256).map fun k => ((List.range (l.length / 256)).any fun g => l.getD (256 * g + k) false)

/-- A decision into k[wd]. -/
def State.wdecide (s : State) (a : At) (d : Sharing) (rel : Nat → Nat → Bool) : Did :=
  s.withMrg a true fun s =>
    let l := compareBits (a.active true) rel ((a.srcA true).value d) ((a.srcB true).value d)
    .ok (s.modRegs a fun g => g.setK (wWd a.x) (BitVec.ofNat 256 (ofFlags (foldBits l))))

/-- WNORM: the centred value reaches the bound; shares are sums modulo Q. -/
def State.wnorm (s : State) (a : At) : Did :=
  withQ a true fun q => s.withMrg a true fun s =>
    let v := (a.srcA true).value (.arith q)
    let l := compareBits (a.active true) (fun x _ => decide (a.ws ≤ centred q x)) v v
    .ok (s.modRegs a fun g => g.setK (wWd a.x) (BitVec.ofNat 256 (ofFlags (foldBits l))))

def execWnorm (n i : Nat) (s : State) : Out := engineCmd n i (s.wslot n i 0x1A fun s a => s.wnorm a)
def execWcmpeq (n i : Nat) (s : State) : Out := engineCmd n i (s.wslot n i 0x1B fun s a => s.wdecide a .bool relEq)

/-- WSEL acts on every share with the same selecting bits. -/
def execWsel (n i : Nat) (s : State) : Out :=
  engineCmd n i (s.wslot n i 0x1C fun s a => s.select a true fun k => (a.old.getK (wFn a.x)).getLsbD (k % 256))

/-! ## Compression and packing -/

def execWcomp (n i : Nat) (s : State) : Out :=
  engineCmd n i (s.wslot n i 0x20 fun s a => withQ a true fun q => s.linear1 a true fun l => l.map (compress q (wFn a.x)))
def execWdcmp (n i : Nat) (s : State) : Out :=
  engineCmd n i (s.wslot n i 0x21 fun s a => withQ a true fun q => s.linear1 a true fun l => l.map (decompress q (wFn a.x)))

def execWpack (n i : Nat) (s : State) : Out :=
  engineCmd n i (s.wslot n i 0x22 fun s a =>
    s.linear1 a true fun l => packWords (wFn a.x % 64) (l.map (biased ((wFn a.x).testBit 6) a.ws)))
def execWunp (n i : Nat) (s : State) : Out :=
  engineCmd n i (s.wslot n i 0x23 fun s a =>
    s.linear1 a true fun l => (unpackWords (wFn a.x % 64) l).map (biased ((wFn a.x).testBit 6) a.ws))

/-! ## Moves -/

def execWmov (n i : Nat) (s : State) : Out := engineCmd n i (s.wslot n i 0x28 fun s a => s.linear1 a true id)
def execWbcast (n i : Nat) (s : State) : Out :=
  engineCmd n i (s.wslot n i 0x29 fun s a => s.putPlain a true (List.replicate (256 * wG a.x) (a.ws % 2 ^ 32)))

/-- The first coefficient of the sixteen that WINSV and WEXTV move. -/
def At.sixteen (a : At) : Nat := 256 * (wFn a.x / 16) + 16 * (wFn a.x % 16)

/-- WINSV: sixteen coefficients from the lanes of v register B. -/
def execWinsv (n i : Nat) (s : State) : Out :=
  engineCmd n i (s.wslot n i 0x2A fun s a => s.withMrg a true fun s =>
    let t := triOf (wSb a.x) fun k => a.old.getV (wB a.x + k)
    let put (k : Nat) (l : List Nat) : List Nat :=
      let old := a.old.getG (wWd a.x + k * wG a.x) (wG a.x)
      (old.take a.sixteen) ++ l ++ old.drop (a.sixteen + 16)
    s.putDest a true { a := put 0 t.a, b := put 1 t.b, c := put 2 t.c })

/-- WEXTV writes v register B. -/
def execWextv (n i : Nat) (s : State) : Out :=
  engineCmd n i (s.wslot n i 0x2B fun s a => s.withMrg a true fun s =>
    let t := (a.srcA true).map fun l => (l.drop a.sixteen).take 16
    .ok (s.modRegs a fun g =>
      let g := g.setV (wB a.x) t.a
      if wSd a.x then (g.setV (wB a.x + 1) t.b).setV (wB a.x + 2) t.c else g))

def execWktail (n i : Nat) (s : State) : Out :=
  engineCmd n i (s.wslot n i 0x2C fun s a =>
    .ok (s.modRegs a fun g => g.setK (wWd a.x) (BitVec.ofNat 256 (tailBits 256 a.ws))))

/-- WKOP (R369). -/
def kop (fn : Nat) (x y : BitVec 256) : BitVec 256 :=
  match fn with
  | 0 => x &&& y
  | 1 => x ||| y
  | 2 => x ^^^ y
  | 3 => ~~~x
  | 4 => if reduceK x true then BitVec.allOnes 256 else 0
  | _ => if reduceK x false then BitVec.allOnes 256 else 0

def execWkop (n i : Nat) (s : State) : Out :=
  engineCmd n i (s.wslot n i 0x2D fun s a =>
    let x := a.old.getK (wWa a.x)
    .ok (s.modRegs a fun g =>
      if wFn a.x = 6 then g.setP (wWd a.x) (x.setWidth 16) else g.setK (wWd a.x) (kop (wFn a.x) x (a.old.getK (wB a.x)))))

/-! ## Share conversions -/

def execWa2b (n i : Nat) (s : State) : Out :=
  engineCmd n i (s.wslot n i 0x30 fun s a => withArith a true fun d => s.convert a true d .bool)
def execWb2a (n i : Nat) (s : State) : Out :=
  engineCmd n i (s.wslot n i 0x31 fun s a => withArith a true fun d => s.convert a true .bool d)
def execWrefr (n i : Nat) (s : State) : Out := engineCmd n i (s.wslot n i 0x32 fun s a => s.refresh a true)

end Sys2Proof.Machine
end

