-- ==== Sys2Proof/Machine/Scalar.lean ====
section
/-! DEFINITION. The scalar slot (R349 to R351): arithmetic, loads and stores, branches (R350), control values (R310),
modulus writes (R309), ports (R361), barriers (R331), the commit points (R384 to R387), FAIL and BREAK. -/
namespace Sys2Proof.Machine

/-- sa, sb and the immediate of an S slot. -/
def At.sa (a : At) : BitVec 64 := a.old.getS (sSa a.x)
def At.sb (a : At) : BitVec 64 := a.old.getS (sSb a.x)
def At.imm (a : At) : BitVec 64 := BitVec.ofNat 64 (sImm a.x)

/-- Write sd. -/
def putS (s : State) (a : At) (v : BitVec 64) : Did := .ok (s.modRegs a fun r => r.setS (sSd a.x) v)

/-- An instruction whose only effect is sd ← f. -/
def State.scalar (s : State) (n i op : Nat) (f : At → BitVec 64) : State := s.issue n i 0 op fun s a => putS s a (f a)

/-! ## Arithmetic -/

def addOp (a b : BitVec 64) : BitVec 64 := a + b
def subOp (a b : BitVec 64) : BitVec 64 := a - b
def andOp (a b : BitVec 64) : BitVec 64 := a &&& b
def orOp (a b : BitVec 64) : BitVec 64 := a ||| b
def xorOp (a b : BitVec 64) : BitVec 64 := a ^^^ b
def sllOp (a b : BitVec 64) : BitVec 64 := a <<< (b.toNat % 64)
def srlOp (a b : BitVec 64) : BitVec 64 := a >>> (b.toNat % 64)
def sraOp (a b : BitVec 64) : BitVec 64 := a.sshiftRight (b.toNat % 64)
def sltOp (a b : BitVec 64) : BitVec 64 := if a.slt b then 1 else 0
def sltuOp (a b : BitVec 64) : BitVec 64 := if a.ult b then 1 else 0
def mulOp (a b : BitVec 64) : BitVec 64 := a * b
def mulhuOp (a b : BitVec 64) : BitVec 64 := BitVec.ofNat 64 (a.toNat * b.toNat / 2 ^ 64)

/-- Division by 0 gives all ones (R326). -/
def divuOp (a b : BitVec 64) : BitVec 64 := if b = 0 then BitVec.allOnes 64 else BitVec.ofNat 64 (a.toNat / b.toNat)

/-- The remainder of a division by 0 is the dividend. -/
def remuOp (a b : BitVec 64) : BitVec 64 := if b = 0 then a else BitVec.ofNat 64 (a.toNat % b.toNat)

def execAddS (n i : Nat) (s : State) : Out :=
  engineCmd n i (s.scalar n i 0x01 fun a => addOp a.sa a.sb)

def execSubS (n i : Nat) (s : State) : Out :=
  engineCmd n i (s.scalar n i 0x02 fun a => subOp a.sa a.sb)

def execAndS (n i : Nat) (s : State) : Out :=
  engineCmd n i (s.scalar n i 0x03 fun a => andOp a.sa a.sb)

def execOrS (n i : Nat) (s : State) : Out :=
  engineCmd n i (s.scalar n i 0x04 fun a => orOp a.sa a.sb)

def execXorS (n i : Nat) (s : State) : Out :=
  engineCmd n i (s.scalar n i 0x05 fun a => xorOp a.sa a.sb)

def execSll (n i : Nat) (s : State) : Out :=
  engineCmd n i (s.scalar n i 0x06 fun a => sllOp a.sa a.sb)

def execSrl (n i : Nat) (s : State) : Out :=
  engineCmd n i (s.scalar n i 0x07 fun a => srlOp a.sa a.sb)

def execSra (n i : Nat) (s : State) : Out :=
  engineCmd n i (s.scalar n i 0x08 fun a => sraOp a.sa a.sb)

def execSlt (n i : Nat) (s : State) : Out :=
  engineCmd n i (s.scalar n i 0x09 fun a => sltOp a.sa a.sb)

def execSltu (n i : Nat) (s : State) : Out :=
  engineCmd n i (s.scalar n i 0x0A fun a => sltuOp a.sa a.sb)

def execMulS (n i : Nat) (s : State) : Out :=
  engineCmd n i (s.scalar n i 0x0B fun a => mulOp a.sa a.sb)

def execMulhu (n i : Nat) (s : State) : Out :=
  engineCmd n i (s.scalar n i 0x0C fun a => mulhuOp a.sa a.sb)

def execDivu (n i : Nat) (s : State) : Out :=
  engineCmd n i (s.scalar n i 0x0D fun a => divuOp a.sa a.sb)

def execRemu (n i : Nat) (s : State) : Out :=
  engineCmd n i (s.scalar n i 0x0E fun a => remuOp a.sa a.sb)

def execAddi (n i : Nat) (s : State) : Out :=
  engineCmd n i (s.scalar n i 0x10 fun a => addOp a.sa a.imm)

def execAndi (n i : Nat) (s : State) : Out :=
  engineCmd n i (s.scalar n i 0x11 fun a => andOp a.sa a.imm)

def execOri (n i : Nat) (s : State) : Out :=
  engineCmd n i (s.scalar n i 0x12 fun a => orOp a.sa a.imm)

def execXori (n i : Nat) (s : State) : Out :=
  engineCmd n i (s.scalar n i 0x13 fun a => xorOp a.sa a.imm)

def execSlli (n i : Nat) (s : State) : Out :=
  engineCmd n i (s.scalar n i 0x14 fun a => sllOp a.sa a.imm)

def execSrli (n i : Nat) (s : State) : Out :=
  engineCmd n i (s.scalar n i 0x15 fun a => srlOp a.sa a.imm)

def execSrai (n i : Nat) (s : State) : Out :=
  engineCmd n i (s.scalar n i 0x16 fun a => sraOp a.sa a.imm)

def execSlti (n i : Nat) (s : State) : Out :=
  engineCmd n i (s.scalar n i 0x17 fun a => sltOp a.sa a.imm)

/-! ## Loads and stores (R349, R311 to R314) -/

/-- The address of an SM format. -/
def At.addr (a : At) : Nat := (a.sa + a.imm).toNat % 2 ^ 32

/-- A load of `len` bytes, zero-extended. -/
def State.scalarLoad (s : State) (n i op len : Nat) : State :=
  s.issue n i 0 op fun s a =>
    match accessTrap a (.load false) a.addr len with
    | some c => .trap c a.addr none
    | none => s.reading a false len [(0, a.addr)] false fun s =>
      putS s a (BitVec.ofNat 64 (ofLe (s.loadShare a false a.addr len 0).2))

/-- A store of the low `len` bytes of ss. It traps UNCORR where an uncorrectable error stands (R314, R349); a correctable one
is overwritten (R334 names no store). -/
def State.scalarStore (s : State) (n i op len : Nat) : State :=
  s.issue n i 0 op fun s a =>
    match accessTrap a (.store false) a.addr len with
    | some c => .trap c a.addr none
    | none => s.meeting a ((s.flawsIn a false len [(0, a.addr)]).filter fun q => q.2.2.uncorr) false fun s =>
      .ok (s.storeShare a a.addr 0 (leBytes len (a.old.getS (sSd a.x)).toNat))

def execLd32 (n i : Nat) (s : State) : Out := engineCmd n i (s.scalarLoad n i 0x20 4)
def execLd64 (n i : Nat) (s : State) : Out := engineCmd n i (s.scalarLoad n i 0x21 8)
def execSt32 (n i : Nat) (s : State) : Out := engineCmd n i (s.scalarStore n i 0x22 4)
def execSt64 (n i : Nat) (s : State) : Out := engineCmd n i (s.scalarStore n i 0x23 8)

/-! ## Branches (R325, R350) -/

/-- The kernel-store extent of the running kernel: its pack's words (R379). -/
def State.extent (s : State) (a : At) : Nat × Nat :=
  match (s.stope a.n).store.packs.find? fun p => p.2.kernels.any fun k => k.kslot == a.run.kernel.kslot with
  | some p => (p.2.base, p.2.words)
  | none => (0, 0)

/-- A taken branch: its target lies in the extent, or the branch traps ILLEGAL. -/
def State.branchTo (s : State) (a : At) (target : Nat) (link : Option Nat) : Did :=
  let t := target % 4096
  let x := s.extent a
  if x.1 ≤ t ∧ t < x.1 + x.2 then
    let s := s.setEng a.n a.i { s.eng a.n a.i with npc := t }
    .ok (match link with
      | some d => s.modRegs a fun r => r.setS d (BitVec.ofNat 64 (a.pc + 1))
      | none => s)
  else .trap 1 0 none

/-- PC + OFF13, OFF13 signed. -/
def At.target13 (a : At) : Nat := a.pc + signExt 13 (bits a.x 12 0)

/-- A conditional branch on sa and sb. -/
def State.branch (s : State) (n i op : Nat) (rel : BitVec 64 → BitVec 64 → Bool) : State :=
  s.issue n i 0 op fun s a =>
    if rel (a.old.getS (sSd a.x)) (a.old.getS (sSa a.x)) then s.branchTo a a.target13 none else .ok s

def execBeq (n i : Nat) (s : State) : Out := engineCmd n i (s.branch n i 0x30 fun a b => a == b)
def execBne (n i : Nat) (s : State) : Out := engineCmd n i (s.branch n i 0x31 fun a b => a != b)
def execBlt (n i : Nat) (s : State) : Out := engineCmd n i (s.branch n i 0x32 fun a b => a.slt b)
def execBge (n i : Nat) (s : State) : Out := engineCmd n i (s.branch n i 0x33 fun a b => !a.slt b)
def execBltu (n i : Nat) (s : State) : Out := engineCmd n i (s.branch n i 0x34 fun a b => a.ult b)
def execBgeu (n i : Nat) (s : State) : Out := engineCmd n i (s.branch n i 0x35 fun a b => !a.ult b)

/-- BP: ANY or ALL of a p or k register, XOR NEG. -/
def State.branchP (s : State) (n i : Nat) : State :=
  s.issue n i 0 0x36 fun s a =>
    let all := a.x.testBit 26
    let v := if bits a.x 31 30 = 0 then reduceP (a.old.getP (bits a.x 29 27)) all else reduceK (a.old.getK (bits a.x 29 27)) all
    if v != a.x.testBit 25 then s.branchTo a a.target13 none else .ok s

def execBp (n i : Nat) (s : State) : Out := engineCmd n i (s.branchP n i)

def execJal (n i : Nat) (s : State) : Out :=
  engineCmd n i (s.issue n i 0 0x37 fun s a => s.branchTo a a.target13 (some (sSd a.x)))

def execJr (n i : Nat) (s : State) : Out :=
  engineCmd n i (s.issue n i 0 0x38 fun s a => s.branchTo a (a.sa.toNat % 4096) none)

/-- LIMM and JFAR stand in the long-immediate format (R321). -/
def execLimm (n i : Nat) (s : State) : Out :=
  engineCmd n i (s.issue n i 0 0xF0 fun s a => putS s a (BitVec.ofNat 64 (wordImm a.w)))

def execJfar (n i : Nat) (s : State) : Out :=
  engineCmd n i (s.issue n i 0 0xF1 fun s a => s.branchTo a (bits (wordImm a.w) 11 0) (some (sSd a.x)))

/-! ## Control values (R310) -/

/-- The value of a control code, if the code is defined. CYCLES counts Stope cycles, which the model does not time: a
free value. The fault record shows in a trap handler; outside one the spec gives no value. -/
def State.control (s : State) (a : At) (code : Nat) : Option (State × BitVec 64) :=
  let d := match s.entry a.e with | some x => x.desc | none => {}
  let free : State × BitVec 64 := ({ s with freeNext := s.freeNext + 1 }, Config.freeValue 64 s.freeNext)
  let val (v : Nat) : Option (State × BitVec 64) := some (s, BitVec.ofNat 64 v)
  let g := s.eng a.n (match a.run.trapped with | some j => j | none => a.i)
  let fault (v : Nat) : Option (State × BitVec 64) := if a.run.handler then val v else some free
  match code with
  | 0x00 => val (s.eng a.n a.i).idx
  | 0x01 => val (2 ^ a.run.wlog2)
  | 0x02 => val (d.opcode + d.options * 2 ^ 16 + d.flags * 2 ^ 24)
  | 0x03 => val d.inLen
  | 0x04 => val d.auxLen
  | 0x05 => val d.outCap
  | 0x06 => val a.run.lsec
  | 0x07 => val a.run.lpub
  | 0x08 => some free
  | 0x09 => val (s.stope a.n).clock
  | 0x0A => val a.old.sstride
  | 0x10 => fault g.fault.toNat
  | 0x11 => fault g.faddr.toNat
  | 0x12 => fault g.fpc
  | 0x13 => fault g.idx
  | _ => none

def execGetc (n i : Nat) (s : State) : Out :=
  engineCmd n i (s.issue n i 0 0x40 fun s a =>
    match s.control a (bits a.x 21 14) with
    | some (s, v) => putS s a v
    | none => .trap 1 0 none)

/-- SETC writes SSTRIDE, rounded down to a multiple of 64. -/
def execSetc (n i : Nat) (s : State) : Out :=
  engineCmd n i (s.issue n i 0 0x41 fun s a =>
    if bits a.x 21 14 = 0x0A then .ok (s.modRegs a fun r => { r with sstride := a.sa.toNat / 64 * 64 }) else .trap 1 0 none)

/-- MSET: the register holds the new value and its check begins. It waits while a build of it runs (R309). -/
def execMset (n i : Nat) (s : State) : Out :=
  engineCmd n i (s.issue n i 0 0x42 fun s a =>
    if (a.old.getM (sSd a.x)).status = 1 then .wait
    else .ok (s.modRegs a fun r =>
      r.setM (sSd a.x) { value := BitVec.ofNat 128 (a.sa.toNat + a.sb.toNat * 2 ^ 64), status := 1 }))

/-! ## Ports (R317, R361) -/

/-- The family of units a KIND opens: 1 Keccak, 2 SHA-2, 3 AES, 4 a stream of the operation. -/
def portUnit (kind : Nat) : Nat := kind / 16

/-- Contexts of a unit that the engines of a Stope hold open. -/
def State.portsOpen (s : State) (n u : Nat) : Nat :=
  ((List.range 16).map fun i => ((s.eng n i).regs.x.filter fun p => portUnit p.2.unit == u).length).foldl (· + ·) 0

/-- Capacity of a unit of a Stope (R317). -/
def portCap (u : Nat) : Nat := match u with | 2 => 32 | 3 => 16 | _ => 32

/-- POPEN. -/
def State.popen (s : State) (n i : Nat) : State :=
  s.issue n i 0 0x50 fun s a =>
    let h := bits a.x 31 30
    let kind := bits a.x 21 14
    let u := portUnit kind
    let put (s : State) (p : Port) : Did := .ok (s.modRegs a fun r => r.setPort h p)
    let rate := a.sa.toNat % 256
    let msk := a.x.testBit 13
    if (a.old.port h).isSome then .trap 7 0 none
    else if u = 4 then
      if (s.eng a.n a.i).idx ≠ 0 || a.old.x.any (fun p => p.2.unit == kind) then .trap 7 0 none else put s { unit := kind }
    else if kind = 0x10 && !(decide (8 ≤ rate) && decide (rate ≤ 200) && rate % 8 == 0) then .trap 7 0 none
    else if portCap u ≤ s.portsOpen a.n u then .wait
    else if u = 2 then
      let len := if kind = 0x20 then 32 else 64
      s.reading a false len [(0, a.sa.toNat % 2 ^ 32)] false fun s => put s { unit := kind, masked := msk, iv := s.winRead a .loc (a.sa.toNat % 2 ^ 32) len }
    else put s { unit := kind, rate := rate, masked := msk }

def execPopen (n i : Nat) (s : State) : Out := engineCmd n i (s.popen n i)

/-- PCLOSE: the context and its state are gone. -/
def execPclose (n i : Nat) (s : State) : Out :=
  engineCmd n i (s.issue n i 0 0x51 fun s a =>
    let h := bits a.x 31 30
    if (a.old.port h).isNone then .trap 7 0 none
    else .ok (s.modRegs a fun r => { r with x := Cells.erase r.x h }))

/-! ## Barriers (R331) -/

/-- BAR n: the engine has arrived; when every engine of the operation has executed it equally often, all go on. -/
def State.bar (s : State) (n i : Nat) : State :=
  s.issue n i 0 0x60 fun s a =>
    let k := bits a.x 2 0
    let g := s.eng a.n a.i
    let s := s.setEng a.n a.i { g with bars := bumpAt g.bars k 1, mode := 3, atBar := some k }
    let all := engSet a.run.first a.run.wlog2
    let mine := countAt (s.eng a.n a.i).bars k
    if all.all fun j => countAt (s.eng a.n j).bars k == mine then
      .hold (all.foldl (fun s j =>
        if (s.eng a.n j).atBar == some k then
          (s.setEng a.n j { s.eng a.n j with atBar := none }).endSlot a.n j a.e (s.storeWord a.n (s.eng a.n j).pc)
        else s) s)
    else .hold s

def execBarS (n i : Nat) (s : State) : Out := engineCmd n i (s.bar n i)

/-! ## Commit points (R384 to R387) -/

/-- COMMIT and FAIL: the lead engine's alone (R331). -/
def State.leadOnly (s : State) (n i op : Nat) (point : Option Nat) (f : State → At → Did) : State :=
  match point with
  | some k =>
    if bits (slotOf (s.storeWord n (s.eng n i).pc) 0) 2 0 ≠ k then s
    else s.issue n i 0 op fun s a => if (s.eng a.n a.i).idx ≠ 0 then .trap 1 0 none else f s a
  | none => s.issue n i 0 op fun s a => if (s.eng a.n a.i).idx ≠ 0 then .trap 1 0 none else f s a

/-- Statuses by their codes (R81). -/
def allStatuses : List Status :=
  [.ok, .verifyReject, .lengthMismatch, .encodingInvalid, .pointInvalid, .valueRange, .keyCheckFail, .outputTooSmall,
   .descriptorInvalid, .opcodeInvalid, .sequenceMismatch, .handleInvalid, .handleStale, .usageDenied, .quotaExceeded,
   .noEntropy, .notReady, .resourceBusy, .abortedHost, .abortedAlarm, .abortedReset, .deadlineExpired, .partnerLost,
   .quarantined, .indexExhausted, .leaseUnknown, .leaseExpired, .memoryUncorrectable, .kernelFault, .dmaFault]

def statusOf (code : Nat) : Option Status := allStatuses.find? fun st => st.code == code

/-- INFO of a final COMMIT (R121): HIT of an operation of chapter 04, with the iteration count of a signing loop, which no
rule says how a kernel reports: a free value of at least 1; of an EXPAND whether an expansion is resident. -/
def State.finalInfo (s : State) (e : Nat) (x : Entry) : State × Nat :=
  match x.desc.kind with
  | some .kemExpand | some .dsaExpand => (s, if s.resident x then 0x10000 else 0)
  | some .dsaSign | some .compSign =>
    if x.desc.eqt then (s, hitInfo x)
    else
      let r := s.freshBytes 2
      (r.1, Nat.max 1 (ofLe r.2) + hitInfo x)
  | some .kemEncaps | some .kemDecaps | some .dsaVerify | some .compEncaps | some .compDecaps | some .compVerify =>
    (s, hitInfo x)
  | _ => (s, x.info)

/-- The resolution of a final COMMIT (R385), with `out` the bytes to publish. -/
def State.finalStatus (s : State) (e : Nat) (st : Option Status) (sb : Nat) (out : Bytes) : State :=
  match s.entry e, s.run e with
  | some x, some r =>
    if 64 * r.kernel.winOut < sb then s.faultEnd e .kernelFault
    else match st with
      | some .ok =>
        let q := s.finalInfo e x
        let s := q.1
        if x.published ≠ 0 then
          let s := s.publish e x x.published out
          ((s.modEntry e fun x => { x with outBytes := x.published + sb }).measure e x).finish e .ok
        else if x.desc.eqt && decide (sb ≤ x.desc.outCap) then s.eqtCommit e out q.2 r.kernel.tEq
        else s.commitOut e out q.2
      | some .verifyReject => if sb = 0 then s.commitReject e (s.finalInfo e x).2 else s.faultEnd e .kernelFault
      | some st =>
        if st.code / 256 = 1 ∧ sb = 0 then
          if r.kernel.flags.testBit 1 then s.hold e st r.kernel.tErr else s.finish e st
        else s.faultEnd e .kernelFault
      | none => s.faultEnd e .kernelFault
  | _, _ => s

/-- The status and bytes a final COMMIT names. -/
def At.status (a : At) : Option Status := statusOf (a.sa.toNat % 65536)
def At.count (a : At) : Nat := a.sb.toNat % 2 ^ 32

/-- FINAL (R385). -/
def State.final (s : State) (n i : Nat) : State :=
  s.leadOnly n i 0x61 (some 0) fun s a =>
    .ok (s.finalStatus a.e a.status a.count (Cells.readBytes a.run.out 0 (Nat.min a.count 73728)))

def execFinal (n i : Nat) (s : State) : Out := engineCmd n i (s.final n i)

/-- The Lode hand-off record at WORK offset 0 (R386): the kind and the material, recombined where it is shared; none
where it is malformed or points outside WORK. -/
def handOff (a : At) : Option (Nat × Bytes) :=
  let rec16 := Cells.readBytes a.run.work 0 16
  let kind := leField rec16 0 1
  let shared := leField rec16 1 1
  let off := leField rec16 4 4
  let len := leField rec16 8 4
  let size := 64 * a.run.kernel.winWork
  let share (k : Nat) : Bytes := Cells.readBytes a.run.work (off + k * a.old.sstride) len
  if !(decide (1 ≤ kind) && decide (kind ≤ 3)) || decide (1 < shared) || leField rec16 2 2 ≠ 0 || leField rec16 12 4 ≠ 0 ||
    decide (size < off + len + 2 * shared * a.old.sstride) || decide (size < 16) then none
  else if shared = 0 then some (kind, share 0)
  else some (kind, (share 0).zip ((share 1).zip (share 2)) |>.map fun p => p.1 ^^^ p.2.1 ^^^ p.2.2)

/-- May material that a kernel hands over enter Lode (R111)? -/
def handOffOk (a : Attr) (pub secret : Bytes) : Bool :=
  !(opFamily a.alg == 1 && a.kind == kindKeypair) || kemEntryOk (opParam a.alg) pub (some secret)

/-- Lode applies a hand-off, or discards one it refuses (R386, R111, R121, R126, R216); it accepts no secret material before
its masking key stands (R226). -/
def State.applyHandOff (s : State) (e kind : Nat) (material out : Bytes) : State :=
  match s.entry e, s.run e with
  | some x, some r =>
    let q := s.finalInfo e x
    let checkFail (s : State) : State :=
      if r.kernel.flags.testBit 1 then s.hold e .keyCheckFail r.kernel.tErr else s.finish e .keyCheckFail
    match kind with
    | 1 =>
      let a := attrOf (slice x.aux 0 32)
      if x.resv.isNone then q.1.commitOut e out q.2
      else if s.lode.maskKey.isNone then s.finish e .noEntropy
      else if handOffOk a (out.drop 8) material then
        q.1.createObject e { attr := a, secret := material, pub := out.drop 8 } (out.drop 8) q.2
      else checkFail s
    | 2 =>
      if x.desc.kind = some .kemExpand ∨ x.desc.kind = some .dsaExpand then
        let s := if s.resident x then s.useExpansion (handleIndex x.desc.key)
          else (s.storeExpansion x.tenant x.desc.key true).1
        s.commitOut e out (s.finalInfo e x).2
      else (if x.desc.lattice then q.1.keepExpansion x else q.1).commitOut e out q.2
    | _ =>
      let a := (s.obj (handleIndex x.desc.key)).attr
      if x.desc.kind ≠ some .keyReplace then q.1.commitOut e out q.2
      else if s.lode.maskKey.isNone then s.finish e .noEntropy
      else if handOffOk a (out.drop 8) material then
        q.1.stageReplacement e { attr := a, secret := material, pub := out.drop 8 } (out.drop 8)
      else checkFail s
  | _, _ => s

/-- FINAL_LODE (R384, R386): as FINAL, and with an OK the hand-off. -/
def State.finalLode (s : State) (n i : Nat) : State :=
  s.leadOnly n i 0x61 (some 2) fun s a =>
    let out := Cells.readBytes a.run.out 0 (Nat.min a.count 73728)
    let cap := match s.entry a.e with | some x => x.desc.outCap | none => 0
    match handOff a with
    | none => .ok (s.faultEnd a.e .kernelFault)
    | some (kind, material) =>
      if a.status = some .ok ∧ a.count ≤ cap ∧ a.count ≤ 64 * a.run.kernel.winOut
      then .ok (s.applyHandOff a.e kind material out)
      else .ok (s.finalStatus a.e a.status a.count out)

def execFinalLode (n i : Nat) (s : State) : Out := engineCmd n i (s.finalLode n i)

/-- RESERVE (R387, R186, R187): the next index, written at WORK offset 8; it waits while the key is in WAIT_LEASE. -/
def State.reserve (s : State) (n i : Nat) : State :=
  s.leadOnly n i 0x61 (some 1) fun s a =>
    match s.entry a.e with
    | none => .ok s
    | some x =>
      let f := (s.obj (handleIndex x.desc.key)).stf
      if (match f with | some f => f.waitLease | none => false) then .wait
      else
        let s := s.reserveFor' a.e
        match s.entry a.e, s.run a.e with
        | some y, some r =>
          match y.index with
          | some k => .ok (s.setRun a.e { r with work := Cells.writeBytes r.work 8 (leBytes 8 k), firstCommit := true })
          | none => .ok s
        | _, _ => .ok s

def execReserve (n i : Nat) (s : State) : Out := engineCmd n i (s.reserve n i)

/-- UNIT (R387, R100): one output unit of up to 64 KiB is published at the next offset. -/
def State.unitCommit (s : State) (n i : Nat) : State :=
  s.leadOnly n i 0x61 (some 3) fun s a =>
    match s.entry a.e, s.run a.e with
    | some x, some r =>
      let k := Nat.min 65536 (x.desc.outCap - x.published)
      let s := s.publish a.e x x.published (Cells.readBytes r.out 0 k)
      let s := s.setRun a.e { r with firstCommit := true }
      .ok (s.modEntry a.e fun x => { x with published := x.published + k })
    | _, _ => .ok s

def execUnit (n i : Nat) (s : State) : Out := engineCmd n i (s.unitCommit n i)

/-- The status FAIL ends with (R335, R351). -/
def failStatus (handler : Bool) (code : Nat) : Status :=
  match statusOf code with
  | some st =>
    if handler then (if st = .noEntropy ∨ st = .memoryUncorrectable then st else .kernelFault)
    else if [1, 2, 3, 5, 6].contains (st.code / 256) then st else .kernelFault
  | none => .kernelFault

def execFailS (n i : Nat) (s : State) : Out :=
  engineCmd n i (s.leadOnly n i 0x62 none fun s a =>
    .ok (s.faultEnd a.e (failStatus a.run.handler (a.sa.toNat % 65536))))

/-- May BREAK halt the engine (R332, R456)? -/
def State.debuggable (s : State) : Bool := decide (s.lcc.state ≤ 1) || (s.lcc.state == 2 && s.lcc.grant == 3)

/-- BREAK: the record is written and the engine halts for the debugger; where that is not permitted it traps ILLEGAL. -/
def execBreakS (n i : Nat) (s : State) : Out :=
  engineCmd n i (s.issue n i 0 0x63 fun s a =>
    if s.debuggable then
      let g := s.eng a.n a.i
      .hold (s.setEng a.n a.i { g with
        mode := 7, fault := faultWord (bit g.fault 31) none 0 0x0A, faddr := 0, fpc := g.pc, fstamp := s.stamp, fop := 0x63 })
    else .trap 1 0 none)

end Sys2Proof.Machine
end

