-- ==== Sys2Proof/Machine/Vector.lean ====
section
/-! DEFINITION. The short-vector slot's arithmetic, predicate and move instructions (R352 to R354). -/
namespace Sys2Proof.Machine

/-- The V slot of a word. -/
def State.vslot (s : State) (n i op : Nat) (f : State → At → Did) : State := s.issue n i 1 op f

/-! ## Wrapping arithmetic and bits -/

def add32 (x y : Nat) : Nat := (x + y) % 2 ^ 32
def sub32 (x y : Nat) : Nat := (x + 2 ^ 32 - y % 2 ^ 32) % 2 ^ 32
def mul32 (x y : Nat) : Nat := x * y % 2 ^ 32
def shl32 (x k : Nat) : Nat := x * 2 ^ (k % 32) % 2 ^ 32
def shr32 (x k : Nat) : Nat := x % 2 ^ 32 / 2 ^ (k % 32)
def sar32 (x k : Nat) : Nat := ((BitVec.ofNat 32 x).sshiftRight (k % 32)).toNat
def rotl32 (x k : Nat) : Nat := ((BitVec.ofNat 32 x).rotateLeft (k % 32)).toNat

def execVadd (n i : Nat) (s : State) : Out := engineCmd n i (s.vslot n i 0x01 fun s a => s.linear a false (zipOp add32))
def execVsub (n i : Nat) (s : State) : Out := engineCmd n i (s.vslot n i 0x02 fun s a => s.linear a false (zipOp sub32))

def execVand (n i : Nat) (s : State) : Out :=
  engineCmd n i (s.vslot n i 0x03 fun s a => s.bilinear a false .bool (zipOp (· &&& ·)))

def execVor (n i : Nat) (s : State) : Out :=
  engineCmd n i (s.vslot n i 0x04 fun s a => s.gadget a false .bool (zipOp (· ||| ·)))

def execVxor (n i : Nat) (s : State) : Out :=
  engineCmd n i (s.vslot n i 0x05 fun s a => s.linear a false (zipOp (· ^^^ ·)))

/-- A shift of every share by the lanes of an unshared vb. -/
def State.shiftBy (s : State) (a : At) (f : Nat → Nat → Nat) : Did :=
  s.linear1 a false fun l => zipOp f l (a.srcB false).a

def execVsll (n i : Nat) (s : State) : Out := engineCmd n i (s.vslot n i 0x06 fun s a => s.shiftBy a shl32)
def execVsrl (n i : Nat) (s : State) : Out := engineCmd n i (s.vslot n i 0x07 fun s a => s.shiftBy a shr32)
def execVsra (n i : Nat) (s : State) : Out := engineCmd n i (s.vslot n i 0x08 fun s a => s.shiftBy a sar32)

/-- A shift or rotation by IMM9[4:0]. -/
def State.shiftImm (s : State) (a : At) (f : Nat → Nat → Nat) : Did :=
  s.linear1 a false fun l => l.map fun x => f x (bits a.x 4 0)

def execVslli (n i : Nat) (s : State) : Out := engineCmd n i (s.vslot n i 0x09 fun s a => s.shiftImm a shl32)
def execVsrli (n i : Nat) (s : State) : Out := engineCmd n i (s.vslot n i 0x0A fun s a => s.shiftImm a shr32)
def execVsrai (n i : Nat) (s : State) : Out := engineCmd n i (s.vslot n i 0x0B fun s a => s.shiftImm a sar32)
def execVrotli (n i : Nat) (s : State) : Out := engineCmd n i (s.vslot n i 0x0C fun s a => s.shiftImm a rotl32)

def execVmul (n i : Nat) (s : State) : Out :=
  engineCmd n i (s.vslot n i 0x10 fun s a => s.bilinear a false (.arith (2 ^ 32)) (zipOp mul32))

/-- VMULW: the low halves to vd, the high halves to vd+1; share k of a masked result to vd+2k and vd+2k+1. -/
def State.vmulw (s : State) (a : At) : Did :=
  s.withMrg a false fun s =>
    let r := s.product a false (.arith (2 ^ 64)) 64 (zipOp fun x y => x * y % 2 ^ 64)
    let d := vVd a.x
    let put (k : Nat) (l : List Nat) (g : Regs) : Regs :=
      let g := g.setV (d + 2 * k) (mergeBits (a.active false) (a.old.getV (d + 2 * k)) (l.map fun x => x % 2 ^ 32))
      g.setV (d + 2 * k + 1) (mergeBits (a.active false) (a.old.getV (d + 2 * k + 1)) (l.map fun x => x / 2 ^ 32))
    .ok (r.1.modRegs a fun g => if vSd a.x then put 2 r.2.c (put 1 r.2.b (put 0 r.2.a g)) else put 0 r.2.a g)

def execVmulw (n i : Nat) (s : State) : Out := engineCmd n i (s.vslot n i 0x11 fun s a => s.vmulw a)

/-! ## Wide accumulators -/

/-- The four wide lanes of a 512-bit number. -/
def wide (v : Nat) : List Nat := (List.range 4).map fun j => (v >>> (128 * j)) % 2 ^ 128

/-- A 512-bit number from its wide lanes. -/
def ofWide : List Nat → Nat
  | [] => 0
  | x :: r => x % 2 ^ 128 + 2 ^ 128 * ofWide r

/-- The dot products of the active lanes, one per wide lane, modulo 2^128. -/
def dots (act : Nat → Bool) (x y : List Nat) : List Nat :=
  (List.range 4).map fun j =>
    (List.range 4).foldl (fun t k => let l := 4 * j + k
      if act l then (t + nthD x l 0 * nthD y l 0) % 2 ^ 128 else t) 0

/-- VDOT and VDOTZ. -/
def State.vdot (s : State) (a : At) (clear : Bool) : Did :=
  s.withMrg a false fun s =>
    let r := s.product a false (.arith (2 ^ 128)) 128 (dots (a.active false))
    let d := vVd a.x
    let put (k : Nat) (l : List Nat) (g : Regs) : Regs :=
      let old := if clear then [0, 0, 0, 0] else wide (a.old.getA (d + k))
      g.setA (d + k) (ofWide (zipOp (fun x y => (x + y) % 2 ^ 128) old l))
    .ok (r.1.modRegs a fun g => if vSd a.x then put 2 r.2.c (put 1 r.2.b (put 0 r.2.a g)) else put 0 r.2.a g)

def execVdot (n i : Nat) (s : State) : Out := engineCmd n i (s.vslot n i 0x12 fun s a => s.vdot a false)
def execVdotz (n i : Nat) (s : State) : Out := engineCmd n i (s.vslot n i 0x13 fun s a => s.vdot a true)

def execVamov (n i : Nat) (s : State) : Out :=
  engineCmd n i (s.vslot n i 0x14 fun s a => s.withMrg a false fun s =>
    s.putDest a false (triOf (vSa a.x) fun k => words 16 (a.old.getA (vVa a.x + k))))

/-- VAMOVI: lanes under the governing predicate. -/
def execVamovi (n i : Nat) (s : State) : Out :=
  engineCmd n i (s.vslot n i 0x15 fun s a => s.withMrg a false fun s =>
    let t := a.srcA false
    let d := vVd a.x
    let put (k : Nat) (l : List Nat) (g : Regs) : Regs :=
      g.setA (d + k) (ofWords (mergeBits (a.active false) (words 16 (a.old.getA (d + k))) l))
    .ok (s.modRegs a fun g => if vSd a.x then put 2 t.c (put 1 t.b (put 0 t.a g)) else put 0 t.a g))

/-! ## Carries -/

/-- VADDC and VSUBB: over 512 bits, carry in and out at bit 0 of p[FN]. Shares are computed one by one, the carry going
in with share 0; the carry out of a masked sum is a free value. -/
def State.carry (s : State) (a : At) (f : Nat → Nat → Nat → Nat × Bool) : Did :=
  s.withMrg a false fun s =>
    let p := vFn a.x
    let c := b2n ((a.old.getP p).getLsbD 0)
    let x := a.srcA false
    let y := a.srcB false
    let r := f (ofWords x.a) (ofWords y.a) c
    let t : Tri := { a := words 16 r.1, b := words 16 (f (ofWords x.b) (ofWords y.b) 0).1
                     c := words 16 (f (ofWords x.c) (ofWords y.c) 0).1 }
    let out : State × Bool :=
      if a.isMasked false then ({ s with freeNext := s.freeNext + 1 }, (Config.freeValue 1 s.freeNext).getLsbD 0) else (s, r.2)
    match out.1.putDest a false t with
    | .ok u => .ok (u.modRegs a fun g => g.setP p (putBit0 (a.old.getP p) out.2))
    | d => d

def execVaddc (n i : Nat) (s : State) : Out := engineCmd n i (s.vslot n i 0x16 fun s a => s.carry a addCarry)
def execVsubb (n i : Nat) (s : State) : Out := engineCmd n i (s.vslot n i 0x17 fun s a => s.carry a subBorrow)

/-! ## Modular arithmetic (R353) -/

def execVmadd (n i : Nat) (s : State) : Out :=
  engineCmd n i (s.vslot n i 0x18 fun s a => withQ a false fun q => s.linear a false (zipOp (addMod q)))
def execVmsub (n i : Nat) (s : State) : Out :=
  engineCmd n i (s.vslot n i 0x19 fun s a => withQ a false fun q => s.linear a false (zipOp (subMod q)))
def execVmmul (n i : Nat) (s : State) : Out :=
  engineCmd n i (s.vslot n i 0x1A fun s a => withQ a false fun q => s.bilinear a false (.arith q) (zipOp (mulMod q)))
def execVmred (n i : Nat) (s : State) : Out :=
  engineCmd n i (s.vslot n i 0x1B fun s a => withQ a false fun q => s.linear1 a false fun l => l.map (· % q))

/-! ## Comparisons and selection (R354) -/

/-- A comparison into p[vd]; shared sources are Boolean shares, and only the result bits are recombined. -/
def State.vcompare (s : State) (a : At) (rel : Nat → Nat → Bool) : Did :=
  s.withMrg a false fun s =>
    let l := compareBits (a.active false) rel ((a.srcA false).value .bool) ((a.srcB false).value .bool)
    .ok (s.modRegs a fun g => g.setP (vVd a.x) (BitVec.ofNat 16 (ofFlags l)))

def execVcmpeq (n i : Nat) (s : State) : Out := engineCmd n i (s.vslot n i 0x20 fun s a => s.vcompare a relEq)
def execVcmpltu (n i : Nat) (s : State) : Out := engineCmd n i (s.vslot n i 0x21 fun s a => s.vcompare a relLtu)
def execVcmplt (n i : Nat) (s : State) : Out := engineCmd n i (s.vslot n i 0x22 fun s a => s.vcompare a relLt)

/-- VSEL acts on every share with the same selecting bits. -/
def execVsel (n i : Nat) (s : State) : Out :=
  engineCmd n i (s.vslot n i 0x23 fun s a => s.select a false fun k => (a.old.getP (vFn a.x)).getLsbD k)

/-! ## Moves -/

/-- The s register in the vb position. -/
def At.vs (a : At) : Nat := (a.old.getS (vVb a.x)).toNat

def execVbcast (n i : Nat) (s : State) : Out :=
  engineCmd n i (s.vslot n i 0x28 fun s a => s.putPlain a false (List.replicate 16 (a.vs % 2 ^ 32)))

/-- VINS: the one lane IMM9[3:0]. -/
def execVins (n i : Nat) (s : State) : Out :=
  engineCmd n i (s.vslot n i 0x29 fun s a =>
    s.putPlain a false (setAt (a.old.getV (vVd a.x)) (bits a.x 3 0) (a.vs % 2 ^ 32)))

/-- VEXT writes an s register. -/
def execVext (n i : Nat) (s : State) : Out :=
  engineCmd n i (s.vslot n i 0x2A fun s a =>
    .ok (s.modRegs a fun g => g.setS (vVd a.x) (BitVec.ofNat 64 (nthD (a.srcA false).a (bits a.x 3 0) 0))))

def execVperm (n i : Nat) (s : State) : Out :=
  engineCmd n i (s.vslot n i 0x2B fun s a =>
    s.linear1 a false fun l => (a.srcB false).a.map fun k => nthD l (k % 16) 0)

def execVmov (n i : Nat) (s : State) : Out := engineCmd n i (s.vslot n i 0x2C fun s a => s.linear1 a false id)

/-! ## Predicates -/

/-- p[vd] ← f. -/
def State.vpred (s : State) (n i op : Nat) (f : At → BitVec 16) : State :=
  s.vslot n i op fun s a => .ok (s.modRegs a fun g => g.setP (vVd a.x) (f a))

def At.pa (a : At) : BitVec 16 := a.old.getP (vVa a.x)
def At.pb (a : At) : BitVec 16 := a.old.getP (vVb a.x)

def execPand (n i : Nat) (s : State) : Out := engineCmd n i (s.vpred n i 0x30 fun a => a.pa &&& a.pb)
def execPor (n i : Nat) (s : State) : Out := engineCmd n i (s.vpred n i 0x31 fun a => a.pa ||| a.pb)
def execPxor (n i : Nat) (s : State) : Out := engineCmd n i (s.vpred n i 0x32 fun a => a.pa ^^^ a.pb)
def execPnot (n i : Nat) (s : State) : Out := engineCmd n i (s.vpred n i 0x33 fun a => ~~~a.pa)
def execVptail (n i : Nat) (s : State) : Out :=
  engineCmd n i (s.vpred n i 0x34 fun a => BitVec.ofNat 16 (tailBits 16 a.vs))
def execPset (n i : Nat) (s : State) : Out := engineCmd n i (s.vpred n i 0x35 fun a => BitVec.ofNat 16 a.vs)
def execPreduce (n i : Nat) (s : State) : Out :=
  engineCmd n i (s.vpred n i 0x36 fun a => if reduceP a.pa (!(vFn a.x).testBit 0) then 0xFFFF else 0)

/-! ## Share conversions (R353) -/

def execVa2b (n i : Nat) (s : State) : Out :=
  engineCmd n i (s.vslot n i 0x38 fun s a => withArith a false fun d => s.convert a false d .bool)
def execVb2a (n i : Nat) (s : State) : Out :=
  engineCmd n i (s.vslot n i 0x39 fun s a => withArith a false fun d => s.convert a false .bool d)
def execVrefr (n i : Nat) (s : State) : Out := engineCmd n i (s.vslot n i 0x3A fun s a => s.refresh a false)

end Sys2Proof.Machine
end

