-- ==== Sys2Proof/Machine/VecMem.lean ====
section
/-! DEFINITION. The memory instructions of the V and W slots (R355 to R359) and the stream ports (R317 to R320, R361 to
R363). -/
namespace Sys2Proof.Machine

/-! ## Addresses and checks -/

/-- sbase plus an offset, modulo 2^32. -/
def At.vAddr (a : At) : Nat := ((a.old.getS (vVa a.x)).toNat + vOff a.x * 64) % 2 ^ 32
def At.wAddr (a : At) : Nat := ((a.old.getS (wB a.x)).toNat + wOff a.x * 64) % 2 ^ 32

/-- The first element, in order, whose access traps: its cause, address and number. -/
def firstTrap (a : At) (k : Access) (len : Nat) : List (Nat × Nat) → Option (Nat × Nat × Nat)
  | [] => none
  | (elem, addr) :: r =>
    match accessTrap a k addr len with
    | some c => some (c, addr, elem)
    | none => firstTrap a k len r

/-- Check every element before any is accessed (R356, R357). -/
def checked (a : At) (k : Access) (len : Nat) (els : List (Nat × Nat)) (f : Did) : Did :=
  match firstTrap a k len els with
  | some (c, addr, elem) => .trap c addr (some elem)
  | none => f

/-- The words of one share of an access. -/
def State.loadWords (s : State) (a : At) (masked : Bool) (addr n share : Nat) : State × List Nat :=
  let r := s.loadShare a masked addr (4 * n) share
  (r.1, wordsOfBytes n r.2)

/-- A triple or plain load of `n` words at an address. -/
def State.loadTri (s : State) (a : At) (masked : Bool) (addr n : Nat) : State × Tri :=
  let r0 := s.loadWords a masked addr n 0
  if masked then
    let r1 := r0.1.loadWords a true addr n 1
    let r2 := r1.1.loadWords a true addr n 2
    (r2.1, { a := r0.2, b := r1.2, c := r2.2 })
  else (r0.1, triOf false fun _ => r0.2)

/-- Store the active words of one share. -/
def State.storeWords (s : State) (a : At) (addr share : Nat) (act : Nat → Bool) (l : List Nat) : State :=
  ((List.range l.length).zip l).foldl
    (fun s q => if act q.1 then s.storeShare a (addr + 4 * q.1) share (leBytes 4 q.2) else s) s

/-- Is a triple refreshed before it is written at an address: in Stope shared memory, not in LOCAL (R227)? -/
def At.refreshes (a : At) (masked : Bool) (addr : Nat) : Bool :=
  masked && (match a.run.window addr with | some (.work, _, _) => true | _ => false)

/-- A triple as it is stored: refreshed where it goes into Stope shared memory. -/
def State.sharesFor (s : State) (a : At) (masked : Bool) (addr : Nat) (t : Tri) : State × Tri :=
  if a.refreshes masked addr then s.refreshed a t else (s, t)

def State.storeTri (s : State) (a : At) (masked : Bool) (addr : Nat) (act : Nat → Bool) (t : Tri) : State :=
  let r := s.sharesFor a masked addr t
  let s := r.1.storeWords a addr 0 act r.2.a
  if masked then (s.storeWords a addr 1 act r.2.b).storeWords a addr 2 act r.2.c else s

/-- Is any lane of the V slot active? -/
def At.anyLane (a : At) : Bool := (List.range 16).any fun k => a.active false k

/-! ## V-slot loads and stores -/

/-- VLD. -/
def State.vld (s : State) (a : At) : Did :=
  let m := vSd a.x
  if !a.anyLane then .ok s
  else checked a (.load m) 64 [(0, a.vAddr)] (s.withMrg a false fun s => s.reading a m 64 [(0, a.vAddr)] true fun s =>
    let r := s.loadTri a m a.vAddr 16
    r.1.putDest a false r.2)

def execVld (n i : Nat) (s : State) : Out := engineCmd n i (s.vslot n i 0x40 fun s a => s.vld a)

/-- The source of a store: vs, or the triple it names. -/
def At.vsTri (a : At) : Tri := triOf (vSd a.x) fun k => a.old.getV (vVd a.x + k)

/-- VST. -/
def State.vst (s : State) (a : At) : Did :=
  let m := vSd a.x
  if !a.anyLane then .ok s
  else checked a (.store m) 64 [(0, a.vAddr)] (s.withMrg a false fun s =>
    .ok (s.storeTri a m a.vAddr (a.active false) a.vsTri))

def execVst (n i : Nat) (s : State) : Out := engineCmd n i (s.vslot n i 0x41 fun s a => s.vst a)

/-- The active elements of a gather or scatter with their addresses (R356). -/
def At.elements (a : At) : List (Nat × Nat) :=
  let base := (a.old.getS (vVa a.x)).toNat
  ((List.range 16).zip (a.old.getV (vVb a.x))).filterMap fun q =>
    if a.active false q.1 then some (q.1, (base + q.2 * vScale a.x) % 2 ^ 32) else none

/-- A masked gather or scatter keeps to LOCAL and WORK (R358). -/
def At.gatherOk (a : At) (addr : Nat) : Bool :=
  match a.run.window addr with
  | some (.loc, _, _) | some (.work, _, _) => true
  | _ => false

/-- The checks of a gather or scatter. -/
def gatherChecked (a : At) (k : Access) (f : Did) : Did :=
  match (if k.masked then a.elements.find? fun q => !a.gatherOk q.2 else none), firstTrap a k 4 a.elements with
  | some q, some (c, addr, elem) => if elem < q.1 then .trap c addr (some elem) else .trap 2 q.2 (some q.1)
  | some q, none => .trap 2 q.2 (some q.1)
  | none, some (c, addr, elem) => .trap c addr (some elem)
  | none, none => f

/-- VGATH writes vd only after all active elements have been read. -/
def State.vgath (s : State) (a : At) : Did :=
  let m := vSd a.x
  gatherChecked a (.load m) (s.withMrg a false fun s => s.reading a m 4 a.elements true fun s =>
    let share (k : Nat) : List Nat :=
      a.elements.foldl (fun l q => setAt l q.1 (ofLe (s.loadShare a m q.2 4 k).2)) (List.replicate 16 0)
    s.putDest a false (triOf m share))

def execVgath (n i : Nat) (s : State) : Out := engineCmd n i (s.vslot n i 0x42 fun s a => s.vgath a)

/-- VSCAT stores in ascending order, so that the highest-numbered element at an address stands; it meets the errors of the
memory words it writes a part of (R334). -/
def State.vscat (s : State) (a : At) : Did :=
  let m := vSd a.x
  gatherChecked a (.store m) (s.withMrg a false fun s => s.reading a m 4 a.elements true fun s =>
    let r := if a.elements.any fun q => a.refreshes m q.2 then s.refreshed a a.vsTri else (s, a.vsTri)
    let put (k : Nat) (l : List Nat) (s : State) : State :=
      a.elements.foldl (fun s q => s.storeShare a q.2 k (leBytes 4 (nthD l q.1 0))) s
    .ok (if m then put 2 r.2.c (put 1 r.2.b (put 0 r.2.a r.1)) else put 0 r.2.a r.1))

def execVscat (n i : Nat) (s : State) : Out := engineCmd n i (s.vslot n i 0x43 fun s a => s.vscat a)

/-! ## The unmasking stores (R359) -/

/-- How an unmasking store recombines: UMODE, with the modulus register that UMODE 0b10 reads. -/
def withUmode (a : At) (umode mreg : Nat) (f : Sharing → Did) : Did :=
  match umode with
  | 0 => f .bool
  | 1 => f (.arith (2 ^ 32))
  | _ => withM a mreg fun m => f (.arith m.q)

/-- VUST; with UMODE 0b10 the offset is the low nine bits. -/
def State.vust (s : State) (a : At) : Did :=
  let umode := bits a.x 18 17
  let off := if umode = 2 then signExt 9 (bits a.x 8 0) else vOff a.x
  let addr := ((a.old.getS (vVa a.x)).toNat + off * 64) % 2 ^ 32
  withUmode a umode (vMreg a.x) fun d =>
    if !a.anyLane then .ok s
    else checked a .unmask 64 [(0, addr)] (s.withMrg a false fun s =>
      .ok (s.storeWords a addr 0 (a.active false) (a.vsTri.value d)))

def execVust (n i : Nat) (s : State) : Out := engineCmd n i (s.vslot n i 0x44 fun s a => s.vust a)

/-! ## Ring loads and stores -/

/-- The 64-byte lines of a group that hold an active coefficient: each with the number, within its register, of its first
coefficient (R357). -/
def At.lines (a : At) : List (Nat × Nat) :=
  (List.range (16 * wG a.x)).filterMap fun k =>
    if (List.range 16).any fun j => a.active true (16 * k + j) then some (16 * (k % 16), (a.wAddr + 64 * k) % 2 ^ 32) else none

/-- The base of a ring access is 64-byte aligned, as every line then is. -/
def State.wld (s : State) (a : At) : Did :=
  let m := wSd a.x
  checked a (.load m) 64 a.lines (s.withMrg a true fun s => s.reading a m 64 a.lines true fun s =>
    let n := 256 * wG a.x
    let r := (List.range (16 * wG a.x)).foldl (fun (acc : State × Tri) k =>
      if (List.range 16).any fun j => a.active true (16 * k + j) then
        let q := acc.1.loadTri a m ((a.wAddr + 64 * k) % 2 ^ 32) 16
        (q.1, { a := acc.2.a ++ q.2.a, b := acc.2.b ++ q.2.b, c := acc.2.c ++ q.2.c })
      else
        let z := List.replicate 16 0
        (acc.1, { a := acc.2.a ++ z, b := acc.2.b ++ z, c := acc.2.c ++ z })) (s, { a := [], b := [], c := [] })
    let cut (l : List Nat) : List Nat := l.take n
    r.1.putDest a true (r.2.map cut))

def execWld (n i : Nat) (s : State) : Out := engineCmd n i (s.wslot n i 0x38 fun s a => s.wld a)

/-- The source of a ring store. -/
def At.wsTri (a : At) : Tri := triOf (wSd a.x) fun k => a.old.getG (wWd a.x + k * wG a.x) (wG a.x)

def State.wst (s : State) (a : At) : Did :=
  let m := wSd a.x
  checked a (.store m) 64 a.lines (s.withMrg a true fun s =>
    .ok (s.storeTri a m a.wAddr (a.active true) a.wsTri))

def execWst (n i : Nat) (s : State) : Out := engineCmd n i (s.wslot n i 0x39 fun s a => s.wst a)

/-- WUST: UMODE 0b10 reads Q from m0. -/
def State.wust (s : State) (a : At) : Did :=
  withUmode a (bits a.x 14 13) 0 fun d =>
    checked a .unmask 64 a.lines (s.withMrg a true fun s =>
      .ok (s.storeWords a a.wAddr 0 (a.active true) (a.wsTri.value d)))

def execWust (n i : Nat) (s : State) : Out := engineCmd n i (s.wslot n i 0x3A fun s a => s.wust a)

/-! ## Hash and cipher ports (R362) -/

/-- The context the XH field names, where it is one of a unit: otherwise the transfer traps STREAM. -/
def withPort (a : At) (xh u : Nat) (f : Port → Did) : Did :=
  match a.old.port xh with
  | some p => if portUnit p.unit = u then f p else .trap 7 0 none
  | none => .trap 7 0 none

/-- The tenant an engine works for. -/
def State.tenantOf (s : State) (a : At) : Nat := match s.entry a.e with | some x => x.tenant | none => 0

/-- The bytes of a V operand: of its triple, recombined inside the unit, when it is shared. -/
def At.vBytes (a : At) : Bytes := bytesOfWords (a.vsTri.value .bool)

/-- VKABS. -/
def State.vkabs (s : State) (a : At) : Did :=
  withPort a (vXh a.x) 1 fun p =>
    if p.final || (vSd a.x && !p.masked) then .trap 7 0 none
    else s.withMrg a false fun s =>
      let data := p.data ++ a.vBytes.take (vLen a.x)
      let s := s.pmu 0x08 (s.tenantOf a) (some a.n) none (data.length / p.rate - p.data.length / p.rate)
      .ok (s.modRegs a fun g => g.setPort (vXh a.x) { p with data := data, tainted := p.tainted || vSd a.x })

def execVkabs (n i : Nat) (s : State) : Out := engineCmd n i (s.vslot n i 0x50 fun s a => s.vkabs a)

/-- VKFIN. -/
def State.vkfin (s : State) (a : At) : Did :=
  withPort a (vXh a.x) 1 fun p =>
    if p.final then .trap 7 0 none
    else
      let s := s.pmu 0x08 (s.tenantOf a) (some a.n) none 1
      .ok (s.modRegs a fun g =>
        g.setPort (vXh a.x) { p with data := p.data ++ [BitVec.ofNat 8 (bits a.x 10 0)], final := true })

def execVkfin (n i : Nat) (s : State) : Out := engineCmd n i (s.vslot n i 0x51 fun s a => s.vkfin a)

/-- `len` bytes of a finalised sponge's output from offset `off`. -/
def Port.squeeze (p : Port) (off len : Nat) : Bytes :=
  slice (Config.prim .keccak [leBytes 8 p.rate, p.data]) off len

/-- A unit's output into vd: plain, or a fresh Boolean sharing of it. -/
def State.putUnit (s : State) (a : At) (bs : Bytes) : Did :=
  let l := wordsOfBytes 16 bs
  if vSd a.x then
    let r := s.reshare .bool 32 l
    r.1.putDest a false r.2
  else s.putPlain a false l

/-- VKSQZ: share bits and context must agree. -/
def State.vksqz (s : State) (a : At) : Did :=
  withPort a (vXh a.x) 1 fun p =>
    if !p.final || vSd a.x != p.masked then .trap 7 0 none
    else s.withMrg a false fun s =>
      let s := s.modRegs a fun g => g.setPort (vXh a.x) { p with squeezed := p.squeezed + 64 }
      let s := s.pmu 0x08 (s.tenantOf a) (some a.n) none
        (ceilDiv (p.squeezed + 64) p.rate - Nat.max 1 (ceilDiv p.squeezed p.rate))
      s.putUnit a (p.squeeze p.squeezed 64)

def execVksqz (n i : Nat) (s : State) : Out := engineCmd n i (s.vslot n i 0x52 fun s a => s.vksqz a)

/-- A SHA-2 context's block size. -/
def Port.block (p : Port) : Nat := if p.unit = 0x20 then 64 else 128

/-- VHBLK: 64 bytes of a block. -/
def State.vhblk (s : State) (a : At) : Did :=
  withPort a (vXh a.x) 2 fun p =>
    if vSd a.x && !p.masked then .trap 7 0 none
    else s.withMrg a false fun s =>
      let data := p.data ++ a.vBytes
      let s := s.pmu 0x09 (s.tenantOf a) (some a.n) none (data.length / p.block - p.data.length / p.block)
      .ok (s.modRegs a fun g => g.setPort (vXh a.x) { p with data := data, tainted := p.tainted || vSd a.x })

def execVhblk (n i : Nat) (s : State) : Out := engineCmd n i (s.vslot n i 0x53 fun s a => s.vhblk a)

/-- VHRD: the chaining value after the whole blocks absorbed. -/
def State.vhrd (s : State) (a : At) : Did :=
  withPort a (vXh a.x) 2 fun p =>
    if vSd a.x != p.masked then .trap 7 0 none
    else s.withMrg a false fun s =>
      let data := p.data.take (p.data.length / p.block * p.block)
      s.putUnit a (fit 64 (fit (p.block / 2) (Config.prim (.sha2Block p.unit) [p.iv, data])))

def execVhrd (n i : Nat) (s : State) : Out := engineCmd n i (s.vslot n i 0x54 fun s a => s.vhrd a)

/-- VAKEY: the key, or the counter block. -/
def State.vakey (s : State) (a : At) : Did :=
  withPort a (vXh a.x) 3 fun p =>
    let bs := a.vBytes
    .ok (s.modRegs a fun g => g.setPort (vXh a.x)
      (if a.x.testBit 0 then { p with counter := bs.take 16, squeezed := 0 } else { p with key := bs.take 32 }))

def execVakey (n i : Nat) (s : State) : Out := engineCmd n i (s.vslot n i 0x55 fun s a => s.vakey a)

/-- VAES: the four blocks of vd, enciphered in place (ECB), or XORed with four keystream blocks (CTR). -/
def State.vaes (s : State) (a : At) : Did :=
  withPort a (vXh a.x) 3 fun p =>
    if vSd a.x != p.masked then .trap 7 0 none
    else s.withMrg a false fun s =>
      let bs := a.vBytes
      let blk (k : Nat) : Bytes :=
        let x := slice bs (16 * k) 16
        if p.unit = 0x30 then fit 16 (Config.prim .aesBlock [p.key, x])
        else (x.zip (fit 16 (Config.prim .aesBlock [p.key, p.counter, leBytes 8 (p.squeezed + k)]))).map fun q => q.1 ^^^ q.2
      let s := s.modRegs a fun g => g.setPort (vXh a.x) { p with squeezed := p.squeezed + 4 }
      let s := s.pmu 0x0A (s.tenantOf a) (some a.n) none 4
      s.putUnit a (blk 0 ++ blk 1 ++ blk 2 ++ blk 3)

def execVaes (n i : Nat) (s : State) : Out := engineCmd n i (s.vslot n i 0x56 fun s a => s.vaes a)

/-! ## Streams of the operation -/

/-- Is a port of the operation open on this engine? -/
def At.opened (a : At) (kind : Nat) : Bool := a.old.x.any fun p => p.2.unit == kind

/-- The next 64 bytes of a stream; a read past its end traps STREAM (R317). -/
def State.streamRead (s : State) (a : At) (kind : Nat) (data : Bytes) (pos : Nat) (next : Run → Run) : Did :=
  if !a.opened kind || decide (data.length ≤ pos) then .trap 7 0 none
  else
    let s := match s.run a.e with | some r => s.setRun a.e (next r) | none => s
    s.putPlain a false (wordsOfBytes 16 (slice data pos 64))

def execVlstr (n i : Nat) (s : State) : Out :=
  engineCmd n i (s.vslot n i 0x58 fun s a =>
    s.streamRead a 0x40 a.run.lodeStream a.run.lodePos fun r => { r with lodePos := r.lodePos + 64 })

def execVistr (n i : Nat) (s : State) : Out :=
  engineCmd n i (s.vslot n i 0x59 fun s a =>
    s.streamRead a 0x41 a.run.inStream a.run.inPos fun r => { r with inPos := r.inPos + 64 })

/-- VSLH: a prefix to the Sluice channel; the last hand-off asks for a channel (R317, R281). -/
def State.vslh (s : State) (a : At) : Did :=
  if !a.opened 0x42 then .trap 7 0 none
  else match s.run a.e with
    | some r =>
      let s := s.setRun a.e { r with handed := r.handed ++ (bytesOfWords (a.old.getV (vVd a.x))).take (vLen a.x) }
      .ok (if a.x.testBit 0 then s.askChannel a.e else s)
    | none => .ok s

def execVslh (n i : Nat) (s : State) : Out := engineCmd n i (s.vslot n i 0x5A fun s a => s.vslh a)

/-- VSLDG waits until the channel has its digest. -/
def State.vsldg (s : State) (a : At) : Did :=
  if !a.opened 0x42 then .trap 7 0 none
  else match s.entry a.e with
    | some x => if x.sluice = .hashed then s.putPlain a false (wordsOfBytes 16 (fit 64 x.digest)) else .wait
    | none => .wait

def execVsldg (n i : Nat) (s : State) : Out := engineCmd n i (s.vslot n i 0x5B fun s a => s.vsldg a)

/-! ## Randomness (R320, R363) -/

/-- VRND: 64 bytes from the Stope DRBG, or the randomness trap. -/
def State.vrnd (s : State) (a : At) : Did :=
  match s.drawStope a.n 64 with
  | (s, some bs) => s.putPlain a false (wordsOfBytes 16 bs)
  | (_, none) => .trap 6 0 none

def execVrnd (n i : Nat) (s : State) : Out := engineCmd n i (s.vslot n i 0x5C fun s a => s.vrnd a)

/-- VMRG: 512 bits of the Stope's MRG, two of its outputs. -/
def State.vmrg (s : State) (a : At) : Did :=
  let s := s.mrgFresh a.n
  if !(s.mrg a.n).valid || s.ent.phase == 4 then .trap 6 0 none
  else
    let r := s.freshBytes 64
    r.1.putPlain a false (wordsOfBytes 16 r.2)

def execVmrg (n i : Nat) (s : State) : Out := engineCmd n i (s.vslot n i 0x5D fun s a => s.vmrg a)

end Sys2Proof.Machine
end

