-- ==== Sys2Proof/Machine/Samplers.lean ====
section
/-! DEFINITION. The samplers of the W slot (R370): coefficients drawn from the output of a finalised Keccak context. -/
namespace Sys2Proof.Machine

/-- The byte `k` of a sponge's output that is still to be squeezed. -/
def Port.next (p : Port) (k : Nat) : Nat := ((p.squeeze (p.squeezed + k) 1).headD 0).toNat

/-- A sampler's context: finalised, else STREAM; its share bit must be that of the context. -/
def withSponge (a : At) (f : Port → Did) : Did :=
  withPort a (wXh a.x) 1 fun p => if !p.final || wSd a.x != p.masked then .trap 7 0 none else f p

/-- A context after `k` more bytes. -/
def State.taken (s : State) (a : At) (p : Port) (k : Nat) : State :=
  let s := s.modRegs a fun g => g.setPort (wXh a.x) { p with squeezed := p.squeezed + k }
  s.pmu 0x08 (s.tenantOf a) (some a.n) none (ceilDiv (p.squeezed + k) p.rate - Nat.max 1 (ceilDiv p.squeezed p.rate))

/-- All coefficients of wd: the sampled ones, or, on a masked context, a fresh arithmetic sharing of them. -/
def State.putSampled (s : State) (a : At) (q : Nat) (l : List Nat) : Did :=
  if wSd a.x then
    let r := s.reshare (.arith q) 32 l
    .ok (putLanes r.1 a true (wWd a.x) true (fun _ => true) r.2)
  else .ok (putLanes s a true (wWd a.x) false (fun _ => true) (triOf false fun _ => l))

/-- 256 coefficients below `q` where the spec gives no result: free values. -/
def State.freeCoeffs (s : State) (q : Nat) : State × List Nat :=
  let r := s.freshNats 32 256
  (r.1, r.2.map (· % q))

/-- Candidates a sampler looks at before the model takes its result as a free value. -/
def samplerFuel : Nat := 65536

/-- WSAMU. -/
def State.wsamu (s : State) (a : At) : Did :=
  withSponge a fun p => withQ a true fun q =>
    let r := sampleUniform ((wFn a.x).testBit 0) q p.next samplerFuel 0 []
    let s := s.taken a p r.2
    if r.1.length = 256 then s.putSampled a q r.1
    else
      let f := s.freeCoeffs q
      f.1.putSampled a q f.2

def execWsamu (n i : Nat) (s : State) : Out := engineCmd n i (s.wslot n i 0x40 fun s a => s.wsamu a)

/-- WSAMB: 64η bytes. -/
def State.wsamb (s : State) (a : At) : Did :=
  withSponge a fun p => withQ a true fun q => s.withMrg a true fun s =>
    let eta := wFn a.x % 4
    (s.taken a p (64 * eta)).putSampled a q (sampleCbd eta q p.next)

def execWsamb (n i : Nat) (s : State) : Out := engineCmd n i (s.wslot n i 0x41 fun s a => s.wsamb a)

/-- The first 256 accepted values of blocks of `rate` bytes, taken until they suffice; the bytes taken. -/
def boundedBlocks (eta q rate : Nat) (b : Nat → Nat) : Nat → Nat → List Nat × Nat
  | 0, n => ((sampleBounded eta q b n).take 256, n)
  | fuel + 1, n =>
    let l := sampleBounded eta q b n
    if 256 ≤ l.length then (l.take 256, n) else boundedBlocks eta q rate b fuel (n + rate)

/-- The bytes of SHAKE256 a masked WSAMR always takes. -/
def boundedBytes : Nat := 2312

/-- WSAMR: 17 blocks of SHAKE256, and further ones only when those yield too few values. -/
def State.wsamr (s : State) (a : At) : Did :=
  withSponge a fun p => withQ a true fun q => s.withMrg a true fun s =>
    let eta := if wFn a.x % 4 = 2 then 2 else 4
    let r := boundedBlocks eta q p.rate p.next 480 boundedBytes
    let s := s.taken a p r.2
    if r.1.length = 256 then s.putSampled a q r.1
    else
      let f := s.freeCoeffs q
      f.1.putSampled a q f.2

def execWsamr (n i : Nat) (s : State) : Out := engineCmd n i (s.wslot n i 0x42 fun s a => s.wsamr a)

/-- WSAMY: 32 times 18 or 20 bytes. -/
def State.wsamy (s : State) (a : At) : Did :=
  withSponge a fun p => withQ a true fun q => s.withMrg a true fun s =>
    let k := wFn a.x % 32
    (s.taken a p (32 * k)).putSampled a q (sampleMask k q p.next)

def execWsamy (n i : Nat) (s : State) : Out := engineCmd n i (s.wslot n i 0x43 fun s a => s.wsamy a)

/-- WSAMC: τ is the value of sb; FIPS 204 gives no result for a τ above 64. -/
def State.wsamc (s : State) (a : At) : Did :=
  withSponge a fun p => withQ a true fun q =>
    let tau := a.ws
    match (if tau ≤ 64 then sampleBall tau q p.next samplerFuel 8 (256 - tau) (List.replicate 256 0) else none) with
    | some r => (s.taken a p r.2).putSampled a q r.1
    | none =>
      let f := (s.taken a p 8).freeCoeffs q
      f.1.putSampled a q f.2

def execWsamc (n i : Nat) (s : State) : Out := engineCmd n i (s.wslot n i 0x44 fun s a => s.wsamc a)

end Sys2Proof.Machine
end

