-- ==== Sys2Proof/Machine/Kst.lean ====
section
/-! DEFINITION. Kernel packs and the kernel stores (chapter 14): a pack image's layout (R373 to R377), the checks at load
(R378), the store (R379 to R381), and loading, unloading, reloading and scrubbing (R380, R390 to R393). -/
namespace Sys2Proof.Machine

/-! ## The image (R373 to R375) -/

def packMagic : Bytes := ascii "FVKP"
def packCount (b : Bytes) : Nat := leField b 7 1
def packLen (b : Bytes) : Nat := leField b 16 2
def packKatLen (b : Bytes) : Nat := leField b 20 4
def packOrigin (b : Bytes) : Nat := leField b 6 1

/-- Where the body, the known-answer section and the signature block begin. -/
def packBody (b : Bytes) : Nat := 256 + 64 * packCount b
def packKat (b : Bytes) : Nat := packBody b + 16 * packLen b
def packSigned (b : Bytes) : Nat := packKat b + packKatLen b

/-- The signature block's length: ML-DSA-87 and ECDSA P-384 for a vendor pack, ML-DSA-87 for an owner pack (R377). -/
def packSigLen (b : Bytes) : Nat := if packOrigin b = 1 then 4627 + 96 else 4627

/-- A directory entry (R375). -/
def kernelOf (d : Bytes) : Kernel :=
  { opBase := leField d 0 2, opMask := leField d 2 2, entry := leField d 4 2, trap := leField d 6 2, widths := leField d 8 1
    flags := leField d 9 1, layout := leField d 10 1, budget := leField d 12 4, est := leField d 16 4, cost := leField d 20 4
    tErr := leField d 24 4, tEq := leField d 28 4, winInput := leField d 32 2, winPub := leField d 34 2
    winSec := leField d 36 2, winWork := leField d 38 2, winOut := leField d 40 2, katOff := leField d 42 4
    katCount := leField d 46 2 }

def packEntry (b : Bytes) (k : Nat) : Bytes := slice b (256 + 64 * k) 64

def packKernels (b : Bytes) : List Kernel := (List.range (packCount b)).map fun k => kernelOf (packEntry b k)

/-- The pack an image holds, before it has a place in a store. -/
def packOf (b : Bytes) (src : Nat) : Pack :=
  { packId := leField b 8 4, version := leField b 12 4, origin := packOrigin b, words := packLen b
    ownerKey := slice b 32 32, tenants := slice b 96 32, head := slice b 0 96, kernels := packKernels b, image := b, src := src }

/-- Word `k` of an image's body: little-endian. -/
def bodyWord (b : Bytes) (k : Nat) : BitVec 128 := BitVec.ofNat 128 (leField b (packBody b + 16 * k) 16)

/-! ## The checks at load (R378) -/

def zeroBytes (b : Bytes) (off len : Nat) : Bool := (slice b off len).all fun x => x == 0

/-- A directory entry's fields are in range, its windows within R311 and its region within R312. -/
def kernelFormat (b d : Bytes) : Bool :=
  let k := kernelOf d
  decide (k.entry < packLen b) && (k.trap == 0xFFFF || decide (k.trap < packLen b)) && k.widths != 0 &&
    decide (k.widths < 32) && decide (k.flags < 64) && decide (k.layout ≤ 4) && zeroBytes d 11 1 && decide (1 ≤ k.budget) &&
    decide (k.budget ≤ 2 ^ 28) && (k.flags.testBit 1 || k.tErr == 0) && (k.flags.testBit 4 || k.tEq == 0) &&
    decide (k.winInput ≤ 1024) && decide (k.winPub ≤ 256) && decide (k.winSec ≤ 256) && decide (k.winWork ≤ 2048) &&
    decide (k.winOut ≤ 1152) && decide (k.region ≤ 258048) && decide (1 ≤ k.katCount) && decide (k.katOff < packKatLen b)

/-- Check 1. -/
def packFormat (b : Bytes) : Bool :=
  decide (256 ≤ b.length) && decide (b.length ≤ 262144) && slice b 0 4 == packMagic && leField b 4 2 == 1 &&
    (packOrigin b == 1 || packOrigin b == 2) && decide (1 ≤ packCount b) && decide (packCount b ≤ 64) &&
    decide (1 ≤ packLen b) && decide (packLen b ≤ 4096) && decide (leField b 24 1 ≤ 0xB1) && zeroBytes b 25 7 &&
    zeroBytes b 128 128 && (packOrigin b == 2 || (zeroBytes b 32 32 && zeroBytes b 96 32)) &&
    b.length == packSigned b + packSigLen b && (List.range (packCount b)).all fun k => kernelFormat b (packEntry b k)

/-- The purpose of Cleorara's pack keys in Headframe ROM (R377). -/
def romPack : Nat := 1

/-- Check 2: the digest, and the signatures (R377). -/
def State.packSignature (s : State) (b : Bytes) : Bool :=
  let signed := b.take (packSigned b)
  let sig := b.drop (packSigned b)
  sha3 ((b.take (packSigned b)).drop 256) == slice b 64 32 &&
    (if packOrigin b = 1 then romSigned romPack (ascii "FV kernel pack") signed sig
     else slice b 32 32 == s.lcc.ownKey && pureSigned s.lcc.ownPub (ascii "FV kernel pack") signed sig)

/-- Does a kernel cover some opcode of a family? -/
def Kernel.inFamily (k : Kernel) (f : Nat) : Bool :=
  k.opBase &&& k.opMask == k.opBase && (f * 4096) &&& k.opMask == k.opBase &&& 0xF000

/-- Check 3. -/
def State.packOriginOk (s : State) (b : Bytes) : Bool :=
  let only (p : Nat → Bool) : Bool := (packKernels b).all fun k => (List.range 16).all fun f => !k.inFamily f || p f
  if packOrigin b = 1 then only fun f => decide (1 ≤ f) && decide (f ≤ 13)
  else only (fun f => f == 14) && (packKernels b).all (fun k => !k.flags.testBit 4) && s.lcc.ownState == 1

/-- The first word past a kernel: the next higher entry of its pack, or the end of the body. -/
def kernelEnd (b : Bytes) (k : Kernel) : Nat :=
  (packKernels b).foldl (fun e j => if k.entry < j.entry ∧ j.entry < e then j.entry else e) (packLen b)

/-- A branch of a word at `pc` stays in the body; `base` is the first word of the pack's place in the store. -/
def branchOk (w : BitVec 128) (pc words base : Nat) : Bool :=
  let x := slotOf w 0
  if wordFmt w = 1 then
    if slotOp x = 0xF1 then decide (base ≤ bits (wordImm w) 11 0) && decide (bits (wordImm w) 11 0 < base + words) else true
  else if 0x30 ≤ slotOp x ∧ slotOp x ≤ 0x37 then
    decide ((pc + signExt 13 (bits x 12 0)) % 2 ^ 64 < words)
  else true

/-- A word keeps to what its kernel's flags allow. -/
def flagsOk (k : Kernel) (w : BitVec 128) : Bool :=
  if wordFmt w = 1 then true
  else
    let x := slotOf w 0
    let v := slotOp (slotOf w 1)
    let commit (n : Nat) : Bool := slotOp x == 0x61 && bits x 1 0 == n
    (k.flags.testBit 2 || !commit 1) && (k.flags.testBit 5 || !commit 3) &&
      !(k.flags.testBit 0 && (commit 1 || v == 0x59 || v == 0x5A))

/-- Check 4, the static scan. -/
def packScan (b : Bytes) (base : Nat) : Bool :=
  (List.range (packLen b)).all fun pc =>
    let w := bodyWord b pc
    (illegalSlot w false).isNone && branchOk w pc (packLen b) base &&
      (packKernels b).all fun k => !(decide (k.entry ≤ pc) && decide (pc < kernelEnd b k)) || flagsOk k w

/-- Do two kernels bind a common opcode? -/
def Kernel.overlaps (j k : Kernel) : Bool :=
  j.opBase &&& j.opMask == j.opBase && k.opBase &&& k.opMask == k.opBase && j.opBase &&& k.opMask == k.opBase &&& j.opMask

/-- Do two packs allow a common tenant? -/
def Pack.shareTenant (p q : Pack) : Bool := (List.range 256).any fun t => p.allows t && q.allows t

/-- Every loaded pack, whichever Stope holds it. -/
def State.allPacks (s : State) : List Pack := (s.stopes.map fun p => p.2.store.packs.map fun q => q.2).flatten

/-- Check 5. -/
def State.packOverlap (s : State) (p : Pack) : Bool :=
  s.allPacks.any fun q => q.packId != p.packId && q.shareTenant p && q.kernels.any fun j => p.kernels.any fun k => j.overlaps k

/-! ## The store (R379) -/

/-- A table of packs without those of one identity. -/
def otherPacks (st : Store) (id : Nat) : List (Nat × Pack) := st.packs.filter fun p => p.2.packId != id

/-- The packs by rising base. -/
def insertByBase (p : Nat × Pack) : List (Nat × Pack) → List (Nat × Pack)
  | [] => [p]
  | q :: r => if p.2.base < q.2.base then p :: q :: r else q :: insertByBase p r

def sortByBase (l : List (Nat × Pack)) : List (Nat × Pack) := l.foldl (fun acc p => insertByBase p acc) []

/-- The lowest free range of `n` words among packs by rising base. -/
def freeRange (n : Nat) : Nat → List (Nat × Pack) → Option Nat
  | lo, [] => if lo + n ≤ 4096 then some lo else none
  | lo, p :: r => if lo + n ≤ p.2.base then some lo else freeRange n (p.2.base + p.2.words) r

/-- The packs moved together, from word `lo` on. -/
def compacted : Nat → List (Nat × Pack) → List (Nat × Pack)
  | _, [] => []
  | lo, p :: r => (p.1, { p.2 with base := lo }) :: compacted (lo + p.2.words) r

/-- The pack slot a pack takes: that of an earlier version of it, or the lowest free one. -/
def packSlot (st : Store) (id : Nat) : Option Nat :=
  match st.packs.find? fun p => p.2.packId == id with
  | some p => some p.1
  | none => (List.range 4).find? fun n => !st.packs.any fun p => p.1 == n

/-- Give kernels the lowest free kernel slots. -/
def numberKernels : List Nat → List Kernel → Option (List Kernel)
  | _, [] => some []
  | [], _ :: _ => none
  | f :: fs, k :: r =>
    match numberKernels fs r with
    | some l => some ({ k with kslot := f } :: l)
    | none => none

/-- The words that a set of packs puts into a store. -/
def storeWords (packs : List (Nat × Pack)) : List (Nat × BitVec 128) :=
  packs.foldl (fun m p =>
    (List.range p.2.words).foldl (fun m k => Cells.set word0 m (p.2.base + k) (bodyWord p.2.image k)) m) []

def storeOf (packs : List (Nat × Pack)) : Store := { packs := packs, words := storeWords packs }

/-- The store with a pack in it, where there is room. -/
def Store.install (st : Store) (p : Pack) : Option Store :=
  let others := sortByBase (otherPacks st p.packId)
  let used := (others.map fun q => q.2.kernels.map fun k => k.kslot).flatten
  match packSlot st p.packId, numberKernels ((List.range 64).filter fun n => !used.contains n) p.kernels with
  | some slot, some ks =>
    match freeRange p.words 0 others with
    | some base =>
      some (storeOf (Cells.put (otherPacks st p.packId) slot { p with base := base, kernels := ks }))
    | none =>
      let l : List (Nat × Pack) := compacted 0 others
      let base := (others.map fun q => q.2.words).foldl (· + ·) 0
      if base + p.words ≤ 4096 then
        some (storeOf (Cells.put (l.foldl (fun (m : List (Nat × Pack)) (q : Nat × Pack) => Cells.put m q.1 q.2) []) slot { p with base := base, kernels := ks }))
      else none
  | _, _ => none

/-- The store without a pack slot. -/
def Store.unload (st : Store) (slot : Nat) : Store := storeOf (st.packs.filter fun p => p.1 != slot)

/-- The store with a pack slot written again, its kernels untested. -/
def Store.rewrite (st : Store) (slot : Nat) : Store :=
  storeOf (st.packs.map fun p => if p.1 = slot then (p.1, { p.2.untested with broken := false }) else p)

/-- The version summary (R381). -/
def Store.summary (st : Store) : Bytes :=
  ((sha3 (((List.range 4).map fun n =>
    match lookup st.packs n with
    | some p => 1 :: p.head
    | none => [0]).flatten)).take 16)

/-- The first word a pack would take. -/
def Store.placeOf (st : Store) (p : Pack) : Option Nat :=
  match st.install p with
  | some u =>
    match u.packs.find? fun (q : Nat × Pack) => q.2.packId == p.packId with
    | some q => some q.2.base
    | none => none
  | none => none

/-- The first failing check of R378, as a RESULT of `KST_LDSTS`; 0 with none. -/
def State.packResult (s : State) (n : Nat) (b : Bytes) (downgrade : Bool) : Nat :=
  let p := packOf b 0
  let st := (s.stope n).store
  let base := st.placeOf p
  if !packFormat b then 3
  else if !s.packSignature b then 2
  else if !s.packOriginOk b then 0xA
  else if !packScan b (base.getD 0) then 0xB
  else if s.packOverlap p then 5
  else if !downgrade && st.packs.any (fun q => q.2.packId == p.packId && decide (p.version ≤ q.2.version)) then 6
  else if base.isNone then 4
  else 0

/-! ## Requests (R390) -/

/-- The request being served: the front of the queue. -/
def State.kstFront (s : State) (n phase : Nat) : Option KstReq :=
  match s.kstQueue with
  | r :: _ => if r.stope = n ∧ r.phase = phase then some r else none
  | [] => none

/-- Replace the request being served. -/
def State.setKstFront (s : State) (r : KstReq) : State := { s with kstQueue := r :: s.kstQueue.drop 1 }

/-- `KST_LDSTS`. -/
def State.ldsts (s : State) (n : Nat) : Nat :=
  let x := s.stope n
  x.kidx * 2 ^ 16 + x.result * 2 ^ 8 + (match s.kstQueue with | r :: _ => if r.stope = n then r.phase else 0 | [] => 0)

/-- The Stope drains for a request (step 4); ABANDONABLE operations leave it when ABANDON is 1 (R388). -/
def State.kstDrain (s : State) (r : KstReq) : State :=
  let s := s.setKstFront { r with phase := 3, since := s.stamp }
  let s := if r.abandon then
      s.forEntries (s.entriesWhere fun x => x.target.isOn (.stp r.stope)) fun s e =>
        match s.entry e with
        | some x => if s.abandonable e x then s.stop e .requeue else s
        | none => s
    else s
  s.drainUnit (.stp r.stope)

/-- Headframe reserves channel 31 for the measurement of an image it loads, or gives it back (R283). -/
def State.measuring (s : State) (on : Bool) : State :=
  s.setReg .slc 0x10C (if on then setBit (s.reg .slc 0x10C) 0 else clearBit (s.reg .slc 0x10C) 0)

/-- The request at the front begins. -/
def State.kstStart (s : State) : State :=
  match s.kstQueue with
  | r :: _ =>
    if r.phase ≠ 0 then s
    else if r.cmd = 1 then (s.setKstFront { r with phase := 1, since := s.stamp }).measuring true
    else s.kstDrain r
  | [] => s

/-- A request ends: RESULT, its record, `ERR.LOADFAIL` where it failed, `INTSTS.LOADDONE`; the next begins. -/
def State.kstEnd (s : State) (r : KstReq) (result kidx : Nat) : State :=
  let n := r.stope
  let s := if r.phase = 1 then s.measuring false else s
  let s := s.setStope n { s.stope n with result := result, kidx := kidx, saved := none }
  let s := { s with kstQueue := s.kstQueue.drop 1 }
  let s := if result = 1 then s else s.setErr (.kst n) 16
  let s := s.logEvent 0x0016 (if result = 1 then 0 else 2) deviceTenant (Page.kst n).typeCode n (s.ldsts n) s.stamp r.pack.packId
  (s.setInt (.kst n) 16).kstStart

/-- The saved image is written back and the drain ends (R391, R393). -/
def State.kstRestore (s : State) (r : KstReq) (result kidx : Nat) : State :=
  let x := s.stope r.stope
  let s := (s.dropFlaws (FlawAt.inStore r.stope)).setStope r.stope { x with store := x.saved.getD x.store }
  (s.undrainUnit (.stp r.stope)).kstEnd r result kidx

/-- A write of `KST_CMD`: a request, or one that is ignored while another of this Stope is in progress (R393). -/
def State.kstCommand (s : State) (req : Requester) (n : Nat) (v : Word) : State :=
  s.gated req (.kst n) 0x14C fun s =>
    let cmd := field v 3 0
    if cmd = 0 ∨ 3 < cmd then s.accessErr (.kst n)
    else if s.kstQueue.any fun r => r.stope == n then
      (s.setStope n { s.stope n with result := 9 }).accessErr (.kst n)
    else
      let slot := field v 13 12
      let pack := if cmd = 1 then {} else (lookup (s.stope n).store.packs slot).getD {}
      let r : KstReq := {
        stope := n, cmd := cmd, slot := slot, abandon := bit v 8, downgrade := bit v 9, pack := pack
        src := (s.reg (.kst n) 0x140).toNat + 2 ^ 32 * (s.reg (.kst n) 0x144).toNat, len := s.regField (.kst n) 0x148 18 0 }
      let s := s.setStope n { s.stope n with result := 0, kidx := 0xFF }
      let s := { s with kstQueue := s.kstQueue ++ [r] }
      s.kstStart

def execKstLoad (req : Requester) (n : Nat) (value : Word) (s : State) : Out :=
  .next (if n < 64 ∧ field value 3 0 = 1 then s.kstCommand req n value else s)

def execKstUnload (req : Requester) (n : Nat) (value : Word) (s : State) : Out :=
  .next (if n < 64 ∧ field value 3 0 = 2 then s.kstCommand req n value else s)

def execKstReload (req : Requester) (n : Nat) (value : Word) (s : State) : Out :=
  .next (if n < 64 ∧ field value 3 0 = 3 then s.kstCommand req n value else s)

/-- PACK_FETCH_DONE: the image is in Headframe's SRAM; the checks run, and the Stope drains. With Bus Master Enable 0 there
is no DMA (R61), and the fetch has failed: RESULT DMA (DEDUCED, log 39). -/
def State.packFetched (s : State) (n : Nat) : State :=
  match s.kstFront n 1 with
  | some r =>
    if !(s.fn 0).bme then s.kstEnd r 8 0xFF
    else
      let s := s.measuring false
      let b := s.hostRead r.src (Nat.min r.len 262145)
      let r := { r with image := b, pack := packOf b r.src }
      match s.packResult n b r.downgrade with
      | 0 => s.kstDrain r
      | k => s.kstEnd r k 0xFF
  | none => s

def execPackFetchDone (n : Nat) (s : State) : Out := s.clocked (.next (s.packFetched n))

/-- A Stope holds no pack that lacks a kernel that passed. -/
def Pack.tested (p : Pack) : Pack := { p with kernels := p.kernels.map fun k => { k with katOk := true } }

/-- LOAD_DRAINED: the image is saved, the store written and locked; testing begins, or for an UNLOAD the commit. -/
def State.loadDrained (s : State) (n : Nat) : State :=
  match s.kstFront n 3 with
  | some r =>
    if !s.stopeIdle n then s
    else
      let x := s.stope n
      let st := match r.cmd with
        | 1 => (x.store.install r.pack).getD x.store
        | 2 => x.store.unload r.slot
        | _ => x.store.rewrite r.slot
      let s := ((s.dropFlaws (FlawAt.inStore n)).setStope n { x with store := st, saved := some x.store }).forgetMeasures st
      if r.cmd = 2 then
        let s := s.setKstFront { r with phase := 6 }
        { s with txn := { s.txn with hfQueue := s.txn.hfQueue ++ [(HfReason.kernelEnd n, [])] } }
      else s.setKstFront { r with phase := 5 }
  | none => s

def execLoadDrained (n : Nat) (s : State) : Out := s.clocked (.next (s.loadDrained n))

/-- Every kernel of a Stope's packs passed. -/
def Store.tested (st : Store) : Store := { st with packs := st.packs.map fun p => (p.1, p.2.tested) }

/-- The boot's known-answer tests have all ended (R451 steps 12 and 13): KATDONE, and the commit that records every
version summary is to come. -/
def State.katCheck (s : State) : State :=
  if s.bootPhase == 7 && !bit (s.reg .rst 0x104) 29 &&
    !s.stopes.any (fun (q : Nat × Stope) => q.2.retest && !s.outOfService (.stp q.1)) then
    let s := s.setReg .rst 0x104 (setBit (s.reg .rst 0x104) 29)
    { s with txn := { s.txn with hfQueue := s.txn.hfQueue ++ [(HfReason.bootVersions, [])] } }
  else s

/-- A Stope's tests at boot (R451 step 12) or after a block-level reset (R446) end: it serves, or is DISABLED. -/
def State.retestDone (s : State) (n : Nat) (pass : Bool) : State :=
  let x := s.stope n
  if !x.retest then s
  else if pass then
    let s := s.setStope n { x with store := x.store.tested, retest := false }
    let s := if (s.gen n).live then s else s.instantiateStope n
    let s := if s.entReady then s.wakeEntropy else s
    (s.unitServes (.stp n)).katCheck
  else
    let s := if s.bootPhase = 7 then s.setErr .rst 20 else s
    ((s.setStope n { x with retest := false }).disableUnit (.stp n) 2).katCheck

/-- KAT_DONE (R391): `failed` is the directory index of the first kernel whose vectors fail. -/
def State.katDone (s : State) (n : Nat) (failed : Option Nat) : State :=
  match s.kstFront n 5 with
  | some r =>
    match failed with
    | some k => s.kstRestore r 7 (k % 256)
    | none =>
      let x := s.stope n
      let s := s.setStope n { x with store := x.store.tested }
      let s := s.setKstFront { r with phase := 6 }
      { s with txn := { s.txn with hfQueue := s.txn.hfQueue ++ [(HfReason.kernelEnd n, [])] } }
  | none => s.retestDone n failed.isNone

def execKatDone (n : Nat) (failed : Option Nat) (s : State) : Out := s.clocked (.next (s.katDone n failed))

/-- LOAD_DRAIN_TIMEOUT (R391): RESULT BUSY, the store unchanged, the drain over; `ERR.TIMEOUT` shows that `TO` expired (R41). -/
def State.loadDrainTimeout (s : State) (n : Nat) : State :=
  match s.kstFront n 3 with
  | some r =>
    if s.stopeIdle n then s
    else
      let s := (s.advanceTo (r.since + s.timeoutNs (.kst n) 500000000)).setErr (.kst n) 5
      (s.undrainUnit (.stp n)).kstEnd r 9 0xFF
  | none => s

def execLoadDrainTimeout (n : Nat) (s : State) : Out := s.clocked (.next (s.loadDrainTimeout n))

/-! ## The commit of a request (R390 step 7, R392) -/

/-- Is an entry's opcode one that only a kernel serves, and does no Stope hold, load or test one? -/
def State.unbound (s : State) (x : Entry) : Bool :=
  match x.desc.kind with
  | some k =>
    x.state == .queued && !noUnit k && !s.toShaft k x.desc && !s.unitFree k x.desc &&
      !s.bootBinds x.desc.opcode x.tenant && !(List.range 64).any fun n => s.kernelNear n x.desc.opcode x.tenant
  | none => false

/-- What a request's commit puts in force at E: the new summary, the end of the drain, and NOT_READY for entries whose
opcode no Stope serves any more. -/
def State.kernelCommit (s : State) (n : Nat) : State :=
  let x := s.stope n
  let s := (s.setStope n { x with summary := x.store.summary }).undrainUnit (.stp n)
  s.forEntries (s.entriesWhere fun x => x.state == .queued) fun s e =>
    match s.entry e with
    | some x => if s.unbound x then s.finish e .notReady else s
    | none => s

/-- The commit of a request is published: RESULT LOADED. -/
def State.kernelPublished (s : State) (n : Nat) : State :=
  match s.kstFront n 6 with
  | some r => s.kstEnd r 1 0xFF
  | none => s

/-- An alarm of class A3 or higher, or a reset, ends every request (R393). -/
def State.kstAbort (s : State) : State :=
  match s.kstQueue with
  | [] => s
  | r :: rest =>
    let s := { s with
      kstQueue := [r]
      txn := { s.txn with hfQueue := s.txn.hfQueue.filter fun q => q.1 != HfReason.kernelEnd r.stope } }
    let s :=
      if r.phase < 3 then s.kstEnd r 0xC 0xFF
      else if r.phase = 3 then (s.undrainUnit (.stp r.stope)).kstEnd r 0xC 0xFF
      else s.kstRestore r 0xC 0xFF
    rest.foldl (fun s r => { s with kstQueue := [r] }.kstEnd r 0xC 0xFF) s

/-- A function-level reset of the physical function (R393): a request before its writing phase ends; those that wait
too. -/
def State.kstFlr (s : State) : State :=
  match s.kstQueue with
  | [] => s
  | r :: _ => if r.phase ≤ 3 then s.kstAbort
    else
      let rest := s.kstQueue.drop 1
      rest.foldl (fun s q =>
        let s := s.setStope q.stope { s.stope q.stope with result := 0xC }
        (s.setErr (.kst q.stope) 16).setInt (.kst q.stope) 16) { s with kstQueue := [r] }

/-- Owner packs of another owner are unloaded when ownership changes (R393). -/
def State.dropOwnerPacks (s : State) (key : Bytes) : State :=
  s.stopes.foldl (fun s p =>
    let x := s.stope p.1
    let keep := x.store.packs.filter fun q => q.2.origin != 2 || q.2.ownerKey == key
    if keep.length = x.store.packs.length then s
    else
      let st := storeOf keep
      s.setStope p.1 { x with store := st, summary := st.summary }) s

/-! ## The scrub (R380) -/

/-- Mark the pack of an uncorrectable word and reload it. -/
def State.scrubBad (s : State) (n addr : Nat) : State :=
  let x := s.stope n
  let s := s.setStope n { x with scrubUncorr := satAdd 0xFFFF x.scrubUncorr 1 }
  let s := (s.setErr (.kst n) 17).logEvent 0x000B 2 deviceTenant (Page.kst n).typeCode n 2 s.stamp addr
  match x.store.packs.find? fun p => decide (p.2.base ≤ addr) && decide (addr < p.2.base + p.2.words) with
  | some p =>
    if p.2.broken then s
    else
      let y := s.stope n
      let s := s.setStope n { y with
        store := { y.store with packs := Cells.put y.store.packs p.1 { p.2 with broken := true } } }
      let r : KstReq := { stope := n, cmd := 3, slot := p.1, pack := p.2, byHeadframe := true }
      ({ s with kstQueue := s.kstQueue ++ [r] }).kstStart
  | none => s

/-- The words of a kernel store in which errors stand: how many are correctable, and which are not. -/
def State.storeFlaws (s : State) (n : Nat) : Nat × List Nat :=
  let l := s.flaws.filter fun f => f.place.inStore n
  ((l.filter fun f => !f.uncorr).length,
    (l.filter fun f => f.uncorr).map fun f => match f.place with | .word _ pc => pc | _ => 0)

/-- KST_SCRUB of one Stope: how many words were corrected, and which could not be, those known before among them. -/
def State.scrub (s : State) (n corr : Nat) (bad : List Nat) : State :=
  let corr := corr + (s.storeFlaws n).1
  let bad := bad ++ (s.storeFlaws n).2
  let s := s.dropFlaws (FlawAt.inStore n)
  let x := s.stope n
  let s := s.setStope n { x with scrubCorr := satAdd 0xFFFF x.scrubCorr corr }
  let s := if corr = 0 then s
    else (s.countCorrected n corr).setErr (.kst n) 3
  let s := if bad.isEmpty then s else s.setErr (.kst n) 4
  bad.foldl (fun s a => s.scrubBad n (a % 4096)) s

def execKstScrub (n corr : Nat) (bad : List Nat) (s : State) : Out := s.clocked (.next (if n < 64 then s.scrub n corr bad else s))

end Sys2Proof.Machine
end

