-- ==== Sys2Proof/Machine/Directory.lean ====
section
/-! DEFINITION. The Ronul directory (R31 to R37, R15, R437) and the configuration digest (R57). -/
namespace Sys2Proof.Machine

/-! ## The directory's entries -/

/-- One entry before its parents are known by number (R32): the page range, and the types and instances of its control
and data parents. -/
structure DirEntry where
  kind : Nat
  inst : Nat
  off : Nat
  pages : Nat
  caps : Nat
  island : Nat
  domain : Nat
  cparent : Nat × Nat
  dparent : Nat × Nat
  flags : Nat
deriving DecidableEq, Repr

/-- The types a parent may be: the root, Headframe, Adit, a Stope (R33). -/
def parRoot : Nat × Nat := (0x0001, 0)
def parHdf : Nat × Nat := (0x0010, 0)
def parAdit : Nat × Nat := (0x0022, 0)

/-- Has a page's block an RWS register (R35)? -/
def hasRws (p : Page) : Bool := p.hasTo || (blockMap p).any fun r => r.rws != 0

/-- CAPS (R35, R305). -/
def pageCaps (p : Page) : Nat :=
  b2n (hasRws p) + 2 + (if p.hasDrain then 4 + 8 else 0) + 16 + (match p with | .shf _ => 7 * 65536 | _ => 0)

/-- The clock island of a page's logic (R34). -/
def pageIsland : Page → Nat
  | .tly | .adt | .slc | .tnt _ | .tntA _ => 0x02
  | .drf => 0x03
  | .lod => 0x04
  | .shf _ => 0x05
  | .zdp => 0x06
  | .stp n | .kst n | .eng n _ => 0x40 + n
  | _ => 0x00

/-- The reset domain of a page's block (R437). -/
def pageDomain : Page → Nat
  | .rst | .otp _ => 1
  | .drf => 3
  | .lod | .ent | .dgs | .tent _ | .tdgs _ => 4
  | .stp _ | .kst _ | .eng _ _ => 5
  | .shf _ => 6
  | .adt | .slc | .tly | .tnt _ | .tntA _ => 7
  | .zdp => 8
  | _ => 2

/-- The control parent (R15). -/
def pageCparent : Page → Nat × Nat
  | .eng n _ => (0x0040, n)
  | .hdf => parRoot
  | _ => parHdf

/-- The data parent (R15). -/
def pageDparent : Page → Nat × Nat
  | .eng n _ | .kst n => (0x0040, n)
  | .slc | .tly | .tnt _ | .tntA _ => parAdit
  | _ => parRoot

/-- Is a page outside the tenant-0 window: FLAGS ADMIN (R35)? -/
def adminPage : Page → Bool
  | .tnt _ | .tdgs _ | .tent _ | .tpmu _ | .ttxn _ => false
  | _ => true

/-- A page's entry; `disabled` is its published DISABLED flag. -/
def pageEntry (disabled : List Page) (p : Page) (pages : Nat) : DirEntry :=
  { kind := p.typeCode, inst := p.instanceNo, off := p.barOffset 0, pages := pages, caps := pageCaps p, island := pageIsland p
    domain := pageDomain p, cparent := pageCparent p, dparent := pageDparent p
    flags := 2 * b2n (adminPage p) + 4 * b2n (disabled.contains p) }

/-- A window's entry: doorbells and MSI-X (R15, R34, R35). -/
def windowEntry (kind t off : Nat) (admin : Bool) : DirEntry :=
  { kind := kind, inst := t, off := off, pages := 1, caps := 0, island := 0x02, domain := 7, cparent := parHdf
    dparent := parAdit, flags := 1 + 2 * b2n admin }

/-- The root entry of a directory (R32, R37). -/
def rootEntry (t pages : Nat) (admin : Bool) : DirEntry :=
  { kind := 0x0001, inst := t, off := 0, pages := pages, caps := 0, island := 0x00, domain := 2, cparent := (0xFFFF, 0xFFFF)
    dparent := (0xFFFF, 0xFFFF), flags := 1 + 2 * b2n admin }

/-- The pages of a tenant's window from TNT to TXN, with its windows, in ascending offset, at a base. -/
def tenantEntries (t base : Nat) : List DirEntry :=
  let at_ (p : Page) (off : Nat) : DirEntry := { pageEntry [] p 1 with off := base + off }
  [at_ (.tnt t) 0x1000, windowEntry 0x0060 t (base + 0x2000) false, windowEntry 0x0061 t (base + 0x3000) false,
   at_ (.tdgs t) 0x4000, at_ (.tent t) 0x5000, at_ (.tpmu t) 0x6000, at_ (.ttxn t) 0x7000,
   windowEntry 0x0062 t (base + 0x8000) false]

/-- One Stope's entries. -/
def stopeEntries (disabled : List Page) (n : Nat) : List DirEntry :=
  pageEntry disabled (.stp n) 1 :: pageEntry disabled (.kst n) 1 ::
    (List.range 8).map fun i => pageEntry disabled (.eng n i) 1

/-- The full directory in ascending offset (R32). -/
def fullEntries (disabled : List Page) : List DirEntry :=
  rootEntry 0 16 true ::
  ([(Page.hdf, 1), (.rst, 1), (.lcc, 1), (.otp 0, 3), (.cny, 1), (.ent, 1), (.dgs, 1), (.lod, 1), (.tly, 1), (.adt, 1), (.slc, 1),
    (.txn, 1), (.pmu, 1), (.zdp, 1), (.drf, 1), (.asy, 1)].map fun q => pageEntry disabled q.1 q.2) ++
  ((List.range 8).map fun n => pageEntry disabled (.shf n) 1) ++
  ((List.range 64).map fun n => stopeEntries disabled n).flatten ++
  tenantEntries 0 0x800000 ++
  (List.range 256).map fun t => pageEntry disabled (.tntA t) 1

/-- The number of the entry of a type and instance. -/
def entryNumber (l : List DirEntry) (p : Nat × Nat) : Nat :=
  match l.findIdx? fun x => x.kind == p.1 && x.inst == p.2 with
  | some k => k
  | none => 0xFFFF

/-- An entry's 32 bytes (R32): in a mini-directory entry 0 is both parents of every other (R37). -/
def DirEntry.bytes (x : DirEntry) (parent : Nat × Nat → Nat) : Bytes :=
  leBytes 2 x.kind ++ leBytes 2 x.inst ++ leBytes 4 x.off ++ leBytes 2 x.pages ++ leBytes 2 1 ++
    leBytes 4 x.caps ++ leBytes 1 x.island ++ leBytes 1 x.domain ++ leBytes 2 (parent x.cparent) ++ leBytes 2 (parent x.dparent) ++
    leBytes 2 x.flags ++ List.replicate 8 0

/-- The entry bytes of the full directory. -/
def directoryBytes (disabled : List Page) : Bytes :=
  let l := fullEntries disabled
  (l.map fun x => x.bytes (entryNumber l)).flatten

/-- The entry bytes of tenant `t`'s mini-directory. -/
def miniBytes (t : Nat) : Bytes :=
  ((rootEntry t 1 false :: tenantEntries t 0).map fun x => x.bytes fun p => if p.1 = 0xFFFF then 0xFFFF else 0).flatten

/-- The directory's DIGEST (R31). -/
def directoryDigest (disabled : List Page) : Bytes := sha3 (directoryBytes disabled)

/-- A directory's 64-byte header (R31). -/
def directoryHeader (entries : Bytes) (seq t kind : Nat) : Bytes :=
  ascii "RNUL" ++ leBytes 2 1 ++ leBytes 2 0x40 ++ leBytes 2 (entries.length / 32) ++ leBytes 2 0x20 ++ leBytes 4 seq ++
    sha3 entries ++ leBytes 1 t ++ [0xB1] ++ leBytes 2 kind ++ List.replicate 12 0

/-- What the directory range holds (R27, R31). -/
def State.directoryImage (s : State) : Bytes :=
  let b := directoryBytes s.dir.published
  directoryHeader b s.dir.seq 0 0 ++ b

/-- What tenant `t`'s mini-directory page holds (R37). It is never rewritten; its SEQ is the full directory's (DESIGN
CHOICE, log 6). -/
def State.miniImage (s : State) (t : Nat) : Bytes := directoryHeader (miniBytes t) s.dir.seq t 1 ++ miniBytes t

/-- Headframe rewrites the directory (R36): SEQ goes odd, and the flags and DIGEST become those of the units out of
service. -/
def State.rewriteDirectory (s : State) : State :=
  { s with dir := { s.dir with
      seq := if s.dir.seq % 2 = 0 then s.dir.seq + 1 else s.dir.seq
      published := s.dir.disabled, digest := directoryDigest s.dir.disabled } }

/-- The directory is stable again: SEQ goes even. -/
def State.settleDirectory (s : State) : State :=
  if s.dir.seq % 2 = 0 then s else { s with dir := { s.dir with seq := (s.dir.seq + 1) % 2 ^ 32 } }

/-! ## The configuration digest (R57) -/

/-- The RWS registers of a page, by rising offset, with the masks of their RWS fields. -/
def rwsOf (p : Page) : List (Nat × Nat) :=
  (if p.hasTo then [(0x024, 0x3FFFFFF)] else []) ++
    ((blockMap p).map fun r =>
      if r.rws = 0 then []
      else (List.range ((r.last - r.first) / 4 + 1)).map fun k => (r.first + 4 * k, r.rws)).flatten

/-- The pages that hold device-scope RWS registers, by type and instance. -/
def devicePages : List Page :=
  [.hdf, .rst, .cny, .ent, .lod, .tly] ++ ((List.range 256).map fun t => .tntA t) ++ [.zdp] ++
    ((List.range 64).map fun n => .stp n) ++ ((List.range 64).map fun n => .kst n) ++ (List.range 8).map fun n => .shf n

/-- The code of a scope (R57, R505). -/
def Scope.code : Scope → Nat
  | .device => 0x0000
  | .tenant t => 0x0100 + t

/-- The 12-byte records of a page's RWS registers. -/
def State.digestRecords (s : State) (sc : Scope) (p : Page) : Bytes :=
  ((rwsOf p).map fun r =>
    leBytes 2 sc.code ++ leBytes 2 p.typeCode ++ leBytes 2 p.instanceNo ++ leBytes 2 r.1 ++
      leBytes 4 (s.reg p r.1 &&& BitVec.ofNat 32 r.2).toNat).flatten

/-- The 16-byte summary of a Stope, zero where nothing was ever loaded. -/
def State.summaryOf (s : State) (n : Nat) : Bytes := fit 16 (s.stope n).summary

/-- The byte string whose SHA3-256 is the configuration digest. -/
def State.digestBytes (s : State) : Bytes :=
  let recs := (devicePages.map fun p => s.digestRecords .device p).flatten ++
    ((List.range 256).map fun t => s.digestRecords (.tenant t) (.tnt t)).flatten
  ascii "FVCD" ++ leBytes 2 1 ++ [0xB1, 0] ++ leBytes 4 (recs.length / 12) ++ List.replicate 4 0 ++ recs ++
    fit 32 s.dir.digest ++ ((List.range 64).map fun n => s.summaryOf n).flatten

/-- The configuration digest. -/
def State.configDigest (s : State) : Bytes := sha3 s.digestBytes

end Sys2Proof.Machine
end

