-- ==== Sys2Proof/Machine/Validate.lean ====
section
/-! DEFINITION. The validation of a commit (R52 step 2): the field encodings of the RWS registers and the rules over
several of them (R103, R199, R263, R305, R398, R399, R419, R433, R487, R488, R502, TXN_ERRADDR of R49). -/
namespace Sys2Proof.Machine

/-- Put staged values in force, by register key. -/
def State.putRegs (s : State) (l : List (Nat × Word)) : State :=
  { s with regs := l.foldl (fun m q => Cells.set regDefault m q.1 q.2) s.regs }

/-- The BAR0 offset of a staged register. -/
def keyOffset (k : Nat) : Nat :=
  match keyPlace k with
  | .page p off => p.barOffset off
  | _ => k

def fieldIn (v : Word) (hi lo a b : Nat) : Bool := decide (a ≤ field v hi lo) && decide (field v hi lo ≤ b)

/-- The classes in a `CNY_MAP` register. -/
def mapBytes (v : Word) : List Nat := (List.range 4).map fun b => field v (8 * b + 2) (8 * b)

/-- The floor of a source while the mapping is locked (R488). -/
def State.floorOf (s : State) (src : Nat) : Nat := if s.cny.locked then nthD s.cny.floor src 0 else 0

/-- Would a mapping register lower a locked source? -/
def State.lowers (s : State) (i : Nat) (v : Word) : Bool :=
  (List.range 4).any fun b => decide (nthD (mapBytes v) b 0 < s.floorOf (4 * i + b))

/-- Is a mapping register valid (R487)? -/
def State.mapOk (s : State) (i : Nat) (v : Word) : Bool :=
  (mapBytes v).all (fun c => decide (c ≤ 5)) &&
    (i != 7 || (field v 2 0 == 4 && field v 10 8 == 0 && field v 18 16 == 0 && field v 26 24 == 0)) && !s.lowers i v

/-- Is one staged value in its register's encoding? -/
def State.fieldOk (s : State) (p : Page) (off : Nat) (v : Word) : Bool :=
  if off = 0x024 then field v 25 24 != 3
  else match p with
    | .tly =>
      if off = 0x110 ∨ off = 0x114 then field v 23 0 != 0
      else if off = 0x118 then field v 7 0 != 0 && field v 15 8 != 0 && field v 23 16 != 0
      else true
    | .lod => off != 0x108 || fieldIn v 12 0 0 0x1600
    | .tntA _ =>
      if off = 0x148 then decide (64 ≤ field v 18 0)
      else if off = 0x150 then field v 7 0 != 0
      else if off = 0x160 then decide (field v 10 0 ≤ 1024)
      else true
    | .ent =>
      if off = 0x110 then field v 15 0 != 0
      else if off = 0x114 then fieldIn v 15 0 10 10000
      else true
    | .shf _ => off != 0x104 || (fieldIn v 23 16 1 90 && fieldIn v 11 8 1 8)
    | .zdp =>
      if off = 0x120 then fieldIn v 6 0 1 100
      else if off = 0x124 ∨ off = 0x128 then field v 15 0 != 0
      else true
    | .cny =>
      if 0x110 ≤ off ∧ off ≤ 0x12C then s.mapOk ((off - 0x110) / 4) v
      else if off = 0x134 then fieldIn v 18 16 1 4
      else if off = 0x13C then fieldIn v 25 16 8 1000 && fieldIn v 13 0 100 10000
      else if off = 0x144 then decide (field v 2 0 ≤ 5) && decide (field v 6 4 ≤ 5)
      else true
    | _ => true

/-- The offsets of staged values outside their encodings. -/
def State.fieldFaults (s : State) (staged : List (Nat × Word)) : List Nat :=
  staged.filterMap fun q =>
    match keyPlace q.1 with
    | .page p off => if s.fieldOk p off q.2 then none else some (p.barOffset off)
    | _ => none

/-- A sum over every tenant's administrator register. -/
def State.tenantSum (s : State) (off : Nat) : Nat :=
  (List.range 256).foldl (fun a t => a + (s.reg (.tntA t) off).toNat) 0

/-- Is some unit exclusive to two tenants (R398)? `off` is the register of 32 units or 8. -/
def State.doubled (s : State) (off : Nat) : Bool :=
  ((List.range 256).foldl (fun (acc : Word × Bool) t =>
    let v := s.reg (.tntA t) off
    (acc.1 ||| v, acc.2 || acc.1 &&& v != 0)) (0, false)).2

/-- The units that are exclusive to some tenant. -/
def State.exclusiveUnion (s : State) (off : Nat) : Word :=
  (List.range 256).foldl (fun acc t => acc ||| s.reg (.tntA t) off) 0

/-- The rules over several registers, each with the offsets within a page that it reads; `t` is the state with the
staged values in force. -/
def crossRules (t : State) : List (List Nat × Bool) :=
  [ ([0x148], decide (t.tenantSum 0x148 ≤ 262144)),
    ([0x15C], decide (t.tenantSum 0x15C ≤ t.regField .lod 0x108 12 0)),
    ([0x15C], (List.range 256).all fun k => decide (t.granFixed k ≤ t.share k)),
    ([0x164], !t.doubled 0x164), ([0x168], !t.doubled 0x168), ([0x16C], !t.doubled 0x16C),
    ([0x164, 0x168], t.exclusiveUnion 0x164 != 0xFFFFFFFF || t.exclusiveUnion 0x168 != 0xFFFFFFFF),
    ([0x16C], t.exclusiveUnion 0x16C &&& 0xFF != 0xFF) ]

/-- The lowestOffset of some offsets. -/
def lowestOffset : List Nat → Option Nat
  | [] => none
  | a :: r => match lowestOffset r with | some b => some (Nat.min a b) | none => some a

/-- The staged offsets that a rule reads: the tenants' registers named, and `LOD_SPLIT` with the shares. -/
def readBy (offs : List Nat) (staged : List (Nat × Word)) : List Nat :=
  staged.filterMap fun q =>
    match keyPlace q.1 with
    | .page (.tntA t) off => if offs.contains off then some ((Page.tntA t).barOffset off) else none
    | .page .lod off => if off = 0x108 ∧ offs.contains 0x15C then some (Page.lod.barOffset off) else none
    | _ => none

/-- The offsets that fail validation, device scope and tenant scope alike (a tenant's `TNT_TCFG` cannot fail). -/
def State.faults (s : State) (staged : List (Nat × Word)) : List Nat :=
  let t := s.putRegs staged
  let cross := (crossRules t).filterMap fun r => if r.2 then none else lowestOffset (readBy r.1 staged)
  let pool := if t.matUseAll ≤ t.poolUnits then [] else [Page.lod.barOffset 0x108]
  s.fieldFaults staged ++ cross ++ pool

/-- `TXN_ERRADDR` of a commit of these values; none when they are valid. -/
def State.invalidAt (s : State) (staged : List (Nat × Word)) : Option Nat := lowestOffset (s.faults staged)

/-- Does a commit break the lock of the mapping (R487)? -/
def State.breaksLock (s : State) (staged : List (Nat × Word)) : Bool :=
  staged.any fun q =>
    match keyPlace q.1 with
    | .page .cny off => decide (0x110 ≤ off) && decide (off ≤ 0x12C) && s.lowers ((off - 0x110) / 4) q.2
    | _ => false

end Sys2Proof.Machine
end

