-- ==== Sys2Proof/Machine/ZdpBase.lean ====
section
/-! DEFINITION. A worker's configuration as its manager builds it (R428, R429). -/
namespace Sys2Proof.Machine

/-- A register and its value as the numbers of a message. -/
def pairNums (l : List (Nat × Word)) : List Nat := (l.map fun q => [q.1, q.2.toNat]).flatten

/-! ## A worker's configuration (R428) -/

/-- The overlays that concern a worker: those for all workers first, then its own; later ones win. -/
def overlaysFor (l : List (Nat × Nat × Word)) (d : Nat) : List (Nat × Word) :=
  ((l.filter fun o => o.1 == 256) ++ (l.filter fun o => o.1 == d)).map fun o => (o.2.1, o.2.2)

/-- Every device-scope RWS register in force. -/
def State.fullConfig (s : State) : List (Nat × Word) :=
  (devicePages.map fun p => (rwsOf p).map fun r => (p.key r.1, s.reg p r.1)).flatten

/-- Values with overlays over them. -/
def overlay (base ovl : List (Nat × Word)) : List (Nat × Word) :=
  ovl.foldl (fun m q => Cells.put m q.1 q.2) (base.foldl (fun m q => Cells.put m q.1 q.2) [])

/-- The device-scope part of some staged values: a tenant's own pages stay with their device. -/
def deviceOnly (l : List (Nat × Word)) : List (Nat × Word) := l.filter fun q => decide (q.1 < 0x1000000)

/-- What a PREPARE gives a member: its whole configuration, or only the values that change for it. -/
def State.prepareFor (s : State) (d : Nat) (c : Commit) : List (Nat × Word) :=
  let ovl := overlaysFor (s.zdp.overlays ++ c.overlays) d
  if (s.member d).full then overlay (s.fullConfig ++ deviceOnly c.staged) ovl
  else
    let changed := (deviceOnly c.staged).filter fun q => !ovl.any fun o => o.1 == q.1
    overlay changed (overlaysFor c.overlays d)

end Sys2Proof.Machine
end

