-- ==== Sys2Proof/Machine/Txn.lean ====
section
/-! DEFINITION. Configuration transactions (R46 to R56, R554): staging, the commands of the TXN pages, the steps of a
commit, Headframe's own commits, and rollback. -/
namespace Sys2Proof.Machine

/-! ## Scopes -/

def txnDefault (_ : Nat) : Txn := {}

/-- The number of a scope among the scopes: device scope, then the tenants. -/
def Scope.num : Scope → Nat
  | .device => 0
  | .tenant t => t + 1

def State.txnOf (s : State) (sc : Scope) : Txn := Cells.get txnDefault s.txn.scopes sc.num

def State.setTxn (s : State) (sc : Scope) (x : Txn) : State :=
  { s with txn := { s.txn with scopes := Cells.set txnDefault s.txn.scopes sc.num x } }

/-- The TXN page of a scope (R49). -/
def Scope.page : Scope → Page
  | .device => .txn
  | .tenant t => .ttxn t

/-- The registers a transaction may stage (R48). -/
def Scope.limit : Scope → Nat
  | .device => 4096
  | .tenant _ => 256

/-- Registers staged, remote ones included (R428). -/
def Txn.count (x : Txn) : Nat := x.staged.length + x.overlays.length

/-- Is a commit Headframe's own? -/
def CommitOf.isHeadframe : CommitOf → Bool
  | .headframe _ => true
  | .scope _ => false

/-- Is a commit of Headframe's own between its acceptance and its step 6 (R554)? -/
def State.hfCommitting (s : State) : Bool :=
  (match s.txn.active with | some c => c.of.isHeadframe | none => false) || s.txn.waiting.any fun c => c.of.isHeadframe

/-- Roll a scope's transaction back with a result: staged values are discarded. -/
def State.rollback (s : State) (sc : Scope) (r : TxnResult) : State :=
  let x := s.txnOf sc
  s.setTxn sc { x with phase := .idle, id := 0, result := r, overflow := false, staged := [], overlays := [] }

/-! ## Staging (R47, R48) -/

/-- Stage a value for an RWS register. -/
def State.stage (s : State) (p : Page) (off : Nat) (v : Word) : State :=
  let x := s.txnOf p.scope
  if x.phase ≠ .opened then s.setErr p 1
  else
    let k := p.key off
    if x.staged.any (fun q => q.1 == k) || decide (x.count < p.scope.limit) then
      s.setTxn p.scope { x with staged := Cells.put x.staged k v }
    else s.setTxn p.scope { x with overflow := true }

/-- The mask of a register's RWS fields that a requester may write. -/
def rwsMask (p : Page) (off : Nat) : Word :=
  match regDef p off with
  | some d => BitVec.ofNat 32 d.rws
  | none => 0

/-- Is a register critical (R43)? -/
def critReg (p : Page) (off : Nat) : Bool :=
  match regDef p off with
  | some d => d.crit
  | none => false

/-- RWS_WRITE: a write to an RWS register, behind its gate; a critical one is held for its complement. -/
def State.rwsWrite (s : State) (req : Requester) (p : Page) (off : Nat) (v : Word) : State :=
  if rwsMask p off = 0 then s
  else s.gated req p off fun s =>
    if critReg p off then s.holdPrimary req p off v else s.stage p off (v &&& rwsMask p off)

def execRwsWrite (req : Requester) (page : Page) (off : Nat) (value : Word) (s : State) : Out :=
  .next (s.rwsWrite req page off value)

/-! ## The commands of a TXN page (R49) -/

/-- Is a scope excluded from opening a transaction (R49, R429, R554)? -/
def State.scopeBusy (s : State) (sc : Scope) : Bool :=
  (s.txnOf sc).phase != .idle || s.zdp.prep.isSome || (sc == .device && s.hfCommitting)

/-- TXN_BEGIN. -/
def State.txnBegin (s : State) (req : Requester) (sc : Scope) (v : Word) : State :=
  s.gated req sc.page 0x100 fun s =>
    if !bit v 0 then s
    else
      let x := s.txnOf sc
      if s.scopeBusy sc then s.setTxn sc { x with result := .busy }
      else
        let n := (x.lastId + 1) % 2 ^ 32
        s.setTxn sc { phase := .opened, id := n, lastId := n, errAddr := x.errAddr, openedAt := s.stamp }

def execTxnBegin (req : Requester) (scope : Scope) (value : Word) (s : State) : Out := .next (s.txnBegin req scope value)

/-- A write that names a transaction: ignored with `ERR.ACCESS` while none is open, and with ID_MISMATCH where the
number is another's. -/
def State.withOpen (s : State) (req : Requester) (sc : Scope) (off : Nat) (v : Word) (f : State → State) : State :=
  s.gated req sc.page off fun s =>
    let x := s.txnOf sc
    if x.phase ≠ .opened then s.accessErr sc.page
    else if v.toNat ≠ x.id then s.setTxn sc { x with result := .idMismatch }
    else f s

/-- When an open transaction expires (R51): `TXN_TO` microseconds, at least 100, after the accepted `TXN_BEGIN`. -/
def State.txnExpiry (s : State) (sc : Scope) : Stamp :=
  (s.txnOf sc).openedAt + Nat.max 100 (s.regField sc.page 0x114 23 0) * 1000

/-- TXN_COMMIT (R52 step 1): in the cycle of expiry, or later, the expiry wins (R51); refused on a worker (R56), rolled
back after an overflow (R48), else accepted. -/
def State.txnCommit (s : State) (req : Requester) (sc : Scope) (v : Word) : State :=
  s.withOpen req sc 0x108 v fun s =>
    if s.txnExpiry sc ≤ s.stamp then s.rollback sc .timeout
    else if s.isWorker then s.rollback sc .member
    else if (s.txnOf sc).overflow then s.rollback sc .overflow
    else s.setTxn sc { s.txnOf sc with phase := .committing }

def execTxnCommit (req : Requester) (scope : Scope) (value : Word) (s : State) : Out := .next (s.txnCommit req scope value)

/-- TXN_ABORT. -/
def State.txnAbort (s : State) (req : Requester) (sc : Scope) (v : Word) : State :=
  s.withOpen req sc 0x10C v fun s => s.rollback sc .aborted

def execTxnAbort (req : Requester) (scope : Scope) (value : Word) (s : State) : Out := .next (s.txnAbort req scope value)

/-- TXN_TIMEOUT (R51): an open transaction expires. -/
def State.txnTimeout (s : State) (sc : Scope) : State :=
  if (s.txnOf sc).phase = .opened then (s.advanceTo (s.txnExpiry sc)).rollback sc .timeout else s

def execTxnTimeout (scope : Scope) (s : State) : Out := .next (s.txnTimeout scope)

/-- TXN_EPOCH_READ (R50): the epoch and the digest are latched for the reader. -/
def State.epochRead (s : State) (req : Requester) (sc : Scope) : State :=
  if s.onBus req && req.reaches sc.page then
    s.latch req (sc.page.key 0x118)
      (BitVec.ofNat 32 s.txn.epoch :: BitVec.ofNat 32 (s.txn.epoch / 2 ^ 32) :: digestWords s.txn.digest)
  else s

def execTxnEpochRead (req : Requester) (scope : Scope) (s : State) : Out := .next (s.epochRead req scope)

/-! ## The steps of a commit (R52, R429) -/

/-- A constellation commit sends PREPARE to every member (R429 step 1); with none it goes on at once. -/
def State.startPrepare (s : State) (c : Commit) : State :=
  let ds := s.commitMembers
  if !s.isManager || ds.isEmpty then { s with txn := { s.txn with active := some { c with stage := .awaitQuiesce } } }
  else
    let s := { s with
      txn := { s.txn with active := some { c with stage := .preparing } }
      zdp := { s.zdp with prep := some { waiting := ds, topEpoch := s.txn.epoch, since := s.stamp } } }
    ds.foldl (fun s d => s.send d { kind := .prepare, nums := pairNums (s.prepareFor d c) }) s

/-- The next waiting commit becomes the one in steps 3 to 6. -/
def State.advanceCommits (s : State) : State :=
  match s.txn.active, s.txn.waiting with
  | none, c :: r => { s with txn := { s.txn with waiting := r } }.startPrepare c
  | _, _ => s

/-- A commit's validation has ended well: it waits for its turn. -/
def State.queueCommit (s : State) (c : Commit) : State :=
  { s with txn := { s.txn with waiting := s.txn.waiting ++ [c] } }.advanceCommits

/-- Is a scope's commit past validation? -/
def State.validated (s : State) (sc : Scope) : Bool :=
  (match s.txn.active with | some c => c.of == .scope sc | none => false) ||
    s.txn.waiting.any fun c => c.of == .scope sc

/-- COMMIT_VALIDATION_DONE (R52 step 2). -/
def State.validationDone (s : State) (sc : Scope) : State :=
  let x := s.txnOf sc
  if x.phase ≠ .committing || s.validated sc then s
  else match s.invalidAt x.staged with
    | some a =>
      let s := if s.breaksLock x.staged then s.setErr .cny 16 else s
      let s := s.rollback sc .invalid
      s.setTxn sc { s.txnOf sc with errAddr := a }
    | none => s.queueCommit { of := .scope sc, stage := .awaitQuiesce, staged := x.staged, overlays := x.overlays }

def execCommitValidationDone (scope : Scope) (s : State) : Out := .next (s.validationDone scope)

/-- The page of a register key. -/
def keyPage (k : Nat) : Option Page :=
  match keyPlace k with
  | .page p _ => some p
  | _ => none

/-- The pages of some staged values, each once. -/
def pagesOf (l : List (Nat × Word)) : List Page := (l.filterMap fun q => keyPage q.1).eraseDups

/-- What Headframe's own commits put in force at E: a kernel store's summary (R390), the directory (R36), every summary at
boot (R451), an ownership change (R471, R505). A worker's
outstanding requests come into force with any constellation commit (R419). -/
def State.headframeAtE (s : State) : HfReason → State
  | .kernelEnd n => s.kernelCommit n
  | .directory => s.rewriteDirectory
  | .bootVersions => (s.stopes.map fun (q : Nat × Stope) => q.1).foldl (fun s n => s.kernelCommit n) s
  | .ownership =>
    let s := s.dropOwnerPacks s.lcc.ownKey
    s.logEvent 0x0012 1 deviceTenant Page.lcc.typeCode 0 s.lcc.ownCmd s.stamp s.lcc.ownCount
  | _ => s

/-- COMMIT_QUIESCE (R52 step 3): Tally takes stamp E, which no other commit and no cut-off shares (R20, R54), and pauses
dispatch. -/
def State.commitQuiesce (s : State) : State :=
  match s.txn.active with
  | some c =>
    if c.stage ≠ .awaitQuiesce then s
    else
      let s := s.nextStamp
      let c := { c with
        stage := .applying, stampE := s.stamp, unacked := pagesOf c.staged
        olds := c.staged.map fun q => (q.1, Cells.get regDefault s.regs q.1)
        epoch := if c.supplied then c.epoch else s.txn.epoch + 1 }
      let s := { s with tally := { s.tally with paused := true, epochStamp := s.stamp }, txn := { s.txn with active := some c } }
      let s := match c.of with | .headframe why => s.headframeAtE why | .scope _ => s
      if s.isWorker then
        (s.zdp.requests.take s.zdp.prepared).foldl (fun s why => s.headframeAtE why) s
      else s
  | none => s

/-- What follows when a page's values are in force: evictions for a smaller share (R127, R399), the mapping's copy and floor with the loops' settings, which the backup part uses (R482, R488, R489). -/
def State.pageInForce (s : State) (p : Page) : State :=
  match p with
  | .tntA t => s.evictFor t 0
  | .cny =>
    let classes := (List.range 32).map fun k => s.mapClass k
    { s with cny := { s.cny with
        mapCopy := classes.take 12
        loopCfg := s.reg .cny 0x134, caseCfg := s.reg .cny 0x138, periodCfg := s.reg .cny 0x13C
        floor := if s.cny.locked then (List.range 32).map fun k => Nat.max (nthD s.cny.floor k 0) (nthD classes k 0)
                 else s.cny.floor } }
  | _ => s

/-- A commit that changed `ENT_PERS` passes its value to the central DRBG's next reseed (R256). -/
def State.notePers (s : State) (before : Bytes) : State :=
  if s.persValue = before then s else s.setCentral { s.ent.central with persLater := true }

/-- PAGE_APPLY (R52 step 4): a page puts its staged values in force and acknowledges. -/
def State.pageApply (s : State) (p : Page) : State :=
  match s.txn.active with
  | some c =>
    if c.stage ≠ .applying || !c.unacked.contains p then s
    else
      let mine := c.staged.filter fun q => keyPage q.1 == some p
      let before := s.persValue
      let s := s.putRegs mine
      let s := { s with flips := s.flips.filter fun q => !mine.any fun m => m.1 == q.1 }
      let s := { s with txn := { s.txn with active := some { c with unacked := c.unacked.filter fun u => u != p } } }
      (s.notePers before).pageInForce p
  | none => s

def execPageApply (page : Page) (s : State) : Out := s.clocked (.next (s.pageApply page))

/-- The units whose owner differs between two states (R403). -/
def changedOwners (before s : State) : List Page :=
  ((List.range 64).filterMap fun n => if before.stopeOwner n = s.stopeOwner n then none else some (Page.stp n)) ++
    (List.range 8).filterMap fun n => if before.shaftOwner n = s.shaftOwner n then none else some (Page.shf n)

/-- Does a commit touch the registers of exclusive units? -/
def touchesOwners (c : Commit) : Bool :=
  c.staged.any fun q => match keyPlace q.1 with | .page (.tntA _) off => off == 0x164 || off == 0x168 || off == 0x16C | _ => false

/-- The scope code of a commit's EPOCH record (R505). -/
def CommitOf.code : CommitOf → Nat
  | .scope sc => sc.code
  | .headframe _ => 0

/-- A scope's staged values have become the values in force. -/
def State.clearStaged (s : State) (of : CommitOf) : State :=
  match of with
  | .scope sc => s.setTxn sc { s.txnOf sc with staged := [], overlays := [] }
  | .headframe _ => s

/-- An overlay replaces an earlier one for the same workers and register (R428). -/
def putOverlay (l : List (Nat × Nat × Word)) (o : Nat × Nat × Word) : List (Nat × Nat × Word) :=
  (l.filter fun q => !(q.1 == o.1 && q.2.1 == o.2.1)) ++ [o]

/-- COMMIT_LAST_ACK (R52 step 5): dispatch resumes, the EPOCH record stamped E is logged, and units change hands. -/
def State.commitLastAck (s : State) : State :=
  match s.txn.active with
  | some c =>
    if c.stage ≠ .applying || !c.unacked.isEmpty then s
    else
      let before := s.putRegs c.olds
      let moved := if touchesOwners c then changedOwners before s else []
      let ovl := c.overlays.foldl putOverlay s.zdp.overlays
      let s := { s with
        tally := { s.tally with paused := false }
        zdp := { s.zdp with overlays := ovl }
        txn := { s.txn with active := some { c with stage := .awaitDigest } } }
      let s := ((s.clearStaged c.of).settleDirectory).pageInForce .cny
      let s := match c.of with
        | .scope (.tenant t) => s.logEvent 0x0002 0 t (Page.txn).typeCode t c.of.code c.stampE c.epoch
        | _ => s.logEvent 0x0002 0 deviceTenant (Page.txn).typeCode 0 c.of.code c.stampE c.epoch
      moved.foldl (fun s p => s.startHandover p) s
  | none => s

def execCommitLastAck (s : State) : Out := .next s.commitLastAck

/-- The commit is over: its scope shows COMMITTED with `INTSTS` DONE, or Headframe's request goes on; the next commit
begins. -/
def State.finishCommit (s : State) (c : Commit) : State :=
  let s := { s with txn := { s.txn with active := none }, zdp := { s.zdp with prep := none } }
  let s := match c.of with
    | .scope sc =>
      (s.setTxn sc { s.txnOf sc with phase := .idle, id := 0, result := .committed, staged := [], overlays := [] }).setInt sc.page 16
    | .headframe (.kernelEnd n) => s.kernelPublished n
    | .headframe .bootVersions => { s with rst := { s.rst with bootCommitted := true } }
    | .headframe .ownership => ({ s with lcc := { s.lcc with result := 1, ownCmd := 0 } }).setInt .lcc 17
    | .headframe _ => s
  s.advanceCommits

/-- A device that has committed with a supplied epoch reports its final digest (R429 step 4); its outstanding requests
are done. -/
def State.reportFinal (s : State) (c : Commit) : State :=
  if c.supplied && s.zdp.mstate != mManager then
    let l := s.zdp.requests.take s.zdp.prepared
    let s := l.foldl (fun s why => match why with | .kernelEnd n => s.kernelPublished n | _ => s)
      { s with zdp := { s.zdp with requests := s.zdp.requests.drop s.zdp.prepared, prepared := 0 } }
    s.send 0 { kind := .finalDigest, nums := [s.zdp.devid, s.txn.epoch], data := s.txn.digest }
  else s

/-- A joiner whose constellation commit is done is a member (R419 step 7); a quarantined device is released by a RESYNC,
or, once it has left, by a device-scope commit of its own (R431). -/
def State.joined (s : State) (c : Commit) : State :=
  let s := if s.zdp.quarantined && (if c.supplied then s.zdp.prepFull else c.of == .scope .device) then
      { s with zdp := { s.zdp with quarantined := false } } else s
  if c.supplied && (s.zdp.mstate == mJoining || s.zdp.mstate == mPending) then
    let s := { s with zdp := { s.zdp with mstate := mMember, joinStep := 0, quarantined := false } }
    (s.setInt .zdp 16).logEvent 0x0014 1 deviceTenant 0x0031 0 1 s.stamp s.zdp.devid
  else s

/-- DIGEST_PUBLISH (R52 step 6): the new epoch and digest together. A constellation commit on its manager then awaits
the workers' final digests (R429 step 5). A device-scope commit leaves an owner configuration record to be written
(R450). -/
def State.digestPublish (s : State) : State :=
  match s.txn.active with
  | some c =>
    if c.stage ≠ .awaitDigest then s
    else
      let s := { s with txn := { s.txn with epoch := c.epoch, recordPending := s.txn.recordPending || c.of.code == 0 } }
      let s := { s with txn := { s.txn with digest := s.configDigest } }
      let s := s.reportFinal c
      match s.zdp.prep with
      | some p =>
        if p.waiting.isEmpty then s.finishCommit c
        else { s with txn := { s.txn with active := some { c with stage := .awaitFinals } } }
      | none => (s.finishCommit c).joined c
  | none => s

def execDigestPublish (s : State) : Out := .next s.digestPublish

/-! ## Headframe's own commits (R554) -/

/-- May Headframe start a commit of its own? Only while no tenant-0 device-scope transaction is open or committing. -/
def State.headframeMay (s : State) : Bool := (s.txnOf .device).phase == .idle && !s.hfCommitting

/-- HEADFRAME_COMMIT: the oldest of Headframe's commits starts; on a worker it becomes a request to the manager. -/
def State.headframeCommit (s : State) : State :=
  match s.txn.hfQueue with
  | (why, l) :: r =>
    if !s.headframeMay then s
    else
      let s := { s with txn := { s.txn with hfQueue := r } }
      if s.isWorker then
        { s with zdp := { s.zdp with requests := s.zdp.requests ++ [why] } }.send 0
          { kind := .commitRequest, nums := [s.zdp.devid] }
      else s.queueCommit { of := .headframe why, stage := .awaitQuiesce, staged := l }
  | [] => s

def execHeadframeCommit (s : State) : Out := .next s.headframeCommit

/-! ## Rollback by events (R54, R430) -/

/-- A constellation commit is given up before its COMMIT: ABORT goes to every member it was sent to. -/
def State.abortPrepare (s : State) : State :=
  match s.zdp.prep with
  | some p =>
    if p.sentCommit then s
    else
      let s := { s with zdp := { s.zdp with prep := none } }
      s.commitMembers.foldl (fun s d => s.send d { kind := .abort }) s
  | none => s

/-- Is the commit before its stamp E? -/
def Commit.beforeE (c : Commit) : Bool := c.stage == .preparing || c.stage == .awaitQuiesce

/-- A commit of Headframe's own is run again: after an alarm once dispatch resumes (R54). -/
def State.runAgain (s : State) (r : TxnResult) (q : HfReason × List (Nat × Word)) : State :=
  if r = .alarm then { s with txn := { s.txn with hfAgain := s.txn.hfAgain ++ [q] } }
  else { s with txn := { s.txn with hfQueue := q :: s.txn.hfQueue } }

/-- Take a commit out before E: a scope's rolls back with the result, Headframe's own is run again later. -/
def State.dropCommit (s : State) (c : Commit) (r : TxnResult) : State :=
  match c.of with
  | .scope sc => s.rollback sc r
  | .headframe (.kernelEnd n) =>
    if r = .alarm then s else s.runAgain r (.kernelEnd n, c.staged)
  | .headframe .members =>
    if s.zdp.members.any fun q => q.2.full && (q.2.admitted || q.2.step == 6) then
      s.runAgain r (.members, [])
    else s
  | .headframe why => s.runAgain r (why, c.staged)

/-- Take the active commit out, if it is before E. -/
def State.dropActive (s : State) (r : TxnResult) : State :=
  match s.txn.active with
  | some c =>
    if c.beforeE then ({ s.abortPrepare with txn := { s.txn with active := none } }).dropCommit c r else s
  | none => s

/-- An alarm of class A3 or higher reaches Tally (R54): everything open or before E rolls back with RESULT ALARM. -/
def State.txnAlarm (s : State) : State :=
  let s : State := s.dropActive .alarm
  let l := s.txn.waiting
  let s : State := { s with txn := { s.txn with waiting := [] } }
  let s : State := l.foldl (fun s c => s.dropCommit c .alarm) s
  let late (n : Nat) : Bool := match s.txn.active with
    | some c => (match c.of with | .scope sc => sc.num == n | _ => false)
    | none => false
  let s := if (s.txnOf .device).phase = .prepared then
      s.send 0 { kind := .prepareReply, nums := [s.zdp.devid, 0, s.txn.epoch, 0] }
    else s
  { s with txn := { s.txn with scopes := s.txn.scopes.map fun q =>
      if q.2.phase == .idle || late q.1 then q
      else (q.1, { q.2 with phase := .idle, id := 0, result := .alarm, overflow := false, staged := [], overlays := [] }) } }

/-- A function-level reset meets its scope's transaction (R54): while open or before E it is discarded, and the page
returns to its reset values. -/
def State.txnFlr (s : State) (sc : Scope) : State :=
  let mine (c : Commit) : Bool := c.of == .scope sc
  let late := match s.txn.active with | some c => mine c && !c.beforeE | none => false
  if late then s
  else
    let s := match s.txn.active with
      | some c => if mine c then { s.abortPrepare with txn := { s.txn with active := none } } else s
      | none => s
    let s := { s with txn := { s.txn with waiting := s.txn.waiting.filter fun c => !mine c } }
    (s.setTxn sc {}).advanceCommits

end Sys2Proof.Machine
end

