-- ==== Sys2Proof/Machine/Tenants.lean ====
section
/-! DEFINITION. Function-level resets, the removal of tenants, and the virtual functions (R397, R404 to R408, R444). -/
namespace Sys2Proof.Machine

/-! ## Function-level reset (R404) -/

/-- The pages of a function's own window. -/
def ownPages (t : Nat) : List Page := [.tnt t, .tdgs t, .tent t, .tpmu t, .ttxn t]

/-- Steps 1 to 4: queues disabled, stamp T taken, waiting entries freed without a record, dispatched ones stopped.
`why` is DETAIL0 of the FLR record (R505): 0 FLR, 1 removal, 2 link reset. -/
def State.startFlr (s : State) (t why : Nat) : State :=
  let f := s.fn t
  let s := s.setFn t { f with phase := if why = 1 then .removing else .flr, flrStamp := s.stamp, flrWhy := why }
  let sqs := s.sqs.map fun (q : Nat × Sq) => if q.1 / 64 = t then (q.1, { q.2 with en := false }) else q
  let cqs := s.cqs.map fun (q : Nat × Cq) => if q.1 / 64 = t then (q.1, { q.2 with en := false }) else q
  let s := { s with sqs := sqs, cqs := cqs }
  let s := s.forEntries (s.entriesWhere fun x => x.tenant == t) fun s e =>
    match s.entry e with
    | some x => if x.state = .dispatched then s.stop e .free else s.freeEntry e
    | none => s
  if t = 0 then s.kstFlr else s

/-- FLR: of a function that exists; a second one before the first is over is ignored (R406). -/
def State.flr (s : State) (t why : Nat) : State :=
  let f := s.fn t
  if f.enabled && f.phase == .active then s.startFlr t why else s

def execFlr (t : Nat) (s : State) : Out := s.clocked (.next (if t < 256 ∧ s.cfgReady then s.flr t 0 else s))

/-- The registers of a function's own pages return to their reset values, but for `TNT_TCFG` (R405), and so do the settings
of the samplers it holds (R523). -/
def State.resetPages (s : State) (t : Nat) : State :=
  let keep := s.reg (.tnt t) 0x180
  let mine (k : Nat) : Bool := decide (0x1000000 + t * 0x10000 ≤ k) && decide (k < 0x1000000 + (t + 1) * 0x10000)
  let s := { s with
    regs := s.regs.filter fun q => !mine q.1
    prims := s.prims.filter fun x => !(ownPages t).contains x.page
    latches := s.latches.filter fun x => !mine x.key
    flips := s.flips.filter fun q => !mine q.1
    samplers := s.samplers.map fun (q : Nat × Sampler) =>
      if t ≠ 0 ∧ s.serves q.1 t then (q.1, { q.2 with cfg := 0x10, active := false }) else q }
  s.setReg (.tnt t) 0x180 keep

/-- The transactions an FLR discards: the tenant's own, and device scope with the physical function (R404, R406). -/
def State.flrTxns (s : State) (t : Nat) : State :=
  let s := s.txnFlr (.tenant t)
  if t = 0 then s.txnFlr .device else s

/-- Steps 5 and 6: contexts, the data buffer, an open transaction and the counters are cleared, the registers are at
their reset values, the function is active again, and the FLR is counted and recorded. -/
def State.flrClear (s : State) (t : Nat) : State :=
  let f := s.fn t
  let s := { s with
    ctxs := s.ctxs.filter fun q => q.1 / 1024 != t
    dgs := { s.dgs with cores := s.dgs.cores.filter fun p => p.2 / 1024 != t, lastCtx := Cells.erase s.dgs.lastCtx t }
    sqs := s.sqs.filter fun q => q.1 / 64 != t
    cqs := s.cqs.filter fun q => q.1 / 64 != t
    ent := { s.ent with queue := s.ent.queue.filter fun r => r.use != DrbgUse.refill t } }
  let s := (s.flrTxns t).resetPages t
  let n := satAdd 0xFFFF f.flrCount 1
  let s := s.setFn t { enabled := f.enabled, phase := if f.enabled then .active else .absent, sent := f.sent, flrCount := n
                       flrStamp := f.flrStamp, flrWhy := f.flrWhy, removeNext := f.removeNext, credit := f.credit
                       shaftCredit := f.shaftCredit, aer := f.aer }
  let s := (s.setInt (.tnt t) 18).setInt (.tntA t) 18
  s.logEvent 0x0010 0 t 0x0024 t f.flrWhy f.flrStamp (n * 65536)

/-- A removal destroys every key of the tenant at one stamp D (R407). -/
def State.removeKeys (s : State) (t : Nat) : State :=
  let s := s.setFn t { s.fn t with phase := .removing, removeWait := true, removeNext := false }
  let s := s.destroyAll (s.objectsWhere fun o => o.tenant == t && o.cacheOf.isNone) 1 none true
  s.removalCheck t

/-- FLR_COMPLETE: every operation of the function has stopped. -/
def State.flrComplete (s : State) (t : Nat) : State :=
  let f := s.fn t
  if (f.phase == .flr || (f.phase == .removing && !f.removeWait)) && s.tallyUse t == 0 then
    let s := s.flrClear t
    if f.phase = .removing then s.removeKeys t
    else if f.removeNext then (s.setFn t { s.fn t with removeNext := false }).startFlr t 1
    else s
  else s

def execFlrComplete (t : Nat) (s : State) : Out := s.clocked (.next (if t < 256 then s.flrComplete t else s))

/-! ## Removal (R407) -/

/-- The effect of `TNT_ADM`: REMOVE; a write to tenant 0's is ignored with `ERR.ACCESS`; one during an FLR waits for its
end (R406). -/
def State.tenantAdm (s : State) (t : Nat) (v : Word) : State :=
  if t = 0 then s.accessErr (.tntA 0)
  else if !bit v 0 then s
  else
    let f := s.fn t
    match f.phase with
    | .flr => s.setFn t { f with removeNext := true }
    | .removing => s
    | _ => s.startFlr t 1

def execTntRemove (req : Requester) (t : Nat) (value compl : Word) (s : State) : Out :=
  .next (if t < 256 then s.critical req (.tntA t) 0x144 value compl fun s v => s.tenantAdm t v else s)

/-! ## Virtual functions (R397) -/

/-- VF_ENABLE: functions 1 to `num` exist. -/
def State.enableVfs (s : State) (num : Nat) : State :=
  (List.range num).foldl (fun s k =>
    let f := s.fn (k + 1)
    s.setFn (k + 1) { f with enabled := true, phase := if f.phase = .absent then .active else f.phase }) s

/-- The limit on TotalVFs: 255, or what the owner's options set (R60, R441). -/
def State.vfLimit (s : State) : Nat := match s.rst.options with | some o => Nat.min 255 o.vfLimit | none => 255

def execVfEnable (num : Nat) (s : State) : Out :=
  s.clocked (.next (if s.cfgReady && decide (num ≤ s.vfLimit) then s.enableVfs num else s))

/-- VF_DISABLE: each enabled virtual function is reset as by an FLR, and is gone. -/
def State.disableVfs (s : State) (why : Nat) : State :=
  ((s.fns.map fun p => p.1).filter fun t => t != 0 && (s.fn t).enabled).foldl (fun s t =>
    let s := s.flr t why
    s.setFn t { s.fn t with enabled := false }) s

def execVfDisable (s : State) : Out := s.clocked (.next (if s.cfgReady then s.disableVfs 0 else s))

/-- LINK_RESET (R444): a reset of D7 alone acts as an FLR of every function and disables every virtual function. -/
def State.linkReset (s : State) : State := (s.disableVfs 2).flr 0 2

end Sys2Proof.Machine
end

