-- ==== Sys2Proof/Machine/ZdpLinks.lean ====
section
/-! DEFINITION. The Zedaup links (R409 to R418): training, keys, FEC blocks, credit, replay, heartbeats and time, the
roles links take, and the loss of a partner (R425, R426). -/
namespace Sys2Proof.Machine

/-! ## Events and records -/

/-- A ZEDAUP record (R505). -/
def State.zdpRecord (s : State) (cls what d : Nat) : State := s.logEvent 0x0014 cls deviceTenant 0x0031 0 what s.stamp d

/-- `ZDP_HOLD_TO` in nanoseconds. -/
def State.holdNs (s : State) : Nat := s.regField .zdp 0x12C 15 0 * 1000000

/-- The limit of a join step and of KEYING: the page's `TO`, 100 ms for a VALUE of 0 (R419, R433). -/
def State.joinNs (s : State) : Nat := s.timeoutNs .zdp 100000000

/-- A link leaves UP (`ERR.LINK`). -/
def State.leftUp (s : State) (l : Nat) : State := if (s.link l).lstate = 5 then s.setErr .zdp 16 else s

/-- A link goes to a training state. -/
def State.toLState (s : State) (l n : Nat) : State :=
  let s := if n = 5 then s else s.leftUp l
  s.setLink l { s.link l with lstate := n, since := s.stamp }

/-- A link goes DOWN: what it carried is gone, and it is keyed anew (R414, R413). -/
def State.linkDown (s : State) (l : Nat) : State :=
  let s := s.leftUp l
  let x := s.link l
  s.setLink l { lanes := x.lanes, lrole := x.lrole, corr := x.corr, uncorr := x.uncorr, replays := x.replays, peer := x.peer
                peerRole := x.peerRole, peerState := x.peerState, beatAt := x.beatAt, lost := x.lost, since := s.stamp }

/-! ## Training (R414) -/

/-- Is the port released: D8 (R409, R437)? -/
def State.zdpUp (s : State) : Bool := s.released 8

/-- Signal on a link's lanes: on all four it goes to EQUALISE, on some it is in DETECT, on none it is DOWN. -/
def State.linkSignal (s : State) (l lanes : Nat) : State :=
  if 4 ≤ l || !s.zdpUp || s.zdp.deadLinks.contains l then s
  else
    let s := s.setLink l { s.link l with lanes := lanes % 16 }
    let x := s.link l
    if lanes % 16 = 0 then (if x.lstate = 0 then s else s.linkDown l)
    else if 2 ≤ x.lstate then s
    else s.toLState l (if lanes % 16 = 15 then 2 else 1)

def execLinkSignalDetect (l lanes : Nat) (s : State) : Out := s.clocked (.next (s.linkSignal l lanes))

/-- A link in one state goes on to another. -/
def State.linkStep (s : State) (l a b : Nat) : State := if l < 4 ∧ (s.link l).lstate = a then s.toLState l b else s

def execLinkEqualiseDone (l : Nat) (s : State) : Out := s.clocked (.next (s.linkStep l 2 3))

/-- The messages of a link go out as its state and credit allow. -/
def State.flushLink (s : State) (l : Nat) : State := s.setLink l (s.link l).flush

/-- Replay: every unacknowledged flit goes again; one replayed eight times sends the link to RETRAIN (R412). -/
def State.replay (s : State) (l : Nat) : State :=
  let x := s.link l
  if x.lstate ≠ 5 || x.unacked.isEmpty then s
  else
    let s := s.setLink l { x with tries := x.tries + 1, replays := satAdd 0xFFFF x.replays 1 }
    if x.tries + 1 < 8 then s
    else
      let s := s.toLState l 6
      s.setLink l { s.link l with tries := 0 }

/-- ALIGN ends: KEYING, or, in RETRAIN, UP again with the keys kept. -/
def State.linkAligned (s : State) (l : Nat) : State :=
  if (s.link l).lstate = 6 then ((s.linkStep l 6 5).flushLink l).replay l else s.linkStep l 3 4

def execLinkAlignDone (l : Nat) (s : State) : Out := s.clocked (.next (s.linkAligned l))

/-- The limit of a training state, in ns. A failed handshake stays in KEYING until its retry (R413). -/
def State.linkLimit (s : State) (l : Nat) : Option Nat :=
  let x := s.link l
  match x.lstate with
  | 1 => some 1000000
  | 2 => some 20000000
  | 3 => some 100000
  | 4 => if x.failedAt.isSome then none else some s.joinNs
  | 6 => some 25000000
  | _ => none

/-- LINK_STATE_TIMEOUT. The limit of KEYING is the page's `TO` (R414), and its expiry sets `ERR.TIMEOUT` (R41). -/
def State.linkTimeout (s : State) (l : Nat) : State :=
  match s.linkLimit l with
  | some n =>
    if l < 4 then
      let keying := (s.link l).lstate == 4
      let s := s.advanceTo ((s.link l).since + n)
      (if keying then s.setErr .zdp 5 else s).linkDown l
    else s
  | none => s

def execLinkStateTimeout (l : Nat) (s : State) : Out := s.clocked (.next (s.linkTimeout l))

/-! ## Keys (R413) -/

/-- KMAC256 with a customisation string. -/
def kmacOf (n : Nat) (key msg : Bytes) (custom : String) : Bytes := fit n (Config.prim (.kmac 2 false n) [key, msg, ascii custom])

/-- The handshake of a link ends: keyed, and UP; or it fails and stays in KEYING. -/
def State.linkHandshake (s : State) (l : Nat) (good : Bool) (secret transcript : Bytes) : State :=
  if 4 ≤ l || (s.link l).lstate != 4 then s
  else if good then
    let k := kmacOf 64 secret (sha3 transcript) "FV zedaup link"
    let x := s.link l
    let x := { x with keyed := true, keyDown := k.take 32, keyUp := k.drop 32, sent := 0, received := 0, rekeyDown := 0
                      rekeyUp := 0, failedAt := none, tries := 0, unacked := [], credit := [256, 256, 256] }
    ((s.setLink l x).toLState l 5).flushLink l
  else (s.setLink l { s.link l with failedAt := some s.stamp }).setErr .zdp 19

/-- HANDSHAKE_RETRY. -/
def State.handshakeRetry (s : State) (l : Nat) : State :=
  match (s.link l).failedAt with
  | some t =>
    if l < 4 ∧ (s.link l).lstate = 4 then
      let s := s.advanceTo (t + 1000000000)
      s.setLink l { s.link l with failedAt := none, since := s.stamp }
    else s
  | none => s

def execHandshakeRetry (l : Nat) (s : State) : Out := s.clocked (.next (s.handshakeRetry l))

/-- The flits a link carried in a direction: a device's own link towards the manager is its upstream one. -/
def Link.carried (x : Link) (down : Bool) : Nat := if (x.lrole = 1) = (down = true) then x.received else x.sent

/-- LINK_REKEY: after 2^31 flits under a key. -/
def State.linkRekey (s : State) (l : Nat) (down : Bool) : State :=
  let x := s.link l
  let n := x.carried down
  let next (k : Bytes) : Bytes := kmacOf 32 k [] "FV zedaup rekey"
  if 4 ≤ l || !x.keyed then s
  else if down then
    if x.rekeyDown + 2 ^ 31 ≤ n then s.setLink l { x with keyDown := next x.keyDown, rekeyDown := x.rekeyDown + 2 ^ 31 } else s
  else if x.rekeyUp + 2 ^ 31 ≤ n then s.setLink l { x with keyUp := next x.keyUp, rekeyUp := x.rekeyUp + 2 ^ 31 }
  else s

def execLinkRekey (l : Nat) (down : Bool) (s : State) : Out := s.clocked (.next (s.linkRekey l down))

/-! ## Blocks, credit and replay (R410, R412) -/

/-- Drop the messages whose last flit is acknowledged. -/
def ackUpTo : Nat → Nat → List Msg → List Msg
  | _, _, [] => []
  | base, ack, m :: r => if base + m.flits ≤ ack then ackUpTo (base + m.flits) ack r else m :: r

/-- Take an acknowledgement of the first `ack` flits that the link ever sent. -/
def Link.acked (x : Link) (ack : Nat) : Link :=
  let out : Nat := (x.unacked.map fun (m : Msg) => m.flits).foldl (· + ·) 0
  let left := ackUpTo (x.sent - out) ack x.unacked
  { x with unacked := left, tries := if left.length < x.unacked.length then 0 else x.tries }

/-- FEC_BLOCK: `corr` codewords were corrected, `uncorr` could not be; an uncorrectable one discards the block. -/
def State.fecBlock (s : State) (l corr uncorr ack : Nat) : State :=
  let x := s.link l
  if 4 ≤ l || x.lstate < 4 then s
  else
    let x := { x with corr := satAdd 0xFFFF x.corr corr, uncorr := satAdd 0xFFFF x.uncorr uncorr }
    if uncorr ≠ 0 then (s.setLink l x).setErr .zdp 17
    else s.setLink l ({ x with received := x.received + 10 }.acked ack).flush

def execFecBlock (l corr uncorr ack : Nat) (s : State) : Out := s.clocked (.next (s.fecBlock l corr uncorr ack))

/-- REPLAY_TIMEOUT. -/
def execReplayTimeout (l : Nat) (s : State) : Out := s.clocked (.next (if l < 4 then s.replay l else s))

/-- Credits return, at most 256 per VC. -/
def Link.credited (x : Link) (vc n : Nat) : Link :=
  { x with credit := setAt x.credit vc (Nat.min 256 (nthD x.credit vc 0 + n)) }

/-- CREDIT. -/
def State.creditFlit (s : State) (l vc n : Nat) : State :=
  if l < 4 ∧ (s.link l).lstate = 5 then s.setLink l ((s.link l).credited vc n).flush else s

def execZdpCredit (l vc n : Nat) (s : State) : Out := s.clocked (.next (s.creditFlit l vc n))

/-! ## Losing a member (R425) -/

/-- Is an operation replayable (R420)? -/
def replayable (d : Desc) (persist : Bool) : Bool := d.kind != some .stfSign && !persist

/-- Does an entry make a persistent key (R420)? -/
def Entry.makesPersistent (x : Entry) : Bool := match x.resv with | some r => r.persist | none => false

/-- The entries that run on worker `d`. -/
def State.onWorker (s : State) (d : Nat) : List Nat :=
  s.entriesWhere fun x => x.state == .dispatched && x.target == .worker d

/-- Return an entry to QUEUED, to be dispatched anywhere but worker `d`. -/
def State.requeueFrom (s : State) (e d : Nat) : State :=
  (s.requeue e).modEntry e fun x => { x with avoid := withOne x.avoid d }

/-- The sub-ranges granted to a device are spent: they are never granted again (R196). -/
def State.spendGrants (s : State) (d : Nat) : State :=
  { s with lode := { s.lode with objs := s.lode.objs.map fun (p : Nat × Obj) =>
      match p.2.stf with
      | some f => (p.1, { p.2 with stf := some { f with grants := f.grants.filter (fun g => g.1 != d)
                                                        wanted := f.wanted.filter fun g => g.1 != d } })
      | none => p } }

/-- A constellation commit loses a device: before COMMIT it is given up, after it the commit stands (R430). -/
def State.prepareLost (s : State) (d : Nat) : State :=
  match s.zdp.prep with
  | some p =>
    if !p.waiting.contains d then s
    else if !p.sentCommit then (s.dropActive .prepareFailed).advanceCommits
    else
      let p := { p with waiting := without p.waiting d }
      let s := { s with zdp := { s.zdp with prep := some p } }
      match s.txn.active with
      | some c => if p.waiting.isEmpty && c.stage == .awaitFinals then s.finishCommit c else s
      | none => s
  | none => s

/-- The joiner is refused (R419): its record, `ERR.JOIN_REFUSED`, and it is no member. -/
def State.refuseJoin (s : State) (d : Nat) : State :=
  let s := s.send d { kind := .refused, nums := [d] }
  ((s.setMember d {}).setErr .zdp 19).zdpRecord 2 3 d

/-- Member `d` is lost at stamp L (R425). -/
def State.loseMember (s : State) (d : Nat) : State :=
  let m := s.member d
  if m.mstate = 1 || m.mstate = 2 then (s.refuseJoin d).prepareLost d
  else if !m.admitted then s
  else
    let z := s.zdp
    let s := { s with zdp := { z with lost := satAdd 0xFFFF z.lost 1 } }
    let s := s.setMember d { m with mstate := 5, step := 0, lostAt := some s.stamp, full := true, polls := 0, sync := false }
    let s := s.forEntries (s.onWorker d) fun s e =>
      match s.entry e with
      | some x => if replayable x.desc x.makesPersistent then s.requeueFrom e d else s.setEntry e { x with lostAt := some s.stamp }
      | none => s
    let s := ((s.spendGrants d).setInt .zdp 16).setErr .zdp 20
    (s.zdpRecord 2 2 d).prepareLost d

/-- Lose every member that satisfies a condition, at one stamp L. -/
def State.loseMembers (s : State) (p : Member → Bool) : State :=
  ((s.zdp.members.filter fun q => p q.2).map fun q => q.1).foldl (fun s d => s.loseMember d) s

/-- The hold of lost member `d` ends (R424 to R426): what it still held completes with PARTNER_LOST, and it is absent. -/
def State.endHold (s : State) (d : Nat) : State :=
  let s := s.forEntries (s.onWorker d) fun s e => s.finish e .partnerLost
  let waits := (s.zdp.purges.filter fun q => q.1 == d).filterMap fun q => q.2.2
  let s := { s with zdp := { s.zdp with purges := s.zdp.purges.filter fun q => q.1 != d } }
  let s := s.forEntries waits.eraseDups fun s e =>
    { s with lode := { s.lode with holders := s.lode.holders.filter fun p => p.1 != e } }.finish e .partnerLost
  s.setMember d {}

/-! ## Losing the manager (R426) -/

/-- The worker leaves its constellation: the transport key and every cached key are destroyed (R218), held RESULTs are
dropped, and Headframe's outstanding requests are its own again. -/
def State.leaveConstellation (s : State) : State :=
  let s := s.destroyAll (s.objectsWhere fun o => o.cacheOf.isSome) 0 none false
  let l := s.zdp.requests.map fun w => (w, ([] : List (Nat × Word)))
  let s := if s.zdp.uplink < 4 then s.setLink s.zdp.uplink { s.link s.zdp.uplink with lrole := 0 } else s
  { s with
    txn := { s.txn with hfQueue := s.txn.hfQueue ++ l }
    zdp := { s.zdp with
      mstate := if s.role = 1 then mSeeking else 0, devid := 0, uplink := 15, joinStep := 0, session := false, sessionKey := [], sync := false
      overAt := none, lostManager := none, transportKey := none, results := [], requests := [], offset := 0
      stepped := false, refusedAt := none } }

/-- A prepared transaction rolls back with PREPARE_FAILED. -/
def State.dropPrepared (s : State) : State :=
  if (s.txnOf .device).phase = .prepared then s.rollback .device .prepareFailed else s

/-- The worker loses its manager at stamp M (R426, R196); with no hold it leaves at once. -/
def State.loseManager (s : State) (hold : Nat) : State :=
  if s.zdp.lostManager.isSome then s
  else if s.zdp.mstate = mJoining ∨ s.zdp.mstate = mPending then s.dropPrepared.leaveConstellation
  else if s.zdp.mstate ≠ mMember then s
  else
    let objs := s.lode.objs.map fun (p : Nat × Obj) =>
      match p.2.cacheOf, p.2.stf with
      | some _, some f => (p.1, { p.2 with stf := some { f with withdrawn := true } })
      | _, _ => p
    let s := { s with lode := { s.lode with objs := objs }, zdp := { s.zdp with lostManager := some s.stamp, sync := false } }
    let s := ((s.setInt .zdp 19).zdpRecord 2 4 s.zdp.devid).dropPrepared
    if hold = 0 then s.leaveConstellation else s

/-- The partner of a link is lost (R415): its members on the manager, the manager on a worker. -/
def State.losePartner (s : State) (l : Nat) : State :=
  let x := s.link l
  let s := s.setLink l { x with lost := true, lrole := if x.lrole = 4 then 4 else 0 }
  if s.isManager then s.loseMembers fun m => m.via == l && m.mstate != 0
  else if s.zdp.uplink = l then s.loseManager s.holdNs
  else s

/-- RETRAIN_TIMEOUT: a RETRAIN of more than 100 µs. -/
def State.retrainTimeout (s : State) (l : Nat) : State :=
  if l < 4 ∧ (s.link l).lstate = 6 ∧ !(s.link l).lost then (s.advanceTo ((s.link l).since + 100000)).losePartner l else s

def execRetrainTimeout (l : Nat) (s : State) : Out := s.clocked (.next (s.retrainTimeout l))

/-- HEARTBEAT_TIMEOUT: five periods of 20 µs without a heartbeat. -/
def State.beatTimeout (s : State) (l : Nat) : State :=
  let x := s.link l
  if l < 4 ∧ x.beatAt ≠ 0 ∧ !x.lost then (s.advanceTo (x.beatAt + 100000)).losePartner l else s

def execHeartbeatTimeout (l : Nat) (s : State) : Out := s.clocked (.next (s.beatTimeout l))

/-! ## Roles of links (R417, R418) -/

/-- Does some other link lead down to this device? -/
def State.below (s : State) (l d : Nat) : Bool :=
  (List.range 4).any fun k => k != l && (s.link k).lrole == 2 && (s.link k).peer == d && d != 0

/-- The role of a link whose partner sent a heartbeat. -/
def State.linkRole (s : State) (l : Nat) (b : Beat) : Nat :=
  let offers := b.role == 2 || (b.role == 1 && b.mstate == mMember && b.mgrOk)
  if s.role = 0 || b.role = 0 then 0
  else if s.role = 2 then
    if b.role = 2 then 4
    else if b.mstate = mMember && b.dev != 0 && (s.member b.dev).mstate != 0 && (s.member b.dev).hops == 1 &&
        (s.member b.dev).via != l then 3
    else if s.below l b.dev then 4
    else 2
  else if s.zdp.uplink = l then 1
  else if (s.link l).lrole = 2 then 2
  else if s.below l b.dev then 4
  else if offers then 3
  else if s.zdp.mstate = mMember && (b.mstate == mSeeking || b.mstate == mJoining) then 2
  else 0

/-- The next step of a join begins now. -/
def State.joinStep (s : State) (n : Nat) : State :=
  { s with zdp := { s.zdp with joinStep := n, joinAt := s.stamp } }

/-- A SEEKING worker takes the first offer as its upstream and joins (R417, R419 step 1). -/
def State.takeOffer (s : State) (l : Nat) (b : Beat) : State :=
  let offers := b.role == 2 || (b.role == 1 && b.mstate == mMember && b.mgrOk)
  if s.role = 1 && s.zdp.mstate = mSeeking && offers && s.zdp.refusedAt.isNone && !s.below l b.dev then
    let s := { s with zdp := { s.zdp with mstate := mJoining, uplink := l, stepped := false } }
    (s.joinStep 1).send 0 { kind := .attestation }
  else s

/-! ## Time (R416) -/

/-- The measured offset from the manager: local minus upstream from the four stamps, plus the upstream's own. -/
def State.measuredOffset (s : State) (b : Beat) : Word :=
  let d : Int := ((b.echoTx : Int) - b.echoRx) + ((s.stamp : Int) - b.tx)
  BitVec.ofInt 32 (d / 2) + b.offset

/-- Is an offset within ±100 ns? -/
def inSync (v : Word) : Bool := decide (v.toInt ≤ 100) && decide (-100 ≤ v.toInt)

/-- A worker takes a measured offset: at join it steps forward once where it is more than 1 µs behind; it leaves sync
when the offset first exceeds 100 ns, and comes back after 10 ms. -/
def State.follow (s : State) (v : Word) : State :=
  let z := s.zdp
  if !z.stepped && v.toInt < -1000 then
    let d := (-v.toInt).toNat
    { s with stamp := s.stamp + d, edge := s.edge + d, zdp := { z with stepped := true, offset := 0, sync := true } }
  else if inSync v then
    let held := match z.overAt with | some t => decide (s.stamp < t + 10000000) | none => false
    { s with zdp := { z with stepped := true, offset := v, sync := !held, overAt := if held then z.overAt else none } }
  else
    let s := if z.sync then s.setErr .zdp 18 else s
    { s with zdp := { s.zdp with stepped := true, offset := v, sync := false
                                 overAt := if z.sync then some s.stamp else z.overAt } }

/-- SYNC_HOLDOFF. -/
def State.syncHoldoff (s : State) : State :=
  match s.zdp.overAt with
  | some t =>
    let s := s.advanceTo (t + 10000000)
    { s with zdp := { s.zdp with overAt := none, sync := inSync s.zdp.offset } }
  | none => s

def execSyncHoldoff (s : State) : Out := s.clocked (.next s.syncHoldoff)

/-! ## Heartbeats (R415) -/

/-- A joiner in sync is ready for its configuration (R419 steps 5 and 6). -/
def State.joinSynced (s : State) (d : Nat) : State :=
  let m := s.member d
  if m.mstate = 1 && m.step = 5 && m.sync then
    let s := s.setMember d { m with step := 6, stepAt := s.stamp, full := true }
    if s.txn.hfQueue.any fun q => q.1 == .members then s
    else { s with txn := { s.txn with hfQueue := s.txn.hfQueue ++ [(.members, [])] } }
  else s

/-- What a heartbeat or a poll reply says of a member's health (R421). -/
def State.memberHealth (s : State) (d free alarm : Nat) (sync : Bool) : State :=
  (s.setMember d { s.member d with free := free, alarm := alarm, sync := sync }).joinSynced d

/-- HEARTBEAT. -/
def State.heartbeat (s : State) (l : Nat) (b : Beat) : State :=
  if 4 ≤ l || (s.link l).lstate != 5 then s
  else
    let s := s.setLink l { s.link l with lrole := s.linkRole l b }
    let s := s.takeOffer l b
    let x := s.link l
    let x := { x with
      lrole := if s.zdp.uplink = l then 1 else x.lrole, peer := b.dev, peerRole := b.role, peerState := b.mstate
      beatAt := s.stamp, echo := b.tx, mgrOk := b.mgrOk, lost := false }
    let x := ((x.credited 0 (nthD b.credits 0 0)).credited 1 (nthD b.credits 1 0)).credited 2 (nthD b.credits 2 0)
    let s := s.setLink l x.flush
    if s.isManager then
      if b.dev ≠ 0 ∧ (s.member b.dev).mstate ≠ 0 ∧ (s.member b.dev).via = l then s.memberHealth b.dev b.free b.alarm b.sync
      else s
    else if s.zdp.uplink = l then
      let s := s.follow (s.measuredOffset b)
      if b.mgrOk || b.role = 2 then s else s.loseManager s.holdNs
    else s

def execHeartbeat (l : Nat) (beat : Beat) (s : State) : Out := s.clocked (.next (s.heartbeat l beat))

/-- The alarm class in force (R487). -/
def State.alarmClass (s : State) : Nat := s.cny.inForce.foldl (fun a (p : Nat × Nat) => Nat.max a p.2) 0

/-- The free share of tenant 0's Tally quota, in per cent. -/
def State.freeShare (s : State) : Nat :=
  let q := s.regField (.tntA 0) 0x148 18 0
  (q - s.tallyUse 0) * 100 / Nat.max 1 q

/-- MGR_OK: the manager itself, or a worker that reaches it. -/
def State.mgrOk (s : State) : Bool := s.isManager || (s.isWorker && s.zdp.lostManager.isNone)

/-- HEARTBEAT_SEND. -/
def State.heartbeatSend (s : State) (l : Nat) : State :=
  let x := s.link l
  if 4 ≤ l || x.lstate != 5 then s
  else s.sendOn l { kind := .heartbeat, nums := [s.zdp.devid, s.role, s.zdp.mstate, s.alarmClass, b2n s.mgrOk, s.freeShare,
    b2n s.zdp.sync, s.stamp, x.echo, x.beatAt, s.zdp.offset.toNat] }

def execHeartbeatSend (l : Nat) (s : State) : Out := s.clocked (.next (s.heartbeatSend l))

end Sys2Proof.Machine
end

