-- ==== Sys2Proof/Machine/Zedaup.lean ====
section
/-! DEFINITION. The constellation: roles (R417), joining (R418, R419), the manager's commands (R431, R432), what is
staged for workers (R428), the constellation commit (R429, R430), polls and quarantine (R431), resuming and the end of
a hold (R426, R427). -/
namespace Sys2Proof.Machine

/-! ## Roles (R417) -/

/-- The manager draws the constellation's transport key at class 2 (R423). -/
def State.drawTransport (s : State) : State :=
  match s.drawCentral 2 32 with
  | (s, some k) => { s with zdp := { s.zdp with transportKey := some k } }
  | (s, none) => s

/-- The manager's constellation is over: DISSOLVE to every member, whose work and purges end at once, and the transport
key is destroyed (R432, R218). -/
def State.dissolve (s : State) : State :=
  let ds := (s.zdp.members.filter fun q => q.2.mstate != 0).map fun q => q.1
  let s := ds.foldl (fun s d => s.send d { kind := .dissolve }) s
  let s := ds.foldl (fun s d => (s.loseMember d).endHold d) s
  { s with zdp := { s.zdp with transportKey := none } }

/-- A device takes up its role: STANDALONE, SEEKING worker, or manager. -/
def State.takeRole (s : State) (r : Nat) : State :=
  let s := { s with zdp := { s.zdp with mstate := match r with | 1 => mSeeking | 2 => mManager | _ => 0, devid := 0, uplink := 15 } }
  if r = 2 then s.drawTransport else s

/-- A device gives its constellation up, by `LEAVE` or by a new role: a worker leaves with no hold, a manager dissolves. -/
def State.giveUp (s : State) : State :=
  if s.isManager then s.dissolve
  else if s.zdp.mstate = mMember then s.loseManager 0
  else if s.zdp.mstate = mJoining ∨ s.zdp.mstate = mPending then s.dropPrepared.leaveConstellation
  else s

/-- The effect of `ZDP_CTL`: LEAVE, AUTOADMIT and ROLE; the reserved role is ignored with `ERR.ACCESS`. -/
def State.zdpCtl (s : State) (v : Word) : State :=
  let old := s.role
  let s := if field v 1 0 = 3 then s.accessErr .zdp else s
  let r := if field v 1 0 = 3 then old else field v 1 0
  let s := if bit v 3 || r != old then s.giveUp else s
  let s := s.setReg .zdp 0x104 (BitVec.ofNat 32 (b2n (bit v 2) * 4 + r))
  if r ≠ old then s.takeRole r
  else if bit v 3 && s.isManager then s.drawTransport
  else s

def execZdpLeave (req : Requester) (value compl : Word) (s : State) : Out :=
  s.clocked (.next (s.critical req .zdp 0x104 value compl State.zdpCtl))
def execRoleWrite (req : Requester) (value compl : Word) (s : State) : Out :=
  s.clocked (.next (s.critical req .zdp 0x104 value compl State.zdpCtl))

/-! ## Joining (R418, R419) -/

/-- A firmware measurement that the manager accepts: its own, or the one in `ZDP_ALLOW`. -/
def State.allowedFirmware (s : State) (m : Bytes) : Bool :=
  m == s.rst.fwDigest || m == ((List.range 8).map fun i => leBytes 4 (s.reg .zdp (0x190 + 4 * i)).toNat).flatten

/-- The device ID for an identity: the one it held last, if free, else the lowest free one. -/
def State.idFor (s : State) (identity : Bytes) : Option Nat :=
  let isFree (d : Nat) : Bool := (s.member d).mstate == 0
  match s.zdp.ids.find? fun p => p.1 == identity && isFree p.2 with
  | some p => some p.2
  | none => ((List.range 255).map (· + 1)).find? isFree

/-- JOIN_ATTESTATION: steps 1 and 2 on the manager. -/
def State.joinAttest (s : State) (l : Nat) (a : Attest) : State :=
  if !s.isManager || 4 ≤ l || (s.link l).lstate != 5 || (s.link l).lrole != 2 then s
  else
    let ok := a.signed && a.lifecycle == 2 && a.ownerKey == s.lcc.ownKey && s.allowedFirmware a.measurement && decide (a.hops ≤ 5)
    match (if ok then s.idFor a.identity else none) with
    | none => (s.setErr .zdp 19).zdpRecord 2 3 0
    | some d =>
      let ids := (s.zdp.ids.filter fun p => p.1 != a.identity && p.2 != d) ++ [(a.identity, d)]
      { s with zdp := { s.zdp with ids := ids } }.setMember d
        { mstate := 1, step := 3, stepAt := s.stamp, identity := a.identity, hops := a.hops, via := l, kernels := a.kernels
          full := true }

def execJoinAttestation (l : Nat) (from_ : Attest) (s : State) : Out := s.clocked (.next (s.joinAttest l from_))

/-- A member's next join step begins. -/
def State.memberStep (s : State) (d n : Nat) : State :=
  (s.setMember d { s.member d with step := n, stepAt := s.stamp }).joinSynced d

/-- The joiner is refused, on its own side (R419): it seeks again after 1 s. -/
def State.joinRefused (s : State) : State :=
  let s := (s.setErr .zdp 19).zdpRecord 2 3 s.zdp.devid
  let s := s.dropPrepared.leaveConstellation
  { s with zdp := { s.zdp with refusedAt := some s.stamp } }

/-- The end-to-end session is set up (R413, R419 step 3) and each end holds its key; the manager then sends the transport
key and, with AUTOADMIT 0, waits for tenant 0. -/
def State.sessionSet (s : State) (d : Nat) (good : Bool) (secret transcript : Bytes) : State :=
  let key := kmacOf 64 secret (sha3 transcript) "FV zedaup session"
  if s.isManager then
    let m := s.member d
    if m.mstate ≠ 1 ∨ m.step ≠ 3 then s
    else if !good then s.refuseJoin d
    else
      let s := if s.zdp.transportKey.isNone then s.drawTransport else s
      match s.zdp.transportKey with
      | none => s
      | some k =>
        let auto := bit (s.reg .zdp 0x104) 2
        let s := (s.setMember d { m with session := true, sessionKey := key }).send d { kind := .transportKey, nums := [d, b2n !auto], data := k }
        if auto then s.memberStep d 5
        else (s.setMember d { s.member d with mstate := 2, step := 4, stepAt := s.stamp }).setInt .zdp 17
  else if s.zdp.mstate ≠ mJoining ∨ s.zdp.session then s
  else if good then ({ s with zdp := { s.zdp with session := true, sessionKey := key } }).joinStep 3
  else s.joinRefused

/-- HANDSHAKE: of a link, or of a session. -/
def execHandshake (of_ : HandshakeOf) (good : Bool) (secret transcript : Bytes) (s : State) : Out :=
  s.clocked (.next (match of_ with
    | .link l => s.linkHandshake l good secret transcript
    | .session d => s.sessionSet d good secret transcript))

/-- TRANSPORT_KEY: a joiner receives the constellation's key and its device ID. -/
def State.takeTransport (s : State) (key : Bytes) (devid : Nat) (pending : Bool) : State :=
  if s.zdp.mstate ≠ mJoining ∨ !s.zdp.session then s
  else
    { s with zdp := { s.zdp with
        transportKey := some (fit 32 key), devid := devid, mstate := if pending then mPending else mJoining } }.joinStep
      (if pending then 4 else 5)

def execTransportKey (key : Bytes) (devid : Nat) (pending : Bool) (s : State) : Out := s.clocked (.next (s.takeTransport key devid pending))

/-- JOIN_STEP_TIMEOUT. -/
def State.joinTimeout (s : State) (d : Nat) : State :=
  if s.isManager then
    let m := s.member d
    if m.mstate = 1 ∨ m.mstate = 2 then ((s.advanceTo (m.stepAt + s.joinNs)).setErr .zdp 5).loseMember d else s
  else if s.zdp.mstate = mJoining ∨ s.zdp.mstate = mPending then ((s.advanceTo (s.zdp.joinAt + s.joinNs)).setErr .zdp 5).joinRefused
  else s

def execJoinStepTimeout (d : Nat) (s : State) : Out := s.clocked (.next (s.joinTimeout d))

/-- JOIN_RETRY: 1 s after the refusal the device seeks again. -/
def State.joinRetry (s : State) : State :=
  match s.zdp.refusedAt with
  | some t =>
    let s := s.advanceTo (t + 1000000000)
    { s with zdp := { s.zdp with refusedAt := none } }
  | none => s

def execJoinRetry (s : State) : Out := s.clocked (.next s.joinRetry)

/-! ## The manager's commands (R431, R432, R433) -/

/-- A member is quarantined. -/
def State.quarantine (s : State) (d : Nat) : State :=
  let m := s.member d
  if m.mstate ≠ 3 then s
  else
    let s := (s.setMember d { m with mstate := 4 }).send d { kind := .quarantine }
    (s.setInt .zdp 18).zdpRecord 1 5 d

/-- A constellation commit with no values of its own is asked for. -/
def State.askMembersCommit (s : State) : State :=
  if s.txn.hfQueue.any fun q => q.1 == .members then s
  else { s with txn := { s.txn with hfQueue := s.txn.hfQueue ++ [(.members, [])] } }

/-- The commands of `ZDP_MCMD`. -/
def State.memberCommand (s : State) (cmd d : Nat) : State :=
  let m := s.member d
  match cmd with
  | 1 => if m.mstate = 2 then (s.setMember d { m with mstate := 1 }).memberStep d 5 else s
  | 2 => if m.mstate = 2 then s.refuseJoin d else s
  | 3 => s.quarantine d
  | 4 => if m.admitted then (s.setMember d { m with full := true }).askMembersCommit else s
  | 5 => if m.admitted then ((s.send d { kind := .evict }).loseMember d).endHold d else s
  | _ => if m.admitted then ((s.send d { kind := .reset }).loseMember d).endHold d else s

/-- A write of `ZDP_MCMD`: ignored with `ERR.ACCESS` on a device that is no manager, or with another CMD. -/
def State.mcmd (s : State) (req : Requester) (v : Word) : State :=
  s.gated req .zdp 0x180 fun s =>
    let c := field v 3 0
    if !s.isManager || c == 0 || 6 < c then s.accessErr .zdp else s.memberCommand c (field v 15 8)

/-- The value of a member command. -/
def mcmdWord (d c : Nat) : Word := BitVec.ofNat 32 (d % 256 * 256 + c)

def execZdpAdmit (req : Requester) (d : Nat) (s : State) : Out := s.clocked (.next (s.mcmd req (mcmdWord d 1)))
def execZdpRefuse (req : Requester) (d : Nat) (s : State) : Out := s.clocked (.next (s.mcmd req (mcmdWord d 2)))

/-- The manager's Headframe commands the member's (R15): it is quarantined. -/
def State.quarantined (s : State) : State :=
  if s.isWorker then (({ s with zdp := { s.zdp with quarantined := true } }).setInt .zdp 18).zdpRecord 1 5 s.zdp.devid else s

/-- QUARANTINE: commanded on the manager, or received on a member from the manager's Headframe. -/
def execQuarantine (req : Requester) (d : Nat) (s : State) : Out :=
  s.clocked (.next (if req.isHeadframe && s.isWorker then s.quarantined else s.mcmd req (mcmdWord d 3)))

def execResync (req : Requester) (d : Nat) (s : State) : Out := s.clocked (.next (s.mcmd req (mcmdWord d 4)))

/-- EVICT: commanded on the manager, or received on a member, which leaves without a hold. -/
def execZdpEvict (req : Requester) (d : Nat) (s : State) : Out :=
  s.clocked (.next (if req.isHeadframe && s.isWorker then s.loseManager 0 else s.mcmd req (mcmdWord d 5)))

def execMcmdReset (req : Requester) (d : Nat) (s : State) : Out := s.clocked (.next (s.mcmd req (mcmdWord d 6)))

/-- DISSOLVE on a worker: the manager is lost, with no hold (R432). -/
def execDissolve (s : State) : Out := s.clocked (.next (s.loseManager 0))

/-! ## Overlays (R428) -/

/-- RCFG_DATA_WRITE. -/
def State.rcfgData (s : State) (req : Requester) (v : Word) : State :=
  s.gated req .zdp 0x18C fun s =>
    let x := s.txnOf .device
    if x.phase ≠ .opened then s.setErr .zdp 1
    else
      let dv := s.reg .zdp 0x184
      let d := if bit dv 8 then 256 else field dv 7 0
      let k := s.regField .zdp 0x188 23 0
      if x.overlays.any (fun o => o.1 == d && o.2.1 == k) || decide (x.count < (Scope.device).limit) then
        s.setTxn .device { x with overlays := putOverlay x.overlays (d, k, v) }
      else s.setTxn .device { x with overflow := true }

def execRcfgDataWrite (req : Requester) (value : Word) (s : State) : Out := s.clocked (.next (s.rcfgData req value))

/-! ## The constellation commit (R429, R430) -/

/-- COMMIT_REQUEST: the manager runs a commit for a worker's Headframe, once its own transactions allow (R430). -/
def State.commitRequest (s : State) (d : Nat) : State :=
  if s.isManager && (s.member d).admitted then
    { s with txn := { s.txn with hfQueue := s.txn.hfQueue ++ [(.workerRequest d, [])] } }
  else s

def execCommitRequest (d : Nat) (s : State) : Out := s.clocked (.next (s.commitRequest d))

/-- The registers and values a message lists. -/
def numPairs : List Nat → List (Nat × Word)
  | k :: v :: r => (k, BitVec.ofNat 32 v) :: numPairs r
  | _ => []

/-- Is a key that of a device-scope RWS register? -/
def deviceRws (k : Nat) : Bool :=
  match keyPlace k with
  | .page p off => p.scope == .device && rwsMask p off != 0 && decide (k < 0x1000000)
  | _ => false

/-- The lowest offset at which sent values fail a worker's validation. -/
def State.prepareFault (s : State) (l : List (Nat × Word)) : Option Nat :=
  match lowestOffset ((l.filter fun q => !deviceRws q.1).map fun q => q.1) with
  | some a => some a
  | none => s.invalidAt l

/-- The device as a commit of these values would leave it (R56): with what its own requests change too (R419). -/
def State.wouldBe (s : State) (l : List (Nat × Word)) : State :=
  (s.zdp.requests.foldl (fun s why => s.headframeAtE why) s).putRegs l

/-- PREPARE on a worker or joiner (R429 step 2): validated values enter PREPARED with the would-be digest. -/
def State.prepare (s : State) (full : Bool) (nums : List Nat) : State :=
  let x := s.txnOf .device
  let joins := (s.zdp.mstate == mJoining || s.zdp.mstate == mPending) && s.zdp.session
  if (!s.isWorker && !joins) || s.zdp.lostManager.isSome then s
  else
    let l := numPairs nums
    let reply (s : State) (ok addr : Nat) (dg : Bytes) : State :=
      s.send 0 { kind := .prepareReply, nums := [s.zdp.devid, ok, s.txn.epoch, addr], data := dg }
    match s.prepareFault l with
    | some a => reply s 0 a []
    | none =>
      if x.phase ≠ .idle then reply s 0 0 []
      else
        let s := s.setTxn .device { x with phase := .prepared, staged := l }
        let s := { s with zdp := { s.zdp with prepFull := full, prepared := s.zdp.requests.length } }
        reply s 1 0 (s.wouldBe l).configDigest

def execZdpPrepare (full : Bool) (nums : List Nat) (s : State) : Out := s.clocked (.next (s.prepare full nums))

/-- Every member has prepared: COMMIT goes out with E_new (R429 step 3). -/
def State.sendCommit (s : State) (p : Prepare) : State :=
  match s.txn.active with
  | some c =>
    let n := p.topEpoch + 1
    let ds := s.commitMembers
    let s := { s with
      txn := { s.txn with active := some { c with stage := .awaitQuiesce, epoch := n, supplied := true } }
      zdp := { s.zdp with prep := some { p with waiting := ds, since := s.stamp, sentCommit := true } } }
    ds.foldl (fun s d => s.send d { kind := .commit, nums := [n] }) s
  | none => s

/-- A constellation commit is given up before COMMIT: PREPARE_FAILED everywhere (R430). -/
def State.failPrepare (s : State) : State := (s.dropActive .prepareFailed).advanceCommits

/-- PREPARE_REPLY. -/
def State.prepareReply (s : State) (d : Nat) (ok : Bool) (epoch errAddr : Nat) (digest : Bytes) : State :=
  match s.zdp.prep with
  | some p =>
    if p.sentCommit || !p.waiting.contains d then s
    else if ok then
      let p := { p with waiting := without p.waiting d, topEpoch := Nat.max p.topEpoch epoch }
      let s := s.setMember d { s.member d with prepared := digest, epoch := epoch }
      if p.waiting.isEmpty then s.sendCommit p else { s with zdp := { s.zdp with prep := some p } }
    else
      let s := s.logEvent 0x0014 1 deviceTenant 0x0031 0 errAddr s.stamp d
      let s := match s.txn.active with
        | some c => (match c.of with | .scope sc => s.setTxn sc { s.txnOf sc with errAddr := errAddr } | .headframe _ => s)
        | none => s
      let s := if (s.member d).step = 6 then s.refuseJoin d else s
      s.failPrepare
  | none => s

def execPrepareReply (d : Nat) (ok : Bool) (epoch errAddr : Nat) (digest : Bytes) (s : State) : Out :=
  s.clocked (.next (s.prepareReply d ok epoch errAddr digest))

/-- COMMIT on a prepared device (R55, R429 step 4): an epoch that is not greater than its own is refused. -/
def State.commitWith (s : State) (epoch : Nat) : State :=
  let x := s.txnOf .device
  if x.phase = .prepared ∧ s.txn.epoch < epoch then
    (s.setTxn .device { x with phase := .committing }).queueCommit
      { of := .scope .device, stage := .awaitQuiesce, staged := x.staged, epoch := epoch, supplied := true }
  else s

def execZdpCommit (epoch : Nat) (s : State) : Out := s.clocked (.next (s.commitWith epoch))

/-- FINAL_DIGEST_REPLY (R429 step 5): a joiner whose digest is the prepared one is admitted, a resynchronised member is
released, and one whose digest differs is quarantined. -/
def State.finalDigest (s : State) (d epoch : Nat) (digest : Bytes) : State :=
  match s.zdp.prep with
  | some p =>
    if !p.sentCommit || !p.waiting.contains d then s
    else
      let m := s.member d
      let m' := { m with expected := m.prepared, epoch := epoch, digest := digest, full := false, polls := 0 }
      let good := digest == m.prepared
      let s := if m.step = 6 then
          ((s.setMember d { m' with mstate := 3, step := 0 }).setInt .zdp 16).zdpRecord 1 1 d
        else s.setMember d { m' with mstate := if m.mstate = 4 ∧ m.full ∧ good then 3 else m.mstate }
      let s := if good then s else s.quarantine d
      let p := { p with waiting := without p.waiting d }
      let s := { s with zdp := { s.zdp with prep := some p } }
      match s.txn.active with
      | some c => if p.waiting.isEmpty && c.stage == .awaitFinals then s.finishCommit c else s
      | none => s
  | none => s

def execFinalDigestReply (d epoch : Nat) (digest : Bytes) (s : State) : Out := s.clocked (.next (s.finalDigest d epoch digest))

/-- ABORT on a prepared device. -/
def execZdpAbort (s : State) : Out := s.clocked (.next s.dropPrepared)

/-- PREP_TIMEOUT: the commit is given up, or, after COMMIT, the manager waits no longer for final digests. -/
def State.prepTimeout (s : State) : State :=
  match s.zdp.prep with
  | some p =>
    let s := s.advanceTo (p.since + s.regField .zdp 0x124 15 0 * 1000000)
    if !p.sentCommit then
      let s := p.waiting.foldl (fun s d => if (s.member d).step = 6 then s.refuseJoin d else s) s
      s.failPrepare
    else
      let s := { s with zdp := { s.zdp with prep := none } }
      match s.txn.active with
      | some c => if c.stage = .awaitFinals then s.finishCommit c else s
      | none => s
  | none => s

def execPrepTimeout (s : State) : Out := s.clocked (.next s.prepTimeout)

/-! ## Polls (R431) -/

/-- POLL_TIMER: a member whose poll went unanswered is quarantined, after three it is lost; the others are polled. -/
def State.pollTimer (s : State) : State :=
  if !s.isManager then s
  else s.admittedMembers.foldl (fun s d =>
    let m := s.member d
    if 3 ≤ m.polls then s.loseMember d
    else
      let s := if m.polls = 0 then s else s.quarantine d
      (s.setMember d { s.member d with polls := m.polls + 1 }).send d { kind := .poll }) s

def execPollTimer (s : State) : Out := s.clocked (.next s.pollTimer)

/-- POLL_REPLY: epoch, digest and health of a member, and the devices that it reports as lost below it. A difference from
the manager's epoch or the expected digest quarantines, unless a commit is on its way. -/
def State.pollReply (s : State) (d epoch free alarm : Nat) (sync : Bool) (digest : Bytes) (below : List Nat) : State :=
  let m := s.member d
  if !s.isManager || m.mstate == 0 || m.mstate == 5 then s
  else
    let s := s.setMember d { m with epoch := epoch, digest := digest, polls := 0 }
    let s := if m.mstate = 3 ∧ s.txn.active.isNone ∧ (epoch ≠ s.txn.epoch ∨ digest ≠ m.expected) then s.quarantine d else s
    let s := s.memberHealth d free alarm sync
    below.foldl (fun s f => s.loseMember f) s

def execPollReply (d epoch free alarm : Nat) (sync : Bool) (digest : Bytes) (below : List Nat) (s : State) : Out :=
  s.clocked (.next (s.pollReply d epoch free alarm sync digest below))

/-! ## Return and the end of a hold (R426, R427) -/

/-- RESUME: on the manager a lost member returns and goes through steps 5 to 7 again; on the worker, whose link `l` leads
to the manager again, the held RESULTs are delivered. -/
def State.resume (s : State) (d l : Nat) : State :=
  if 4 ≤ l || (s.link l).lstate != 5 then s
  else if s.isManager then
    let m := s.member d
    if m.mstate = 5 && m.session then
      let s := s.setMember d { m with mstate := 1, step := 5, stepAt := s.stamp, via := l, lostAt := none, full := true }
      (s.setLink l { s.link l with lrole := 2 }).zdpRecord 1 6 d
    else s
  else if s.zdp.lostManager.isSome && s.zdp.session then
    let held := s.zdp.results
    let s := { s with zdp := { s.zdp with lostManager := none, uplink := l, results := [] } }
    let s := (s.setLink l { s.link l with lrole := 1 }).joinStep 5
    let s := s.send 0 { kind := .resume, nums := [s.zdp.devid] }
    (held.foldl (fun s r => s.sendResult r) s).zdpRecord 1 6 s.zdp.devid
  else s

def execZdpResume (d l : Nat) (s : State) : Out := s.clocked (.next (s.resume d l))

/-- HOLD_TIMEOUT: of a lost member on the manager, or of the manager on a worker. -/
def State.holdTimeout (s : State) (d : Nat) : State :=
  if s.isManager then
    match (s.member d).lostAt with
    | some t => if (s.member d).mstate = 5 then (s.advanceTo (t + s.holdNs)).endHold d else s
    | none => s
  else match s.zdp.lostManager with
    | some t => (s.advanceTo (t + s.holdNs)).leaveConstellation
    | none => s

def execHoldTimeout (d : Nat) (s : State) : Out := s.clocked (.next (s.holdTimeout d))

end Sys2Proof.Machine
end

