-- ==== Sys2Proof/Machine/Spill.lean ====
section
/-! DEFINITION. Work spill and key transport (R420 to R424, R195): which operations go to a worker and to which one, what
WORK, RESULT, STOP, KEY and PURGE messages do, and the sub-ranges of stateful keys; and DISPATCH as a whole. -/
namespace Sys2Proof.Machine

/-! ## What may be spilled, and where (R420, R421) -/

/-- May an operation be spilled? -/
def spillable (k : OpKind) (d : Desc) : Bool :=
  match k with
  | .stfSign | .stfVerify => true
  | .random => decide (d.outCap ≤ 65536)
  | .kdf => false
  | _ => [0x1, 0x2, 0x3, 0x6, 0x7, 0x8, 0x9, 0xA, 0xD].contains (opFamily d.opcode)

/-- Is spilling on: `ZDP_SPILL.EN`, and Tally as full as PCT says? -/
def State.spilling (s : State) : Bool :=
  s.isManager && bit (s.reg .zdp 0x120) 16 &&
    decide (s.regField .zdp 0x120 6 0 * 0x40000 ≤ s.tally.entries.length * 100)

/-- Is a worker eligible for an entry? -/
def State.eligible (s : State) (x : Entry) (d : Nat) : Bool :=
  let m := s.member d
  m.mstate == 3 && m.fit && m.kernels.contains x.desc.opcode && !x.avoid.contains d

/-- Does one member come before another: more free quota, then fewer hops? -/
def Member.before (m n : Member) : Bool := decide (n.free < m.free) || (n.free == m.free && decide (m.hops < n.hops))

/-- Is worker `d` a choice of Tally for an entry? Ties are open. -/
def State.bestWorker (s : State) (x : Entry) (d : Nat) : Bool :=
  s.eligible x d && !s.zdp.members.any fun q => s.eligible x q.1 && q.2.before (s.member d)

/-- May the entry go to worker `d` now: no local unit can take it? -/
def State.workerOk (s : State) (k : OpKind) (x : Entry) (d : Nat) : Bool :=
  s.spilling && spillable k x.desc && x.parent.isNone && s.bestWorker x d && !s.anyTarget k x &&
    !(s.hasStopes x.tenant && !bit (s.reg (.tntA x.tenant) 0x170) 0)

/-! ## Keys for workers (R423, R195) -/

/-- What a KEY blob is bound to beside its header: the manager's handle and the worker's device ID. -/
def keyAad (hdr : Bytes) (h d : Nat) : Bytes := hdr ++ leBytes 4 h ++ leBytes 1 d

/-- Send a key to a worker that does not hold this generation of it; none where the key cannot be wrapped. -/
def State.sendKey (s : State) (d h : Nat) : Option State :=
  let m := s.member d
  if h = 0 || m.keys.contains h then some s
  else match s.zdp.transportKey, s.drawCentral 3 12 with
    | some tk, (s, some iv) =>
      let i := handleIndex h
      let s := s.computeNode i
      let o := s.obj i
      let mat := o.material
      let hdr := blobHeader 0x81 mat.length (kekIdOf 1 { secret := tk }) o.attr
      let aad := keyAad hdr h d
      let blob := hdr ++ iv ++ fit mat.length (Config.prim .gcmCt [tk, iv, aad, mat]) ++ fit 16 (Config.prim .gcmTag [tk, iv, aad, mat])
      let s := (s.setMember d { m with keys := withOne m.keys h }).send d { kind := .key, nums := [h], data := blob }
      some (if o.isStf then s.grantRange d i h else s)
    | _, _ => none

/-! ## DISPATCH (R84, R421, R422) -/

/-- What a spilled operation charges its tenant: its kernel's cost, as a local dispatch would. -/
def State.spillCost (s : State) (x : Entry) : Nat :=
  match s.someKernel x.desc.opcode x.tenant with | some k => s.kernelCost k | none => 0

/-- The operation goes to worker `d`: inputs are read and keys bound as for a local unit, and WORK is sent. -/
def State.spillTo (s : State) (e : Nat) (x : Entry) (k : OpKind) (d : Nat) : State :=
  if s.staleAtDispatch x k then s.finish e .handleStale
  else
    let refused := if k = .stfSign then (match (s.obj (handleIndex x.desc.key)).stf with | some f => f.refusal | none => none) else none
    match refused with
    | some st => s.finish e st
    | none =>
      let keyed := if takesKey k then (s.sendKey d x.desc.key).bind fun s => s.sendKey d x.desc.key2 else some s
      match keyed with
      | none => s
      | some s =>
        let s := s.takeTurn x (.worker d)
        let s := s.modEntry e fun x => { x with state := .dispatched, dispatched := s.stamp, target := .worker d, stopping := none
                                                started := true, await := .none, lostAt := none }
        let s := (s.bindKeys e).capture e
        let y := (s.entry e).getD x
        let w := y.desc
        let left := y.deadline - s.stamp
        let s := s.send d { kind := .work, data := y.input ++ y.aux ++ y.digest
                            nums := [y.tenant, y.order, w.opcode, w.options, w.flags, w.key, w.key2, w.outCap, left] }
        let s := s.charge x.tenant (.worker d) (s.spillCost x)
        (s.pmu 0x10 x.tenant none none 1).pmu 0x27 x.tenant none none 1

/-- DISPATCH to a worker. -/
def State.dispatchSpill (s : State) (e d : Nat) : State :=
  match s.entry e with
  | none => s
  | some x =>
    match x.desc.kind with
    | none => s
    | some k => if s.ready x k && s.turnOf x (.worker d) && s.workerOk k x d then s.spillTo e x k d else s

def execDispatch (e : Nat) (target : Target) (s : State) : Out :=
  s.clocked (.next (match target with
    | .worker d => s.dispatchSpill e d
    | t => s.dispatchLocal e t))

/-! ## On the worker -/

/-- The index of the cached key that stands for a handle of the manager. -/
def State.cached (s : State) (h : Nat) : Option Nat :=
  Cells.findKey (fun _ (o : Obj) => o.present && o.cacheOf == some h) s.lode.objs

/-- The cache entry of a handle is used: it is the most recently used one. -/
def State.touchCache (s : State) (i : Nat) : State :=
  let n := s.zdp.cacheNext
  { s.setObj i { s.obj i with cacheUsed := n } with zdp := { s.zdp with cacheNext := n + 1 } }

/-- The local handle for a handle of the manager: 0 for 0, none while the key is not here. -/
def State.localHandle (s : State) (h : Nat) : Option Nat :=
  if h = 0 then some 0 else (s.cached h).map fun i => (s.obj i).handle i

/-- A spilled operation that waited for its keys finds them. -/
def State.wakeWork (s : State) (e : Nat) : State :=
  match s.entry e with
  | some x =>
    if x.spilled.isSome && x.keyWait then
      match s.localHandle x.desc.key, s.localHandle x.desc.key2 with
      | some a, some b =>
        let s := if a = 0 then s else s.touchCache (handleIndex a)
        let s := if b = 0 then s else s.touchCache (handleIndex b)
        s.setEntry e { x with keyWait := false, desc := { x.desc with key := a, key2 := b } }
      | _, _ => s
    else s
  | none => s

/-- The queue number that no host queue has: a spilled operation has no SQ. -/
def spillQueue : Nat := 64

/-- WORK: the operation becomes an entry of the worker's tenant 0 (R422). -/
def State.takeWork (s : State) (w : Work) : State :=
  if !s.isWorker || s.zdp.lostManager.isSome then s
  else
    let e := freeKey 0 s.tally.entries
    let d : Desc := { opcode := w.opcode, options := w.options, flags := w.flags, key := w.key, key2 := w.key2
                      inLen := w.input.length, auxLen := w.aux.length, outCap := w.outCap }
    let x : Entry := { tenant := 0, sq := spillQueue, cq := spillQueue, desc := d
                       admitted := s.stamp, deadline := s.stamp + w.remaining, sglDone := true
                       sluice := .hashed, input := w.input, aux := w.aux, digest := w.digest
                       spilled := some w.token, keyWait := true }
    let s := (s.addEntry e x).wakeWork e
    s.pmu 0x20 0 none none 1

def execZdpWork (work : Work) (s : State) : Out := s.clocked (.next (s.takeWork work))

/-- STOP: the operation is abandoned; its RESULT would be discarded. -/
def State.stopWork (s : State) (token : Nat) : State :=
  s.forEntries (s.entriesWhere fun x => x.spilled == some token) fun s e =>
    match s.entry e with
    | some x => if x.state = .dispatched then s.stop e .free else s.freeEntry e
    | none => s

def execZdpStop (token : Nat) (s : State) : Out := s.clocked (.next (s.stopWork token))

/-- Is a cached key in use by an operation? -/
def State.cacheBusy (s : State) (i : Nat) : Bool :=
  s.tally.entries.any fun q => (q.2.desc.key == (s.obj i).handle i || q.2.desc.key2 == (s.obj i).handle i) && !q.2.keyWait

/-- The least recently used cached key that no operation uses. -/
def State.cacheVictim (s : State) : Option Nat :=
  let l := s.lode.objs.filter fun p => p.2.present && p.2.cacheOf.isSome && !s.cacheBusy p.1
  match l with
  | [] => none
  | c :: r => some (r.foldl (fun b p => if p.2.cacheUsed < b.2.cacheUsed then p else b) c).1

/-- Remove a cached key; operations that hold its material run on. -/
def State.dropCached (s : State) (i : Nat) : State := s.setObj i (s.obj i).gone

/-- Evict cached keys, least recently used first, until there is room; each eviction is reported (R423). -/
def cacheRoomFuel (units : Nat) : Nat → State → State
  | 0, s => s
  | n + 1, s =>
    if s.room 0 units true false false then s
    else match s.cacheVictim with
      | some i =>
        let h := (s.obj i).cacheOf.getD 0
        cacheRoomFuel units n ((s.dropCached i).send 0 { kind := .evicted, nums := [s.zdp.devid, h] })
      | none => s

/-- KEY_MESSAGE: a key wrapped under the transport key goes into the constellation cache. -/
def State.takeKey (s : State) (h : Nat) (blob : Bytes) : State :=
  match s.zdp.transportKey with
  | none => s
  | some tk =>
    let b := blobOf 0x81 blob
    let a := attrOf b.attrBytes
    let aad := keyAad b.aad h s.zdp.devid
    let ok := s.isWorker && s.zdp.lostManager.isNone && b.headOk && b.format == 0x81 && attrValid b.attrBytes &&
      b.matLen == materialLen a.kind a.alg a.keyLen && b.kekId == kekIdOf 1 { secret := tk } &&
      Config.holds .gcmTag [tk, b.iv, aad, b.body, b.tag]
    if !ok || (s.cached h).isSome then s
    else
      let o := unwrapped a (fit b.matLen (Config.prim .gcmPt [tk, b.iv, aad, b.body]))
      let stf : Option Stateful := if o.isStf then some { withdrawn := true, sub := some (0, 0) } else none
      let s := cacheRoomFuel o.units 65536 s
      if !s.room 0 o.units true false false then s.send 0 { kind := .evicted, nums := [s.zdp.devid, h] }
      else match s.allocIndex with
        | (s, some i) =>
          let s := (s.placeObject i { o with tenant := 0, cacheOf := some h, stf := stf }).touchCache i
          s.forEntries (s.entriesWhere fun x => x.spilled.isSome && x.keyWait) fun s e => s.wakeWork e
        | (s, none) => s

def execKeyMessage (handle : Nat) (blob : Bytes) (s : State) : Out := s.clocked (.next (s.takeKey handle blob))

/-- PURGE: an old generation leaves the cache; on destruction it is zeroised and the operations that hold it are
abandoned, and the purge is acknowledged (R424). -/
def State.takePurge (s : State) (h : Nat) (destroyed : Bool) : State :=
  if !s.isWorker then s
  else
    let s := match s.cached h with
      | some i => if destroyed then s.destroyAll [i] 0 none false else s.dropCached i
      | none => s
    if destroyed then s.send 0 { kind := .purgeAck, nums := [s.zdp.devid, h] } else s

def execZdpPurge (handle : Nat) (destroyed : Bool) (s : State) : Out := s.clocked (.next (s.takePurge handle destroyed))

/-- SUBRANGE_GRANT: a worker's stateful key gets indexes `lo` to `hi` − 1 (R195). -/
def State.takeRange (s : State) (h lo hi : Nat) (key : RangeKey) : State :=
  match s.cached h with
  | none => s
  | some i =>
    let a := (s.obj i).attr.alg
    let total := stfTotal (opFamily a) (opParam a) key.levels
    let own (f : Stateful) : Stateful := { f with levels := key.levels, leaseLog2 := key.log2, total := total, extending := false }
    s.modStf i fun f =>
      if f.withdrawn || f.subLeft = 0 then
        { own f with next := lo, frontier := hi, sub := some (lo, hi), subNext := none, withdrawn := false }
      else { own f with subNext := some (lo, hi), frontier := hi }

def execSubrangeGrant (handle lo hi : Nat) (levels : RangeKey) (s : State) : Out :=
  s.clocked (.next (if s.isWorker && s.zdp.lostManager.isNone then s.takeRange handle lo hi levels else s))

/-! ## On the manager -/

/-- The entry that a RESULT of worker `d` is for: dispatched to it, or returned to QUEUED when it was lost (R425). -/
def State.resultFor (s : State) (d token : Nat) : Option Nat :=
  (s.entriesWhere fun x => x.order == token && !x.decided && x.parent.isNone && x.spilled.isNone &&
    (x.target == .worker d || x.avoid.contains d)).head?

/-- The object that a spilled creation made (R422). -/
def spilledObj (x : Entry) (a : Answer) : Obj :=
  let o := newPair x (a.pub, a.secret)
  if opKind x.desc.opcode = some .mceKeygen ∧ x.desc.opt 1 then { o with pinGran := mceGranules (opParam x.desc.opcode) } else o

/-- RESULT: the manager's entry is committed at its arrival stamp (R94, R422); one that an alarm on the worker ended is
returned to QUEUED where it is replayable (R432); a RESULT for an entry already completed is discarded. -/
def State.takeResult (s : State) (d : Nat) (a : Answer) : State :=
  if !s.isManager then s
  else match s.resultFor d a.token, statusOf a.code with
    | some e, some st =>
      match s.entry e with
      | none => s
      | some x =>
        let stf := opKind x.desc.opcode = some .stfSign
        let x := { x with index := if stf ∧ a.info ≠ 0xFFFFFFFF then some a.info else x.index, info := a.info }
        let s := s.setEntry e x
        if st = .abortedAlarm && replayable x.desc x.makesPersistent then
          if x.target = .worker d then s.requeueFrom e d else s
        else if st = .ok then
          if a.created then s.createObject e (spilledObj x a) a.pub a.info else s.commitOut e a.output a.info
        else if st = .verifyReject then s.commitReject e a.info
        else (s.setEntry e { x with outBytes := a.outBytes }).finish e st
    | _, _ => s

def execZdpResult (d : Nat) (answer : Answer) (s : State) : Out := s.clocked (.next (s.takeResult d answer))

/-- CACHE_EVICTION_REPORT: a key that an operation on the worker still waits for is sent again. -/
def State.evictionReport (s : State) (d h : Nat) : State :=
  if !s.isManager then s
  else
    let s := s.setMember d { s.member d with keys := without (s.member d).keys h }
    if (s.onWorker d).any fun e => match s.entry e with | some x => x.desc.key == h || x.desc.key2 == h | none => false then
      (s.sendKey d h).getD s
    else s

def execCacheEvictionReport (d handle : Nat) (s : State) : Out := s.clocked (.next (s.evictionReport d handle))

/-- PURGE_ACK. -/
def State.purgeAck (s : State) (d h : Nat) : State :=
  { s with zdp := { s.zdp with purges := s.zdp.purges.filter fun q => !(q.1 == d && q.2.1 == h) } }

def execPurgeAck (d handle : Nat) (s : State) : Out := s.clocked (.next (s.purgeAck d handle))

/-- SUBRANGE_REQUEST_RECEIPT. -/
def State.rangeRequest (s : State) (d h : Nat) : State :=
  let i := handleIndex h
  if s.isManager && (s.member d).admitted && (s.member d).keys.contains h && (s.obj i).present && (s.obj i).handle i == h then
    s.grantRange d i h
  else s

def execSubrangeRequestReceipt (d handle : Nat) (s : State) : Out := s.clocked (.next (s.rangeRequest d handle))

end Sys2Proof.Machine
end

