-- ==== Sys2Proof/Machine/Reset.lean ====
section
/-! DEFINITION. Resets (R434 to R436, R443, R444) and the release of the domains (R437 to R439), option load (R441, R442)
with the vote over the life-cycle copies (R458 to R461). -/
namespace Sys2Proof.Machine

/-! ## What survives (R443) -/

/-- The backup domain's part of Canary: everything D0 holds. -/
def Canary.backup (c : Canary) : Canary :=
  { loops := c.loops, mapCopy := c.mapCopy, floor := c.floor, locked := c.locked, bclk := c.bclk, bclkRem := c.bclkRem, retained := c.retained
    log := c.log, logSeq := c.logSeq, logLost := c.logLost, tctr := c.tctr, sealed := c.sealed, rootKey := c.rootKey
    batLow := c.batLow, vbatMv := c.vbatMv, vbatGone := c.vbatGone, loadCount := c.loadCount, onBackup := c.onBackup
    lostCounted := c.lostCounted, loopCfg := c.loopCfg, caseCfg := c.caseCfg, periodCfg := c.periodCfg }

/-- The backup domain after its supply was lost: the cell's own state and the OTP tamper counter remain. -/
def Canary.supplyLost (c : Canary) : Canary :=
  { tctr := c.tctr, vbatGone := c.vbatGone, batLow := c.batLow, vbatMv := c.vbatMv, onBackup := c.onBackup }

/-- What Lode's records in flash, and the anchor in retained memory, keep. -/
def Lode.stored (x : Lode) : Lode :=
  { records := x.records, recordSeq := x.recordSeq, sectorsA := x.sectorsA, sectorsB := x.sectorsB, lastSlotB := x.lastSlotB
    anchor := x.anchor }

/-- What the life-cycle controller's OTP rows and flash areas keep. -/
def Lcc.stored (x : Lcc) : Lcc :=
  { copies := x.copies, secretA := x.secretA, secretB := x.secretB, tok1 := x.tok1, tok2 := x.tok2, tok3a := x.tok3a
    tok3b := x.tok3b, tok3Written := x.tok3Written, tok3Flag := x.tok3Flag, devid := x.devid, ownCount := x.ownCount
    certDig := x.certDig, certA := x.certA, certB := x.certB, slotA := x.slotA, slotB := x.slotB }

/-- What the reset controller and the flashes keep through a device reset. -/
def Rst.stored (x : Rst) (full : Nat) : Rst :=
  { asserted := x.asserted, trims := x.trims, prevFull := full, restarted := x.loading, ownerA := x.ownerA, ownerB := x.ownerB
    lastOwnerB := x.lastOwnerB }

/-- The error log and the watchdog counts, in the reset controller. -/
def Hdf.stored (h : Hdf) : Hdf :=
  { log := h.log, nextSeq := h.nextSeq, lost := h.lost, readSeqs := h.readSeqs, ackedSeqs := h.ackedSeqs, wdtTotal := h.wdtTotal
    wdtRun := h.wdtRun }

/-- The MSI-X messages that went out are the host's record, not the device's state. -/
def State.sentOnly (s : State) : List (Nat × Fn) :=
  s.fns.foldl (fun (m : List (Nat × Fn)) (q : Nat × Fn) => Cells.set fnDefault m q.1 { fnDefault q.1 with sent := q.2.sent }) []

/-- The domain of a register's block. -/
def keyDomain (k : Nat) : Nat :=
  match keyPage k with
  | some p => pageDomain p
  | none => 7

/-- Set `RST_STS` fields: clear some bits, then set others. -/
def State.putSts (s : State) (clear set : Nat) : State :=
  s.setReg .rst 0x104 ((s.reg .rst 0x104 &&& ~~~(BitVec.ofNat 32 clear)) ||| BitVec.ofNat 32 set)

/-- `RST_STS.PHASE`. -/
def State.setPhase (s : State) (n : Nat) : State := s.putSts 0xF n

/-- D3 to D8 enter reset (R436): every operation in them stops without COMMIT; nothing more is published. -/
def State.resetUpper (s : State) : State :=
  let keep (k : Nat) : Bool := decide (keyDomain k < 3)
  let s := { s with
    regs := s.regs.filter fun q => keep q.1
    prims := s.prims.filter fun x => decide (pageDomain x.page < 3)
    flips := s.flips.filter fun q => keep q.1
    latches := s.latches.filter fun x => keep x.key
    fns := s.sentOnly, sqs := [], cqs := [], tally := {}, lode := s.lode.stored, ent := {}, ctxs := [], dgs := {}, slc := {}
    shafts := [], stopes := [], engs := [], runs := [], kstQueue := [], samplers := [], zdp := {}, spdms := []
    rst := { s.rst with groups := 0, bistOk := false, bistDone := false, keysDone := false, packNext := 0, bootCommitted := false } }
  s.putSts 0xE001F800 0

/-- The registers that a device reset leaves: `RST_CAUSE` and `RST_D1CNT` (unless it is a POR), and `CNY_BKP0`–`CNY_BKP7`. -/
def keptReg (por : Bool) (k : Nat) : Bool :=
  (!por && (k == Page.rst.key 0x100 || k == Page.rst.key 0x110)) ||
    (decide (Page.cny.key 0x158 ≤ k) && decide (k ≤ Page.cny.key 0x174))

/-- The word of a copy that records a state. -/
def LcCopy.word (c : LcCopy) (st : Nat) : Word := match st with | 1 => c.w1 | 2 => c.w2 | _ => c.w3

/-- Program bits of that word: OTP bits only ever set. -/
def LcCopy.program (c : LcCopy) (st : Nat) (bits : Word) : LcCopy :=
  match st with
  | 1 => { c with w1 := c.w1 ||| bits }
  | 2 => { c with w2 := c.w2 ||| bits }
  | _ => { c with w3 := c.w3 ||| bits }

/-- The pattern of a state (R458). -/
def lcPattern (st : Nat) : Word := match st with | 1 => 0x5A5AA5A5#32 | 2 => 0x3C3CC3C3#32 | _ => 0x96966969#32

/-- Program some bits of copy `k`. -/
def State.programCopy (s : State) (k st : Nat) (bits : Word) : State :=
  { s with lcc := { s.lcc with copies := setAt s.lcc.copies k ((nthD s.lcc.copies k {}).program st bits) } }

/-- A reset meets the programming of a copy (R464, R466): its word holds some of its pattern's bits. -/
def State.tearCopy (s : State) : State :=
  let x := s.lcc
  if (x.phase = 3 ∨ x.completing) ∧ x.nextCopy < 5 then
    let st := if x.completing then x.state else x.cmd
    let s := s.programCopy x.nextCopy st (lcPattern st &&& Config.freeValue 32 s.freeNext)
    { s with freeNext := s.freeNext + 1 }
  else s

/-- A device reset (R434, R443): D1 to D8 enter reset, with a POR the reset controller too, which without a
backup cell holds the counter of R442. SAFE_OPT stays (R442). -/
def State.deviceReset (s : State) (por : Bool) : State :=
  let s := s.tearCopy
  let full := (s.reg .rst 0x12C).toNat + 2 ^ 32 * (s.reg .rst 0x130).toNat
  let safe := bit (s.reg .rst 0x104) 26
  let c := s.cny.backup
  let c := if por && c.vbatGone then { c with loadCount := 0 } else c
  let r := s.rst.stored full
  let base : State := {
    pending := s.pending, stamp := if por then 0 else s.stamp, edge := if por then 0 else s.edge, freeNext := s.freeNext, host := s.host
    regs := s.regs.filter fun q => keptReg por q.1
    fns := s.sentOnly, cny := c, lode := s.lode.stored, lcc := s.lcc.stored, hdf := if por then {} else s.hdf.stored
    rst := if por then { r with prevFull := 0, restarted := false, trims := [] } else r
    avs := { tripped := !por && s.avs.tripped } }
  let base := if safe && !por then base.putSts 0 0x4000000 else base
  base

/-! ## Sources (R434, R435) -/

/-- The rank of a source's code in the precedence of R435. -/
def causeRank (code : Nat) : Nat := ([1, 7, 2, 3, 6, 9, 8, 4, 5].findIdx? fun c => c == code).getD 9

/-- Does an asserted source name a domain? -/
def names (x : Nat × Bool) (d : Nat) : Bool := x.2 || (x.1 == 7 && decide (3 ≤ d)) || (x.1 != 7 && d == 7)

/-- Is a domain held in reset by an asserted source? -/
def State.heldBy (s : State) (d : Nat) : Bool := s.rst.asserted.any fun x => names x d

/-- Is a device reset pending: is a source asserted that names D1 (R445)? -/
def State.resetPending (s : State) : Bool := s.rst.asserted.any fun x => x.2

/-- `RST_CAUSE` when a source acts (R435, R455). -/
def State.noteCause (s : State) (code : Nat) : State :=
  if code = 1 then s.setReg .rst 0x100 0x00020001#32
  else
    let v := s.reg .rst 0x100
    let last := field v 3 0
    let joins := !s.rst.asserted.isEmpty
    let now := if joins && decide (causeRank last < causeRank code) then last else code
    let prev := if joins then field v 7 4 else last
    s.setReg .rst 0x100 ((v &&& 0xFFFF0000#32) ||| (1#32 <<< (16 + code)) ||| BitVec.ofNat 32 (prev * 16 + now))

/-- The pages of D7 that no single function has. -/
def portPage (k : Nat) : Bool :=
  match keyPage k with
  | some p => match p with | .adt | .slc | .tly | .tntA _ => true | _ => false
  | none => false

/-- The shared registers of D7 return to their reset values; its RWS registers keep their committed ones (R444). That the
others do not stay, R436 and R439 say of a domain in reset: DEDUCED, log 45. -/
def State.resetPort (s : State) : State :=
  let hold (m : List (Nat × Word)) (q : Nat × Word) : List (Nat × Word) :=
    match keyPlace q.1 with
    | .page p off => Cells.set regDefault m q.1 ((q.2 &&& rwsMask p off) ||| (regDefault q.1 &&& ~~~rwsMask p off))
    | _ => m
  let regs := (s.regs.filter fun q => portPage q.1).foldl hold (s.regs.filter fun q => !portPage q.1)
  { s with
    regs := regs
    prims := s.prims.filter fun x => match x.page with | .adt | .slc | .tly | .tntA _ => false | _ => true
    flips := s.flips.filter fun q => !portPage q.1
    latches := s.latches.filter fun x => !portPage x.key
    tally := { s.tally with occPeak := s.tally.entries.length, cutoff := 0, epochStamp := 0 } }

/-- D7 alone enters reset (R444): a link reset. -/
def State.linkFalls (s : State) : State :=
  if s.released 7 then
    (({ s.putSts 0x40008000 0 with spdms := s.spdms.filter fun q => decide (256 ≤ q.1) }).resetPort).linkReset
  else s

/-- A source is asserted; `device` says whether it resets D1 to D8. -/
def State.assertSource (s : State) (code : Nat) (device : Bool) : State :=
  if s.rst.asserted.any fun x => x.1 == code then s
  else
    let s := if code = 1 then s else s.noteCause code
    let s := { s with rst := { s.rst with asserted := s.rst.asserted ++ [(code, device)] } }
    if code = 1 then
      let s := (s.deviceReset true).noteCause 1
      { s with rst := { s.rst with asserted := s.rst.asserted.filter fun x => x.1 != 7 } }
    else if device then s.deviceReset false
    else s.linkFalls

/-- The backup domain loses its contents, the lease anchor and `CNY_BKP0`–`CNY_BKP7` among them (R443, R496). -/
def State.backupLost (s : State) : State :=
  { s with cny := s.cny.supplyLost, lode := { s.lode with anchor := {} }
           regs := s.regs.filter fun q => !(decide (Page.cny.key 0x158 ≤ q.1) && decide (q.1 ≤ Page.cny.key 0x174)) }

/-- POWER_ON_RESET: with VDD_IO lost the backup domain runs from the cell, and without a cell it loses its state (R480,
R496). -/
def State.powerOnReset (s : State) (ioLost : Bool) : State :=
  let s := if ioLost then { s with cny := { s.cny with onBackup := true } } else s
  let s := if ioLost && s.cny.vbatGone then s.backupLost else s
  s.assertSource 1 true

def execPowerOnReset (ioLost : Bool) (s : State) : Out := .next (s.powerOnReset ioLost)

def execPinReset (s : State) : Out := .next (s.assertSource 2 true)

/-- PERST (R435): in link scope only after full readiness. -/
def State.perst (s : State) : State :=
  s.assertSource 3 (!(bit (s.regAtE .rst 0x108) 0 && bit (s.reg .rst 0x104) 31))

def execPerst (s : State) : Out := .next s.perst

def execHotReset (s : State) : Out := .next (if s.released 7 then s.assertSource 4 false else s)

/-- LINK_DOWN: after the link has been up, with PERST_N high. -/
def execLinkDown (s : State) : Out :=
  .next (if s.cfgReady && !s.rst.asserted.any (fun x => x.1 == 3) then s.assertSource 5 false else s)

/-- The watchdog expires (R434, R510): the run of WDT resets grows. -/
def State.hfWatchdog (s : State) : State :=
  if s.released 2 then
    ({ s with hdf := { s.hdf with wdtTotal := satAdd 0xFFFF s.hdf.wdtTotal 1, wdtRun := satAdd 0xF s.hdf.wdtRun 1 } }).assertSource 6 true
  else s

def execHeadframeWatchdogExpiry (s : State) : Out := .next s.hfWatchdog

/-- `RST_CMD` takes effect: SOFT; other values are ignored with `ERR.ACCESS` (R455). -/
def State.rstCmd (s : State) (v : Word) : State := if field v 3 0 = 1 then s.assertSource 8 true else s.accessErr .rst

def execRstSoft (req : Requester) (value compl : Word) (s : State) : Out :=
  .next (s.critical req .rst 0x10C value compl State.rstCmd)

def execMctpDeviceReset (s : State) : Out := .next (if s.released 2 then s.assertSource 8 true else s)

/-- ZDP_RESET: the manager's command reaches a worker (R434, R431). -/
def execZdpReset (s : State) : Out := .next (if s.isWorker then s.assertSource 9 true else s)

/-! ## D1: straps and option load (R438, R441, R442, R447) -/

/-- D1 is released: RELSTAMP, the RESET record, the straps, and the option load starts; the counter of R442 at 8 makes
it load the safe set. -/
def State.releaseD1 (s : State) (straps : Nat) : State :=
  let c := s.cny.loadCount
  let safe := decide (8 ≤ c)
  let s := s.putSts 0xF 0x200
  let s := s.setReg .rst 0x11C (BitVec.ofNat 32 s.stamp)
  let s := s.setReg .rst 0x120 (BitVec.ofNat 32 (s.stamp / 2 ^ 32))
  let s := s.setReg .rst 0x114 (BitVec.ofNat 32 (straps % 16))
  let d1 := s.reg .rst 0x110
  let s := if s.rst.restarted then
      (s.setReg .rst 0x110 (BitVec.ofNat 32 (satAdd 0xFF (field d1 15 8) 1 * 256))).setErr .rst 16
    else s
  let s := { s with
    cny := { s.cny with loadCount := if safe then c else c + 1, onBackup := false }
    rst := { s.rst with loading := true, restarted := false, safeLoad := safe, lastRel := s.stamp } }
  s.logEvent 0x0001 1 deviceTenant Page.rst.typeCode 0 (s.reg .rst 0x100).toNat s.stamp s.rst.prevFull

/-- RESET_DEASSERT: a source is deasserted (the hold of an A5 alarm only by a POR); with no source naming D1 left, D1 is
released. -/
def State.deassert (s : State) (source straps : Nat) : State :=
  if source = 7 || !s.rst.asserted.any (fun x => x.1 == source) then s
  else
    let s := { s with rst := { s.rst with asserted := s.rst.asserted.filter fun x => x.1 != source } }
    if s.heldBy 1 || s.released 1 then s else s.releaseD1 straps

def execResetDeassert (source straps : Nat) (s : State) : Out := .next (s.deassert source straps)

/-! ## The life-cycle vote (R458 to R461) -/

/-- How a copy reads (R459): none where it is invalid. -/
def LcCopy.reads (c : LcCopy) : Option Nat :=
  if c.w1 &&& ~~~lcPattern 1 ≠ 0 ∨ c.w2 &&& ~~~lcPattern 2 ≠ 0 ∨ c.w3 &&& ~~~lcPattern 3 ≠ 0 then none
  else if c.w3 = lcPattern 3 then some 3
  else if c.w2 = lcPattern 2 then some 2
  else if c.w1 = lcPattern 1 then some 1
  else some 0

/-- The state read from more than half of the valid copies (R460). -/
def lcVote (l : List LcCopy) : Option Nat :=
  let valid := l.filterMap LcCopy.reads
  (List.range 4).find? fun n => decide (valid.length < 2 * (valid.filter fun v => v == n).length)

/-- The vote decides the state; without a majority it is END_OF_LIFE with VOTE_FAIL. Valid copies that read lower are to
be completed (R461). END_OF_LIFE clears the lock of the alarm mapping (R488). -/
def State.lcVoted (s : State) : State :=
  let x := s.lcc
  let v := lcVote x.copies
  let st := v.getD 3
  let reads := x.copies.map LcCopy.reads
  let low (r : Option Nat) : Bool := match r with | some n => decide (n < st) | none => false
  let k := if v.isSome then (reads.findIdx? low).getD 5 else 5
  let s := { s with lcc := { x with
    state := st, agree := (reads.filter fun r => r == some st).length, invalid := (reads.filter fun r => r.isNone).length
    voteFail := v.isNone, completing := decide (k < 5), nextCopy := k } }
  let s := if st = 3 then { s with cny := { s.cny with locked := false, floor := [] } } else s
  if v.isNone then s.setErr .lcc 18 else s

/-- OPTION_LOAD_DONE: the trims are applied in one step, the owner's options unless they failed or the safe set was
loaded. -/
def State.optionsLoaded (s : State) (o : OptionSet) : State :=
  if !s.rst.loading then s
  else
    let safe := s.rst.safeLoad || o.ownerFail
    let eff : OptionSet := if safe then { o with roleOverride := none, vfLimit := 255, ownerFloor := 0 } else o
    let s := { s with
      cny := { s.cny with loadCount := 0 }
      dir := { s.dir with disabled := o.disabled }
      rst := { s.rst with loading := false, optionsDone := true, options := some eff, trims := o.trims } }
    let s := s.putSts 0x0C000000 (b2n safe * 2 ^ 26 + b2n (o.vendorFail && !s.rst.safeLoad) * 2 ^ 27)
    let s := if safe then s.setErr .rst 17 else s
    s.lcVoted

def execOptionLoadDone (options : OptionSet) (s : State) : Out := .next (s.optionsLoaded options)

/-! ## Release of D2 to D8 (R438, R439) -/

/-- SHA-384 (R449). -/
def sha384 (m : Bytes) : Bytes := hashOf 0x03 m

/-- Record a measurement (R449). -/
def State.measureItem (s : State) (k : Nat) (m : Bytes) : State :=
  { s with rst := { s.rst with measures := Cells.put s.rst.measures k (sha384 m) } }

/-- The device secret (R219, R463): the row programmed last, which is the second of the two where that one was used. -/
def Lcc.secret (x : Lcc) : Option Bytes :=
  match x.secretB, x.secretA with
  | .key v, _ => some v
  | _, .key v => some v
  | _, _ => none

def loopDefault (_ : Nat) : Loop := {}

/-- The conditions that the backup part sees lasting when the main part starts: they show in `CNY_SRCACT`. -/
def Canary.lasting (c : Canary) : Word :=
  let loops := ((List.range 12).map fun n => if (Cells.get loopDefault c.loops n).raised then 2 ^ n else 0).sum
  BitVec.ofNat 32 (loops + b2n c.vbatGone * 2 ^ 0x18 + b2n c.batLow * 2 ^ 0x19)

/-- D2 (R439): no transaction, epoch 0, the directory rebuilt; the ROM runs, or in END_OF_LIFE the boot stops (R457). -/
def State.releaseD2 (s : State) : State :=
  let s := { s with cny := { s.cny with srcAct := s.cny.lasting } }
  let s := { s with txn := {} }
  let s := { s with dir := { seq := s.dir.seq, disabled := s.dir.disabled } }
  let s := s.rewriteDirectory.settleDirectory
  let s := { s with txn := { s.txn with digest := s.configDigest } }
  let raw := match s.rst.options with | some o => o.raw | none => []
  let s := (s.measureItem 0 Config.romVersion).measureItem 1 (raw ++ [BitVec.ofNat 8 (b2n (bit (s.reg .rst 0x104) 26))])
  if s.lcc.state = 3 then { s.setPhase 9 with rst := { s.rst with stopped := true } } else s.setPhase 1

/-- D4 (R439, R221, R253): Lode receives its keys, or the root key is absent; the entropy source settles. -/
def State.releaseD4 (s : State) : State :=
  let s := match s.cny.rootKey with
    | some k => s.holdRoot k
    | none => ({ s with lode := { s.lode with rootLost := true } }).setInt .lod 17
  s.entSettle 1 0

/-- The Stopes of a group of D5 (R438): 16 each. -/
def State.releaseGroup (s : State) (g : Nat) : State :=
  let s := (List.range 16).foldl (fun s k =>
    let n := 16 * g + k
    let s := s.setStope n { s.stope n with clockTarget := 1600 }
    let s := s.setStope n { s.stope n with clock := s.clockFor n }
    if s.ent.central.live then s.instantiateStope n else s) s
  { s with rst := { s.rst with groups := g + 1 } }

/-- D6 (R439): the Shafts run their self-tests; the estimates of the job table serve again (R290). -/
def State.releaseD6 (s : State) : State :=
  let s := { s with tally := { s.tally with measured := s.tally.measured.filter fun q => decide (q.1 < shaftKey (0, 0)) } }
  (List.range 8).foldl (fun s n => s.setShaft n { s.shaft n with test := if s.outOfService (.shf n) then 0 else 1 }) s

/-- The RWS registers of a table, with their RWS fields only. -/
def rwsOnly (l : List (Nat × Word)) : List (Nat × Word) :=
  l.filterMap fun q =>
    match keyPlace q.1 with
    | .page p off => if rwsMask p off = 0 then none else some (q.1, q.2 &&& rwsMask p off)
    | _ => none

/-- The mapping of a record with a locked mapping's floor under it (R488): the higher class of each source. -/
def State.floored (s : State) (l : List (Nat × Word)) : List (Nat × Word) :=
  if !s.cny.locked then l
  else (List.range 8).foldl (fun l i =>
    let k := Page.cny.key (0x110 + 4 * i)
    let v := Cells.get regDefault l k
    let w := (List.range 4).foldl (fun w b => w + Nat.max (field v (8 * b + 2) (8 * b)) (nthD s.cny.floor (4 * i + b) 0) * 256 ^ b) 0
    Cells.put l k (BitVec.ofNat 32 w)) l

/-- The records of R57 part 2 for a set of values. -/
def ownerBytes (values : List (Nat × Word)) : Bytes :=
  let x : State := { regs := values }
  (devicePages.map fun p => x.digestRecords .device p).flatten ++
    ((List.range 256).map fun t => x.digestRecords (.tenant t) (.tnt t)).flatten

/-- What an owner configuration record says, and its tag under the device secret (R450). -/
def OwnerRec.bytes (r : OwnerRec) : Bytes := leBytes 8 r.epoch ++ ownerBytes r.values
def OwnerRec.tagUnder (r : OwnerRec) (secret : Bytes) : Bytes := fit 32 (Config.ownerTag secret r.bytes)

/-- The valid owner configuration record with the highest epoch (R450). -/
def State.bestOwnerRec (s : State) : Option OwnerRec :=
  let valid (r : OwnerRec) : Bool := match s.lcc.secret with | some k => r.tag == r.tagUnder k | none => false
  match s.rst.ownerA.filter valid, s.rst.ownerB.filter valid with
  | some a, some b => if b.epoch ≤ a.epoch then some a else some b
  | some a, none => some a
  | none, b => b

/-- Epoch 1 (R450, R55): Headframe commits the owner's configuration, or reset values with OWNERCFG_DEFAULT; the record
applied is the last item measured (R449). -/
def State.firstEpoch (s : State) : State :=
  let r := s.bestOwnerRec
  let l := s.floored (match r with | some r => r.values | none => [])
  let s := match r with
    | some r => s.measureItem (4 + s.rst.packs.length) r.bytes
    | none => s.putSts 0 0x10000000
  { s with txn := { s.txn with hfQueue := s.txn.hfQueue ++ [(HfReason.ownerConfig, l)] } }

/-- Enter the known-answer tests (R451 step 12). -/
def State.startTests (s : State) : State :=
  let s := s.setPhase 7
  let s := (s.stopes.map fun (q : Nat × Stope) => q.1).foldl
    (fun s n => if (s.stope n).store.packs.isEmpty then s else s.setStope n { s.stope n with retest := true }) s
  s.katCheck

/-- Where the boot stands between the keys and the kernel load (R451 steps 8 to 11). -/
def State.settlePhase (s : State) : State :=
  if s.bootPhase == 4 && s.released 8 then
    let s := s.setPhase 5
    if s.cfgReady then
      let s := s.setPhase 6
      if s.rst.packs.isEmpty then s.startTests else s
    else s
  else if s.bootPhase == 5 && s.cfgReady then
    let s := s.setPhase 6
    if s.rst.packs.isEmpty then s.startTests else s
  else s

/-- D8 (R439, R417): every link is DOWN; the device takes its role from the strap or the owner's override. -/
def State.releaseD8 (s : State) : State :=
  let strap := if bit (s.reg .rst 0x114) 2 then 2 else 1
  let r := match s.rst.options with | some o => o.roleOverride.getD strap | none => strap
  let s := (s.setReg .zdp 0x104 (BitVec.ofNat 32 r)).takeRole r
  s.firstEpoch.settlePhase

/-- What the release of a domain brings (R439). -/
def State.releaseEffect (s : State) (d : Nat) : State :=
  match d with
  | 2 => s.releaseD2
  | 4 => s.releaseD4
  | 6 => s.releaseD6
  | 8 => s.releaseD8
  | _ => s

/-- May the reset controller release a domain: its predecessor out of reset, no source holding it, requested (R438)? -/
def State.mayRelease (s : State) (d : Nat) : Bool :=
  decide (2 ≤ d) && decide (d ≤ 8) && s.released (d - 1) && !s.released d && !s.heldBy d && !s.rst.stopped && !(s.avs.tripped && decide (3 ≤ d)) &&
    (if d = 2 then s.rst.optionsDone else decide (d ≤ s.regField .rst 0x140 3 0))

/-- DOMAIN_RELEASE: 512 SYS_CLK cycles after the predecessor; D5 in four groups, 128 cycles apart. -/
def State.domainRelease (s : State) (d : Nat) : State :=
  if !s.mayRelease d then s
  else
    let g := s.rst.groups
    let s := s.advanceTo (s.rst.lastRel + (if d = 5 ∧ g ≠ 0 then 5120 else 20480))
    let s := { s with rst := { s.rst with lastRel := s.stamp } }
    if d = 5 then
      let s := s.releaseGroup g
      if g = 3 then s.putSts 0 (2 ^ 13) else s
    else (s.putSts 0 (2 ^ (8 + d))).releaseEffect d

def execDomainRelease (d : Nat) (s : State) : Out := .next (s.domainRelease d)

/-- Headframe's conditions for requesting domains up to `n` (R438). -/
def State.mayRequest (s : State) (n : Nat) : Bool :=
  decide (n ≤ 8) && s.released 2 && !s.rst.stopped &&
    (decide (n < 3) || (s.rst.logRead && !s.lcc.completing)) && (decide (n < 4) || s.rst.bistOk) &&
    (decide (n < 7) || s.rst.keysDone || (s.lcc.state == 0 && s.released 6))

/-- RST_REL_WRITE: Headframe's alone (R455). -/
def State.relWrite (s : State) (req : Requester) (v : Word) : State :=
  s.gated req .rst 0x140 fun s =>
    if !req.isHeadframe then s.accessErr .rst
    else if s.mayRequest (field v 3 0) then s.setReg .rst 0x140 (BitVec.ofNat 32 (Nat.max (field v 3 0) (s.regField .rst 0x140 3 0)))
    else s

def execRstRelWrite (req : Requester) (value : Word) (s : State) : Out := .next (s.relWrite req value)

/-! ## Digest cores (R445, R446) -/

/-- One requested core's reset: DONE where it is drained and idle, else refused. -/
def State.coreReset (s : State) (n : Nat) : State :=
  let log (s : State) (r : Nat) : State := s.setReg .rst 0x134 (BitVec.ofNat 32 (0x0017 * 65536 + n * 256 + r))
  if bit (s.reg .rst 0x138) n && !s.dgs.cores.any (fun p => p.1 == n) then ((log s 1).setInt .rst 17).resetCore n
  else (log s 2).setErr .rst 21

/-- A write of `RST_DCORE` takes effect. -/
def State.dcoreWrite (s : State) (v : Word) : State :=
  if s.resetPending then s
  else
    let s := s.setReg .rst 0x138 (v &&& 0xFFFF#32)
    let s := ((List.range 16).filter fun n => bit v (16 + n)).foldl (fun s n => s.coreReset n) s
    s.feedCores

def execDcoreDrain (req : Requester) (value compl : Word) (s : State) : Out :=
  .next (if field value 31 16 = 0 then s.critical req .rst 0x138 value compl State.dcoreWrite else s)

def execDcoreReset (req : Requester) (value compl : Word) (s : State) : Out :=
  .next (if field value 31 16 = 0 then s else s.critical req .rst 0x138 value compl State.dcoreWrite)

end Sys2Proof.Machine
end

