-- ==== Sys2Proof/Machine/Boot.lean ====
section
/-! DEFINITION. The boot (R447 to R452, R510): BIST, the boot image, the firmware, the device keys (R219), configuration
readiness, the boot packs, full readiness, the owner configuration records (R450), and the restore of persistent
objects (R221). -/
namespace Sys2Proof.Machine

/-! ## Failing boots -/

/-- A BOOT record (R505). -/
def State.bootEvent (s : State) (cls cause : Nat) : State :=
  s.logEvent 0x000E cls deviceTenant Page.rst.typeCode 0 cause s.stamp (s.reg .rst 0x104).toNat

/-- BOOT_FAIL (R452): D3 to D8 in reset, PHASE 9; the ROM waits for a recovery image. -/
def State.bootFail (s : State) : State :=
  let s := s.resetUpper.setPhase 9
  let s := s.setReg .rst 0x140 2
  { s with rst := { s.rst with stopped := true, header := [], fwLoaded := false, packs := [] } }

/-- BIST_DONE (R439, R452): failing units are out of service before the directory is first published (R36); a failure in
a memory that R439 names stops the boot. The configuration digest of epoch 0 keeps the directory digest of D2's release
(R55): DESIGN CHOICE, log 6. -/
def State.bistEnds (s : State) (pages : List Page) (cores links : List Nat) (fatal : Bool) : State :=
  if !s.released 3 || s.rst.bistDone then s
  else if fatal then s.bootFail
  else
    let bad := pages.filter fun p => (match p with | .stp n => decide (n < 64) | .shf n => decide (n < 8) | _ => false) &&
      !s.dir.disabled.contains p
    let s := { s with
      dir := { s.dir with disabled := s.dir.disabled ++ bad }
      dgs := { s.dgs with dead := (s.dgs.dead ++ cores.filter fun n => decide (n < 16)).eraseDups }
      zdp := { s.zdp with deadLinks := (s.zdp.deadLinks ++ links.filter fun n => decide (n < 4)).eraseDups }
      rst := { s.rst with bistDone := true, bistOk := true } }
    let s := s.rewriteDirectory.settleDirectory
    let log (s : State) (block unit : Nat) : State := s.logEvent 0x000D 2 deviceTenant block unit 1 s.stamp 0
    let s := bad.foldl (fun s p => log s p.typeCode p.instanceNo) s
    let s := cores.foldl (fun s n => log s 0x0017 n) s
    links.foldl (fun s n => log s 0x0031 n) s

def execBistDone (pages : List Page) (cores links : List Nat) (fatal : Bool) (s : State) : Out :=
  s.clocked (.next (s.bistEnds pages cores links fatal))

/-! ## The boot image (R447, R448, R510) -/

/-- The order in which the flashes are tried (true is flash B); three WDT resets in a row turn it round (R510). -/
def State.flashOrder (s : State) : List Bool :=
  let turn := decide (3 ≤ s.hdf.wdtRun)
  match s.regField .rst 0x114 1 0 with
  | 0 => if turn then [true, false] else [false, true]
  | 1 => if turn then [false, true] else [true, false]
  | 2 => if turn then [] else [false]
  | _ => []

def sigBoot : Nat := 3

/-- The header of a valid image, as far as the header shows (R448): its fields, both signatures, the version floors. -/
def State.headerOk (s : State) (h : Bytes) : Bool :=
  let floor := match s.rst.options with | some o => Nat.max o.vendorFloor o.ownerFloor | none => 0
  slice h 0 4 == ascii "FVBI" && leField h 4 2 == 1 && decide (leField h 16 4 ≤ 655360) && decide (floor ≤ leField h 8 4) &&
    h.length == 128 + 4627 + 96 && Config.holds (.signed sigBoot) [h.take 128, h.drop 128]

/-- The pack table, each pack with its mask of Stopes. -/
def packTable (h : Bytes) (l : List BootPack) : List (Nat × Pack) :=
  (l.take (leField h 24 2)).map fun p => (p.mask, packOf p.image 0)

/-- BOOT_FALLBACK is reported with its cause (R452, R510). -/
def State.fallback (s : State) (cause : Nat) : State := ((s.putSts 0 0x2000000).setErr .rst 18).bootEvent 2 cause

/-- An image proved invalid: the other flash, or BOOT_FAIL. -/
def State.imageBad (s : State) : State :=
  let n := s.rst.tried + 1
  let s := { s with rst := { s.rst with tried := n, header := [], packs := [] } }
  if n < s.flashOrder.length then s.fallback 1 else s.bootFail

/-- BOOT_HEADER_READ: step 4 of R451. A flash with no valid tables holds no image. -/
def State.headerRead (s : State) (b : Bool) (h : Bytes) (l : List BootPack) : State :=
  if !s.released 3 || s.rst.stopped || s.rst.fwLoaded || !s.rst.header.isEmpty then s
  else if s.regField .rst 0x114 1 0 = 2 ∧ 3 ≤ s.hdf.wdtRun then s.bootFail
  else if (s.flashOrder.drop s.rst.tried).head? ≠ some b then s
  else
    let s := if s.rst.tried = 0 ∧ 3 ≤ s.hdf.wdtRun then s.fallback 4 else s
    if !s.headerOk h then s.imageBad
    else
      let s := { s with rst := { s.rst with header := h, packs := packTable h l } }
      let s := s.setReg .rst 0x114 ((s.reg .rst 0x114 &&& 0xFFFFFFCF#32) ||| BitVec.ofNat 32 (b2n b * 16))
      (s.measureItem 2 (h.take 128)).setPhase 2

def execBootHeaderRead (flashB : Bool) (header : Bytes) (packs : List BootPack) (s : State) : Out :=
  .next (s.headerRead flashB header packs)

/-- The key of a record's MAC, and the MAC over bytes 0 to 2,639 (R467). -/
def ownerMac (secret body : Bytes) : Bytes := kmac32 (kmac32 secret (ascii "FV owner key") "") body "FV owner"

/-- A record read from bytes; `macOk` covers MAGIC, VERSION and MAC. -/
def State.ownRecOf (s : State) (b : Bytes) : OwnRec :=
  { owned := leField b 6 1 == 1, count := leField b 8 8, keyId := slice b 16 32, key := slice b 48 2592
    macOk := b.length == 2672 && slice b 0 4 == ascii "FVOW" && leField b 4 2 == 1 &&
      (match s.lcc.secret with | some k => slice b 2640 32 == ownerMac k (b.take 2640) | none => false) }

/-- The bytes of a record that Headframe writes: an owner's key, or none where the part is UNOWNED. -/
def State.ownRecBytes (s : State) (key : Option Bytes) (count : Nat) : Bytes :=
  let body := ascii "FVOW" ++ leBytes 2 1 ++ leBytes 1 (b2n key.isSome) ++ [0] ++ leBytes 8 count ++
    fit 32 ((key.map sha3).getD []) ++ fit 2592 (key.getD [])
  body ++ ownerMac (s.lcc.secret.getD []) body

/-- The ownership record in force (R468): the valid slot, or UNOWNED before any step, or OWNER_LOST. -/
def State.evalOwner (s : State) : State :=
  let x := s.lcc
  let good (r : Option OwnRec) : Option OwnRec :=
    match r with
    | some r => if r.macOk && r.count == x.ownCount then some r else none
    | none => none
  let put (r : OwnRec) (b : Bool) : State :=
    { s with lcc := { x with ownState := b2n r.owned, ownKey := if r.owned then r.keyId else []
                             ownPub := if r.owned then r.key else [], ownSlotB := b } }
  match good (x.slotA.map s.ownRecOf), good (x.slotB.map s.ownRecOf) with
  | some r, _ => put r false
  | none, some r => put r true
  | none, none =>
    if x.ownCount = 0 then { s with lcc := { x with ownState := 0, ownKey := [], ownPub := [], ownSlotB := false } }
    else ({ s with lcc := { x with ownState := 2, ownKey := [], ownPub := [], ownSlotB := false } }).setErr .lcc 19

/-- The firmware starts (R451 step 8): its measurement, its version, PHASE 4, and the ownership in force. -/
def State.firmwareRuns (s : State) (h image : Bytes) : State :=
  let s := { s with rst := { s.rst with fwLoaded := true, fwDigest := sha384 image } }
  let s := (s.measureItem 3 image).setReg .rst 0x118 (BitVec.ofNat 32 (leField h 8 4))
  (s.setPhase 4).evalOwner.settlePhase

/-- FIRMWARE_LOAD_DONE: step 5 of R451. -/
def State.firmwareLoaded (s : State) (image : Bytes) : State :=
  let h := s.rst.header
  if h.isEmpty || s.rst.fwLoaded then s
  else if image.length = leField h 16 4 ∧ sha384 image = slice h 48 48 then s.firmwareRuns h image
  else s.imageBad

def execFirmwareLoadDone (image : Bytes) (s : State) : Out := .next (s.firmwareLoaded image)

/-- RECOVERY_IMAGE (R447, R452): with BOOT_SEL 0b11, or after BOOT_FAIL; never in END_OF_LIFE (R457). -/
def State.recovery (s : State) (h image : Bytes) (l : List BootPack) : State :=
  let waits := decide (s.regField .rst 0x114 1 0 = 3) || s.rst.stopped
  if !s.released 2 || s.rst.fwLoaded || s.lcc.state == 3 || !waits then s
  else if s.headerOk h && image.length == leField h 16 4 && sha384 image == slice h 48 48 then
    let s := { s with rst := { s.rst with header := h, packs := packTable h l, stopped := false } }
    let s := s.setReg .rst 0x114 ((s.reg .rst 0x114 &&& 0xFFFFFFCF#32) ||| 0x20#32)
    (s.measureItem 2 (h.take 128)).firmwareRuns h image
  else s

def execRecoveryImage (header image : Bytes) (packs : List BootPack) (s : State) : Out := .next (s.recovery header image packs)

/-! ## Device keys (R219) -/

/-- The seed of the identity key. -/
def identitySeed (secret : Bytes) : Bytes := kmac32 secret (ascii "FV devid") ""

/-- The device identity key and its public part. -/
def identitySecret (secret : Bytes) : Bytes := Config.prim (.dsaSec 3) [identitySeed secret]
def identityPublic (secret : Bytes) : Bytes := Config.prim (.dsaPub 3) [identitySeed secret]

/-- The seed of the attestation keys. -/
def attestSeed (secret fw : Bytes) : Bytes := kmac32 secret (ascii "FV attest" ++ fw) ""

/-- The private value of the P-384 attestation key (R219). -/
def attestPrivate (seed : Bytes) : Bytes := Config.prim (.ecFromSeed 2) [seed]
def attestPublic (seed : Bytes) : Bytes := Config.prim (.ecPub 2) [attestPrivate seed]

/-- An ML-DSA-87 signature by one of the device's own keys, from the key pair's seed. The spec states no mode: pure with
an empty context, as it states for the owner's signatures, is DESIGN CHOICE, log 48. -/
def deviceSig (seed m rnd : Bytes) : Bytes :=
  fit 4627 (Config.prim (.dsaSig 3) [Config.prim (.dsaSec 3) [seed], muOf (Config.prim (.dsaPub 3) [seed]) (mPrime false [] 0 m), rnd])

/-- The randomiser or nonce of a signature by a device key, which the spec does not state: a free value. -/
def State.signRandom (s : State) (n : Nat) : Bytes := leBytes n (Config.freeValue (8 * n) s.freeNext).toNat

/-- KEY_DERIVATION_DONE: in every life-cycle state that holds a device secret; the identity key signs the alias
certificate of this boot (R478). -/
def State.keysDerived (s : State) : State :=
  match s.lcc.secret with
  | some k =>
    if s.rst.fwLoaded && s.released 4 && !s.rst.keysDone && s.lcc.state != 0 && s.lcc.state != 3 then
      let seed := attestSeed k s.rst.fwDigest
      { s with
        freeNext := s.freeNext + 1
        lode := { s.lode with identityKey := some (identitySecret k), attestKey := some seed
                              aliasSig := deviceSig (identitySeed k) (attestPublic seed) (s.signRandom 32) }
        rst := { s.rst with keysDone := true } }
    else s
  | none => s

def execKeyDerivationDone (s : State) : Out := s.clocked (.next s.keysDerived)

/-! ## Readiness (R451, R453) -/

/-- CONFIG_READY: the link is trained and configuration requests are answered. -/
def State.configReady (s : State) : State :=
  if !s.released 7 || s.cfgReady then s
  else
    let s := s.putSts 0 0x40000000
    let s := s.setReg .rst 0x124 (BitVec.ofNat 32 s.stamp)
    let s := s.setReg .rst 0x128 (BitVec.ofNat 32 (s.stamp / 2 ^ 32))
    s.settlePhase

def execConfigReady (s : State) : Out := s.clocked (.next s.configReady)

/-- A boot pack goes into one Stope's store; false where a check of R378 fails. -/
def State.bootInstall (s : State) (n : Nat) (p : Pack) : State × Bool :=
  let x := s.stope n
  if s.outOfService (.stp n) || decide (4 ≤ x.store.packs.length) then (s, true)
  else if s.packResult n p.image false ≠ 0 then (s, false)
  else match x.store.install p with
    | some st => (s.setStope n { x with store := st }, true)
    | none => (s, false)

/-- BOOT_PACK_LOADED: pack `k` of the table, in order (R451 step 11, R452). -/
def State.bootPack (s : State) (k : Nat) : State :=
  match s.rst.packs[k]? with
  | none => s
  | some (mask, p) =>
    if s.bootPhase ≠ 6 ∨ s.rst.packNext ≠ k then s
    else
      let s := s.measureItem (4 + k) p.image
      let r := ((List.range 64).filter fun n => mask.testBit n).foldl
        (fun (r : State × Bool) n => let q := r.1.bootInstall n p; (q.1, r.2 && q.2)) (s, true)
      let s := r.1
      let s := if r.2 then
          let v := s.reg .rst 0x114
          s.setReg .rst 0x114 ((v &&& 0xFFFF#32) ||| BitVec.ofNat 32 (satAdd 0xFFFF (field v 31 16) 1 * 65536))
        else (s.setErr .rst 19).bootEvent 2 2
      let s := { s with rst := { s.rst with packNext := k + 1 } }
      if k + 1 = s.rst.packs.length then s.startTests else s

def execBootPackLoaded (k : Nat) (s : State) : Out := s.clocked (.next (s.bootPack k))

/-- FULL_READINESS (R451 steps 13 and 14). -/
def State.fullReady (s : State) : State :=
  if s.bootPhase = 7 ∧ s.rst.bootCommitted then
    let s := (s.setPhase 8).putSts 0 0x80000000
    let s := s.setReg .rst 0x12C (BitVec.ofNat 32 s.stamp)
    let s := s.setReg .rst 0x130 (BitVec.ofNat 32 (s.stamp / 2 ^ 32))
    let s := { s with hdf := { s.hdf with wdtRun := 0 } }
    (s.setInt .rst 16).bootEvent 0 3
  else s

def execFullReadiness (s : State) : Out := s.clocked (.next s.fullReady)

/-- The boot load is run again after an alarm of class A3 or higher met it (R454). -/
def State.bootAgain (s : State) : State :=
  if s.bootPhase = 6 ∨ s.bootPhase = 7 then
    let s := (s.stopes.map fun (q : Nat × Stope) => q.1).foldl
      (fun s n => s.setStope n { s.stope n with store := {}, retest := false }) s
    let s := { s with rst := { s.rst with packNext := 0, bootCommitted := false }
                      txn := { s.txn with
                        hfQueue := s.txn.hfQueue.filter fun q => q.1 != HfReason.bootVersions
                        hfAgain := s.txn.hfAgain.filter fun q => q.1 != HfReason.bootVersions } }
    let s := s.setReg .rst 0x114 (s.reg .rst 0x114 &&& 0xFFFF#32)
    let s := (s.setPhase 6).putSts 0x20000000 0
    if s.rst.packs.isEmpty then s.startTests else s
  else s

/-! ## Owner configuration records (R450) -/

/-- OWNER_CONFIG_RECORD_WRITE: the two flashes in turn. A part with no device secret has no key for the record's tag. -/
def State.ownerRecord (s : State) : State :=
  match s.lcc.secret with
  | some k =>
    if s.txn.recordPending && s.rst.fwLoaded then
      let b := !s.rst.lastOwnerB
      let r : OwnerRec := { epoch := s.txn.epoch, values := rwsOnly s.regs }
      let r := { r with tag := r.tagUnder k }
      { s with
        txn := { s.txn with recordPending := false }
        rst := { s.rst with lastOwnerB := b, ownerA := if b then s.rst.ownerA else some r, ownerB := if b then some r else s.rst.ownerB } }
    else s
  | none => s

def execOwnerConfigRecordWrite (s : State) : Out := .next s.ownerRecord

/-! ## The restore of persistent objects (R221) -/

/-- `LOD_STORE` (R222). -/
def State.lodStore (s : State) : Nat :=
  let x := s.lode
  Nat.min 0xFFFF x.restoreFail * 65536 + b2n x.storeRetry * 16 + b2n x.restorePartial * 8 + b2n x.restoreDone * 4 +
    b2n x.rootLost * 2 + b2n x.rootPresent

/-- An object comes back under its handle, without expansion, pinned key or tree cache; a stateful key waits for its
lease record (R192). -/
def State.restoreOne (s : State) (r : KeyRecord) : State :=
  let o := r.obj
  s.setObj (handleIndex r.handle) { o with
    present := true, held := false, retired := false, used := true, gen := handleGen r.handle, tenant := handleTenant r.handle
    expGran := 0, expUsed := 0, pinGran := 0
    stf := o.stf.map fun f => { f with ready := false, extending := false, flooring := 0, cache := 0, cacheGran := 0,
                                        cacheBy := none, sub := none, subNext := none, grants := [], wanted := [] } }

/-- An entry that waited for the restore goes on, or completes with what its checks find now (R221). -/
def State.afterRestore (s : State) (e : Nat) (x : Entry) (k : OpKind) : State :=
  let go (s : State) : State := if sluiceFirst k x.desc then s.askChannel e else s
  if boundToObject k then
    match s.checksKey x.tenant x.desc k with
    | .error (st, need) => (s.setEntry e { x with outBytes := need }).finish e st
    | .ok (some a) => go (s.reserveFor e x.tenant a)
    | .ok none => go s
  else match s.handlesOk x.tenant x.desc k with
    | some st => s.finish e st
    | none => go s

/-- The restore is over for the entries that waited. -/
def State.wakeRestored (s : State) : State :=
  s.forEntries (s.entriesWhere fun x => x.keyWait && x.spilled.isNone) fun s e =>
    match s.entry e with
    | some x =>
      let x := { x with keyWait := false }
      match x.desc.kind with
      | some k => (s.setEntry e x).afterRestore e x k
      | none => s.setEntry e x
    | none => s

/-- The restore ends with nothing restored, the root key being absent (R221). -/
def State.restoreNone (s : State) : State :=
  let s := if s.lode.rootLost then s else ({ s with lode := { s.lode with rootLost := true } }).setInt .lod 17
  let s := { s with lode := { s.lode with restoreDone := true } }
  (s.logEvent 0x000F 1 deviceTenant 0x0020 0 s.lodStore s.stamp 0).wakeRestored

/-- The records that verify under the storage key. -/
def State.goodRecords (s : State) (key : Bytes) : List KeyRecord := s.lode.records.filter fun r => r.tagOk && r.under == key

/-- For each index the valid record with the highest sequence, unless it is a destruction marker (R221). -/
def State.liveRecords (s : State) (key : Bytes) : List KeyRecord :=
  let good := s.goodRecords key
  good.filter fun r =>
    !r.marker && newestRecord (good.filter fun q => handleIndex q.handle == handleIndex r.handle) == some r

/-- PERSIST_RESTORE: with the root key lost at D4's release, nothing is restored, whatever root key has been drawn since. -/
def State.persistRestore (s : State) : State :=
  if !s.released 4 || !s.rst.fwLoaded || s.lode.maskKey.isNone || !s.restoring then s
  else match s.lode.storageKey, s.lode.rootLost with
    | none, _ | _, true => s.restoreNone
    | some key, false =>
      let bad := s.lode.records.length - (s.goodRecords key).length
      let live := s.liveRecords key
      let s := live.foldl (fun s r => s.restoreOne r) s
      let s := { s with lode := { s.lode with restoreDone := true, restorePartial := bad != 0, restoreFail := Nat.min 0xFFFF bad } }
      let s := if bad = 0 then s else s.setErr .lod 17
      let s := (s.setInt .lod 16).logEvent 0x000F (if bad = 0 then 0 else 1) deviceTenant 0x0020 0 s.lodStore s.stamp live.length
      s.wakeRestored

def execPersistRestore (s : State) : Out := s.clocked (.next s.persistRestore)

end Sys2Proof.Machine
end

