-- ==== Sys2Proof/Machine/Life.lean ====
section
/-! DEFINITION. Life-cycle transitions and tokens (R456 to R466), ownership (R467 to R471), debug authorisation and the
JTAG port (R472 to R475). -/
namespace Sys2Proof.Machine

/-! ## Destroying key classes (R218) -/

/-- The ROOT class: the root key and the keys derived from it. -/
def State.eraseRoot (s : State) : State :=
  { s with
    cny := { s.cny with rootKey := none }
    lode := { s.lode with storageKey := none, leaseKey := none, rootPresent := false } }

/-- Every class at one stamp D, as in A4: objects (with their expansions, pinned keys and tree caches), identity, root and
constellation keys. `why` is DETAIL1 of the records (R505). Persistent records stay in flash, unreadable. -/
def State.destroyClasses (s : State) (why : Nat) : State :=
  let s := (s.destroyAll (s.objectsWhere fun _ => true) why none false).destroyStamp
  let s := { s with
    lode := { s.lode with identityKey := none, attestKey := none, writes := s.lode.writes.filter fun w => w.entry.isSome }
    zdp := { s.zdp with transportKey := none } }
  s.eraseRoot

/-! ## Transitions (R463, R464) -/

/-- Is a transition, an ownership change or a debug grant under way (R466)? -/
def State.lccBusy (s : State) : Bool := s.lcc.cmd != 0 || s.lcc.ownCmd != 0 || s.lcc.waiting.isSome

/-- `LCC_RESULT.RESULT`. -/
def State.lccResult (s : State) (r : Nat) : State := { s with lcc := { s.lcc with result := r } }

/-- A command that meets another one: BUSY and `ERR.ACCESS` (R466). -/
def State.lccRefuse (s : State) : State := (s.lccResult 3).accessErr .lcc

/-- Does the lockout after a token mismatch last (R462)? -/
def State.locked (s : State) : Bool :=
  match s.lcc.lockout with
  | some t => decide (s.stamp < t + 1000000000)
  | none => false

/-- Eight registers as 32 bytes. -/
def State.regBytes (s : State) (p : Page) (off : Nat) : Bytes :=
  ((List.range 8).map fun i => leBytes 4 (s.reg p (off + 4 * i)).toNat).flatten

/-- The digest a command's token must match: none where there is no such transition (R463, R465). -/
def Lcc.tokenFor (x : Lcc) (cmd : Nat) : Option Bytes :=
  let tok3 := if x.tok3Flag then x.tok3b else x.tok3a
  match cmd, x.state with
  | 1, 0 => some x.tok1
  | 2, 1 => some x.tok2
  | 3, 1 => some x.tok2
  | 3, 2 => some tok3
  | 4, 2 => some tok3
  | _, _ => none

/-- BLANK→TEST before the first copy: the device secret is drawn and programmed into the first blank row, the identity
derived, its digest programmed. False where no row is blank or no random bits can be had. -/
def State.makeSecret (s : State) : State × Bool :=
  let slotB := s.lcc.secretA != .blank
  if slotB && s.lcc.secretB != .blank then (s, false)
  else match s.drawCentral 2 32 with
    | (s, none) => (s, false)
    | (s, some k) =>
      let row : SecretRow := .key k
      ({ s with
        lcc := { s.lcc with secretA := if slotB then s.lcc.secretA else row, secretB := if slotB then row else s.lcc.secretB
                            devid := sha3 (identityPublic k) }
        lode := { s.lode with identityKey := some (identitySecret k) } }, true)

/-- TEST→PRODUCTION before the first copy: VENDOR_TEST objects, with their persistent records. -/
def State.dropVendorTest (s : State) : State :=
  let s := (s.destroyAll (s.objectsWhere fun o => o.vendorTest) 2 none false).destroyStamp
  { s with lode := { s.lode with records := s.lode.records.filter fun r => !r.obj.vendorTest } }

/-- Does a copy still have to be programmed for a state: for a transition, one that does not read it yet; for the
completion at boot (R461), a valid one that reads lower. -/
def LcCopy.wants (c : LcCopy) (st : Nat) (completing : Bool) : Bool :=
  match c.reads with
  | some n => decide (n < st)
  | none => !completing

/-- The next copy to program, from `k` on. -/
def State.copyFrom (s : State) (k st : Nat) (completing : Bool) : Nat :=
  (((List.range 5).filter fun j => decide (k ≤ j)).find? fun j => (nthD s.lcc.copies j {}).wants st completing).getD 5

/-- How many copies read a state. -/
def State.copiesAt (s : State) (st : Nat) : Nat := (s.lcc.copies.filter fun c => c.reads == some st).length

/-- Programming has gone through the copies (R464 steps 5 and 6): the secret rows at END_OF_LIFE, the record, the reset. -/
def State.transitionEnds (s : State) : State :=
  let st := s.lcc.cmd
  let n := s.copiesAt st
  let s := if st = 3 ∧ 3 ≤ n then { s with lcc := { s.lcc with secretA := .ones, secretB := .ones } } else s
  let r := if 3 ≤ n then 1 else 7
  let s := { s with lcc := { s.lcc with cmd := 0, phase := 0, result := r, copiesDone := n, nextCopy := 0, tries := 0 } }
  let s := s.logEvent 0x0011 1 deviceTenant Page.lcc.typeCode 0 (st + r * 16) s.stamp n
  let s := s.setInt .lcc 16
  if r = 1 then s.assertSource 8 true else s

/-- Steps 3 and 4 of R464 begin: destruction is done, programming starts. -/
def State.startProgram (s : State) (cmd : Nat) : State :=
  let k := s.copyFrom 0 cmd false
  let s := { s with lcc := { s.lcc with cmd := cmd, phase := 3, nextCopy := k, tries := 0, copiesDone := s.copiesAt cmd } }
  if k = 5 then s.transitionEnds else s

/-- What a command whose token matched does. -/
def State.lccRun (s : State) (cmd : Nat) : State :=
  match cmd with
  | 1 =>
    match s.makeSecret with
    | (s, true) => s.startProgram 1
    | (s, false) => s.lccResult 7
  | 2 => s.dropVendorTest.startProgram 2
  | 3 => (s.destroyClasses 2).startProgram 3
  | _ =>
    let d := s.regBytes .lcc 0x1C0
    ({ s with lcc := { s.lcc with tok3Written := true, tok3b := d, tok3Flag := true, result := 1 } }).setInt .lcc 16

/-- The checks of an `LCC_CMD` command (R462 to R466). -/
def State.lccCommand (s : State) (v : Word) : State :=
  let cmd := field v 3 0
  let token := sha3 (s.regBytes .lcc 0x104)
  if cmd = 0 ∨ 4 < cmd then s.accessErr .lcc
  else if s.lccBusy then s.lccRefuse
  else if s.locked then s.lccResult 0xC
  else if cmd = 4 ∧ (s.lcc.state ≠ 2 ∨ s.lcc.ownState ≠ 1) then s.lccResult 0xB
  else if cmd = 4 ∧ s.lcc.tok3Written then s.lccResult 6
  else match s.lcc.tokenFor cmd with
    | none => s.lccResult 5
    | some d =>
      if token = d then (s.lccResult 0).lccRun cmd
      else
        let s := { s with lcc := { s.lcc with
          result := 2, lockout := some s.stamp, tokFail := satAdd 0xFFFF s.lcc.tokFail 1 } }
        s.setErr .lcc 16

/-- Every write of `LCC_CMD` clears the token registers (R462). -/
def State.clearToken (s : State) : State := (List.range 8).foldl (fun s i => s.setReg .lcc (0x104 + 4 * i) 0) s

/-- A command write of one of the four kinds. -/
def State.lccWrite (s : State) (req : Requester) (v c : Word) : State :=
  let s' := s.critical req .lcc 0x124 v c State.lccCommand
  if s.onBus req && req.reaches .lcc then s'.clearToken else s'

def execToTest (req : Requester) (value compl : Word) (s : State) : Out :=
  .next (if field value 3 0 = 1 then s.lccWrite req value compl else s)
def execToProduction (req : Requester) (value compl : Word) (s : State) : Out :=
  .next (if field value 3 0 = 2 then s.lccWrite req value compl else s)
def execToEndOfLife (req : Requester) (value compl : Word) (s : State) : Out :=
  .next (if field value 3 0 = 3 then s.lccWrite req value compl else s)
def execSetTok3 (req : Requester) (value compl : Word) (s : State) : Out :=
  .next (if field value 3 0 = 4 then s.lccWrite req value compl else s)

/-- A copy's programming and read-back end: `good` is whether every bit took. A copy that fails three times is passed
over, with `ERR` COPY_FAIL (R464). -/
def State.copyProgrammed (s : State) (good : Bool) : State :=
  let x := s.lcc
  let st := if x.completing then x.state else x.cmd
  let k := x.nextCopy
  let go := (x.completing && s.released 2) || (decide (1 ≤ x.cmd) && x.phase == 3)
  if !go then s
  else
    let s := if k = 5 then s
      else if good then s.programCopy k st (lcPattern st)
      else
        let s := s.programCopy k st (lcPattern st &&& Config.freeValue 32 s.freeNext)
        { s with freeNext := s.freeNext + 1 }
    let done := (nthD s.lcc.copies k {}).reads == some st
    if k < 5 && !done && decide (x.tries < 2) then { s with lcc := { s.lcc with tries := x.tries + 1, nextCopy := k } }
    else
      let s := if k < 5 && !done then s.setErr .lcc 17 else s
      let next := s.copyFrom (k + 1) st x.completing
      let s := { s with lcc := { s.lcc with nextCopy := next, tries := 0, copiesDone := s.copiesAt st } }
      if next < 5 then s
      else if x.completing then
        { s with lcc := { s.lcc with completing := false, completed := true, nextCopy := 0, copiesDone := 0, agree := s.copiesAt st } }
      else s.transitionEnds

def execLcCopyProgrammed (good : Bool) (s : State) : Out := .next (s.copyProgrammed good)

def execTokenLockoutExpiry (s : State) : Out :=
  .next (match s.lcc.lockout with
    | some t => let s := s.advanceTo (t + 1000000000); { s with lcc := { s.lcc with lockout := none } }
    | none => s)

/-! ## Ownership (R467 to R471) -/

/-- The purpose of Cleorara's debug key in Headframe ROM (R473). -/
def romDebug : Nat := 5

/-- A counted change (R470): the record to the slot not in force, the counter step, then the commit. -/
def State.ownChange (s : State) (cmd : Nat) (key : Bytes) : State :=
  let x := s.lcc
  let r := s.ownRecBytes (if cmd = 3 then none else some key) (x.ownCount + 1)
  let toB := !x.ownSlotB && (x.slotA.isSome || x.slotB.isSome)
  let s := { s with lcc := { x with slotA := if toB then x.slotA else some r, slotB := if toB then some r else x.slotB
                                    ownCount := x.ownCount + 1, ownCmd := cmd, result := 0 } }
  let s := s.evalOwner
  { s with txn := { s.txn with hfQueue := s.txn.hfQueue ++ [(HfReason.ownership, [])] } }

/-- An ownership command whose state allows it, with its blob from host memory (R469). -/
def State.ownRun (s : State) (cmd : Nat) (blob : Bytes) : State :=
  let x := s.lcc
  let tail := x.devid ++ leBytes 8 x.ownCount
  match cmd with
  | 1 => if blob.length = 2592 then s.ownChange 1 blob else s.lccResult 0xA
  | 2 =>
    let key := blob.take 2592
    if blob.length = 2592 + 4627 ∧
      pureSigned x.ownPub [] (ascii "FV transfer" ++ tail ++ sha3 key) (blob.drop 2592) = true then s.ownChange 2 key
    else s.lccResult 0xA
  | 3 =>
    if blob.length = 4627 ∧ pureSigned x.ownPub [] (ascii "FV release" ++ tail) blob = true then s.ownChange 3 []
    else s.lccResult 0xA
  | _ =>
    let r := s.ownRecOf blob
    if r.macOk && r.count == x.ownCount then
      let s := ({ s with lcc := { x with slotA := some blob, slotB := some blob, result := 1 } }).evalOwner
      (s.logEvent 0x0012 1 deviceTenant Page.lcc.typeCode 0 4 s.stamp x.ownCount).setInt .lcc 17
    else s.lccResult 0xA

/-- The ownership state a command is accepted in (R469). -/
def ownNeeds (cmd : Nat) : Nat := match cmd with | 1 => 0 | 4 => 2 | _ => 1

/-- The checks of an `LCC_OWNCMD` command (R462, R466, R469, R471); without its blob the command fails (R511). -/
def State.ownCommandBy (s : State) (v : Word) (blobRead : Bool) : State :=
  let cmd := field v 2 0
  let src := (s.reg .lcc 0x154).toNat + 2 ^ 32 * (s.reg .lcc 0x158).toNat
  if cmd = 0 ∨ 4 < cmd then s.accessErr .lcc
  else if s.lccBusy then s.lccRefuse
  else if s.locked then s.lccResult 0xC
  else if s.isWorker then s.lccResult 9
  else if s.lcc.state ≠ 2 ∨ s.lcc.ownState ≠ ownNeeds cmd then s.lccResult 0xB
  else if cmd ≠ 4 ∧ 64 ≤ s.lcc.ownCount then s.lccResult 8
  else if !(s.fn 0).bme || !blobRead then s.lccResult 4
  else s.ownRun cmd (s.hostRead src (Nat.min 8192 (s.reg .lcc 0x15C).toNat))

/-- An `LCC_OWNCMD` command with its blob read from host memory. -/
def State.ownCommand (s : State) (v : Word) : State := s.ownCommandBy v true

def State.ownWrite (s : State) (req : Requester) (v c : Word) : State := s.critical req .lcc 0x150 v c State.ownCommand

def execOwnEnroll (req : Requester) (value compl : Word) (s : State) : Out :=
  .next (if field value 2 0 = 1 then s.ownWrite req value compl else s)
def execOwnTransfer (req : Requester) (value compl : Word) (s : State) : Out :=
  .next (if field value 2 0 = 2 then s.ownWrite req value compl else s)
def execOwnRelease (req : Requester) (value compl : Word) (s : State) : Out :=
  .next (if field value 2 0 = 3 then s.ownWrite req value compl else s)
def execOwnRestore (req : Requester) (value compl : Word) (s : State) : Out :=
  .next (if field value 2 0 = 4 then s.ownWrite req value compl else s)

/-! ## Debug authorisation (R473 to R475) -/

/-- The debug level in force (R456, R479): 3 in BLANK and TEST. -/
def State.debugLevel (s : State) : Nat := if s.lcc.state ≤ 1 then 3 else s.lcc.grant

/-- A DEBUG record (R505). -/
def State.debugEvent (s : State) (level signer validity : Nat) : State :=
  s.logEvent 0x0013 1 deviceTenant Page.lcc.typeCode 0 (level + signer * 256) s.stamp validity

/-- An authorisation ends (R475); after a session that used scan the device is reset (R472). -/
def State.endDebug (s : State) : State :=
  if s.lcc.grant = 0 then s
  else
    let x := s.lcc
    let s := s.debugEvent x.grant x.signer x.validity
    let s := { s with lcc := { x with grant := 0, signer := 0, validity := 0, scanUsed := false } }
    if x.scanUsed then s.assertSource 8 true else s

/-- A grant takes effect. -/
def State.grantDebug (s : State) (level signer validity : Nat) : State :=
  let s := { s with lcc := { s.lcc with grant := level, signer := signer, validity := validity, grantAt := s.stamp } }
  (s.debugEvent level signer validity).setInt .lcc 18

/-- NEWCHAL (R474): by DBGCHAL over JTAG, or by `LCC_DBGCMD`. -/
def State.newChallenge (s : State) : State :=
  if s.lccBusy then s.lccRefuse
  else if !s.entReady then s
  else match s.drawCentral 3 32 with
    | (s, some c) => { s with lcc := { s.lcc with challenge := some c, challengeAt := s.stamp } }
    | (s, none) => s

def execNewchal (via : Option Requester) (s : State) : Out :=
  .next (match via with
    | some req => s.gated req .lcc 0x184 State.newChallenge
    | none => if s.released 2 then s.newChallenge else s)

/-- The fields of an authorisation are correct (R473). -/
def State.authFields (s : State) (b : Bytes) : Bool :=
  b.length == 80 + 4627 && slice b 0 4 == ascii "FVDA" && leField b 4 2 == 1 && decide (1 ≤ leField b 6 1) &&
    decide (leField b 6 1 ≤ 3) && (leField b 7 1 == 1 || leField b 7 1 == 2) && slice b 8 32 == s.lcc.devid &&
    (match s.lcc.challenge with
      | some c => slice b 40 32 == c && decide (s.stamp < s.lcc.challengeAt + 60000000000)
      | none => false) &&
    decide (1 ≤ leField b 72 4) && decide (leField b 72 4 ≤ 86400) && leField b 76 4 == 0

/-- DBGAUTH: the challenge is consumed; a LEVEL 3 grant waits for the zeroise of its own A4 alarm. -/
def State.debugAuth (s : State) (b : Bytes) : State :=
  if !s.released 2 then s
  else if s.lccBusy then s.lccRefuse
  else
    let level := leField b 6 1
    let signer := leField b 7 1
    let ok := s.lcc.state == 2 && s.authFields b && (signer != 2 || s.lcc.ownState == 1) &&
      pureSigned (if signer = 2 then s.lcc.ownPub else Config.romKey romDebug) (ascii "FV debug") (b.take 80) (b.drop 80)
    let s := { s with lcc := { s.lcc with challenge := none } }
    if !ok then s.setErr .lcc 20
    else if level = 3 then
      ({ s with lcc := { s.lcc with waiting := some (signer, leField b 72 4) } }).raiseAlarm 0x1C 0 0 false
    else s.grantDebug level signer (leField b 72 4)

def execDbgauth (blob : Bytes) (s : State) : Out := .next (s.debugAuth blob)

def execDbgEnd (req : Requester) (s : State) : Out :=
  .next (s.gated req .lcc 0x184 fun s => if s.lccBusy then s.lccRefuse else s.endDebug)

def execChallengeExpiry (s : State) : Out :=
  .next (match s.lcc.challenge with
    | some _ =>
      let s := s.advanceTo (s.lcc.challengeAt + 60000000000)
      { s with lcc := { s.lcc with challenge := none } }
    | none => s)

def execDebugExpiry (s : State) : Out :=
  .next (if s.lcc.grant = 0 then s else (s.advanceTo (s.lcc.grantAt + s.lcc.validity * 1000000000)).endDebug)

/-! ## An ownership change at its stamp E (R471) -/

/-- COMMIT_QUIESCE, with what an ownership change does beyond the kernel stores: an owner-signed authorisation ends, a
manager's constellation is dissolved. -/
def State.quiesceAll (s : State) : State :=
  let owner : Bool := match s.txn.active with
    | some c => c.stage == .awaitQuiesce && c.of == .headframe .ownership
    | none => false
  let s := s.commitQuiesce
  if owner then
    let s := if s.isManager then s.giveUp.drawTransport else s
    if s.lcc.signer = 2 then s.endDebug else s
  else s

def execCommitQuiesce (s : State) : Out := s.clocked (.next s.quiesceAll)

/-! ## The JTAG port (R472) -/

/-- An instruction in the JTAG instruction register, with what its data register captures. -/
def State.jtagSelect (s : State) (ir : Nat) (out : Bytes) : State :=
  if s.released 2 then { s with lcc := { s.lcc with jtag := ir, jtagOut := out } } else s

/-- `LCC_STATE` (R479). -/
def State.lccState (s : State) : Nat :=
  b2n s.lcc.voteFail * 2 ^ 17 + b2n s.lcc.completed * 2 ^ 16 + s.lcc.invalid * 256 + s.lcc.agree * 16 + s.lcc.state

/-- `LCC_DBG` (R479). -/
def State.lccDbg (s : State) : Nat :=
  let x := s.lcc
  let left := if x.grant = 0 then 0 else (x.grantAt + x.validity * 1000000000 - s.stamp) / 60000000000
  Nat.min 0xFFFF left * 65536 + x.signer * 256 + s.debugLevel

def execBypass (s : State) : Out := .next (s.jtagSelect 0 [0])
def execIdcode (s : State) : Out := .next (s.jtagSelect 1 (fit 4 Config.idcode))
def execIdent (s : State) : Out :=
  .next (s.jtagSelect 2 (fit 16 Config.uid ++ fit 32 s.lcc.devid ++ leBytes 4 s.lccState))
def execDbgsts (s : State) : Out := .next (s.jtagSelect 3 (leBytes 4 s.lccDbg))

/-- A scan instruction, at SCAN level or above; the session has used scan. -/
def State.jtagScan (s : State) (ir : Nat) (out boundary : Bytes) : State :=
  if 2 ≤ s.debugLevel ∧ s.released 2 then
    { s with lcc := { s.lcc with jtag := ir, jtagOut := out, boundary := boundary, scanUsed := true } }
  else s

def execSamplePreload (sample preload : Bytes) (s : State) : Out := .next (s.jtagScan 4 sample preload)
def execExtest (s : State) : Out := .next (s.jtagScan 5 s.lcc.jtagOut s.lcc.boundary)

end Sys2Proof.Machine
end

