-- ==== Sys2Proof/Machine/Spdm.lean ====
section
/-! DEFINITION. Attestation: the SPDM 1.3 responder (R476 to R478). The spec names the standard and states what is
supported, the measurement blocks and the certificate chain; the order of requests and the response codes are those of
SPDM 1.3 (PRESUMED), and a message's bytes are a function with no body of its code and of the fields stated here. -/
namespace Sys2Proof.Machine

/-! ## Connections -/

def spdmDefault (_ : Nat) : Spdm := {}

/-- A connection: 0 to 255 the DOE mailbox of a function, 256 MCTP over I3C, 257 MCTP over SMBus. -/
def State.spdm (s : State) (c : Nat) : Spdm := Cells.get spdmDefault s.spdms c

def State.setSpdm (s : State) (c : Nat) (x : Spdm) : State := { s with spdms := Cells.set spdmDefault s.spdms c x }

/-- Is a request on a connection answered (R476, R456)? -/
def State.spdmOpen (s : State) (c : Nat) : Bool :=
  (s.lcc.state == 1 || s.lcc.state == 2) &&
    (if c < 256 then s.released 7 && (s.fn c).enabled else decide (c < 258) && s.rst.fwLoaded)

/-- SPDM response codes. -/
def spdmError : Nat := 0x7F

/-- A response goes out; the transcript grows by it, and the next signature has another randomiser. -/
def State.spdmAnswer (s : State) (c code : Nat) (fields : List Bytes) : State :=
  let m := Config.spdmBytes code fields
  let x := s.spdm c
  { s.setSpdm c { x with response := m, transcript := x.transcript ++ m } with freeNext := s.freeNext + 1 }

/-- A request's handling: no answer on a closed connection, ERROR before the negotiation reached `need`. -/
def State.spdmRequest (s : State) (c need : Nat) (f : State → State) : State :=
  if !s.spdmOpen c then s
  else if (s.spdm c).step < need then s.spdmAnswer c spdmError []
  else f s

def execGetVersion (c : Nat) (s : State) : Out :=
  .next (s.spdmRequest c 0 fun s => (s.setSpdm c { step := 1 }).spdmAnswer c 0x04 [])

def execGetCapabilities (c : Nat) (s : State) : Out :=
  .next (s.spdmRequest c 1 fun s => (s.setSpdm c { s.spdm c with step := Nat.max 2 (s.spdm c).step }).spdmAnswer c 0x61 [])

def execNegotiateAlgorithms (c : Nat) (s : State) : Out :=
  .next (s.spdmRequest c 2 fun s => (s.setSpdm c { s.spdm c with step := 3 }).spdmAnswer c 0x63 [])

/-! ## Certificates (R478) -/

/-- The device certificate that CERTDIG accepts, if a flash holds it. -/
def Lcc.certificate (x : Lcc) : Option Bytes :=
  if sha3 x.certA = x.certDig then some x.certA else if sha3 x.certB = x.certDig then some x.certB else none

/-- The chain: root, CA and device certificate from flash, then the alias certificate for the attestation key, which the
identity key signed at this boot. -/
def State.certChain (s : State) : Option Bytes :=
  match s.lcc.certificate, s.lode.attestKey with
  | some cert, some seed => some (cert ++ Config.spdmBytes 0x200 [attestPublic seed, s.lode.aliasSig])
  | _, _ => none

def execGetDigests (c : Nat) (s : State) : Out :=
  .next (s.spdmRequest c 3 fun s => s.spdmAnswer c 0x01 (match s.certChain with | some b => [sha384 b] | none => []))

/-- GET_CERTIFICATE: slot 0 only; an ERROR where neither flash holds a valid certificate. -/
def execGetCertificate (c slot offset len : Nat) (s : State) : Out :=
  .next (s.spdmRequest c 3 fun s =>
    match s.certChain with
    | some b =>
      if slot = 0 ∧ offset < b.length then
        let part := (b.drop offset).take len
        s.spdmAnswer c 0x02 [part, leBytes 2 (b.length - offset - part.length)]
      else s.spdmAnswer c spdmError []
    | none => s.spdmAnswer c spdmError [])

/-- A signature by the P-384 attestation key. -/
def State.attestSign (s : State) (m : Bytes) : Option Bytes :=
  s.lode.attestKey.map fun seed => Config.prim (.ecSig 2) [attestPrivate seed, sha384 m, scalarFrom 2 (s.signRandom (ecDrawLen 2))]

def execSpdmChallenge (c : Nat) (nonce : Bytes) (s : State) : Out :=
  .next (s.spdmRequest c 3 fun s =>
    match s.attestSign ((s.spdm c).transcript ++ nonce) with
    | some sig => s.spdmAnswer c 0x03 [nonce, sig]
    | none => s.spdmAnswer c spdmError [])

/-! ## Measurements (R477) -/

/-- Block 0xE0: life-cycle state, ownership state, COUNT, KEYID, debug LEVEL and SIGNER. -/
def State.standing (s : State) : Bytes :=
  leBytes 1 s.lcc.state ++ leBytes 1 s.lcc.ownState ++ leBytes 1 s.lcc.ownCount ++ fit 32 s.lcc.ownKey ++
    leBytes 1 s.debugLevel ++ leBytes 1 s.lcc.signer

/-- Every block but the signature, by index. -/
def State.measureBlocks (s : State) : List (Nat × Bytes) :=
  (s.rst.measures.map fun (q : Nat × Bytes) => (q.1 + 1, q.2)) ++
    ((List.range 64).map fun n => (0x10 + n, s.summaryOf n)) ++ [(0xE0, s.standing)]

/-- Block 0xF0: the ML-DSA-87 signature over SHA-384 of the other blocks of the response, with the requester's nonce. -/
def State.measureSig (s : State) (blocks : List (Nat × Bytes)) (nonce : Bytes) : Option Bytes :=
  s.lode.attestKey.map fun seed => deviceSig seed (sha384 (blocks.map fun q => q.2).flatten ++ nonce) (s.signRandom 32)

/-- GET_MEASUREMENTS of one index, or of all (0xFF). -/
def execGetMeasurements (c index : Nat) (nonce : Bytes) (s : State) : Out :=
  .next (s.spdmRequest c 3 fun s =>
    let l := s.measureBlocks.filter fun q => index == 0xFF || q.1 == index
    let sig := if index = 0xFF ∨ index = 0xF0 then s.measureSig l nonce else none
    if l.isEmpty && sig.isNone then s.spdmAnswer c spdmError []
    else
      let all := l ++ (match sig with | some b => [(0xF0, b)] | none => [])
      s.spdmAnswer c 0x60 (all.map fun q => leBytes 1 q.1 ++ q.2))

/-! ## Sessions -/

/-- KEY_EXCHANGE: DHE secp384r1, the device's share from the central DRBG, the transcript signed by the attestation key. -/
def State.keyExchange (s : State) (c : Nat) (peer : Bytes) : State :=
  match s.drawCentral 3 (ecDrawLen 2) with
  | (s, none) => s.spdmAnswer c spdmError []
  | (s, some r) =>
    let d := scalarFrom 2 r
    let share := Config.prim (.ecPub 2) [d]
    match s.attestSign ((s.spdm c).transcript ++ peer ++ share) with
    | none => s.spdmAnswer c spdmError []
    | some sig =>
      let x := s.spdm c
      let s := s.setSpdm c { x with session := 1, sessionId := x.sessionId + 1, updates := 0, secret := Config.prim (.ecShared 2) [d, peer] }
      s.spdmAnswer c 0x64 [share, sig]

def execKeyExchange (c : Nat) (peer : Bytes) (s : State) : Out := .next (s.spdmRequest c 3 fun s => s.keyExchange c peer)

/-- FINISH: the requester's HMAC over the transcript, under the session's secret. -/
def execSpdmFinish (c : Nat) (mac : Bytes) (s : State) : Out :=
  .next (s.spdmRequest c 3 fun s =>
    let x := s.spdm c
    if x.session = 1 ∧ mac = fit 48 (Config.prim (.hmac 0x03) [x.secret, x.transcript]) then
      (s.setSpdm c { x with session := 2 }).spdmAnswer c 0x65 []
    else s.spdmAnswer c spdmError [])

/-- A request that only an established session answers. -/
def State.inSession (s : State) (c : Nat) (f : State → State) : State :=
  s.spdmRequest c 3 fun s => if (s.spdm c).session = 2 then f s else s.spdmAnswer c spdmError []

def execKeyUpdate (c : Nat) (s : State) : Out :=
  .next (s.inSession c fun s => (s.setSpdm c { s.spdm c with updates := (s.spdm c).updates + 1 }).spdmAnswer c 0x69 [])

def execSpdmHeartbeat (c : Nat) (s : State) : Out := .next (s.inSession c fun s => s.spdmAnswer c 0x68 [])

/-- END_SESSION: the session's keys are gone. -/
def execEndSession (c : Nat) (s : State) : Out :=
  .next (s.inSession c fun s => (s.setSpdm c { s.spdm c with session := 0, secret := [], updates := 0 }).spdmAnswer c 0x6C [])

/-- VENDOR_DEFINED_REQUEST: PCIe IDE_KM programs the key of an IDE stream, over DOE. -/
def execVendorDefinedRequest (c stream : Nat) (key : Bytes) (s : State) : Out :=
  .next (s.inSession c fun s =>
    let x := s.spdm c
    (s.setSpdm c { x with ide := Cells.put x.ide (stream % 256) key }).spdmAnswer c 0x7E [leBytes 1 (stream % 256)])

end Sys2Proof.Machine
end

