-- ==== Sys2Proof/Machine/Canary.lean ====
section
/-! DEFINITION. Canary (chapter 19): the tamper loops and case inputs (R482, R483, R485), the monitors (R484), the alarm's
action sequence (R486, R490 to R493), release (R492, R496), the mapping's lock (R488), the backup domain's log and its
processing at power-up (R494 to R499), and retained memory (R498, R502). -/
namespace Sys2Proof.Machine

/-! ## Loops and case inputs (R482, R483) -/

/-- Loop `n` below 8, case input `n − 8` from there on: the source codes of R481. -/
def State.loop (s : State) (n : Nat) : Loop := Cells.get loopDefault s.cny.loops n

def State.setLoop (s : State) (n : Nat) (x : Loop) : State :=
  { s with cny := { s.cny with loops := Cells.set loopDefault s.cny.loops n x } }

/-- Does the main-power part of Canary run: is D2 released? Otherwise the backup part acts alone. -/
def State.cnyMain (s : State) : Bool := s.released 2 && !s.cny.onBackup

/-- The loop, case and period settings: the registers, or the backup part's copies. -/
def State.loopCfg (s : State) : Word := if s.cnyMain then s.reg .cny 0x134 else s.cny.loopCfg
def State.caseCfg (s : State) : Word := if s.cnyMain then s.reg .cny 0x138 else s.cny.caseCfg
def State.periodCfg (s : State) : Word := if s.cnyMain then s.reg .cny 0x13C else s.cny.periodCfg

/-- Is loop or case input `n` enabled? -/
def State.loopOn (s : State) (n : Nat) : Bool := if n < 8 then bit s.loopCfg n else bit s.caseCfg (n - 8)

/-- Have DEBOUNCE mismatches fallen within the last four samples? -/
def State.loopBad (s : State) (n : Nat) : Bool :=
  s.loopOn n && decide (field s.loopCfg 18 16 ≤ ((s.loop n).recent.filter fun b => b).length) && (s.loop n).recent.contains true

/-- What one pulse of a loop reads: `a` and `b` are TMP_INn at the end of its halves; its pull level is low. -/
def sampleLoop (x : Loop) (on prbs a b : Bool) : Loop :=
  if !on then { x with recent := [], state := 0, cause := 0 }
  else
    let next := Config.lfsrNext x.lfsr
    let out := next.testBit 0
    let bad := if prbs then a != out || b == out else !b
    let cause := if !bad then 0 else if !a && !b then 1 else if a && b then 2 else 3
    { x with lfsr := if prbs then next else x.lfsr, recent := (bad :: x.recent).take 4, cause := cause
             state := if !bad then 1 else if cause = 1 then 2 else 3 }

/-- What one pulse reads on a case input. -/
def sampleCase (x : Loop) (on wrong : Bool) : Loop :=
  if !on then { x with recent := [], state := 0 } else { x with recent := (wrong :: x.recent).take 4, state := b2n wrong }

/-- The backup clock runs on for `us` microseconds at 32.768 kHz (R16); the part of a cycle that has begun counts on. -/
def State.clockOn (s : State) (us : Nat) : State :=
  let n := s.cny.bclkRem + us * 32768
  { s with cny := { s.cny with bclk := (s.cny.bclk + n / 1000000) % 2 ^ 48, bclkRem := n % 1000000 } }

/-- An event that the backup part logs (R494, R498): with a LOOP or CASE class of A4 or A5 the root key is erased. -/
def State.backupEvent (s : State) (src cause detail : Nat) : State :=
  let cls := if src < 12 then nthD s.cny.mapCopy src 4 else 1
  let s := s.cnyLog { bclk := s.cny.bclk, src := src, cls := cls, backup := s.cny.onBackup, processed := false, counted := false
                      cause := cause, seq := s.cny.logSeq, detail := detail }
  if src < 12 ∧ 4 ≤ cls then { s with cny := { s.cny with rootKey := none } } else s

/-- An event of a source that the backup part samples: on main power it goes to the alarm's action sequence. -/
def State.sampledEvent (s : State) (src cause detail : Nat) : State :=
  if s.cnyMain then s.raiseAlarm src cause detail true else s.backupEvent src cause detail

/-- LOOP_PULSE: the period elapses, the loops and cases are sampled, and the cell is measured; a cell that falls below
2.4 V raises VBAT_LOW (R484). -/
def State.loopPulse (s : State) (first second cases mv : Nat) : State :=
  let us := if s.cnyMain then field s.periodCfg 13 0 else field s.periodCfg 25 16 * 1000
  let s := if s.cnyMain then s.advanceTo (s.cny.pulseAt + us * 1000) else s
  let s := { s with cny := { s.cny with pulseAt := if s.cnyMain then s.stamp else 0 } }
  let s := s.clockOn us
  let s := (List.range 8).foldl (fun s n =>
    s.setLoop n (sampleLoop (s.loop n) (s.loopOn n) (bit s.loopCfg (8 + n)) (first.testBit n) (second.testBit n))) s
  let s := (List.range 4).foldl (fun s n =>
    s.setLoop (8 + n) (sampleCase (s.loop (8 + n)) (s.loopOn (8 + n)) (cases.testBit n != bit s.caseCfg (4 + n)))) s
  let low := decide (mv < 2400)
  let fell := low && !s.cny.batLow
  let s := { s with cny := { s.cny with vbatMv := mv % 4096, batLow := low } }
  if fell then s.sampledEvent 0x19 0 mv else s

def execLoopPulse (first second cases mv : Nat) (s : State) : Out := .next (s.loopPulse first second cases mv)

/-- A loop's or case input's event, once for as long as it lasts. -/
def State.loopEvent (s : State) (n : Nat) : State :=
  let x := s.loop n
  if x.raised || !s.loopBad n then s else (s.setLoop n { x with raised := true }).sampledEvent n x.cause 0

def execLoopEvent (n : Nat) (s : State) : Out := .next (if n < 8 then s.loopEvent n else s)
def execCaseEvent (n : Nat) (s : State) : Out := .next (if n < 4 then s.loopEvent (8 + n) else s)

/-! ## Monitors (R484, R496) -/

/-- Does a monitor of main power run? -/
def State.monitorOn (s : State) (src : Nat) : Bool :=
  s.cnyMain && decide (0x0C ≤ src) && decide (src ≤ 0x17) &&
    (match src with
      | 0x15 => bit (s.reg .cny 0x140) 0 && s.released 7 && s.cfgReady
      | 0x16 => bit (s.reg .cny 0x140) 2
      | 0x17 => bit (s.reg .cny 0x140) 1
      | _ => true)

/-- Is a rail's reading in mV outside its limits, in the direction of the cause: 1 under, 2 over? -/
def railOut (cause mv low high : Nat) : Bool := (cause == 1 && decide (mv < low)) || (cause == 2 && decide (high < mv))

/-- Does a monitor's reading lie beyond its threshold (R484): mV, 1/16 °C in two's complement, or kHz (R498)? The two SerDes
rails share a source; the crystal's and the light sensors' limits are finer than the reading shows. -/
def trips (src cause detail : Nat) : Bool :=
  let t := (BitVec.ofNat 32 detail).toInt
  match src with
  | 0x0C => railOut cause detail 600 900
  | 0x0D => railOut cause detail 720 880
  | 0x0E | 0x10 => railOut cause detail 1620 1980
  | 0x0F => railOut cause detail 1080 990
  | 0x11 => cause == 0 && decide (detail < 550)
  | 0x12 => cause == 0 && decide (t < if Config.gradeX then -800 else -160)
  | 0x13 => cause == 0 && decide ((if Config.gradeX then 1792 else 1760) < t)
  | 0x14 => cause == 0 && (decide (detail < 24500) || decide (25500 < detail))
  | 0x15 => cause == 0 && (decide (detail < 98000) || decide (102000 < detail))
  | _ => cause == 0

/-- MONITOR_EVENT: a reading beyond the threshold; the cause is 1 under or 2 over for a rail, else 0 (R498). -/
def State.monitorEvent (s : State) (src cause detail : Nat) (lasting : Bool) : State :=
  if s.monitorOn src && !bit s.cny.srcAct src && trips src cause detail then
    s.raiseAlarm src cause detail lasting
  else s

def execMonitorEvent (src cause detail : Nat) (lasting : Bool) (s : State) : Out := .next (s.monitorEvent src cause detail lasting)

/-- VBAT_REMOVED: below 1.8 V for 1 ms with main power present raises the event; on backup power what ran from the cell is
lost, and the seal check finds it (R496). -/
def execVbatRemoved (mv : Nat) (s : State) : Out :=
  .next (if s.cny.onBackup && decide (mv < 1800) then s.backupLost
    else if s.cnyMain && !s.cny.vbatGone && decide (mv < 1800) then
      ({ s with cny := { s.cny with vbatGone := true, vbatMv := mv % 4096 } }).raiseAlarm 0x18 0 mv true
    else s)

/-! ## The action sequence (R490, R491) -/

/-- The action that comes next, or 5 when all are done (`CNY_STATE.PHASE`). -/
def State.nextAction (s : State) : Nat :=
  let c := s.alarmClass
  if decide (3 ≤ c) && !s.cny.scrubbed then 2
  else if decide (4 ≤ c) && !s.cny.zeroised then 3
  else if decide (5 ≤ c) && !s.cny.shut then 4
  else if s.cny.held then 5 else 0

/-- SHUTDOWN (R490 step 5, R434): D3 to D8 enter reset and stay there until POR. -/
def State.shutdown (s : State) : State :=
  let s := s.resetUpper
  let s := s.noteCause 7
  let s := { s with
    rst := { s.rst with asserted := s.rst.asserted ++ [(7, false)] }
    cny := { s.cny with shut := true, phase := 4 } }
  s.setPhase 0xA

/-- Every action of every event applied is complete: their log entries of main power are processed (R493). -/
def State.sequenceDone (s : State) : State :=
  { s with cny := { s.cny with log := s.cny.log.map fun (e : CnyEntry) =>
      if e.backup || s.cny.detected.any (fun a => a.src == e.src && a.cls == e.cls) then e else { e with processed := true } } }

/-- Go to the next action; the boot load that an alarm ended is run again once all are done (R454). -/
def State.nextPhase (s : State) : State :=
  match s.nextAction with
  | 4 => s.shutdown.sequenceDone
  | 5 => ({ s with cny := { s.cny with phase := 5 } }).sequenceDone.bootAgain
  | n => { s with cny := { s.cny with phase := n } }

/-- The scrub starts at S (R97, R490): every operation not completed ends as ABORTED_ALARM, transactions, loads and digest
contexts end. -/
def State.cutOff (s : State) : State :=
  let s := { s with
    tally := { s.tally with cutoff := s.stamp }
    lode := { s.lode with serving := false }, cny := { s.cny with genFresh := s.cny.genFresh && s.cny.scrubbed } }
  let s := s.txnAlarm.kstAbort
  let s := s.forEntries (s.entriesWhere fun _ => true) fun s e => s.endWith e .abortedAlarm true
  s.dgsClearWhere (fun _ => true) 6

/-- Mark the log entry of an event without actions processed. -/
def State.markProcessed (s : State) (a : AlarmEvent) : State :=
  match s.cny.log.findIdx? fun (e : CnyEntry) => !e.processed && !e.backup && e.src == a.src && e.cls == a.cls with
  | some i =>
    { s with cny := { s.cny with log := setAt s.cny.log i { nthD s.cny.log i ⟨0, 0, 0, false, false, false, 0, 0, 0⟩ with processed := true } } }
  | none => s

/-- What an event of class A2 or higher starts: the hold at A2, the scrub as well from A3 on (R490). -/
def State.inForceBy (s : State) (a : AlarmEvent) : State :=
  let c : Canary := { s.cny with held := true, inForce := s.cny.inForce ++ [(a.src, a.cls)] }
  let s : State := { s with cny := c }
  let s : State := if 3 ≤ a.cls then s.cutOff else s
  if s.cny.phase = 2 ∨ s.cny.phase = 3 ∨ s.cny.phase = 4 then s else s.nextPhase

/-- An event of class A0 or A1 holds nothing; it is in force, and shown by `CNY_STATE.CLASS`, until a release. -/
def State.noteInForce (s : State) (a : AlarmEvent) : State :=
  if s.cny.inForce.contains (a.src, a.cls) then s
  else { s with cny := { s.cny with inForce := s.cny.inForce ++ [(a.src, a.cls)] } }

/-- The records and the interrupt of one event, then its class's effect. -/
def State.applyAlarm (s : State) (a : AlarmEvent) : State :=
  let s : State := if a.cls < 2 then s.markProcessed a else s
  let s : State := s.logEvent 0x0003 a.cls deviceTenant Page.cny.typeCode 0 (a.src + a.cause * 256) s.stamp a.detected
  let s : State := if 1 ≤ a.cls then s.raiseVector 0 eventVector else s
  if a.cls < 2 then s.noteInForce a else s.inForceBy a

/-- ALARM_CUTOFF: Tally applies the oldest event at stamp S, which no commit shares: a commit before it stands with an
earlier stamp, one after it finds the alarm (R20, R493). The programming of a life-cycle copy comes to its end first
(R466). -/
def State.alarmCutoff (s : State) : State :=
  match s.cny.detected with
  | [] => s
  | a :: rest =>
    if s.lcc.phase = 3 then s
    else State.applyAlarm { s.nextStamp with cny := { s.cny with detected := rest } } a

def execAlarmCutoff (s : State) : Out := s.clocked (.next s.alarmCutoff)

/-- Has every unit reported clear? -/
def State.scrubClear (s : State) : Bool := !s.tally.entries.any fun q => q.2.state == .dispatched

/-- What Tally's data fields and Adit's buffers held of an operation is cleared (R24): its input, auxiliary data, digest,
output and the keys it was bound to. -/
def Entry.cleared (x : Entry) : Entry :=
  { x with input := [], aux := [], digest := [], output := [], bound1 := none, bound2 := none, made := none }

/-- SCRUB_DONE: engines, Stope memories, Shafts, and the data of the operations that ended are clear (R24); the generators
are instantiated afresh where the source serves (R261). -/
def State.scrubDone (s : State) : State :=
  if s.cny.phase ≠ 2 || !s.scrubClear then s
  else
    let s := { s with
      engs := s.engs.map fun (q : Nat × Eng) => (q.1, { q.2 with regs := {}, old := {}, loc := [], locTenant := 0 })
      runs := []
      flaws := s.flaws.filter fun f => match f.place with | .loc _ _ _ | .region _ _ => false | _ => true
      tally := { s.tally with entries := s.tally.entries.map fun (q : Nat × Entry) => if q.2.decided then (q.1, q.2.cleared) else q } }
    let s := (List.range 8).foldl (fun s n =>
      let h := s.shaft n
      s.setShaft n { h with main := none, inner := none, candidate := none, wipeMain := 0, wipeYield := 0, wipeAll := false }) s
    let s := if s.entReady then s.instantiateAll else s
    ({ s with cny := { s.cny with scrubbed := true } }).nextPhase

def execScrubDone (s : State) : Out := s.clocked (.next s.scrubDone)

/-- ZEROISE_DONE: the key classes are destroyed (R218), the constellation is given up (R432); a LEVEL 3 debug grant that
waited takes effect (R474). -/
def State.zeroiseDone (s : State) : State :=
  if s.cny.phase ≠ 3 then s
  else
    let s := s.giveUp.destroyClasses 3
    let s := { s with cny := { s.cny with zeroised := true } }
    let s := match s.lcc.waiting with
      | some (signer, validity) => ({ s with lcc := { s.lcc with waiting := none } }).grantDebug 3 signer validity
      | none => s
    s.nextPhase

def execZeroiseDone (s : State) : Out := s.clocked (.next s.zeroiseDone)

/-! ## Release (R492, R496) -/

/-- Is a source whose class is A2 or higher active? -/
def State.activeHold (s : State) : Bool := (List.range 32).any fun n => bit s.cny.srcAct n && decide (2 ≤ s.mapClass n)

/-- Conditions 1 to 4. An event that has just been detected wins over a release (R493). -/
def State.mayReleaseHold (s : State) : Bool :=
  let c := s.alarmClass
  s.cny.phase == 5 && decide (c < 5) && !s.activeHold && !s.cny.detected.any (fun a => decide (2 ≤ a.cls)) &&
    (decide (c < 3) || s.cny.genFresh) && (decide (c < 4) || s.entReady)

/-- The release: after A4 first the new root key; then Lode serves and dispatch resumes. -/
def State.releaseHold (s : State) : State :=
  let s := if 4 ≤ s.alarmClass then s.newRootKey else s
  let s := { s with
    cny := { s.cny with held := false, phase := 0, inForce := [], scrubbed := false, zeroised := false }
    lode := { s.lode with serving := true }
    txn := { s.txn with hfQueue := s.txn.hfAgain ++ s.txn.hfQueue, hfAgain := [] } }
  s.setInt .cny 17

/-- A release is asked for: refused before the conditions hold; without effect where nothing is in force. -/
def State.askRelease (s : State) : State :=
  if !s.cny.held && s.cny.phase == 0 then (if s.cny.inForce.isEmpty then s else s.releaseHold)
  else if s.mayReleaseHold then s.releaseHold else s.setErr .cny 17

/-- ALARM_RELEASE: `CNY_HOLD.RELEASE` with its complement, or a command of the BMC. -/
def execAlarmRelease (bmc : Bool) (req : Requester) (value compl : Word) (s : State) : Out :=
  .next (if bmc then (if s.released 2 then s.askRelease else s)
    else s.critical req .cny 0x10C value compl fun s v => if bit v 0 then s.askRelease else s)

/-- SOURCE_CLEAR: a condition is gone; with AUTOREL and A2 the highest class in force the release follows. -/
def State.sourceClear (s : State) (n : Nat) : State :=
  if !bit s.cny.srcAct n && !(s.loop n).raised || decide (n < 12) && s.loopBad n || 32 ≤ n then s
  else
    let s := { s with cny := { s.cny with srcAct := clearBit s.cny.srcAct n, vbatGone := s.cny.vbatGone && n != 0x18 } }
    let s := if n < 12 then s.setLoop n { s.loop n with raised := false } else s
    if bit (s.regAtE .cny 0x144) 8 && s.alarmClass == 2 && s.mayReleaseHold then s.releaseHold else s

def execSourceClear (n : Nat) (s : State) : Out := .next (s.sourceClear n)

/-! ## The lock (R488) -/

/-- `CNY_LOCK.LOCK`: in PRODUCTION only; the committed mapping becomes the floor. -/
def State.cnyLock (s : State) : State :=
  if s.lcc.state = 2 then
    { s with cny := { s.cny with locked := true, floor := (List.range 32).map fun k => s.mapClass k } }
  else s.accessErr .cny

def execCnyLock (req : Requester) (value compl : Word) (s : State) : Out :=
  .next (s.critical req .cny 0x130 value compl fun s v => if bit v 0 then s.cnyLock else s)

/-! ## Power-up (R495, R497) -/

/-- The seal is missing: retained memory and what it held is lost, the seal is written, VBAT_LOST is logged (R497). -/
def State.sealLost (s : State) : State :=
  let c := s.cny
  let s := { s with
    cny := { c with
      loops := [], mapCopy := [], floor := [], locked := false, retained := [], log := [], logSeq := 0, logLost := 0
      lostCounted := 0, sealed := true, rootKey := none, loadCount := 0, vbatLost := true }
    lode := { s.lode with anchor := {} }
    regs := s.regs.filter fun q => !(decide (Page.cny.key 0x158 ≤ q.1) && decide (q.1 ≤ Page.cny.key 0x174)) }
  (s.raiseAlarm 0x1A 0 0 false).setInt .cny 18

/-- One unprocessed entry: its counter step, its event record, its mark (R495 step 2, R499); it stands in `CNY_PEND`. -/
def State.processEntry (s : State) (e : CnyEntry) : State × CnyEntry :=
  let r := if !e.counted && (e.backup || decide (3 ≤ e.cls)) then s.countTamper else (s, e.counted)
  let s := r.1.logEvent 0x0004 e.cls deviceTenant Page.cny.typeCode 0 (e.src + e.cause * 256) r.1.stamp e.bclk
  (s.pendSource e.src e.cls, { e with processed := true, counted := r.2 })

/-- EVENT_LOG_PROCESS, before D3 is requested: the highest class of the entries decides what follows. -/
def State.processLog (s : State) : State :=
  if !s.released 2 || s.rst.logRead then s
  else
    let s := if s.cny.sealed then s else s.sealLost
    let waiting (e : CnyEntry) : Bool := !e.processed
    let top := (s.cny.log.filter waiting).foldl (fun m (e : CnyEntry) => Nat.max m e.cls) 0
    let last := s.cny.newestSrc (s.cny.log.filter waiting)
    let holds := (s.cny.log.filter waiting).map fun (e : CnyEntry) => (e.src, e.cls)
    let r := s.cny.log.foldl (fun (r : State × List CnyEntry) e =>
      if waiting e then let q := r.1.processEntry e; (q.1, r.2 ++ [q.2]) else (r.1, r.2 ++ [e])) (s, [])
    let s := { r.1 with cny := { r.1.cny with log := r.2 } }
    let s := (List.range (s.cny.logLost - s.cny.lostCounted)).foldl (fun s _ => s.countTamper.1) s
    let s := { s with cny := { s.cny with lostCounted := s.cny.logLost, lastSrc := last }, rst := { s.rst with logRead := true } }
    if top < 2 then { s with cny := { s.cny with inForce := s.cny.inForce ++ holds } }
    else
      let s := { s with cny := { s.cny with
        held := true, phase := 5, inForce := s.cny.inForce ++ holds, scrubbed := true, zeroised := true
        genFresh := decide (top < 3), rootKey := if 4 ≤ top then none else s.cny.rootKey } }
      if 5 ≤ top then s.shutdown else s

def execEventLogProcess (s : State) : Out := .next s.processLog

/-! ## Retained memory (R500, R502) -/

/-- `CNY_RMDATA`: accesses outside the open ranges do nothing and set `ERR.ACCESS`; ADDR advances by 4 after each. -/
def State.rmAccess (s : State) (write : Bool) (v : Word) : State :=
  let a := s.regField .cny 0x150 11 2 * 4
  let ok := decide (0x400 ≤ a) && decide (a < (if write then 0x800 else 0xC00))
  let s :=
    if !ok then s.accessErr .cny
    else if write then { s with cny := { s.cny with retained := Cells.writeBytes s.cny.retained a (leBytes 4 v.toNat) } }
    else s
  s.setReg .cny 0x150 (BitVec.ofNat 32 ((a + 4) % 4096))

def execRmdataAccess (req : Requester) (write : Bool) (value : Word) (s : State) : Out :=
  .next (if write then s.gated req .cny 0x154 fun s => s.rmAccess true value
    else if s.onBus req && req.reaches .cny && !s.dir.published.contains .cny then s.rmAccess false value
    else s)

end Sys2Proof.Machine
end

