-- ==== Sys2Proof/Machine/Control.lean ====
section
/-! DEFINITION. The common header's control registers (R41, R42, R445): `CTL`, `ERRINJ`, `INTEN`; the inverted shadows of
critical registers (R43 to R45); a failed host read (R511). -/
namespace Sys2Proof.Machine

/-! ## CTL -/

/-- Is a page's block idle (`STS.IDLE`, R41): no work in progress and none accepted? -/
def State.pageIdle (s : State) (p : Page) : Bool :=
  match p with
  | .stp n => s.stopeIdle n
  | .shf n => (s.shaft n).idle
  | .eng n i => (s.eng n (2 * i)).mode == 0 && (s.eng n (2 * i + 1)).mode == 0
  | .kst n => !s.kstQueue.any fun r => r.stope == n
  | .tly | .adt => s.tally.entries.isEmpty
  | .slc => !s.tally.entries.any fun q => match q.2.sluice with | .hashing _ => true | _ => false
  | .lod => s.lode.writes.isEmpty && s.lode.staged.isEmpty && s.lode.leaseActive.isNone && s.lode.leaseQueue.isEmpty
  | .ent => s.ent.phase != 1 && s.ent.queue.isEmpty
  | .dgs => s.dgs.cores.isEmpty
  | .tdgs t => !s.ctxs.any fun q => q.1 / 1024 == t && (q.2.state == 2 || s.dgs.cores.any fun c => c.2 == q.1)
  | .txn => s.txn.active.isNone
  | .ttxn t => (s.txnOf (.tenant t)).phase != .committing
  | .tnt t | .tntA t => s.tallyUse t == 0
  | .lcc => !s.lccBusy
  | .cny => s.cny.phase == 0
  | .zdp => !s.zdp.links.any fun q => q.2.lstate != 0
  | _ => true

/-- What `RST_BRLOG` records of a request (R445): 1 DONE, 2 RST_REFUSED_BUSY, 3 RST_REFUSED_TYPE. -/
def State.blockLog (s : State) (p : Page) (r : Nat) : State :=
  s.setReg .rst 0x134 (BitVec.ofNat 32 (p.typeCode * 65536 + p.instanceNo % 256 * 256 + r))

/-- A block-reset request (R42, R445): ignored while a device reset is pending. -/
def State.blockRequest (s : State) (p : Page) : State :=
  if s.resetPending then s
  else if !p.hasDrain then (s.blockLog p 3).accessErr p
  else if s.draining p && s.pageIdle p then ((s.blockLog p 1).setInt .rst 17).blockReset p
  else (s.blockLog p 2).setErr p 6

/-- Set or clear one bit of a page's `CTL`. -/
def State.putCtl (s : State) (p : Page) (n : Nat) (on : Bool) : State :=
  s.setReg p 0x008 (if on then setBit (s.reg p 0x008) n else clearBit (s.reg p 0x008) n)

/-- DRAIN, where it is implemented. -/
def State.ctlDrained (s : State) (p : Page) (on : Bool) : State :=
  if !p.hasDrain || s.draining p == on then s else if on then s.drainUnit p else s.undrainUnit p

/-- EN: a write of 0 takes effect only while the block is idle. -/
def State.ctlEnabled (s : State) (p : Page) (on : Bool) : State :=
  if on then s.putCtl p 0 true
  else if s.pageIdle p then s.putCtl p 0 false
  else s.accessErr p

/-- A write of `CTL` takes effect: FREEZE, DRAIN and EN each, then a request of BRST. -/
def State.ctlWrite (s : State) (p : Page) (v : Word) : State :=
  let s := s.putCtl p 3 (bit v 3)
  let s := s.ctlDrained p (bit v 1)
  let s := s.ctlEnabled p (bit v 0)
  if bit v 2 then s.blockRequest p else s

/-- A write of a page's `CTL` and its complement. -/
def State.ctlPair (s : State) (req : Requester) (p : Page) (v c : Word) : State :=
  if p.firstOfBlock then s.critical req p 0x008 v c fun s v => s.ctlWrite p v else s

def execCtlFreeze (req : Requester) (page : Page) (value compl : Word) (s : State) : Out :=
  .next (s.ctlPair req page value compl)
def execCtlDrain (req : Requester) (page : Page) (value compl : Word) (s : State) : Out :=
  .next (s.ctlPair req page value compl)
def execCtlBrst (req : Requester) (page : Page) (value compl : Word) (s : State) : Out :=
  .next (s.ctlPair req page value compl)
def execCtlEn (req : Requester) (page : Page) (value compl : Word) (s : State) : Out :=
  .next (s.ctlPair req page value compl)

/-! ## ERRINJ and INTEN -/

/-- The bits of a page's `ERR` that exist (R41). -/
def errBits : Word := 0xFFFF007F#32

/-- Is `ERRINJ` accepted: in BLANK and TEST, and in PRODUCTION under a FULL authorisation (R41, R456)? -/
def State.injectAllowed (s : State) : Bool := decide (s.lcc.state ≤ 1) || (s.lcc.state == 2 && s.lcc.grant == 3)

/-- A write of `ERRINJ` behind the gate. -/
def State.errInject (s : State) (p : Page) (v : Word) : State :=
  if s.injectAllowed then s.setErrBits p (v &&& errBits) else s.accessErr p

def execErrinjWrite (req : Requester) (page : Page) (value : Word) (s : State) : Out :=
  .next (if page.firstOfBlock then s.gated req page 0x018 fun s => s.errInject page value else s)

/-- A write of `INTEN` behind the gate: an enable of a bit already at 1 signals the vector. -/
def State.intEnable (s : State) (p : Page) (v : Word) : State :=
  let fresh := v &&& ~~~(s.reg p 0x020) &&& s.reg p 0x01C
  let s := s.setReg p 0x020 v
  if fresh = 0 then s else s.raiseVector p.owner eventVector

def execIntenWrite (req : Requester) (page : Page) (value : Word) (s : State) : Out :=
  .next (if page.firstOfBlock then s.gated req page 0x020 fun s => s.intEnable page value else s)

/-! ## Shadows -/

/-- The tenant of an administrator page. -/
def Page.tenant : Page → Nat
  | .tntA t => t
  | _ => 0

/-- The value of a critical register takes effect (R43): an RWS value is staged, any other at once. -/
def State.takes (s : State) (p : Page) (off : Nat) (v : Word) : State :=
  if rwsMask p off ≠ 0 then s.stage p off (v &&& rwsMask p off)
  else
    let s := s.freshCopy p off
    if off = 0x008 then s.ctlWrite p v
    else match p with
      | .ent => s.entCtl v
      | .zdp => s.zdpCtl v
      | .rst => if off = 0x10C then s.rstCmd v else s.dcoreWrite v
      | .lcc => if off = 0x124 then s.lccCommand v else s.ownCommand v
      | .cny => if !bit v 0 then s else if off = 0x10C then s.askRelease else s.cnyLock
      | .tntA t => s.tenantAdm t v
      | .txn | .ttxn _ => s.setReg p off (v &&& 0xFFFFFF#32)
      | _ => s

/-- A write at the shadow offset of a critical register; one of `LCC_CMD` clears the token registers (R462). -/
def State.shadowWrite (s : State) (req : Requester) (p : Page) (off : Nat) (v : Word) : State :=
  if !critReg p off then s
  else
    let s := match s.complement req p off v with
      | (s, some w) => s.takes p off w
      | (s, none) => s
    if p = .lcc ∧ off = 0x124 then s.clearToken else s

def execShadowComplement (req : Requester) (page : Page) (off : Nat) (value : Word) (s : State) : Out :=
  .next (s.shadowWrite req page off value)

/-- SHADOW_TIMEOUT: 100 µs after the primary write its complement is missing. -/
def State.shadowTimeout (s : State) (req : Requester) (p : Page) : State :=
  match s.primary req p with
  | some x => (s.advanceTo (x.since + complementWindow)).breakPrimary req p
  | none => s

def execShadowTimeout (req : Requester) (page : Page) (s : State) : Out := .next (s.shadowTimeout req page)

/-- SHADOW_COPY_MISMATCH: the stored copy of a critical register has come to differ by some bits. -/
def State.copyMismatch (s : State) (p : Page) (off : Nat) (flip : Word) : State :=
  if critReg p off && p.exists && flip != 0 then
    ({ s with flips := Cells.put s.flips (p.key off) flip }).shadowMismatch p off 3
  else s

def execShadowCopyMismatch (page : Page) (off : Nat) (flip : Word) (s : State) : Out := .next (s.copyMismatch page off flip)

/-! ## Memory errors (R512, R301, R514) -/

/-- An operation ends as MEMORY_UNCORRECTABLE; a subsidiary entry takes its coordinator with it. -/
def State.loseWork (s : State) (e : Nat) : State :=
  match s.entry e with
  | some x => s.endWith (x.parent.getD e) .memoryUncorrectable true
  | none => s

/-- An uncorrectable error in the region of a Shaft's job: that job ends, and its lines are wiped (R301). -/
def State.shaftFlaw (s : State) (n : Nat) (inner : Bool) : State :=
  let s' := s.foundUncorr (.shf n) 5 (if inner then 1 else 0)
  match (if inner then (s.shaft n).inner else (s.shaft n).main) with
  | some j =>
    match s.entry j.entry with
    | some x => if x.stopping.isSome then s' else s'.finish j.entry .memoryUncorrectable
    | none => s'
  | none => s'

/-- An uncorrectable error in a Tally entry: its operation completes MEMORY_UNCORRECTABLE, a decided one's record says so;
with both copies of the tag word lost there is no record. -/
def State.tallyFlaw (s : State) (e : Nat) (both : Bool) : State :=
  let s := s.foundUncorr .tly 6 e
  if both then s.freeEntry e
  else match s.entry e with
    | some x =>
      if x.decided then s.setEntry e { x with status := .memoryUncorrectable, info := 0, state := .recordWait } else s.loseWork e
    | none => s

/-- An uncorrectable error in the slot store: a working context becomes CLEARED (R273). -/
def State.contextFlaw (s : State) (t c : Nat) : State :=
  if (s.ctx t c).working then ((s.dropCore t c).setCtx t c (s.ctx t c).cleared).foundUncorr (.tdgs t) 8 c else s

/-- An uncorrectable error in retained memory: an entry of the event log is a lost event, a word of tenant 0 reads 0. -/
def State.retainedFlaw (s : State) (a : Nat) : State :=
  let s := s.foundUncorr .cny 10 a
  let c := s.cny
  if 0x400 ≤ a ∧ a < 0x800 then { s with cny := { c with retained := Cells.clearRange c.retained (a / 4 * 4) 4 } }
  else if 0x800 ≤ a ∧ a < 0xC00 ∧ (a - 0x800) / 16 < c.log.length then
    { s with cny := { c with log := c.log.eraseIdx ((a - 0x800) / 16), logLost := satAdd 0xFFFF c.logLost 1 } }
  else s

/-- A correctable error is corrected at once, and counted where Headframe counts (R512, R513). -/
def State.correctAt (s : State) : FlawAt → State
  | .object _ | .expansion _ | .pinned _ | .cache _ => s.setErr .lod 3
  | .shaft n _ => (s.countCorrected (64 + n) 1).setErr (.shf n) 3
  | .tally _ _ => s.setErr .tly 3
  | .buffer _ => s.setErr .adt 3
  | .context t c =>
    let s := s.setErr .dgs 3
    match s.dgs.cores.find? fun p => p.2 == ctxKey t c with
    | some p => s.countCorrected (128 + p.1) 1
    | none => s
  | .headframe _ => s.setErr .hdf 3
  | .retained _ => s.setErr .cny 3
  | _ => s

/-- An uncorrectable error that takes effect as it is found (R512). -/
def State.uncorrectedAt (s : State) : FlawAt → State
  | .pinned i => if (s.obj i).pinGran = 0 then s else s.foundUncorr .lod 4 i
  | .cache i =>
    match (s.obj i).stf with
    | some f => if f.cache = 2 then (s.setObj i { s.obj i with stf := some { f with cache := 0 } }).foundUncorr .lod 4 i else s
    | none => s
  | .shaft n inner => s.shaftFlaw n inner
  | .tally e both => if (s.entry e).isSome then s.tallyFlaw e both else s
  | .buffer e => if (s.entry e).isSome then (s.foundUncorr .adt 7 e).loseWork e else s
  | .context t c => s.contextFlaw t c
  | .headframe a => (s.foundUncorr .hdf 9 a).assertSource 8 true
  | .retained a => s.retainedFlaw a
  | _ => s

/-- Is there anything at a place whose errors stand until they are read? -/
def State.placeHeld (s : State) : FlawAt → Bool
  | .loc n i _ => (s.eng n i).run.isSome
  | .region e _ => (s.run e).isSome
  | .word n pc => (s.stope n).store.packs.any fun p => decide (p.2.base ≤ pc) && decide (pc < p.2.base + p.2.words)
  | .object i => (s.obj i).present
  | .expansion i => (s.obj i).expGran != 0
  | _ => false

/-- A memory error arises: in a memory whose reader meets it, it stands there until then; elsewhere it is handled at once. -/
def State.strike (s : State) (f : Flaw) : State :=
  match f.place with
  | .loc _ _ _ | .region _ _ | .word _ _ => if s.placeHeld f.place then { s with flaws := s.flaws ++ [f] } else s
  | .object _ | .expansion _ =>
    if !f.uncorr then s.correctAt f.place
    else if s.placeHeld f.place then { s with flaws := s.flaws ++ [f] } else s
  | p => if f.uncorr then s.uncorrectedAt p else s.correctAt p

/-! ## Failed host reads (R511) -/

/-- A failed read of an operation's data: the operation completes with DMA_FAULT, its output buffer untouched; a Sluice
channel that hashed it is freed (R282, R286). -/
def State.dataFault (s : State) (e : Nat) : State :=
  match s.entry e with
  | none => s
  | some x =>
    if x.decided then s
    else
      let hashing : Bool := match x.sluice with | .hashing _ => true | _ => false
      let s := if hashing then (s.modEntry e fun y => { y with sluice := .none }).setErr .slc 16 else s
      s.endWith e .dmaFault true

/-- The function whose read failed. -/
def State.readerOf (s : State) : DmaRead → Nat
  | .descriptor t _ => t
  | .entry e => match s.entry e with | some x => x.tenant | none => 0
  | .pack _ | .ownerBlob _ | .memory _ => 0

/-- DMA_READ_FAILURE: a host read times out, or returns Unsupported Request, Completer Abort or poisoned data; each is
reported through AER, and none is retried. -/
def State.dmaFailure (s : State) (what : DmaRead) : State :=
  let t := s.readerOf what
  let s := match what with
    | .memory _ => s
    | _ => s.setFn t { s.fn t with aer := (s.fn t).aer + 1 }
  match what with
  | .memory f => s.strike f
  | .descriptor t q =>
    let x := s.sq t q
    if x.en && !x.error && x.head != x.tail then s.sqFail t q 3 else s
  | .entry e => s.dataFault e
  | .pack n =>
    match s.kstFront n 1 with
    | some r => s.kstEnd r 8 0xFF
    | none => s
  | .ownerBlob cmd => s.ownCommandBy (BitVec.ofNat 32 cmd) false

def execDmaReadFailure (what : DmaRead) (s : State) : Out := .next (s.dmaFailure what)

end Sys2Proof.Machine
end

