-- ==== Sys2Proof/Machine/Monitor.lean ====
section
/-! DEFINITION. The performance monitor (chapter 21): counters, precise sampling, bandwidth windows. -/
namespace Sys2Proof.Machine

/-- The monitor page an access names: a tenant's, or the physical function's (R519). -/
def monitorPage : Option Nat → Page
  | some t => .tpmu t
  | none => .pmu

/-- How many counters a monitor page has (R519). -/
def Page.counters : Page → Nat
  | .pmu => 16
  | _ => 4

/-- Is there such a page? -/
def monitorExists (t : Option Nat) : Bool := match t with | some t => decide (t < 256) | none => true

/-- A write to a register of a monitor page, behind the gate. -/
def State.monitorWrite (s : State) (req : Requester) (t : Option Nat) (off : Nat) (f : State → State) : State :=
  if monitorExists t then s.gated req (monitorPage t) off f else s

/-! ## Counters (R519 to R523) -/

/-- Clear every counter of a page. -/
def State.clearCounters (s : State) (p : Page) : State :=
  (List.range p.counters).foldl (fun s k => (s.setReg p (0x180 + 8 * k) 0).setReg p (0x184 + 8 * k) 0) s

/-- `PMU_CTL`: FREEZE from 0 to 1 takes stamp Z; CLEAR clears the counters. -/
def State.pmuCtl (s : State) (p : Page) (v : Word) : State :=
  let was := bit (s.reg p 0x104) 0
  let s := s.setReg p 0x104 (v &&& 1#32)
  let s := if bit v 0 && !was then
      (s.setReg p 0x10C (BitVec.ofNat 32 s.stamp)).setReg p 0x110 (BitVec.ofNat 32 (s.stamp / 2 ^ 32))
    else s
  if bit v 1 then s.clearCounters p else s

def execPmuFreeze (req : Requester) (t : Option Nat) (value : Word) (s : State) : Out :=
  .next (s.monitorWrite req t 0x104 fun s => s.pmuCtl (monitorPage t) (value &&& 1#32))

/-- PMU_CLEAR: a write of `PMU_CTL` with CLEAR 1. -/
def execPmuClear (req : Requester) (t : Option Nat) (value : Word) (s : State) : Out :=
  .next (s.monitorWrite req t 0x104 fun s => s.pmuCtl (monitorPage t) (value ||| 2#32))

/-- The scopes that an event allows (R520), by `SCOPE`; none for an undefined event. -/
def eventScopes (ev : Nat) : List Nat :=
  if 0x01 ≤ ev ∧ ev ≤ 0x07 then [1, 2]
  else if 0x08 ≤ ev ∧ ev ≤ 0x0A then [1]
  else if 0x10 ≤ ev ∧ ev ≤ 0x13 then [0, 1]
  else if 0x20 ≤ ev ∧ ev ≤ 0x28 then [0]
  else []

/-- The fields of `PMU_EVSELn` that may be written in a page (R528). -/
def evselMask : Page → Word
  | .pmu => 0xBFFFFEFF#32
  | _ => 0x801FFEFF#32

/-- A write of `PMU_EVSELn`: an undefined event, a scope it does not allow, or a change of another field than EN while EN
is 1 is refused; a write that is accepted clears CLRD. -/
def State.evselWrite (s : State) (p : Page) (n : Nat) (v : Word) : State :=
  let old := s.reg p (0x140 + 4 * n)
  let w := v &&& evselMask p
  let changes := (w ^^^ old) &&& evselMask p &&& 0x7FFFFFFF#32
  if !(eventScopes (field w 7 0)).contains (field w 20 19) || (bit old 31 && changes != 0) then s.accessErr p
  else s.setReg p (0x140 + 4 * n) w

def execPmuEvselWrite (req : Requester) (t : Option Nat) (n : Nat) (value : Word) (s : State) : Out :=
  .next (if n < (monitorPage t).counters then
      s.monitorWrite req t (0x140 + 4 * n) fun s => s.evselWrite (monitorPage t) n value
    else s)

/-- A write of half a counter: refused while the counter is enabled. -/
def State.cntWrite (s : State) (p : Page) (n : Nat) (hi : Bool) (v : Word) : State :=
  if bit (s.reg p (0x140 + 4 * n)) 31 then s.accessErr p else s.setReg p (0x180 + 8 * n + 4 * b2n hi) v

def execPmuCntWrite (req : Requester) (t : Option Nat) (n : Nat) (hi : Bool) (value : Word) (s : State) : Out :=
  .next (if n < (monitorPage t).counters then
      s.monitorWrite req t (0x180 + 8 * n + 4 * b2n hi) fun s => s.cntWrite (monitorPage t) n hi value
    else s)

/-! ## Precise sampling (R524 to R526) -/

/-- May a monitor page select a Stope's sampler (R524)? -/
def State.maySample (s : State) (p : Page) (n : Nat) : Bool :=
  match p with
  | .tpmu t => s.serves n t
  | _ => true

/-- A write of `PMU_SSEL`. -/
def State.sselWrite (s : State) (p : Page) (v : Word) : State :=
  let v := v &&& 0x3F#32
  if s.maySample p v.toNat then s.setReg p 0x200 v else s.accessErr p

def execPmuSselWrite (req : Requester) (t : Option Nat) (value : Word) (s : State) : Out :=
  .next (s.monitorWrite req t 0x200 fun s => s.sselWrite (monitorPage t) value)

/-- A write of `PMU_SCFG`: the settings of the selected Stope's sampler; EN takes effect once its space is free. -/
def State.scfgWrite (s : State) (p : Page) (v : Word) : State :=
  let n := s.regField p 0x200 5 0
  if s.maySample p n then
    let x := s.sampler n
    let v := v &&& 0x31F#32
    (s.setSampler n { x with cfg := v, active := x.active && bit v 8 }).samplerSettle n
  else s.accessErr p

def execPmuSampleEnable (req : Requester) (t : Option Nat) (value : Word) (s : State) : Out :=
  .next (s.monitorWrite req t 0x204 fun s => s.scfgWrite (monitorPage t) value)

/-- Has the sampler stopped full (`PMU_SSTS.FULL`)? -/
def Sampler.stoppedFull (x : Sampler) : Bool := bit x.cfg 9 && decide (128 ≤ x.entries.length)

/-- The entry of a word that engine `i` of Stope `n` issues next (R526); CAUSE and STALL are the pipeline's. CYCLES is not
timed by the model: a free value. -/
def State.sampleOf (s : State) (n i cause stall : Nat) (x : Entry) (r : Run) : Bytes :=
  let g := s.eng n i
  let w := s.storeWord n g.pc
  let v := if wordFmt w = 0 then slotOf w 1 / 2 ^ 32 else 0
  let x3 := if wordFmt w = 0 then slotOf w 2 / 2 ^ 32 else 0
  leBytes 8 s.stamp ++ leBytes 2 x.desc.opcode ++ leBytes 1 r.kernel.kslot ++ leBytes 1 x.tenant ++ leBytes 2 (g.pc % 4096) ++
    leBytes 1 (i + 16 * b2n (wordMask w)) ++ leBytes 1 cause ++
    [BitVec.ofNat 8 (slotOf w 0 / 2 ^ 32), BitVec.ofNat 8 v, BitVec.ofNat 8 x3, 0] ++
    leBytes 2 (Nat.min 0xFFFF stall) ++ leBytes 2 0 ++ leBytes 4 (Config.freeValue 32 s.freeNext).toNat ++ leBytes 4 0

/-- SAMPLE_TAG: the interval has run out; the next word that an engine issues is tagged, and the next interval begins with
a fresh dither. -/
def State.sampleTag (s : State) (n i cause stall : Nat) : State :=
  let x := s.sampler n
  let g := s.eng n i
  match g.run with
  | none => s
  | some e =>
    match s.entry e, s.run e with
    | some y, some r =>
      if x.active && x.tagged.isNone && !x.stoppedFull && decide (x.interval ≤ x.words) && g.slot == 0 &&
          (g.mode == 1 || g.mode == 4) then
        let p := field x.cfg 4 0
        let k := 2 ^ (if 8 ≤ p ∧ p ≤ 20 then p else 20) + (Config.freeValue 8 (s.freeNext + 1)).toNat
        let b := s.sampleOf n i cause stall y r
        ({ s with freeNext := s.freeNext + 2 }).setSampler n { x with tagged := some b, words := 0, interval := k }
      else s
    | _, _ => s

def execSampleTag (n i cause stall : Nat) (s : State) : Out := engineCmd n i (if s.avs.tripped then s else (s.sampleTag n i cause stall))

/-- The tagged entry with its outcome: TRAPPED, or the cycles to the last write-back. -/
def sampleDone (b : Bytes) (trapped : Bool) (latency : Nat) : Bytes :=
  b.take 14 ++ [nthD b 14 0 ||| BitVec.ofNat 8 (32 * b2n trapped)] ++ (b.drop 15).take 7 ++
    leBytes 2 (if trapped then 0 else Nat.min 0xFFFF latency) ++ b.drop 24

/-- The buffer with one more entry: a full one loses its oldest, counted in LOST. -/
def Sampler.push (x : Sampler) (b : Bytes) : Sampler :=
  if x.entries.length < 128 then { x with entries := x.entries ++ [b], tagged := none }
  else { x with entries := x.entries.drop 1 ++ [b], tagged := none, lost := satAdd 0xFFFF x.lost 1 }

/-- SAMPLE_ENTRY_WRITE: the tagged word has written back or trapped; its entry reaches the buffer, or is dropped where the
staging FIFO is full. A buffer that fills with STOPFULL 1 stops sampling. -/
def State.sampleWrite (s : State) (n latency : Nat) (trapped dropped : Bool) : State :=
  let x := s.sampler n
  match x.tagged with
  | none => s
  | some b =>
    if dropped then s.setSampler n { x with tagged := none, lost := satAdd 0xFFFF x.lost 1 }
    else
      let y := x.push (sampleDone b trapped latency)
      let s := s.setSampler n y
      if y.stoppedFull && !x.stoppedFull then
        let s := s.setInt .pmu 17
        match s.stopeOwner n with
        | some t => if s.serves n t then s.setInt (.tpmu t) 17 else s
        | none => s
      else s

def execSampleEntryWrite (n latency : Nat) (trapped dropped : Bool) (s : State) : Out :=
  s.clocked (if n < 64 then .next (s.sampleWrite n latency trapped dropped) else .fault .noSuchUnit)

/-! ## Bandwidth windows (R527) -/

/-- The window length in nanoseconds. -/
def State.bwLength (s : State) : Nat := Nat.max 1 (s.regField .pmu 0x244 19 0) * 1000

/-- A write of `PMU_BWSEL` or `PMU_BWWIN`: a change discards the window in progress. -/
def State.bwWrite (s : State) (off : Nat) (v : Word) : State :=
  if s.reg .pmu off = v then s
  else
    let s := s.setReg .pmu off v
    { s with bwNext := (s.stamp / s.bwLength + 1) * s.bwLength }

def execPmuBwSelect (req : Requester) (window : Bool) (value : Word) (s : State) : Out :=
  .next (if window then s.gated req .pmu 0x244 fun s => s.bwWrite 0x244 (value &&& 0xFFFFF#32)
    else s.gated req .pmu 0x240 fun s => s.bwWrite 0x240 (value &&& 0xFF#32))

/-- BW_WINDOW_END: the bytes that the selected port moved in the window latch; the larger direction updates the peak. -/
def State.bwEnd (s : State) (bytesIn bytesOut : Nat) : State :=
  let len := s.bwLength
  let s := s.advanceTo (if s.stamp < s.bwNext then s.bwNext + len else (s.stamp / len + 1) * len)
  let s := (s.setReg .pmu 0x248 (BitVec.ofNat 32 bytesIn)).setReg .pmu 0x24C (BitVec.ofNat 32 (bytesIn / 2 ^ 32))
  let s := (s.setReg .pmu 0x250 (BitVec.ofNat 32 bytesOut)).setReg .pmu 0x254 (BitVec.ofNat 32 (bytesOut / 2 ^ 32))
  let top := Nat.max bytesIn bytesOut
  let peak := (s.reg .pmu 0x258).toNat + 2 ^ 32 * (s.reg .pmu 0x25C).toNat
  let s := if peak < top then
      (s.setReg .pmu 0x258 (BitVec.ofNat 32 top)).setReg .pmu 0x25C (BitVec.ofNat 32 (top / 2 ^ 32))
    else s
  { s with bwNext := s.stamp }

def execBwWindowEnd (bytesIn bytesOut : Nat) (s : State) : Out := .next (s.bwEnd bytesIn bytesOut)

/-- BWPEAK_READ: the peak since the last read is returned, and cleared. -/
def State.bwPeakRead (s : State) (req : Requester) : State :=
  if s.mayRead req .pmu then
    let s := s.latch req (Page.pmu.key 0x258) [s.reg .pmu 0x258, s.reg .pmu 0x25C]
    (s.setReg .pmu 0x258 0).setReg .pmu 0x25C 0
  else s

def execBwpeakRead (req : Requester) (s : State) : Out := .next (s.bwPeakRead req)

end Sys2Proof.Machine
end

