-- ==== Sys2Proof/Machine/Thermal.lean ====
section
/-! DEFINITION. Headframe's control of Stope clocks, of the VDD_CORE set point and of temperature (R25, R337, R539 to R541,
R547 to R549). -/
namespace Sys2Proof.Machine

/-- The set point at least as high as a clock needs (R540): what the loop recorded for it, else the trims' start value,
plus 10 mV, never above 0.85 V. -/
def State.raiseFor (s : State) (mhz : Nat) : State :=
  let base := (lookup s.avs.recorded mhz).getD (Config.avsStart s.rst.trims mhz)
  if s.avs.stopped then s
  else { s with avs := { s.avs with setPoint := Nat.max s.avs.setPoint (Nat.min 850 (base + 10)) } }

/-- A Stope's clock goes to what it may run at now: the voltage rises before the clock does (R540). -/
def State.applyClock (s : State) (n : Nat) : State :=
  let x := s.stope n
  let c := s.clockFor n
  if c = x.clock then s
  else (if x.clock < c then s.raiseFor c else s).setStope n { x with clock := c }

/-- Every Stope out of reset follows the limit. -/
def State.applyClocks (s : State) : State :=
  (List.range 64).foldl (fun s n => if (s.stope n).clockTarget = 0 then s else s.applyClock n) s

/-- STOPE_CLOCK_CHANGE (R337, R16, R25, R548): Headframe sets a Stope's configured clock, or, for a measured or predicted
excess of power, its power limit, each 1.0 to 2.0 GHz; the Stope runs at the lowest of them and the thermal limit. -/
def State.setClock (s : State) (n : Nat) (c : ClockSet) : State :=
  if (s.stope n).clockTarget = 0 then s
  else
    let x := s.stope n
    let x := match c with
      | .configured mhz => { x with clockTarget := mhz }
      | .powerLimit mhz => { x with powerLimit := mhz }
    (s.setStope n x).applyClock n

def execStopeClockChange (n : Nat) (clock : ClockSet) (s : State) : Out :=
  .next (if n < 64 ∧ 1000 ≤ clock.mhz ∧ clock.mhz ≤ 2000 then s.setClock n clock else s)

/-- The throttle threshold of the part's grade (R547, R1). -/
def throttleAt : Int := if Config.gradeX then 100 else 95

/-- The thermal clock limit after a poll (R548): 50 MHz down after each 1 ms at or above the threshold, 50 MHz up after each
10 ms at least 5 °C below it, within 1.0 to 2.0 GHz. -/
def Avs.poll (a : Avs) (temp : Int) : Avs :=
  if throttleAt ≤ temp then
    if a.hot + 1 < 10 then { a with hot := a.hot + 1, cool := 0 }
    else { a with hot := 0, cool := 0, limit := Nat.max 1000 (a.limit - 50) }
  else if temp ≤ throttleAt - 5 then
    if a.cool + 1 < 100 then { a with cool := a.cool + 1, hot := 0 }
    else { a with hot := 0, cool := 0, limit := Nat.min 2000 (a.limit + 50) }
  else { a with hot := 0, cool := 0 }

/-- The junction temperature: the highest reading (R547). -/
def junction : List Int → Int
  | [] => -273
  | t :: r => max t (junction r)

/-- THERMAL_POLL: every 100 µs Headframe reads the sensors. -/
def State.thermalPoll (s : State) (sensors : List Int) : State :=
  if !s.released 2 || sensors.isEmpty then s
  else
    let s := s.advanceTo (s.avs.pollAt + 100000)
    let t := junction sensors
    let a := s.avs.poll t
    { s with avs := { a with temp := t, pollAt := s.stamp } }.applyClocks

def execThermalPoll (sensors : List Int) (s : State) : Out := .next (s.thermalPoll sensors)

/-- THERMTRIP: above 120 °C the ball goes low and the clocks of D3 to D8 stop until POR. -/
def execThermtrip (temp : Int) (s : State) : Out :=
  .next (if 120 < temp then { s with avs := { s.avs with temp := temp, tripped := true } } else s)

/-- The clocks at which Stopes run, each with the set point that serves it. -/
def State.recordClocks (s : State) : State :=
  { s with avs := { s.avs with
      recorded := s.stopes.foldl (fun (l : List (Nat × Nat)) (q : Nat × Stope) =>
        if q.2.clockTarget = 0 then l else Cells.put l q.2.clock s.avs.setPoint) s.avs.recorded } }

/-- AVS_LOOP_TICK, every 1 ms (R540): a Stope below its trim raises the set point by 10 mV and bars lowering for 100 ms;
with every Stope above, it falls by 5 mV. -/
def State.avsTick (s : State) (allAbove anyBelow : Bool) : State :=
  if !s.released 2 || s.avs.stopped then s
  else
    let s := s.advanceTo (s.avs.loopAt + 1000000)
    let a := { s.avs with loopAt := s.stamp, unanswered := 0 }
    let a := if anyBelow then { a with setPoint := Nat.min 850 (a.setPoint + 10), holdUntil := s.stamp + 100000000 }
      else if allAbove && decide (a.holdUntil ≤ s.stamp) then { a with setPoint := Nat.max 650 (a.setPoint - 5) }
      else a
    let s := { s with avs := a }
    if anyBelow then s else s.recordClocks

def execAvsLoopTick (allAbove anyBelow : Bool) (s : State) : Out := .next (s.avsTick allAbove anyBelow)

/-- AVS_FAULT (R541): a Status read reports a regulator fault, or a transaction is unanswered, the third in a row: the loop
stops, and every Stope runs at 1.0 GHz until the next device reset. -/
def State.avsFault (s : State) (regulator : Bool) : State :=
  if !s.released 2 || s.avs.stopped then s
  else
    let n := s.avs.unanswered + 1
    if regulator || decide (3 ≤ n) then { s with avs := { s.avs with unanswered := n, stopped := true } }.applyClocks
    else { s with avs := { s.avs with unanswered := n, loopAt := s.stamp } }

def execAvsFault (regulator : Bool) (s : State) : Out := .next (s.avsFault regulator)

end Sys2Proof.Machine
end

