-- ==== Sys2Proof/Machine/Writes.lean ====
section
/-! DEFINITION. Register writes (R6, R7, R30, R38, R40): where an address leads, and what the write of each register does,
through the same operations as the commands that have rows of their own. -/
namespace Sys2Proof.Machine

/-! ## Registers with rules of their own -/

/-- A register of the queue that `TNT_QSEL` selects (R63): the base, size and CQ of an enabled queue stand. -/
def State.queueWrite (s : State) (t off : Nat) (v : Word) : State :=
  let q := s.qsel t
  let x := s.sq t q
  let c := s.cq t q
  let sqSet (y : Sq) : State := if x.en then s.accessErr (.tnt t) else s.setSq t q y
  let cqSet (y : Cq) : State := if c.en then s.accessErr (.tnt t) else s.setCq t q y
  match off with
  | 0x104 => sqSet { x with baseLo := v &&& 0xFFFFF000#32 }
  | 0x108 => sqSet { x with baseHi := v }
  | 0x10C => sqSet { x with cfg := v &&& 0xF83F1F#32 }
  | 0x110 => s.setSq t q { x with dl := v &&& 0xFFFFFF#32 }
  | 0x114 =>
    let s := if bit v 1 then s.sqAbort t else s
    if bit v 0 then s.sqEnable t else s.sqDisable t
  | 0x11C => cqSet { c with baseLo := v &&& 0xFFFFF000#32, baseWritten := true }
  | 0x120 => cqSet { c with baseHi := v, baseWritten := true }
  | 0x124 => cqSet { c with cfg := v &&& 0x1F#32 }
  | 0x128 => if bit v 0 then s.cqEnable t else s.cqDisable t
  | 0x12C => (s.setCq t q { c with irq := v &&& 0xFFFFFF01#32 }).moderate t q
  | _ => s

/-- A command of the digest service (R285). -/
def State.dgsCommand (s : State) (t : Nat) (v : Word) : State :=
  match field v 3 0 with
  | 1 => s.dgsOpen t
  | 2 => s.dgsFinal t
  | 3 => s.dgsNext t
  | 4 => s.dgsCompare t
  | 5 => s.dgsReset t
  | 6 => s.dgsClose t
  | _ => (s.dgsCmd t).dgsErr t 12

/-- A register of the context that `DGS_CTX` selects (R285). -/
def State.contextWrite (s : State) (t off : Nat) (v : Word) : State :=
  let x := s.dgsCur t
  match off with
  | 0x104 => if x.state = 0 then s.setCur t { x with cfg := v &&& 0x1FF0F#32 } else s.dgsErr t 12
  | 0x108 => s.setCur t { x with key := v }
  | 0x10C => s.setCur t { x with outlen := v &&& 0x1FFFF#32 }
  | 0x110 => s.setCur t { x with lenLo := v }
  | 0x114 => s.setCur t { x with lenHi := v }
  | 0x118 => s.dgsCommand t v
  | 0x120 => s.setCur t { x with err := x.err &&& ~~~v }
  | 0x12C => s.setCur t { x with lastvb := v &&& 7#32 }
  | 0x130 => s.dgsData t v false false
  | 0x134 => s.dgsData t v true false
  | 0x1C0 => s.setCur t { x with cmplen := v &&& 0x7F#32 }
  | _ => s.setCur t { x with cmp := Cells.set (fun _ => (0 : Word)) x.cmp ((off - 0x180) / 4) v }

/-- `ENG_FAULT` bits written 1 clear (R340). -/
def State.faultClear (s : State) (n i : Nat) (v : Word) : State :=
  s.setEng n i { s.eng n i with fault := (s.eng n i).fault &&& ~~~(v &&& 0xC0000000#32) }

/-- A register of a monitor page (R528). -/
def State.monitorPut (s : State) (p : Page) (off : Nat) (v : Word) : State :=
  if off = 0x104 then s.pmuCtl p v
  else if 0x140 ≤ off ∧ off < 0x180 then s.evselWrite p ((off - 0x140) / 4) v
  else if 0x180 ≤ off ∧ off < 0x200 then s.cntWrite p ((off - 0x180) / 8) (off % 8 == 4) v
  else if off = 0x200 then s.sselWrite p v
  else if off = 0x204 then s.scfgWrite p v
  else if off = 0x240 then s.bwWrite off (v &&& 0xFF#32)
  else s.bwWrite off (v &&& 0xFFFFF#32)

/-- `LCC_DBGCMD` (R474, R475, R479): 1 NEWCHAL, 2 END. -/
def State.debugCommand (s : State) (v : Word) : State :=
  match field v 1 0 with
  | 1 => s.newChallenge
  | 2 => if s.lccBusy then s.lccRefuse else s.endDebug
  | _ => s

/-- Has a register a rule of its own for the effect of a write, behind the gate? -/
def ownRule (p : Page) (off : Nat) : Bool :=
  match p with
  | .tnt _ => decide (0x104 ≤ off) && decide (off ≤ 0x12C)
  | .tdgs _ => decide (0x104 ≤ off)
  | .eng _ _ => decide (0x100 ≤ off)
  | .pmu | .tpmu _ => off == 0x104 || (decide (0x140 ≤ off) && decide (off ≤ 0x204)) || off == 0x240 || off == 0x244
  | .lcc => off == 0x184
  | .cny => off == 0x104 || off == 0x154
  | .tent _ => off == 0x104
  | _ => false

/-- The effect of a write of such a register. -/
def State.putOwn (s : State) (p : Page) (off : Nat) (v : Word) : State :=
  match p with
  | .tnt t => s.queueWrite t off v
  | .tdgs t => s.contextWrite t off v
  | .eng n i => s.faultClear n (if off < 0x280 then 2 * i else 2 * i + 1) v
  | .pmu | .tpmu _ => s.monitorPut p off v
  | .lcc => s.debugCommand v
  | .cny =>
    if off = 0x154 then s.rmAccess true v
    else { s.setReg .cny 0x104 (s.reg .cny 0x104 &&& ~~~v) with
           cny := { s.cny with pendCls := s.cny.pendCls.filter fun q => !bit v q.1 } }
  | .tent t => if bit v 1 then s.setFn t { s.fn t with entUnderrun := false } else s
  | _ => s

/-- The effect of a write of a register that is neither critical nor RWS, behind the gate. -/
def State.putReg (s : State) (req : Requester) (p : Page) (off : Nat) (d : RegDef) (v : Word) : State :=
  if 0x100 ≤ off && ownRule p off then s.putOwn p off v
  else if off = 0x018 then s.errInject p v
  else if off = 0x020 then s.intEnable p v
  else s.setReg p off (d.after req (s.reg p off) v)

/-- Registers whose commands pass the gate themselves. -/
def State.gatedCommand (s : State) (req : Requester) (p : Page) (off : Nat) (v : Word) : Option State :=
  match p with
  | .txn | .ttxn _ =>
    if off = 0x100 then some (s.txnBegin req p.scope v)
    else if off = 0x108 then some (s.txnCommit req p.scope v)
    else if off = 0x10C then some (s.txnAbort req p.scope v)
    else none
  | .kst n => if off = 0x14C then some (s.kstCommand req n v) else none
  | .zdp => if off = 0x180 then some (s.mcmd req v) else if off = 0x18C then some (s.rcfgData req v) else none
  | .rst => if off = 0x140 then some (s.relWrite req v) else none
  | .slc => if off = 0x10C then some (s.resvWrite req v) else none
  | _ => none

/-- A write at the offset of a register itself. -/
def State.directWrite (s : State) (req : Requester) (p : Page) (off : Nat) (v : Word) : State :=
  match regDef p off with
  | none => if s.onBus req && req.reaches p && p.exists then s.breakPrimary req p else s
  | some d =>
    if d.writable req = 0 then s.gated req p off fun s => s.accessErr p
    else if d.rws ≠ 0 then s.rwsWrite req p off v
    else if d.crit then s.gated req p off fun s => s.holdPrimary req p off v
    else match s.gatedCommand req p off v with
      | some s => s
      | none => s.gated req p off fun s => s.putReg req p off d v

/-- A 32-bit write to an offset of a page (R38): the register's own, its staged alias, its shadow, or a reserved one. -/
def State.pageWrite (s : State) (req : Requester) (p : Page) (off : Nat) (v : Word) : State :=
  if off < 0x400 then s.directWrite req p off v
  else if off < 0x800 then s.gated req p off fun s => s.accessErr p
  else if critReg p (off - 0x800) then s.shadowWrite req p (off - 0x800) v
  else if s.onBus req && req.reaches p && p.exists then s.breakPrimary req p else s

/-! ## The MSI-X window (R101; the table's layout is that of PCIe) -/

/-- A write to the MSI-X table: bit 0 of an entry's last word is its mask. -/
def State.msixWrite (s : State) (t off : Nat) (v : Word) : State :=
  let f := s.fn t
  if 65 * 16 ≤ off then s
  else if off % 16 = 12 then
    if bit v 0 then s.setFn t { f with unmasked := without f.unmasked (off / 16) }
    else (s.setFn t { f with unmasked := withOne f.unmasked (off / 16) }).flushPba t
  else s.setFn t { f with msixTable := Cells.set (fun _ => (0 : Word)) f.msixTable off v }

/-- The MSI-X pending bit array (R101, R29): bit v of the array is vector v's. Its place in the window, from 0x800 on, is
the model's choice (DESIGN CHOICE, log 7). -/
def pbaBase : Nat := 0x800

/-- A read of the MSI-X window: the table, entries of 16 bytes whose last word's bit 0 is the mask, and the PBA. -/
def State.msixRead (s : State) (t off : Nat) : Word :=
  let f := s.fn t
  if off < 65 * 16 then
    if off % 16 = 12 then (if f.unmasked.contains (off / 16) then 0 else 1)
    else Cells.get (fun _ => (0 : Word)) f.msixTable off
  else if pbaBase ≤ off ∧ off < pbaBase + 12 then
    ((List.range 32).filter fun b => f.pba.contains ((off - pbaBase) / 4 * 32 + b)).foldl (fun v b => setBit v b) 0
  else 0

/-- A write of the function mask in a function's MSI-X capability (R101): bit 30 of the doubleword that holds Message
Control. Clearing it sends what the PBA holds of unmasked vectors. -/
def State.msixControl (s : State) (t : Nat) (v : Word) : State :=
  if s.cfgReady && (s.fn t).enabled then (s.setFn t { s.fn t with fnMask := bit v 30 }).flushPba t else s

/-! ## Addresses -/

/-- Addresses from here on stand for a function's configuration space, which is no part of BAR0 (DESIGN CHOICE, log 7). -/
def configSpace : Nat := 0x100000000

/-- The offset of the MSI-X capability there; the spec gives none (DESIGN CHOICE, log 7). -/
def msixCapability : Nat := 0xB0

/-- May the requester write in a function's BAR0: its own, or any for Headframe? -/
def Requester.ofBar : Requester → Nat → Bool
  | .headframe, _ => true
  | .tenant t, fn => t == fn

/-- A 32-bit write to an aligned address of a function's BAR0. -/
def State.wordWrite (s : State) (req : Requester) (fn addr : Nat) (v : Word) : State :=
  match barPlace fn addr with
  | .page p off => s.pageWrite req p off v
  | .sqBell t q => if s.onBus req then s.sqBell t q v else s
  | .cqBell t q => if s.onBus req then s.cqBell t q v else s
  | .msix t off => if s.onBus req then s.msixWrite t off v else s
  | .directory _ | .miniDirectory _ _ | .reserved => s

/-- A write of a size or alignment that R30 does not allow: ignored, with `ERR.ACCESS` of the page addressed. -/
def State.badWrite (s : State) (req : Requester) (fn addr : Nat) : State :=
  match barPlace fn addr with
  | .page p off => s.gated req p (off % 0x800) fun s => s.accessErr p
  | _ => s

/-- REGISTER_WRITE: a write of `size` bytes; one of 64 bits is two of 32, the lower address first. From `configSpace` on it
reaches the function's configuration space instead of BAR0. -/
def State.busWrite (s : State) (req : Requester) (fn addr size : Nat) (v : BitVec 64) : State :=
  if !req.ofBar fn || !decide (fn < 256) then s
  else if configSpace ≤ addr then
    if addr = configSpace + msixCapability ∧ size = 4 then s.msixControl fn (v.truncate 32) else s
  else if size = 4 ∧ addr % 4 = 0 then s.wordWrite req fn addr (v.truncate 32)
  else if size = 8 ∧ addr % 8 = 0 then
    (s.wordWrite req fn addr (v.truncate 32)).wordWrite req fn (addr + 4) ((v >>> 32).truncate 32)
  else s.badWrite req fn addr

def execRegisterWrite (req : Requester) (fn addr size : Nat) (value : BitVec 64) (s : State) : Out :=
  .next (s.busWrite req fn addr size value)

end Sys2Proof.Machine
end

