-- ==== Sys2Proof/Machine/Dispatch.lean ====
section
/-! DEFINITION. The one dispatch: each command to its meaning. -/
namespace Sys2Proof.Machine

/-- The effect of a command on everything but the queue. -/
def exec (i : Instr) (s : State) : Host.Outcome State Fault Refusal :=
  match i with
  | .registerWrite req fn addr size value => Sys2Proof.Machine.execRegisterWrite req fn addr size value s
  | .rwsWrite req page off value => Sys2Proof.Machine.execRwsWrite req page off value s
  | .ctlFreeze req page value compl => Sys2Proof.Machine.execCtlFreeze req page value compl s
  | .ctlDrain req page value compl => Sys2Proof.Machine.execCtlDrain req page value compl s
  | .ctlBrst req page value compl => Sys2Proof.Machine.execCtlBrst req page value compl s
  | .ctlEn req page value compl => Sys2Proof.Machine.execCtlEn req page value compl s
  | .errinjWrite req page value => Sys2Proof.Machine.execErrinjWrite req page value s
  | .intenWrite req page value => Sys2Proof.Machine.execIntenWrite req page value s
  | .shadowComplement req page off value => Sys2Proof.Machine.execShadowComplement req page off value s
  | .shadowTimeout req page => Sys2Proof.Machine.execShadowTimeout req page s
  | .shadowCopyMismatch page off flip => Sys2Proof.Machine.execShadowCopyMismatch page off flip s
  | .txnBegin req scope value => Sys2Proof.Machine.execTxnBegin req scope value s
  | .txnCommit req scope value => Sys2Proof.Machine.execTxnCommit req scope value s
  | .txnAbort req scope value => Sys2Proof.Machine.execTxnAbort req scope value s
  | .txnTimeout scope => Sys2Proof.Machine.execTxnTimeout scope s
  | .txnEpochRead req scope => Sys2Proof.Machine.execTxnEpochRead req scope s
  | .commitValidationDone scope => Sys2Proof.Machine.execCommitValidationDone scope s
  | .commitQuiesce => Sys2Proof.Machine.execCommitQuiesce s
  | .pageApply page => Sys2Proof.Machine.execPageApply page s
  | .commitLastAck => Sys2Proof.Machine.execCommitLastAck s
  | .digestPublish => Sys2Proof.Machine.execDigestPublish s
  | .headframeCommit => Sys2Proof.Machine.execHeadframeCommit s
  | .busMasterEnableClear t => Sys2Proof.Machine.execBusMasterEnableClear t s
  | .busMasterEnableSet t => Sys2Proof.Machine.execBusMasterEnableSet t s
  | .msixUnmask t v => Sys2Proof.Machine.execMsixUnmask t v s
  | .sqEnable req t => Sys2Proof.Machine.execSqEnable req t s
  | .sqDisable req t => Sys2Proof.Machine.execSqDisable req t s
  | .sqAbort req t => Sys2Proof.Machine.execSqAbort req t s
  | .cqEnable req t => Sys2Proof.Machine.execCqEnable req t s
  | .cqDisable req t => Sys2Proof.Machine.execCqDisable req t s
  | .sqTailDoorbell t q value => Sys2Proof.Machine.execSqTailDoorbell t q value s
  | .cqHeadDoorbell t q value => Sys2Proof.Machine.execCqHeadDoorbell t q value s
  | .descriptorFetch t q => Sys2Proof.Machine.execDescriptorFetch t q s
  | .sglFetch e => Sys2Proof.Machine.execSglFetch e s
  | .dmaReadFailure what => Sys2Proof.Machine.execDmaReadFailure what s
  | .admissionResume t => Sys2Proof.Machine.execAdmissionResume t s
  | .dispatch e target => Sys2Proof.Machine.execDispatch e target s
  | .kernelStart e => Sys2Proof.Machine.execKernelStart e s
  | .entropyWaitTimeout e => Sys2Proof.Machine.execEntropyWaitTimeout e s
  | .holdReleaseTime e => Sys2Proof.Machine.execHoldReleaseTime e s
  | .eqtRelease e => Sys2Proof.Machine.execEqtRelease e s
  | .deadlineExpiry e => Sys2Proof.Machine.execDeadlineExpiry e s
  | .engineStopAck e => Sys2Proof.Machine.execEngineStopAck e s
  | .engineStopTimeout n j => Sys2Proof.Machine.execEngineStopTimeout n j s
  | .engineSelftestDone n j pass => Sys2Proof.Machine.execEngineSelftestDone n j pass s
  | .cqIrqTimer t q => Sys2Proof.Machine.execCqIrqTimer t q s
  | .nopOpcode e => Sys2Proof.Machine.execNopOpcode e s
  | .fence e => Sys2Proof.Machine.execFence e s
  | .abortTag e => Sys2Proof.Machine.execAbortTag e s
  | .kemKeygen e => Sys2Proof.Machine.execKemKeygen e s
  | .kemEncaps e => Sys2Proof.Machine.execKemEncaps e s
  | .kemDecaps e => Sys2Proof.Machine.execKemDecaps e s
  | .kemEkcheck e => Sys2Proof.Machine.execKemEkcheck e s
  | .kemExpand e => Sys2Proof.Machine.execKemExpand e s
  | .kemEvict e => Sys2Proof.Machine.execKemEvict e s
  | .dsaKeygen e => Sys2Proof.Machine.execDsaKeygen e s
  | .dsaSign e => Sys2Proof.Machine.execDsaSign e s
  | .dsaVerify e => Sys2Proof.Machine.execDsaVerify e s
  | .dsaExpand e => Sys2Proof.Machine.execDsaExpand e s
  | .dsaEvict e => Sys2Proof.Machine.execDsaEvict e s
  | .compositeEncaps e => Sys2Proof.Machine.execCompositeEncaps e s
  | .compositeDecaps e => Sys2Proof.Machine.execCompositeDecaps e s
  | .compositeSign e => Sys2Proof.Machine.execCompositeSign e s
  | .compositeVerify e => Sys2Proof.Machine.execCompositeVerify e s
  | .sluiceHashDone e => Sys2Proof.Machine.execSluiceHashDone e s
  | .sluiceChannelGrant => Sys2Proof.Machine.execSluiceChannelGrant s
  | .slcResvWrite req value => Sys2Proof.Machine.execSlcResvWrite req value s
  | .slhKeygen e => Sys2Proof.Machine.execSlhKeygen e s
  | .slhSign e => Sys2Proof.Machine.execSlhSign e s
  | .slhVerify e => Sys2Proof.Machine.execSlhVerify e s
  | .mceKeygen e => Sys2Proof.Machine.execMceKeygen e s
  | .mceEncaps e => Sys2Proof.Machine.execMceEncaps e s
  | .mceDecaps e => Sys2Proof.Machine.execMceDecaps e s
  | .hqcKeygen e => Sys2Proof.Machine.execHqcKeygen e s
  | .hqcEncaps e => Sys2Proof.Machine.execHqcEncaps e s
  | .hqcDecaps e => Sys2Proof.Machine.execHqcDecaps e s
  | .ecKeygen e => Sys2Proof.Machine.execEcKeygen e s
  | .ecSign e => Sys2Proof.Machine.execEcSign e s
  | .ecVerify e => Sys2Proof.Machine.execEcVerify e s
  | .ecAgree e => Sys2Proof.Machine.execEcAgree e s
  | .ecPkcheck e => Sys2Proof.Machine.execEcPkcheck e s
  | .rsaKeygen e => Sys2Proof.Machine.execRsaKeygen e s
  | .rsaSign e => Sys2Proof.Machine.execRsaSign e s
  | .rsaVerify e => Sys2Proof.Machine.execRsaVerify e s
  | .rsaEncrypt e => Sys2Proof.Machine.execRsaEncrypt e s
  | .rsaDecrypt e => Sys2Proof.Machine.execRsaDecrypt e s
  | .hashOp e => Sys2Proof.Machine.execHashOp e s
  | .hmac e => Sys2Proof.Machine.execHmac e s
  | .hmacVerify e => Sys2Proof.Machine.execHmacVerify e s
  | .kmac e => Sys2Proof.Machine.execKmac e s
  | .kmacVerify e => Sys2Proof.Machine.execKmacVerify e s
  | .kdf e => Sys2Proof.Machine.execKdf e s
  | .gcmSeal e => Sys2Proof.Machine.execGcmSeal e s
  | .gcmOpen e => Sys2Proof.Machine.execGcmOpen e s
  | .randomOp e => Sys2Proof.Machine.execRandomOp e s
  | .stfKeygen e => Sys2Proof.Machine.execStfKeygen e s
  | .keygenChunkDone k => Sys2Proof.Machine.execKeygenChunkDone k s
  | .stfSign e => Sys2Proof.Machine.execStfSign e s
  | .stfVerify e => Sys2Proof.Machine.execStfVerify e s
  | .stfQuery e => Sys2Proof.Machine.execStfQuery e s
  | .stfSetfloor e => Sys2Proof.Machine.execStfSetfloor e s
  | .stfCache e => Sys2Proof.Machine.execStfCache e s
  | .cacheBuildDone j => Sys2Proof.Machine.execCacheBuildDone j s
  | .subrangeGrant handle lo hi levels => Sys2Proof.Machine.execSubrangeGrant handle lo hi levels s
  | .leaseWriteStart => Sys2Proof.Machine.execLeaseWriteStart s
  | .leaseWriteDone ok => Sys2Proof.Machine.execLeaseWriteDone ok s
  | .leaseWriteRetry => Sys2Proof.Machine.execLeaseWriteRetry s
  | .sectorEraseDone b n => Sys2Proof.Machine.execSectorEraseDone b n s
  | .leasePowerup => Sys2Proof.Machine.execLeasePowerup s
  | .keyInfo e => Sys2Proof.Machine.execKeyInfo e s
  | .pubImport e => Sys2Proof.Machine.execPubImport e s
  | .symGen e => Sys2Proof.Machine.execSymGen e s
  | .keyWrap e => Sys2Proof.Machine.execKeyWrap e s
  | .keyUnwrap e => Sys2Proof.Machine.execKeyUnwrap e s
  | .keyReplace e => Sys2Proof.Machine.execKeyReplace e s
  | .keySwap e => Sys2Proof.Machine.execKeySwap e s
  | .keyDestroy e => Sys2Proof.Machine.execKeyDestroy e s
  | .destroyComplete e => Sys2Proof.Machine.execDestroyComplete e s
  | .treeDerive e => Sys2Proof.Machine.execTreeDerive e s
  | .pubExport e => Sys2Proof.Machine.execPubExport e s
  | .usageClear e => Sys2Proof.Machine.execUsageClear e s
  | .keyRecordWriteDone handle ok => Sys2Proof.Machine.execKeyRecordWriteDone handle ok s
  | .storeWriteRetry => Sys2Proof.Machine.execStoreWriteRetry s
  | .persistRestore => Sys2Proof.Machine.execPersistRestore s
  | .unitHandover page => Sys2Proof.Machine.execUnitHandover page s
  | .entSettleDone dead => Sys2Proof.Machine.execEntSettleDone dead s
  | .entStartupTestDone failed => Sys2Proof.Machine.execEntStartupTestDone failed s
  | .entStartupRetry => Sys2Proof.Machine.execEntStartupRetry s
  | .cellTestFail c cause => Sys2Proof.Machine.execCellTestFail c cause s
  | .entRestart req value compl => Sys2Proof.Machine.execEntRestart req value compl s
  | .centralDrbgReseed => Sys2Proof.Machine.execCentralDrbgReseed s
  | .stopeDrbgReseed n => Sys2Proof.Machine.execStopeDrbgReseed n s
  | .mrgReseed n => Sys2Proof.Machine.execMrgReseed n s
  | .lodeMaskReseed => Sys2Proof.Machine.execLodeMaskReseed s
  | .drbgRequestServed g => Sys2Proof.Machine.execDrbgRequestServed g s
  | .entDataRead req t => Sys2Proof.Machine.execEntDataRead req t s
  | .entRefill t => Sys2Proof.Machine.execEntRefill t s
  | .dgsOpen req t => Sys2Proof.Machine.execDgsOpen req t s
  | .dgsFinal req t => Sys2Proof.Machine.execDgsFinal req t s
  | .dgsNext req t => Sys2Proof.Machine.execDgsNext req t s
  | .dgsCompare req t => Sys2Proof.Machine.execDgsCompare req t s
  | .dgsCompareDone t c => Sys2Proof.Machine.execDgsCompareDone t c s
  | .dgsReset req t => Sys2Proof.Machine.execDgsReset req t s
  | .dgsClose req t => Sys2Proof.Machine.execDgsClose req t s
  | .dgsDinWrite req t value poisoned => Sys2Proof.Machine.execDgsDinWrite req t value poisoned s
  | .dgsDlastWrite req t value poisoned => Sys2Proof.Machine.execDgsDlastWrite req t value poisoned s
  | .dgsBlockDone core => Sys2Proof.Machine.execDgsBlockDone core s
  | .dgsResultRead req t j => Sys2Proof.Machine.execDgsResultRead req t j s
  | .shaftCheckpoint n => Sys2Proof.Machine.execShaftCheckpoint n s
  | .shaftCommit n inner pass => Sys2Proof.Machine.execShaftCommit n inner pass s
  | .shaftWipeDone n inner => Sys2Proof.Machine.execShaftWipeDone n inner s
  | .shaftStopAck e => Sys2Proof.Machine.execShaftStopAck e s
  | .shaftStopTimeout e => Sys2Proof.Machine.execShaftStopTimeout e s
  | .shaftSelftestDone n pass => Sys2Proof.Machine.execShaftSelftestDone n pass s
  | .unitUnresponsive page => Sys2Proof.Machine.execUnitUnresponsive page s
  | .eccThreshold unit => Sys2Proof.Machine.execEccThreshold unit s
  | .trapEntry e => Sys2Proof.Machine.execTrapEntry e s
  | .trapHandlerOverrun e => Sys2Proof.Machine.execTrapHandlerOverrun e s
  | .stepWatchdogExpiry e => Sys2Proof.Machine.execStepWatchdogExpiry e s
  | .msetBuildDone n j k => Sys2Proof.Machine.execMsetBuildDone n j k s
  | .stopeClockChange n mhz => Sys2Proof.Machine.execStopeClockChange n mhz s
  | .nopS n j => Sys2Proof.Machine.execNopS n j s
  | .addS n j => Sys2Proof.Machine.execAddS n j s
  | .subS n j => Sys2Proof.Machine.execSubS n j s
  | .andS n j => Sys2Proof.Machine.execAndS n j s
  | .orS n j => Sys2Proof.Machine.execOrS n j s
  | .xorS n j => Sys2Proof.Machine.execXorS n j s
  | .sll n j => Sys2Proof.Machine.execSll n j s
  | .srl n j => Sys2Proof.Machine.execSrl n j s
  | .sra n j => Sys2Proof.Machine.execSra n j s
  | .slt n j => Sys2Proof.Machine.execSlt n j s
  | .sltu n j => Sys2Proof.Machine.execSltu n j s
  | .mulS n j => Sys2Proof.Machine.execMulS n j s
  | .mulhu n j => Sys2Proof.Machine.execMulhu n j s
  | .divu n j => Sys2Proof.Machine.execDivu n j s
  | .remu n j => Sys2Proof.Machine.execRemu n j s
  | .addi n j => Sys2Proof.Machine.execAddi n j s
  | .andi n j => Sys2Proof.Machine.execAndi n j s
  | .ori n j => Sys2Proof.Machine.execOri n j s
  | .xori n j => Sys2Proof.Machine.execXori n j s
  | .slli n j => Sys2Proof.Machine.execSlli n j s
  | .srli n j => Sys2Proof.Machine.execSrli n j s
  | .srai n j => Sys2Proof.Machine.execSrai n j s
  | .slti n j => Sys2Proof.Machine.execSlti n j s
  | .ld32 n j => Sys2Proof.Machine.execLd32 n j s
  | .ld64 n j => Sys2Proof.Machine.execLd64 n j s
  | .st32 n j => Sys2Proof.Machine.execSt32 n j s
  | .st64 n j => Sys2Proof.Machine.execSt64 n j s
  | .beq n j => Sys2Proof.Machine.execBeq n j s
  | .bne n j => Sys2Proof.Machine.execBne n j s
  | .blt n j => Sys2Proof.Machine.execBlt n j s
  | .bge n j => Sys2Proof.Machine.execBge n j s
  | .bltu n j => Sys2Proof.Machine.execBltu n j s
  | .bgeu n j => Sys2Proof.Machine.execBgeu n j s
  | .bp n j => Sys2Proof.Machine.execBp n j s
  | .jal n j => Sys2Proof.Machine.execJal n j s
  | .jr n j => Sys2Proof.Machine.execJr n j s
  | .getc n j => Sys2Proof.Machine.execGetc n j s
  | .setc n j => Sys2Proof.Machine.execSetc n j s
  | .mset n j => Sys2Proof.Machine.execMset n j s
  | .popen n j => Sys2Proof.Machine.execPopen n j s
  | .pclose n j => Sys2Proof.Machine.execPclose n j s
  | .barS n j => Sys2Proof.Machine.execBarS n j s
  | .final n j => Sys2Proof.Machine.execFinal n j s
  | .reserve n j => Sys2Proof.Machine.execReserve n j s
  | .finalLode n j => Sys2Proof.Machine.execFinalLode n j s
  | .unit n j => Sys2Proof.Machine.execUnit n j s
  | .failS n j => Sys2Proof.Machine.execFailS n j s
  | .breakS n j => Sys2Proof.Machine.execBreakS n j s
  | .limm n j => Sys2Proof.Machine.execLimm n j s
  | .jfar n j => Sys2Proof.Machine.execJfar n j s
  | .vadd n j => Sys2Proof.Machine.execVadd n j s
  | .vsub n j => Sys2Proof.Machine.execVsub n j s
  | .vand n j => Sys2Proof.Machine.execVand n j s
  | .vor n j => Sys2Proof.Machine.execVor n j s
  | .vxor n j => Sys2Proof.Machine.execVxor n j s
  | .vsll n j => Sys2Proof.Machine.execVsll n j s
  | .vsrl n j => Sys2Proof.Machine.execVsrl n j s
  | .vsra n j => Sys2Proof.Machine.execVsra n j s
  | .vslli n j => Sys2Proof.Machine.execVslli n j s
  | .vsrli n j => Sys2Proof.Machine.execVsrli n j s
  | .vsrai n j => Sys2Proof.Machine.execVsrai n j s
  | .vrotli n j => Sys2Proof.Machine.execVrotli n j s
  | .vmul n j => Sys2Proof.Machine.execVmul n j s
  | .vmulw n j => Sys2Proof.Machine.execVmulw n j s
  | .vdot n j => Sys2Proof.Machine.execVdot n j s
  | .vdotz n j => Sys2Proof.Machine.execVdotz n j s
  | .vamov n j => Sys2Proof.Machine.execVamov n j s
  | .vamovi n j => Sys2Proof.Machine.execVamovi n j s
  | .vaddc n j => Sys2Proof.Machine.execVaddc n j s
  | .vsubb n j => Sys2Proof.Machine.execVsubb n j s
  | .vmadd n j => Sys2Proof.Machine.execVmadd n j s
  | .vmsub n j => Sys2Proof.Machine.execVmsub n j s
  | .vmmul n j => Sys2Proof.Machine.execVmmul n j s
  | .vmred n j => Sys2Proof.Machine.execVmred n j s
  | .vcmpeq n j => Sys2Proof.Machine.execVcmpeq n j s
  | .vcmpltu n j => Sys2Proof.Machine.execVcmpltu n j s
  | .vcmplt n j => Sys2Proof.Machine.execVcmplt n j s
  | .vsel n j => Sys2Proof.Machine.execVsel n j s
  | .vbcast n j => Sys2Proof.Machine.execVbcast n j s
  | .vins n j => Sys2Proof.Machine.execVins n j s
  | .vext n j => Sys2Proof.Machine.execVext n j s
  | .vperm n j => Sys2Proof.Machine.execVperm n j s
  | .vmov n j => Sys2Proof.Machine.execVmov n j s
  | .pand n j => Sys2Proof.Machine.execPand n j s
  | .por n j => Sys2Proof.Machine.execPor n j s
  | .pxor n j => Sys2Proof.Machine.execPxor n j s
  | .pnot n j => Sys2Proof.Machine.execPnot n j s
  | .vptail n j => Sys2Proof.Machine.execVptail n j s
  | .pset n j => Sys2Proof.Machine.execPset n j s
  | .preduce n j => Sys2Proof.Machine.execPreduce n j s
  | .va2b n j => Sys2Proof.Machine.execVa2b n j s
  | .vb2a n j => Sys2Proof.Machine.execVb2a n j s
  | .vrefr n j => Sys2Proof.Machine.execVrefr n j s
  | .vld n j => Sys2Proof.Machine.execVld n j s
  | .vst n j => Sys2Proof.Machine.execVst n j s
  | .vgath n j => Sys2Proof.Machine.execVgath n j s
  | .vscat n j => Sys2Proof.Machine.execVscat n j s
  | .vust n j => Sys2Proof.Machine.execVust n j s
  | .vkabs n j => Sys2Proof.Machine.execVkabs n j s
  | .vkfin n j => Sys2Proof.Machine.execVkfin n j s
  | .vksqz n j => Sys2Proof.Machine.execVksqz n j s
  | .vhblk n j => Sys2Proof.Machine.execVhblk n j s
  | .vhrd n j => Sys2Proof.Machine.execVhrd n j s
  | .vakey n j => Sys2Proof.Machine.execVakey n j s
  | .vaes n j => Sys2Proof.Machine.execVaes n j s
  | .vlstr n j => Sys2Proof.Machine.execVlstr n j s
  | .vistr n j => Sys2Proof.Machine.execVistr n j s
  | .vslh n j => Sys2Proof.Machine.execVslh n j s
  | .vsldg n j => Sys2Proof.Machine.execVsldg n j s
  | .vrnd n j => Sys2Proof.Machine.execVrnd n j s
  | .vmrg n j => Sys2Proof.Machine.execVmrg n j s
  | .wadd n j => Sys2Proof.Machine.execWadd n j s
  | .wsub n j => Sys2Proof.Machine.execWsub n j s
  | .wxor n j => Sys2Proof.Machine.execWxor n j s
  | .wand n j => Sys2Proof.Machine.execWand n j s
  | .wpmul n j => Sys2Proof.Machine.execWpmul n j s
  | .wbmul n j => Sys2Proof.Machine.execWbmul n j s
  | .wsmul n j => Sys2Proof.Machine.execWsmul n j s
  | .wclmul n j => Sys2Proof.Machine.execWclmul n j s
  | .wntt n j => Sys2Proof.Machine.execWntt n j s
  | .wintt n j => Sys2Proof.Machine.execWintt n j s
  | .wrot n j => Sys2Proof.Machine.execWrot n j s
  | .wdecomp n j => Sys2Proof.Machine.execWdecomp n j s
  | .whint n j => Sys2Proof.Machine.execWhint n j s
  | .wnorm n j => Sys2Proof.Machine.execWnorm n j s
  | .wcmpeq n j => Sys2Proof.Machine.execWcmpeq n j s
  | .wsel n j => Sys2Proof.Machine.execWsel n j s
  | .wcomp n j => Sys2Proof.Machine.execWcomp n j s
  | .wdcmp n j => Sys2Proof.Machine.execWdcmp n j s
  | .wpack n j => Sys2Proof.Machine.execWpack n j s
  | .wunp n j => Sys2Proof.Machine.execWunp n j s
  | .wmov n j => Sys2Proof.Machine.execWmov n j s
  | .wbcast n j => Sys2Proof.Machine.execWbcast n j s
  | .winsv n j => Sys2Proof.Machine.execWinsv n j s
  | .wextv n j => Sys2Proof.Machine.execWextv n j s
  | .wktail n j => Sys2Proof.Machine.execWktail n j s
  | .wkop n j => Sys2Proof.Machine.execWkop n j s
  | .wa2b n j => Sys2Proof.Machine.execWa2b n j s
  | .wb2a n j => Sys2Proof.Machine.execWb2a n j s
  | .wrefr n j => Sys2Proof.Machine.execWrefr n j s
  | .wld n j => Sys2Proof.Machine.execWld n j s
  | .wst n j => Sys2Proof.Machine.execWst n j s
  | .wust n j => Sys2Proof.Machine.execWust n j s
  | .wsamu n j => Sys2Proof.Machine.execWsamu n j s
  | .wsamb n j => Sys2Proof.Machine.execWsamb n j s
  | .wsamr n j => Sys2Proof.Machine.execWsamr n j s
  | .wsamy n j => Sys2Proof.Machine.execWsamy n j s
  | .wsamc n j => Sys2Proof.Machine.execWsamc n j s
  | .kstLoad req n value => Sys2Proof.Machine.execKstLoad req n value s
  | .kstUnload req n value => Sys2Proof.Machine.execKstUnload req n value s
  | .kstReload req n value => Sys2Proof.Machine.execKstReload req n value s
  | .packFetchDone n => Sys2Proof.Machine.execPackFetchDone n s
  | .loadDrained n => Sys2Proof.Machine.execLoadDrained n s
  | .katDone n failed => Sys2Proof.Machine.execKatDone n failed s
  | .loadDrainTimeout n => Sys2Proof.Machine.execLoadDrainTimeout n s
  | .kstScrub n corr bad => Sys2Proof.Machine.execKstScrub n corr bad s
  | .flr t => Sys2Proof.Machine.execFlr t s
  | .flrComplete t => Sys2Proof.Machine.execFlrComplete t s
  | .tntRemove req t value compl => Sys2Proof.Machine.execTntRemove req t value compl s
  | .vfEnable num => Sys2Proof.Machine.execVfEnable num s
  | .vfDisable => Sys2Proof.Machine.execVfDisable s
  | .linkSignalDetect l lanes => Sys2Proof.Machine.execLinkSignalDetect l lanes s
  | .linkEqualiseDone l => Sys2Proof.Machine.execLinkEqualiseDone l s
  | .linkAlignDone l => Sys2Proof.Machine.execLinkAlignDone l s
  | .linkStateTimeout l => Sys2Proof.Machine.execLinkStateTimeout l s
  | .handshake of_ good secret transcript => Sys2Proof.Machine.execHandshake of_ good secret transcript s
  | .handshakeRetry l => Sys2Proof.Machine.execHandshakeRetry l s
  | .linkRekey l down => Sys2Proof.Machine.execLinkRekey l down s
  | .fecBlock l corr uncorr ack => Sys2Proof.Machine.execFecBlock l corr uncorr ack s
  | .replayTimeout l => Sys2Proof.Machine.execReplayTimeout l s
  | .retrainTimeout l => Sys2Proof.Machine.execRetrainTimeout l s
  | .zdpCredit l vc n => Sys2Proof.Machine.execZdpCredit l vc n s
  | .heartbeat l beat => Sys2Proof.Machine.execHeartbeat l beat s
  | .heartbeatTimeout l => Sys2Proof.Machine.execHeartbeatTimeout l s
  | .syncHoldoff => Sys2Proof.Machine.execSyncHoldoff s
  | .joinAttestation l from_ => Sys2Proof.Machine.execJoinAttestation l from_ s
  | .transportKey key devid pending => Sys2Proof.Machine.execTransportKey key devid pending s
  | .joinStepTimeout d => Sys2Proof.Machine.execJoinStepTimeout d s
  | .joinRetry => Sys2Proof.Machine.execJoinRetry s
  | .zdpAdmit req d => Sys2Proof.Machine.execZdpAdmit req d s
  | .zdpRefuse req d => Sys2Proof.Machine.execZdpRefuse req d s
  | .quarantine req d => Sys2Proof.Machine.execQuarantine req d s
  | .resync req d => Sys2Proof.Machine.execResync req d s
  | .zdpEvict req d => Sys2Proof.Machine.execZdpEvict req d s
  | .mcmdReset req d => Sys2Proof.Machine.execMcmdReset req d s
  | .zdpReset => Sys2Proof.Machine.execZdpReset s
  | .zdpLeave req value compl => Sys2Proof.Machine.execZdpLeave req value compl s
  | .roleWrite req value compl => Sys2Proof.Machine.execRoleWrite req value compl s
  | .rcfgDataWrite req value => Sys2Proof.Machine.execRcfgDataWrite req value s
  | .zdpWork work => Sys2Proof.Machine.execZdpWork work s
  | .zdpResult d answer => Sys2Proof.Machine.execZdpResult d answer s
  | .keyMessage handle blob => Sys2Proof.Machine.execKeyMessage handle blob s
  | .cacheEvictionReport d handle => Sys2Proof.Machine.execCacheEvictionReport d handle s
  | .zdpStop token => Sys2Proof.Machine.execZdpStop token s
  | .zdpPurge handle destroyed => Sys2Proof.Machine.execZdpPurge handle destroyed s
  | .purgeAck d handle => Sys2Proof.Machine.execPurgeAck d handle s
  | .dissolve => Sys2Proof.Machine.execDissolve s
  | .zdpResume d l => Sys2Proof.Machine.execZdpResume d l s
  | .commitRequest d => Sys2Proof.Machine.execCommitRequest d s
  | .zdpPrepare full nums => Sys2Proof.Machine.execZdpPrepare full nums s
  | .prepareReply d ok epoch errAddr digest => Sys2Proof.Machine.execPrepareReply d ok epoch errAddr digest s
  | .zdpCommit epoch => Sys2Proof.Machine.execZdpCommit epoch s
  | .finalDigestReply d epoch digest => Sys2Proof.Machine.execFinalDigestReply d epoch digest s
  | .zdpAbort => Sys2Proof.Machine.execZdpAbort s
  | .prepTimeout => Sys2Proof.Machine.execPrepTimeout s
  | .pollTimer => Sys2Proof.Machine.execPollTimer s
  | .pollReply d epoch free alarm sync digest below => Sys2Proof.Machine.execPollReply d epoch free alarm sync digest below s
  | .holdTimeout d => Sys2Proof.Machine.execHoldTimeout d s
  | .powerOnReset ioLost => Sys2Proof.Machine.execPowerOnReset ioLost s
  | .pinReset => Sys2Proof.Machine.execPinReset s
  | .perst => Sys2Proof.Machine.execPerst s
  | .hotReset => Sys2Proof.Machine.execHotReset s
  | .linkDown => Sys2Proof.Machine.execLinkDown s
  | .headframeWatchdogExpiry => Sys2Proof.Machine.execHeadframeWatchdogExpiry s
  | .rstSoft req value compl => Sys2Proof.Machine.execRstSoft req value compl s
  | .mctpDeviceReset => Sys2Proof.Machine.execMctpDeviceReset s
  | .resetDeassert source straps => Sys2Proof.Machine.execResetDeassert source straps s
  | .domainRelease d => Sys2Proof.Machine.execDomainRelease d s
  | .rstRelWrite req value => Sys2Proof.Machine.execRstRelWrite req value s
  | .optionLoadDone options => Sys2Proof.Machine.execOptionLoadDone options s
  | .bistDone pages cores links fatal => Sys2Proof.Machine.execBistDone pages cores links fatal s
  | .bootHeaderRead flashB header packs => Sys2Proof.Machine.execBootHeaderRead flashB header packs s
  | .firmwareLoadDone image => Sys2Proof.Machine.execFirmwareLoadDone image s
  | .keyDerivationDone => Sys2Proof.Machine.execKeyDerivationDone s
  | .configReady => Sys2Proof.Machine.execConfigReady s
  | .bootPackLoaded k => Sys2Proof.Machine.execBootPackLoaded k s
  | .fullReadiness => Sys2Proof.Machine.execFullReadiness s
  | .ownerConfigRecordWrite => Sys2Proof.Machine.execOwnerConfigRecordWrite s
  | .recoveryImage header image packs => Sys2Proof.Machine.execRecoveryImage header image packs s
  | .dcoreDrain req value compl => Sys2Proof.Machine.execDcoreDrain req value compl s
  | .dcoreReset req value compl => Sys2Proof.Machine.execDcoreReset req value compl s
  | .toTest req value compl => Sys2Proof.Machine.execToTest req value compl s
  | .toProduction req value compl => Sys2Proof.Machine.execToProduction req value compl s
  | .toEndOfLife req value compl => Sys2Proof.Machine.execToEndOfLife req value compl s
  | .setTok3 req value compl => Sys2Proof.Machine.execSetTok3 req value compl s
  | .lcCopyProgrammed good => Sys2Proof.Machine.execLcCopyProgrammed good s
  | .tokenLockoutExpiry => Sys2Proof.Machine.execTokenLockoutExpiry s
  | .ownEnroll req value compl => Sys2Proof.Machine.execOwnEnroll req value compl s
  | .ownTransfer req value compl => Sys2Proof.Machine.execOwnTransfer req value compl s
  | .ownRelease req value compl => Sys2Proof.Machine.execOwnRelease req value compl s
  | .ownRestore req value compl => Sys2Proof.Machine.execOwnRestore req value compl s
  | .newchal via => Sys2Proof.Machine.execNewchal via s
  | .dbgauth blob => Sys2Proof.Machine.execDbgauth blob s
  | .dbgEnd req => Sys2Proof.Machine.execDbgEnd req s
  | .challengeExpiry => Sys2Proof.Machine.execChallengeExpiry s
  | .debugExpiry => Sys2Proof.Machine.execDebugExpiry s
  | .bypass => Sys2Proof.Machine.execBypass s
  | .idcode => Sys2Proof.Machine.execIdcode s
  | .ident => Sys2Proof.Machine.execIdent s
  | .dbgsts => Sys2Proof.Machine.execDbgsts s
  | .samplePreload sample preload => Sys2Proof.Machine.execSamplePreload sample preload s
  | .extest => Sys2Proof.Machine.execExtest s
  | .getVersion c => Sys2Proof.Machine.execGetVersion c s
  | .getCapabilities c => Sys2Proof.Machine.execGetCapabilities c s
  | .negotiateAlgorithms c => Sys2Proof.Machine.execNegotiateAlgorithms c s
  | .getDigests c => Sys2Proof.Machine.execGetDigests c s
  | .getCertificate c slot offset len => Sys2Proof.Machine.execGetCertificate c slot offset len s
  | .spdmChallenge c nonce => Sys2Proof.Machine.execSpdmChallenge c nonce s
  | .getMeasurements c index nonce => Sys2Proof.Machine.execGetMeasurements c index nonce s
  | .keyExchange c peer => Sys2Proof.Machine.execKeyExchange c peer s
  | .spdmFinish c mac => Sys2Proof.Machine.execSpdmFinish c mac s
  | .keyUpdate c => Sys2Proof.Machine.execKeyUpdate c s
  | .spdmHeartbeat c => Sys2Proof.Machine.execSpdmHeartbeat c s
  | .endSession c => Sys2Proof.Machine.execEndSession c s
  | .vendorDefinedRequest c stream key => Sys2Proof.Machine.execVendorDefinedRequest c stream key s
  | .loopPulse first second cases mv => Sys2Proof.Machine.execLoopPulse first second cases mv s
  | .loopEvent n => Sys2Proof.Machine.execLoopEvent n s
  | .caseEvent n => Sys2Proof.Machine.execCaseEvent n s
  | .monitorEvent src cause detail lasting => Sys2Proof.Machine.execMonitorEvent src cause detail lasting s
  | .vbatRemoved mv => Sys2Proof.Machine.execVbatRemoved mv s
  | .sourceClear n => Sys2Proof.Machine.execSourceClear n s
  | .alarmCutoff => Sys2Proof.Machine.execAlarmCutoff s
  | .scrubDone => Sys2Proof.Machine.execScrubDone s
  | .zeroiseDone => Sys2Proof.Machine.execZeroiseDone s
  | .alarmRelease bmc req value compl => Sys2Proof.Machine.execAlarmRelease bmc req value compl s
  | .cnyLock req value compl => Sys2Proof.Machine.execCnyLock req value compl s
  | .eventLogProcess => Sys2Proof.Machine.execEventLogProcess s
  | .rmdataAccess req write value => Sys2Proof.Machine.execRmdataAccess req write value s
  | .pldmEventAck seq => Sys2Proof.Machine.execPldmEventAck seq s
  | .eventResendTimeout => Sys2Proof.Machine.execEventResendTimeout s
  | .eventPoll enable fromSeq => Sys2Proof.Machine.execEventPoll enable fromSeq s
  | .logdataRead req => Sys2Proof.Machine.execLogdataRead req s
  | .pmuFreeze req t value => Sys2Proof.Machine.execPmuFreeze req t value s
  | .pmuClear req t value => Sys2Proof.Machine.execPmuClear req t value s
  | .pmuEvselWrite req t n value => Sys2Proof.Machine.execPmuEvselWrite req t n value s
  | .pmuCntWrite req t n hi value => Sys2Proof.Machine.execPmuCntWrite req t n hi value s
  | .pmuSselWrite req t value => Sys2Proof.Machine.execPmuSselWrite req t value s
  | .pmuSampleEnable req t value => Sys2Proof.Machine.execPmuSampleEnable req t value s
  | .sampleTag n j cause stall => Sys2Proof.Machine.execSampleTag n j cause stall s
  | .sampleEntryWrite n latency trapped dropped => Sys2Proof.Machine.execSampleEntryWrite n latency trapped dropped s
  | .pmuBwSelect req window value => Sys2Proof.Machine.execPmuBwSelect req window value s
  | .bwWindowEnd bytesIn bytesOut => Sys2Proof.Machine.execBwWindowEnd bytesIn bytesOut s
  | .bwpeakRead req => Sys2Proof.Machine.execBwpeakRead req s
  | .thermalPoll sensors => Sys2Proof.Machine.execThermalPoll sensors s
  | .thermtrip temp => Sys2Proof.Machine.execThermtrip temp s
  | .avsLoopTick allAbove anyBelow => Sys2Proof.Machine.execAvsLoopTick allAbove anyBelow s
  | .avsFault regulator => Sys2Proof.Machine.execAvsFault regulator s
  | .heartbeatSend l => Sys2Proof.Machine.execHeartbeatSend l s
  | .subrangeRequestReceipt d handle => Sys2Proof.Machine.execSubrangeRequestReceipt d handle s

end Sys2Proof.Machine
end

