-- ==== Sys2Proof/Machine/Step.lean ====
section
/-! DEFINITION. One step: the command at the front of the queue takes effect; with nothing waiting one SYS_CLK cycle
goes by. -/
namespace Sys2Proof.Machine

/-- Take the command at the front of the queue and answer its outcome, with the queue's rest; on an empty queue the
stamp advances by one cycle (R18). DESIGN CHOICE (log 4): the tick has no row of its own. -/
def step (s : State) : Host.Outcome State Fault Refusal :=
  match s.pending with
  | [] => .next s.tick
  | c :: rest => exec c { s with pending := rest }

/-- The state with the command that a word spells put at the front of the queue; unchanged where it spells none. -/
def State.withFetchWord (s : State) (nbits w : Nat) : State :=
  match decodeTableWord nbits w with
  | some c => { s with pending := c :: s.pending }
  | none => s

end Sys2Proof.Machine
end

