-- ==== Sys2Proof/Machine/Views.lean ====
section
/-! DEFINITION. What a read of a register returns (R30, R38, R41, R45, R47, R50): the registers whose value is computed
from the state, page by page, latched groups, shadows and staged aliases; and what the balls show (R440, R501, R535). A
read has no row in the table: it is an observation, and the reads that change the state have commands of their own. -/
namespace Sys2Proof.Machine

/-- The low or high word of a 64-bit value. -/
def halfOf (v : Nat) (hi : Bool) : Word := BitVec.ofNat 32 (if hi then v / 2 ^ 32 else v)

/-- One register of a byte string shown from offset `base` on: byte 4i + j in bits [8j+7:8j] of register i. -/
def wordAt (bs : Bytes) (base off : Nat) : Word := BitVec.ofNat 32 (leField bs (off - base) 4)

def num (v : Nat) : Word := BitVec.ofNat 32 v

/-! ## The common header (R41) -/

/-- Has a page acknowledged the commit that is being applied (R52 step 4)? -/
def State.pageAcked (s : State) (n : Nat) (p : Page) : Bool :=
  match s.txn.active with
  | some c => c.stage == .applying && (match c.of with | .scope sc => sc.num == n | _ => false) && !c.unacked.contains p
  | none => false

/-- Has an open transaction staged a value in the page, which has not taken it in force yet? -/
def State.stagedIn (s : State) (p : Page) : Bool :=
  s.txn.scopes.any fun q =>
    !s.pageAcked q.1 p && q.2.staged.any fun r => decide (p.base ≤ r.1) && decide (r.1 < p.base + 0x1000)

/-- `STS`. -/
def State.showSts (s : State) (p : Page) : Word :=
  let err := s.reg p 0x010 &&& ~~~(s.reg p 0x014) != 0
  let off := !s.unitEnabled p || s.dir.disabled.contains p
  num (b2n off * 32 + b2n (bit (s.reg p 0x008) 3) * 16 + b2n (s.stagedIn p) * 8 + b2n err * 4 + b2n (!s.pageIdle p) * 2 +
    b2n (s.pageIdle p))

def State.showHeader (s : State) (p : Page) (off : Nat) : Word :=
  if off = 0x00C then s.showSts p
  else if off = 0x028 then
    if s.prims.any fun x => x.page == p then setBit (s.reg p 0x028) 0 else clearBit (s.reg p 0x028) 0
  else s.reg p off

/-! ## Transactions (R49) -/

def TxnPhase.code : TxnPhase → Nat
  | .idle => 0 | .opened => 1 | .committing => 2 | .prepared => 3

def TxnResult.code : TxnResult → Nat
  | .none => 0 | .committed => 1 | .aborted => 2 | .timeout => 3 | .invalid => 4 | .overflow => 5 | .busy => 6
  | .alarm => 7 | .idMismatch => 8 | .member => 9 | .prepareFailed => 10

def State.showTxn (s : State) (sc : Scope) (off : Nat) : Word :=
  let x := s.txnOf sc
  let phase := if sc == .device && s.hfCommitting then 2 else x.phase.code
  if off = 0x104 then num x.id
  else if off = 0x110 then
    num (x.count * 65536 + x.result.code * 16 + b2n x.overflow * 8 + phase)
  else if off = 0x118 then halfOf s.txn.epoch false
  else if off = 0x11C then halfOf s.txn.epoch true
  else if 0x120 ≤ off ∧ off ≤ 0x13C then wordAt s.txn.digest 0x120 off
  else if off = 0x140 then num x.errAddr
  else s.reg sc.page off

/-! ## Functions and queues (R63, R408) -/

def FnPhase.code : FnPhase → Nat
  | .absent => 0 | .active => 1 | .flr => 2 | .removing => 3

/-- The queue registers of a page of tenant `t` that shows queue `q`. -/
def State.showQueue (s : State) (t q off : Nat) : Word :=
  let x := s.sq t q
  let c := s.cq t q
  match off with
  | 0x104 => x.baseLo
  | 0x108 => x.baseHi
  | 0x10C => x.cfg
  | 0x110 => x.dl
  | 0x114 => num (b2n x.en)
  | 0x118 =>
    num (x.errCause * 2 ^ 28 + b2n x.error * 2 ^ 18 + b2n (s.sqActive t q != 0) * 2 ^ 17 + b2n x.en * 65536 + x.head)
  | 0x11C => c.baseLo
  | 0x120 => c.baseHi
  | 0x124 => c.cfg
  | 0x128 => num (b2n c.en)
  | 0x12C => c.irq
  | 0x130 =>
    num (c.errCause * 2 ^ 28 + b2n c.error * 2 ^ 19 + b2n (c.stalled && !c.waiting.isEmpty) * 2 ^ 18 + b2n c.phase * 2 ^ 17 +
      b2n c.en * 65536 + c.tail)
  | 0x134 => num x.seq
  | 0x138 => halfOf s.stamp false
  | _ => halfOf s.stamp true

/-- `TNT_EXSTS` and `TNT_EXPEND` (R403, R408, R514). -/
def State.showExclusive (s : State) (t : Nat) (pend : Bool) : Word :=
  let stopes (p : Nat → Bool) : Nat := ((List.range 64).filter p).length
  let shafts (p : Nat → Bool) : Nat := ((List.range 8).filter p).length
  if pend then num (stopes fun n => ((s.stope n).handover && (s.stope n).handTo == some t) || (s.serves n t && s.healing n))
  else num (shafts (fun n => ((s.shaft n).handover && (s.shaft n).handTo == some t) || (s.servesShaft n t && s.healing (64 + n))) * 65536 +
    shafts (fun n => s.servesShaft n t && !s.healing (64 + n)) * 4096 + stopes fun n => s.serves n t && !s.healing n)

/-- A TNT page of tenant `t`, its own or the administrator's; the device-scope values stand in the latter. -/
def State.showTnt (s : State) (p : Page) (t off : Nat) : Word :=
  let f := s.fn t
  if 0x104 ≤ off ∧ off ≤ 0x13C then s.showQueue t (s.regField p 0x100 5 0) off
  else match off with
    | 0x140 => num (t * 2 ^ 24 + b2n f.enabled * 256 + f.phase.code)
    | 0x144 => 0
    | 0x14C => num (s.tallyUse t)
    | 0x174 => s.showExclusive t false
    | 0x178 => s.showExclusive t true
    | 0x180 => s.reg (.tnt t) 0x180
    | 0x184 => num (f.flrCount * 65536 + b2n (f.phase == .flr || f.phase == .removing))
    | 0x188 => halfOf f.flrStamp false
    | 0x18C => halfOf f.flrStamp true
    | _ => if 0x148 ≤ off then s.reg (.tntA t) off else s.reg p off

/-- The TLY page (R103). `TLY_ADAPT` counts a kernel once for each Stope that holds it: DESIGN CHOICE, log 27. -/
def State.showTly (s : State) (off : Nat) : Word :=
  let old (k : Kernel) : Bool := decide (countAt s.tally.measured k.opBase < 1024)
  match off with
  | 0x104 => num s.tally.entries.length
  | 0x108 => num s.tally.occPeak
  | 0x10C => num (Cells.count (fun x : Entry => x.state == .waitEntropy) s.tally.entries)
  | 0x120 => halfOf s.tally.cutoff false
  | 0x124 => halfOf s.tally.cutoff true
  | 0x128 => halfOf s.tally.epochStamp false
  | 0x12C => halfOf s.tally.epochStamp true
  | 0x130 => num (s.packedStopes.map fun n =>
      ((s.stope n).store.packs.map fun p => (p.2.kernels.filter old).length).foldl (· + ·) 0).sum
  | _ => s.reg .tly off

/-! ## Lode (R222) -/

/-- `LOD_STORE`. -/
def State.showStore (s : State) : Word :=
  num (s.lode.restoreFail * 65536 + b2n s.lode.storeRetry * 16 + b2n s.lode.restorePartial * 8 + b2n s.lode.restoreDone * 4 +
    b2n s.lode.rootLost * 2 + b2n s.lode.rootPresent)

def State.showLod (s : State) (off : Nat) : Word :=
  let t := s.regField .lod 0x120 7 0
  match off with
  | 0x10C => num s.objUseAll
  | 0x110 => num s.matUseAll
  | 0x114 => num s.granUseAll
  | 0x118 => num s.persUse
  | 0x124 => num (s.objUse t)
  | 0x128 => num (s.matUse t)
  | 0x12C => num (s.granUse t)
  | 0x130 => s.showStore
  | 0x134 => halfOf s.lode.dstamp false
  | 0x138 => halfOf s.lode.dstamp true
  | 0x13C => num s.retiredCount
  | _ => s.reg .lod off

/-! ## Entropy (R263, R264) -/

def State.showEnt (s : State) (off : Nat) : Word :=
  let c := s.cell (s.regField .ent 0x108 2 0)
  match off with
  | 0x104 => num s.entSts
  | 0x10C => num (c.exclCount * 65536 + Nat.min 0xFF c.aptMax * 256 + c.cause * 4 + c.cstate)
  | 0x140 => num (250 * s.healthyCells)
  | 0x144 => halfOf s.ent.failStamp false
  | 0x148 => halfOf s.ent.failStamp true
  | 0x14C => if bit (s.reg .ent 0x100) 1 then Config.freeValue 32 s.freeNext else 0
  | 0x150 => num (s.ent.failTotal * 65536 + s.ent.failCells)
  | _ => s.reg .ent off

def State.showTent (s : State) (t off : Nat) : Word :=
  let f := s.fn t
  match off with
  | 0x100 => (s.entRead t).2
  | 0x104 => num (b2n (s.ent.phase == 4) * 8 + b2n s.entReady * 4 + b2n f.entUnderrun * 2 + b2n (!f.entBuf.isEmpty))
  | 0x108 => num f.tDrawn
  | _ => s.reg (.tent t) off

/-! ## Digest service and Sluice (R284 to R286) -/

def State.showDgs (s : State) (off : Nat) : Word :=
  let t := s.regField .dgs 0x108 7 0
  match off with
  | 0x104 => num s.slotUseAll
  | 0x10C => num (s.regField (.tntA t) 0x160 10 0 * 65536 + s.slotUse t)
  | 0x110 => num (s.dgs.cores.map fun q => 2 ^ q.1).sum
  | _ => s.reg .dgs off

def State.showTdgs (s : State) (t off : Nat) : Word :=
  let x := s.dgsCur t
  if 0x140 ≤ off ∧ off ≤ 0x17C then s.dgsResult t ((off - 0x140) / 4)
  else match off with
    | 0x104 => x.cfg
    | 0x108 => x.key
    | 0x10C => x.outlen
    | 0x110 => x.lenLo
    | 0x114 => x.lenHi
    | 0x11C =>
      num (x.space * 256 + b2n x.spent * 64 + b2n x.matched * 32 + b2n x.cmpDone * 16 + b2n (x.state == 3) * 8 + x.state)
    | 0x120 => x.err
    | 0x124 => halfOf x.count false
    | 0x128 => halfOf x.count true
    | 0x12C => x.lastvb
    | 0x1C0 => x.cmplen
    | _ => s.reg (.tdgs t) off

def State.showSlc (s : State) (off : Nat) : Word :=
  let r := bit (s.reg .slc 0x10C) 0
  match off with
  | 0x104 => num (((List.range 32).filter fun c => s.channelBusy c).map fun c => 2 ^ c).sum
  | 0x108 => num (Cells.count (fun x : Entry => x.sluice == .waiting) s.tally.entries)
  | 0x10C => num (b2n (r && !s.tally.entries.any fun q => q.2.sluice == .hashing 31) * 2 + b2n r)
  | _ => s.reg .slc off

/-! ## Shafts (R305) -/

def State.showShf (s : State) (n off : Nat) : Word :=
  let x := s.shaft n
  let lines := if x.wipeAll then 32768 else x.wipeMain + x.wipeYield
  let stops (j : Option ShaftJob) : Bool :=
    match j with
    | some j => (match s.entry j.entry with | some y => y.stopping.isSome | none => false)
    | none => false
  match off with
  | 0x108 =>
    let st := if stops x.main || stops x.inner then 4 else if x.inner.isSome then 2 else if x.main.isSome then 1
      else if lines ≠ 0 then 3 else 0
    let t := match x.main with
      | some j => (match s.entry j.entry with | some y => y.tenant | none => 0)
      | none => 0
    let ty (j : Option ShaftJob) : Nat := match j with | some j => j.kind | none => 0
    num (t * 65536 + ty x.inner * 4096 + ty x.main * 256 + st)
  | 0x10C => num (match x.main with | some j => j.checkpoints | none => 0)
  | 0x110 => num (x.yieldTotal * 65536 + (match x.main with | some j => j.yields | none => 0))
  | 0x114 => num (b2n (lines != 0) * 2 ^ 31 + lines)
  | 0x118 => num x.jobs
  | 0x11C => num x.aborts
  | 0x120 => num (x.uncorr * 65536 + x.corr)
  | _ => s.reg (.shf n) off

/-! ## Engines and kernel stores (R340, R394) -/

/-- Engine `i` of Stope `n` at offset `b` of its group. The time since a step began is not modelled: a free value. -/
def State.showEng (s : State) (n i b : Nat) : Word :=
  let g := s.eng n i
  let r := match g.run with | some e => s.run e | none => none
  let t := match g.run with | some e => (match s.entry e with | some x => x.tenant | none => 0) | none => 0
  match b with
  | 0x00 =>
    let k := match r with | some r => r.kernel.kslot * 65536 + r.wlog2 * 256 | none => 0
    num (t * 2 ^ 24 + k + g.idx * 4096 + g.mode)
  | 0x04 => num g.pc
  | 0x08 => g.fault
  | 0x0C => g.faddr
  | 0x10 => num g.fpc
  | 0x14 => halfOf g.fstamp false
  | 0x18 => halfOf g.fstamp true
  | 0x1C => num g.fop
  | 0x20 => num g.restarts
  | 0x24 => if g.run.isSome then Config.freeValue 32 s.freeNext else 0
  | 0x28 => num (match r with | some r => 4 * r.kernel.budget | none => 0)
  | _ => num g.resets

def State.showEngs (s : State) (n p off : Nat) : Word :=
  if 0x100 ≤ off ∧ off ≤ 0x12C then s.showEng n (2 * p) (off - 0x100)
  else if 0x280 ≤ off ∧ off ≤ 0x2AC then s.showEng n (2 * p + 1) (off - 0x280)
  else s.reg (.eng n p) off

def State.showKst (s : State) (n off : Nat) : Word :=
  let x := s.stope n
  let p := lookup x.store.packs (s.regField (.kst n) 0x114 1 0)
  let sel := s.regField (.kst n) 0x128 5 0
  let k := (x.store.packs.filterMap fun q =>
    match q.2.kernels.find? fun k => k.kslot == sel with | some k => some (q.1, q.2, k) | none => none).head?
  if 0x104 ≤ off ∧ off ≤ 0x110 then wordAt x.summary 0x104 off
  else match off with
    | 0x118 => num (match p with | some p => p.packId | none => 0)
    | 0x11C => num (match p with | some p => p.version | none => 0)
    | 0x120 => num (match p with | some p => p.words * 65536 + p.base | none => 0)
    | 0x124 => num (match p with | some p => 2 ^ 31 + p.kernels.length * 256 + p.origin | none => 0)
    | 0x12C => num (match k with | some q => q.2.1.version | none => 0)
    | 0x130 => num (match k with | some q => q.2.2.opMask * 65536 + q.2.2.opBase | none => 0)
    | 0x134 => num (match k with
        | some q => 2 ^ 31 + b2n q.2.2.katOk * 2 ^ 30 + q.1 * 2 ^ 28 + q.2.2.widths * 65536 + q.2.2.flags * 256
        | none => 0)
    | 0x150 =>
      let phase := match s.kstQueue.find? fun r => r.stope == n with | some r => r.phase | none => 0
      num (x.kidx * 65536 + x.result * 256 + phase)
    | 0x154 => num (b2n x.locked)
    | 0x158 => num (x.scrubUncorr * 65536 + x.scrubCorr)
    | _ => s.reg (.kst n) off

/-! ## Zedaup (R433) -/

def State.showZdp (s : State) (off : Nat) : Word :=
  let x := s.link (s.regField .zdp 0x10C 1 0)
  let m := s.member (s.regField .zdp 0x130 7 0)
  let z := s.zdp
  if 0x140 ≤ off ∧ off ≤ 0x15C then wordAt m.digest 0x140 off
  else if 0x160 ≤ off ∧ off ≤ 0x17C then wordAt m.expected 0x160 off
  else match off with
    | 0x108 =>
      num ((if 4 ≤ z.mstate then z.devid else 0) * 2 ^ 24 + (if s.isManager then s.admittedMembers.length else 0) * 65536 +
        z.uplink * 4096 + b2n z.sync * 128 + b2n z.quarantined * 64 + b2n z.lostManager.isSome * 32 +
        b2n ((s.txnOf .device).phase == .prepared) * 16 + z.mstate)
    | 0x110 => num (x.lanes * 65536 + x.lrole * 256 + x.lstate)
    | 0x114 => num (x.uncorr * 65536 + x.corr)
    | 0x118 => num x.replays
    | 0x11C => if s.isManager || z.mstate == 0 then 0 else z.offset
    | 0x134 => num (m.hops * 2 ^ 24 + m.via * 2 ^ 20 + m.free * 256 + m.shown)
    | 0x138 => halfOf m.epoch false
    | 0x13C => halfOf m.epoch true
    | 0x1B0 => num z.lost
    | _ => s.reg .zdp off

/-! ## Reset, life cycle, Canary, Headframe, the monitor -/

def State.showRst (s : State) (off : Nat) : Word :=
  match off with
  | 0x110 => num (field (s.reg .rst 0x110) 31 8 * 256 + s.cny.loadCount % 16)
  | 0x13C => num (((List.range 16).filter fun c => !s.dgs.cores.any fun q => q.1 == c).map fun c => 2 ^ c).sum
  | _ => s.reg .rst off

def State.showLcc (s : State) (off : Nat) : Word :=
  let x := s.lcc
  if 0x130 ≤ off ∧ off ≤ 0x14C then wordAt x.ownKey 0x130 off
  else if 0x164 ≤ off ∧ off ≤ 0x180 then wordAt (x.challenge.getD []) 0x164 off
  else if 0x188 ≤ off ∧ off ≤ 0x1A4 then wordAt x.devid 0x188 off
  else if 0x1A8 ≤ off ∧ off ≤ 0x1B4 then wordAt (fit 16 Config.uid) 0x1A8 off
  else match off with
    | 0x100 => num s.lccState
    | 0x128 => num (x.copiesDone * 4096 + x.phase * 256 + x.result)
    | 0x12C => num (b2n x.tok3Flag * 2 ^ 17 + b2n x.ownSlotB * 65536 + x.ownCount * 256 + x.ownState)
    | 0x160 => num s.lccDbg
    | 0x1B8 => num x.tokFail
    | _ => s.reg .lcc off

/-- `CNY_LOOPSTS` (R482, R483). -/
def State.showLoops (s : State) : Word :=
  num (((List.range 4).map fun n => (s.loop (8 + n)).state % 2 * 2 ^ (16 + n)).sum +
    ((List.range 8).map fun n => (if s.loopOn n then Nat.max 1 (s.loop n).state else 0) % 4 * 4 ^ n).sum)

/-- The CNY page (R498, R502): the event log's entries are read through `CNY_RMDATA`. -/
def State.showCny (s : State) (off : Nat) : Word :=
  let c := s.cny
  match off with
  | 0x100 => c.srcAct
  | 0x108 =>
    num (c.lastSrc * 65536 + b2n c.held * 128 + c.phase * 16 + b2n (c.inForce.any fun q => decide (2 ≤ q.2)) * 8 + s.alarmClass)
  | 0x130 => num (b2n c.locked * 2)
  | 0x148 => num (b2n (decide (2048 ≤ c.tctr)) * 2 ^ 31 + c.tctr)
  | 0x14C => num (c.logLost * 65536 + (c.log.filter fun e => !e.processed).length * 256 + c.log.length)
  | 0x154 =>
    let a := s.regField .cny 0x150 11 2 * 4
    if 0x400 ≤ a ∧ a < 0x800 then num (ofLe (Cells.readBytes c.retained a 4))
    else if 0x800 ≤ a ∧ a < 0xC00 then
      match c.log[(a - 0x800) / 16]? with
      | some e => num (leField e.bytes ((a - 0x800) % 16) 4)
      | none => 0
    else 0
  | 0x178 => halfOf c.bclk false
  | 0x17C => num (c.bclk / 2 ^ 32 % 65536)
  | 0x180 => num (b2n c.rootKey.isSome * 2 ^ 19 + b2n c.vbatLost * 2 ^ 18 + b2n c.batLow * 65536 + c.vbatMv)
  | 0x184 => s.showLoops
  | _ => s.reg .cny off

def State.showHdf (s : State) (off : Nat) : Word :=
  let h := s.hdf
  if 0x10C ≤ off ∧ off ≤ 0x128 then
    match h.record (s.reg .hdf 0x108).toNat with
    | some r => wordAt r.bytes 0x10C off
    | none => 0
  else match off with
    | 0x100 => num (h.lost * 65536 + h.log.length)
    | 0x104 => num (match h.log.getLast? with | some r => r.seq | none => 0)
    | 0x134 => num (h.wdtTotal * 65536 + h.wdtRun)
    | _ => s.reg .hdf off

/-- A monitor page (R528); DENIED shows where a tenant's counter may not count (R521). -/
def State.showPmu (s : State) (p : Page) (off : Nat) : Word :=
  let n := s.regField p 0x200 5 0
  let x := if s.maySample p n then s.sampler n else {}
  let denied (v : Word) : Bool :=
    match p with
    | .tpmu t => bit v 31 && !(attributable (field v 7 0) && field v 20 19 == 0) && !s.serves (field v 18 13) t
    | _ => false
  if 0x140 ≤ off ∧ off < 0x140 + 4 * p.counters then
    let v := s.reg p off
    if denied v then setBit v 30 else v
  else if 0x210 ≤ off ∧ off ≤ 0x22C then wordAt (nthD x.entries (s.regField p 0x20C 6 0) []) 0x210 off
  else match off with
    | 0x204 => if s.maySample p n then x.cfg else 0
    | 0x208 => num (x.lost * 65536 + b2n x.stoppedFull * 512 + b2n x.active * 256 + x.entries.length)
    | _ => s.reg p off

/-! ## A read -/

/-- What a register of a page shows, at offset `off` below 0x400. -/
def State.showReg (s : State) (p : Page) (off : Nat) : Word :=
  if off < 0x100 then s.showHeader p off
  else match p with
    | .txn => s.showTxn .device off
    | .ttxn t => s.showTxn (.tenant t) off
    | .tnt t | .tntA t => s.showTnt p t off
    | .tly => s.showTly off
    | .lod => s.showLod off
    | .ent => s.showEnt off
    | .tent t => s.showTent t off
    | .dgs => s.showDgs off
    | .tdgs t => s.showTdgs t off
    | .slc => s.showSlc off
    | .shf n => s.showShf n off
    | .eng n i => s.showEngs n i off
    | .kst n => s.showKst n off
    | .zdp => s.showZdp off
    | .rst => s.showRst off
    | .lcc => s.showLcc off
    | .cny => s.showCny off
    | .hdf => s.showHdf off
    | .pmu | .tpmu _ => s.showPmu p off
    | _ => s.reg p off

/-- The groups of registers of which a read of the first latches the others: offsets of the first and the last. -/
def latchGroups : Page → List (Nat × Nat)
  | .txn | .ttxn _ => [(0x118, 0x13C)]
  | .hdf => [(0x10C, 0x128)]
  | .pmu => (0x10C, 0x110) :: (0x210, 0x22C) :: (0x248, 0x254) :: (0x258, 0x25C) :: (List.range 16).map fun n => (0x180 + 8 * n, 0x184 + 8 * n)
  | .tpmu _ => (0x10C, 0x110) :: (0x210, 0x22C) :: (List.range 8).map fun n => (0x180 + 8 * n, 0x184 + 8 * n)
  | .tnt _ | .tntA _ => [(0x138, 0x13C), (0x188, 0x18C)]
  | .tly => [(0x120, 0x124), (0x128, 0x12C)]
  | .lod => [(0x134, 0x138)]
  | .ent => [(0x144, 0x148)]
  | .tdgs _ => [(0x124, 0x128)]
  | .eng _ _ => [(0x114, 0x118), (0x294, 0x298)]
  | .rst => [(0x11C, 0x120), (0x124, 0x128), (0x12C, 0x130)]
  | .cny => [(0x178, 0x17C)]
  | .zdp => [(0x138, 0x17C)]
  | _ => []

/-- A latched value: what the reader's read of a group's first register has latched for a later one. -/
def State.latched (s : State) (req : Requester) (p : Page) (off : Nat) : Option Word :=
  match (latchGroups p).find? fun g => decide (g.1 < off) && decide (off ≤ g.2) with
  | none => none
  | some g =>
    match s.latches.find? fun x => x.req == req && x.key == p.key g.1 with
    | some x => x.words[(off - g.1) / 4]?
    | none => none

/-- What a staged alias shows: the staged value, or the committed one (R47). -/
def State.stagedReg (s : State) (p : Page) (off : Nat) : Word :=
  match (s.txnOf p.scope).staged.find? fun q => q.1 == p.key off with
  | some q => q.2
  | none => s.reg p off

/-- What a stored inverted copy shows: the complement of the value in force, but for bits that a fault flipped (R45). -/
def State.shadowReg (s : State) (p : Page) (off : Nat) : Word :=
  ~~~(s.showReg p off) ^^^ (match s.flips.find? fun q => q.1 == p.key off with | some q => q.2 | none => 0)

/-- The mask of a register's write-only fields; they read 0 (R6). -/
def woMask (p : Page) (off : Nat) : Word :=
  match regDef p off with
  | some d => BitVec.ofNat 32 (d.wo ||| d.w1s)
  | none => 0

/-- A 32-bit read of offset `off` of a page (R30, R38): the register; 0x400 to 0x7FF the staged alias of an RWS
register; 0x800 to 0xBFF the inverted copy of a critical one; anything else reads 0, as does every page out of the
reader's reach or out of service. -/
def State.readReg (s : State) (req : Requester) (p : Page) (off : Nat) : Word :=
  if !s.mayRead req p || !p.exists || off % 4 ≠ 0 then 0
  else if off < 0x400 then
    if (regDef p off).isNone then 0
    else match s.latched req p off with
      | some v => v
      | none => s.showReg p off &&& ~~~woMask p off
  else if off < 0x800 then (if rwsMask p (off - 0x400) ≠ 0 then s.stagedReg p (off - 0x400) else 0)
  else if off < 0xC00 then (if critReg p (off - 0x800) then s.shadowReg p (off - 0x800) else 0)
  else 0

/-- A 32-bit read at an address of a function's BAR0 (R27, R29, R30): its own function's, or Headframe's (R40). -/
def State.busRead (s : State) (req : Requester) (fn a : Nat) : Word :=
  if !req.ofBar fn || !s.onBus req then 0
  else match barPlace fn a with
    | .page p off => s.readReg req p off
    | .directory off => wordAt s.directoryImage 0 off
    | .miniDirectory t off => wordAt (s.miniImage t) 0 off
    | .msix t off => s.msixRead t off
    | _ => 0

/-! ## What a read does (R6, R50) -/

/-- What a read-to-clear register holds after a read (R6): its count is gone. -/
def State.clearRead (s : State) (p : Page) (off : Nat) : State :=
  match p with
  | .tly => if off = 0x108 then { s with tally := { s.tally with occPeak := 0 } } else s
  | .tent t => if off = 0x108 then s.setFn t { s.fn t with tDrawn := 0 } else s
  | .ent =>
    if off = 0x10C then
      let c := s.regField .ent 0x108 2 0
      s.setCell c { s.cell c with aptMax := 0 }
    else s
  | .shf n =>
    if off = 0x118 then s.setShaft n { s.shaft n with jobs := 0 }
    else if off = 0x11C then s.setShaft n { s.shaft n with aborts := 0 } else s
  | .eng n i =>
    if off = 0x120 then s.setEng n (2 * i) { s.eng n (2 * i) with restarts := 0 }
    else if off = 0x12C then s.setEng n (2 * i) { s.eng n (2 * i) with resets := 0 }
    else if off = 0x2A0 then s.setEng n (2 * i + 1) { s.eng n (2 * i + 1) with restarts := 0 }
    else if off = 0x2AC then s.setEng n (2 * i + 1) { s.eng n (2 * i + 1) with resets := 0 } else s
  | .zdp =>
    let l := s.regField .zdp 0x10C 1 0
    if off = 0x114 then s.setLink l { s.link l with corr := 0, uncorr := 0 }
    else if off = 0x118 then s.setLink l { s.link l with replays := 0 }
    else if off = 0x1B0 then { s with zdp := { s.zdp with lost := 0 } } else s
  | .lcc => if off = 0x1B8 then { s with lcc := { s.lcc with tokFail := 0 } } else s
  | _ => s

/-- The state after a requester's read of a register: a group's first register latches the others for the reader, a
read-to-clear register is cleared, and the registers whose reads have commands of their own do what those do. -/
def State.afterRead (s : State) (req : Requester) (p : Page) (off : Nat) : State :=
  if !s.mayRead req p || !p.exists || 0x400 ≤ off || (regDef p off).isNone then s
  else match p, off with
    | .hdf, 0x10C => s.logRead req
    | .pmu, 0x258 => s.bwPeakRead req
    | .tent t, 0x100 => (s.entRead t).1
    | _, _ =>
      match (latchGroups p).find? fun g => g.1 == off with
      | some g =>
        s.latch req (p.key off) ((List.range ((g.2 - g.1) / 4 + 1)).map fun k => s.showReg p (g.1 + 4 * k))
      | none => s.clearRead p off

/-- A read of a register: the value, and the state it leaves. -/
def State.read (s : State) (req : Requester) (p : Page) (off : Nat) : Word × State :=
  (s.readReg req p off, s.afterRead req p off)

/-! ## Configuration space (R2, R60) -/

/-- What a byte of a function's configuration space reads as, where the spec states it: Revision ID at 0x08. -/
def State.configByte (s : State) (fn off : Nat) : Option Byte :=
  if s.cfgReady && (s.fn fn).enabled && off == 0x08 then some 0xB1 else none

end Sys2Proof.Machine
end

