-- ==== Sys2Proof/Safety.lean ====
section
/-! DEFINITION. What counts as a safe run: every step is taken, and the sparse memories keep their canonical form. -/
namespace Sys2Proof.Machine

/-- Every sparse memory is in its canonical form: keys rising, nothing listed that an unlisted key would read as. -/
def State.Canonical (s : State) : Prop :=
  Cells.wf regDefault s.regs = true ∧ Cells.wf byte0 s.host = true ∧ Cells.wf byte0 s.cny.retained = true

/-- The command at the front of the queue, or the idle cycle, leads to a next state: no fault, no refusal. -/
def State.StepsOn (s : State) : Prop := ∃ t, step s = .next t

/-- `n` steps from `s`, where each leads on, end in `t`. -/
def reaches : Nat → State → State → Prop
  | 0, s, t => s = t
  | n + 1, s, t => ∃ u, step s = .next u ∧ reaches n u t

/-- A safe state: every run of any length from it stays canonical. -/
def State.Safe (s : State) : Prop := ∀ (n : Nat) (t : State), reaches n s t → t.Canonical

end Sys2Proof.Machine
end

