-- ==== Sys2Proof/Certificates/Slice0/Obligations.lean ====
section
/-! DEFINITION. What is claimed of the model, for the provers. -/
open Sys2Proof
open Sys2Proof.Machine

namespace Sys2Proof.Claims
open Sys2Proof.Machine

/-! ## Engine instructions: where one stands, and what each does -/

/-- Engine `i` of Stope `n` stands at slot `slot` of its word, which holds opcode `op` there; it runs operation `e`, whose
run is `r`, and the word passed its checks at decode, no error of the kernel store standing in it (R321, R333, R334). -/
def Stands (s : State) (n i slot op e : Nat) (r : Run) : Prop :=
  n < 64 ∧ i < 16 ∧ s.avs.tripped = false ∧ (s.eng n i).run = some e ∧ s.run e = some r ∧
  (s.eng n i).mode ∈ [1, 2, 4] ∧ (s.eng n i).slot = slot ∧ s.executing e = true ∧
  (slot = 0 → illegalSlot (s.storeWord n (s.eng n i).pc) ((s.eng n i).mode == 4) = none ∧ s.wordFlaws n (s.eng n i).pc = []) ∧
  slotOp (slotOf (s.storeWord n (s.eng n i).pc) slot) = op

/-- The word the engine stands at. -/
def wordOf (s : State) (n i : Nat) : BitVec 128 := s.storeWord n (s.eng n i).pc

/-- The state in which a slot executes: the first slot of a word reads its operands when it issues (R322). -/
def issued (s : State) (n i slot e : Nat) : State := if slot = 0 then s.beginWord n i e (wordOf s n i) else s

/-- What a slot works on: its 40 bits, and the registers as the word found them. -/
def place (s : State) (n i slot e : Nat) (r : Run) : At :=
  { n := n, i := i, e := e, run := r, w := wordOf s n i, x := slotOf (wordOf s n i) slot, pc := (s.eng n i).pc
    old := ((issued s n i slot e).eng n i).old }

/-- One instruction: its command, its opcode, when it completes, and what it does to the state it executes in. -/
structure Row where
  cmd : Nat → Nat → Instr
  op : Nat
  needs : State → At → Bool := fun _ _ => true
  result : State → At → State

/-- Every instruction of a table completes where it stands: the state it answers is its effect, after which the engine
goes on to the next slot or word. -/
def Completes (slot : Nat) (rows : List Row) : Prop :=
  ∀ row ∈ rows, ∀ (s : State) (n i e : Nat) (r : Run),
    Stands s n i slot row.op e r →
    row.needs (issued s n i slot e) (place s n i slot e r) = true →
    exec (row.cmd n i) s =
      .next ((row.result (issued s n i slot e) (place s n i slot e r)).endSlot n i e (wordOf s n i))

/-- An effect on the engine's registers alone. -/
def onRegs (f : At → Regs → Regs) (s : State) (a : At) : State := s.modRegs a (f a)

/-- Does an access that has passed its checks go on: it meets no error of its memory, or so few, all correctable, that its
restarts correct them (R334)? -/
def reads (s : State) (a : At) (masked : Bool) (len : Nat) (els : List (Nat × Nat)) : Bool :=
  (s.meet a.n a.i 3 (s.flawsIn a masked len els)).2.isNone

/-- The state after those restarts, in which the access reads. -/
def read (s : State) (a : At) (masked : Bool) (len : Nat) (els : List (Nat × Nat)) : State :=
  (s.meet a.n a.i 3 (s.flawsIn a masked len els)).1

/-! ### The S slot -/

/-- sd receives a value (s0 ignores it). -/
def toSd (f : At → BitVec 64) : State → At → State := onRegs fun a r => r.setS (sSd a.x) (f a)

/-- sd receives a function of sa and sb. -/
def ofAB (f : BitVec 64 → BitVec 64 → BitVec 64) : State → At → State :=
  toSd fun a => f (a.old.getS (sSa a.x)) (a.old.getS (sSb a.x))

/-- sd receives a function of sa and the sign-extended immediate. -/
def ofAI (f : BitVec 64 → BitVec 64 → BitVec 64) : State → At → State :=
  toSd fun a => f (a.old.getS (sSa a.x)) (BitVec.ofNat 64 (sImm a.x))

/-- Scalar arithmetic (R326, R349). -/
noncomputable def aluRows : List Row :=
  [ ⟨.addS, 0x01, fun _ _ => true, ofAB fun a b => a + b⟩,
    ⟨.subS, 0x02, fun _ _ => true, ofAB fun a b => a - b⟩,
    ⟨.andS, 0x03, fun _ _ => true, ofAB fun a b => a &&& b⟩,
    ⟨.orS, 0x04, fun _ _ => true, ofAB fun a b => a ||| b⟩,
    ⟨.xorS, 0x05, fun _ _ => true, ofAB fun a b => a ^^^ b⟩,
    ⟨.sll, 0x06, fun _ _ => true, ofAB fun a b => a <<< (b.toNat % 64)⟩,
    ⟨.srl, 0x07, fun _ _ => true, ofAB fun a b => a >>> (b.toNat % 64)⟩,
    ⟨.sra, 0x08, fun _ _ => true, ofAB fun a b => a.sshiftRight (b.toNat % 64)⟩,
    ⟨.slt, 0x09, fun _ _ => true, ofAB fun a b => if a.slt b then 1 else 0⟩,
    ⟨.sltu, 0x0A, fun _ _ => true, ofAB fun a b => if a.ult b then 1 else 0⟩,
    ⟨.mulS, 0x0B, fun _ _ => true, ofAB fun a b => a * b⟩,
    ⟨.mulhu, 0x0C, fun _ _ => true, ofAB fun a b => BitVec.ofNat 64 (a.toNat * b.toNat / 2 ^ 64)⟩,
    ⟨.divu, 0x0D, fun _ _ => true, ofAB fun a b => if b = 0 then BitVec.allOnes 64 else BitVec.ofNat 64 (a.toNat / b.toNat)⟩,
    ⟨.remu, 0x0E, fun _ _ => true, ofAB fun a b => if b = 0 then a else BitVec.ofNat 64 (a.toNat % b.toNat)⟩,
    ⟨.addi, 0x10, fun _ _ => true, ofAI fun a b => a + b⟩,
    ⟨.andi, 0x11, fun _ _ => true, ofAI fun a b => a &&& b⟩,
    ⟨.ori, 0x12, fun _ _ => true, ofAI fun a b => a ||| b⟩,
    ⟨.xori, 0x13, fun _ _ => true, ofAI fun a b => a ^^^ b⟩,
    ⟨.slli, 0x14, fun _ _ => true, ofAI fun a b => a <<< (b.toNat % 64)⟩,
    ⟨.srli, 0x15, fun _ _ => true, ofAI fun a b => a >>> (b.toNat % 64)⟩,
    ⟨.srai, 0x16, fun _ _ => true, ofAI fun a b => a.sshiftRight (b.toNat % 64)⟩,
    ⟨.slti, 0x17, fun _ _ => true, ofAI fun a b => if a.slt b then 1 else 0⟩,
    ⟨.limm, 0xF0, fun _ _ => true, toSd fun a => BitVec.ofNat 64 (wordImm a.w)⟩ ]

/-- A load of `len` bytes at sa + IMM, zero-extended; a store of the low `len` bytes where no uncorrectable error stands. -/
def loadRow (cmd : Nat → Nat → Instr) (op len : Nat) : Row :=
  ⟨cmd, op, fun s a => accessTrap a (.load false) a.addr len == none && reads s a false len [(0, a.addr)],
    fun s a =>
      let u := read s a false len [(0, a.addr)]
      u.modRegs a fun r => r.setS (sSd a.x) (BitVec.ofNat 64 (ofLe (u.loadShare a false a.addr len 0).2))⟩
def storeRow (cmd : Nat → Nat → Instr) (op len : Nat) : Row :=
  ⟨cmd, op, fun s a => accessTrap a (.store false) a.addr len == none &&
      ((s.flawsIn a false len [(0, a.addr)]).filter fun q => q.2.2.uncorr).isEmpty,
    fun s a => s.storeShare a a.addr 0 (leBytes len (a.old.getS (sSd a.x)).toNat)⟩

/-- Does a branch target lie in the kernel-store extent of the running kernel? -/
def inExtent (s : State) (a : At) (target : Nat) : Bool :=
  decide ((s.extent a).1 ≤ target % 4096) && decide (target % 4096 < (s.extent a).1 + (s.extent a).2)

/-- The next word becomes the target. -/
def jump (s : State) (a : At) (target : Nat) : State :=
  s.setEng a.n a.i { s.eng a.n a.i with npc := target % 4096 }

/-- A branch that `rel` of the registers in the sd and sa fields decides; its target is PC + OFF13 (R325, R350). -/
def branchRow (cmd : Nat → Nat → Instr) (op : Nat) (rel : BitVec 64 → BitVec 64 → Bool) : Row :=
  let takes (a : At) : Bool := rel (a.old.getS (sSd a.x)) (a.old.getS (sSa a.x))
  ⟨cmd, op, fun s a => !takes a || inExtent s a a.target13, fun s a => if takes a then jump s a a.target13 else s⟩

/-- Is BP's condition true: ANY or ALL of a p or k register, XOR NEG? -/
def bpTakes (a : At) : Bool :=
  (if bits a.x 31 30 = 0 then reduceP (a.old.getP (bits a.x 29 27)) (a.x.testBit 26)
    else reduceK (a.old.getK (bits a.x 29 27)) (a.x.testBit 26)) != a.x.testBit 25

/-- A jump that writes the address of the word after its own to a register. -/
def linkTo (target : At → Nat) (s : State) (a : At) : State :=
  (jump s a (target a)).modRegs a fun r => r.setS (sSd a.x) (BitVec.ofNat 64 (a.pc + 1))

/-- Loads, stores, branches and control values. -/
noncomputable def scalarRows : List Row :=
  [ loadRow .ld32 0x20 4, loadRow .ld64 0x21 8, storeRow .st32 0x22 4, storeRow .st64 0x23 8,
    branchRow .beq 0x30 fun a b => a == b,
    branchRow .bne 0x31 fun a b => a != b,
    branchRow .blt 0x32 fun a b => a.slt b,
    branchRow .bge 0x33 fun a b => !a.slt b,
    branchRow .bltu 0x34 fun a b => a.ult b,
    branchRow .bgeu 0x35 fun a b => !a.ult b,
    ⟨.bp, 0x36, fun s a => !bpTakes a || inExtent s a a.target13, fun s a => if bpTakes a then jump s a a.target13 else s⟩,
    ⟨.jal, 0x37, fun s a => inExtent s a a.target13, linkTo fun a => a.target13⟩,
    ⟨.jr, 0x38, fun s a => inExtent s a (a.sa.toNat % 4096), fun s a => jump s a (a.sa.toNat % 4096)⟩,
    ⟨.jfar, 0xF1, fun s a => inExtent s a (bits (wordImm a.w) 11 0), linkTo fun a => bits (wordImm a.w) 11 0⟩,
    ⟨.getc, 0x40, fun s a => (s.control a (bits a.x 21 14)).isSome, fun s a =>
      match s.control a (bits a.x 21 14) with
      | some q => q.1.modRegs a fun r => r.setS (sSd a.x) q.2
      | none => s⟩,
    ⟨.setc, 0x41, fun _ a => bits a.x 21 14 == 0x0A, onRegs fun a r => { r with sstride := a.sa.toNat / 64 * 64 }⟩,
    ⟨.mset, 0x42, fun _ a => (a.old.getM (sSd a.x)).status != 1, onRegs fun a r =>
      r.setM (sSd a.x) { value := BitVec.ofNat 128 (a.sa.toNat + a.sb.toNat * 2 ^ 64), status := 1 }⟩ ]

/-- Where POPEN reads a SHA-2 context's initial value in local memory, and how long it is. -/
def ivPlace (a : At) : List (Nat × Nat) := [(0, a.sa.toNat % 2 ^ 32)]
def ivLen (a : At) : Nat := if bits a.x 21 14 = 0x20 then 32 else 64

/-- The context that POPEN creates: KIND in bits 21 to 14, MSK in bit 13, a sponge's rate from sa, a SHA-2 context's
initial value from local memory at sa (R361). -/
def openedPort (s : State) (a : At) : Port :=
  let kind := bits a.x 21 14
  match portUnit kind with
  | 4 => { unit := kind }
  | 2 => { unit := kind, masked := a.x.testBit 13
           iv := s.winRead a .loc (a.sa.toNat % 2 ^ 32) (ivLen a) }
  | _ => { unit := kind, rate := a.sa.toNat % 256, masked := a.x.testBit 13 }

/-- When POPEN completes: the handle is free, a sponge's rate is a multiple of 8 up to 200, the unit has a context left;
a stream is opened once, by the lead engine. -/
def mayOpen (s : State) (a : At) : Bool :=
  let kind := bits a.x 21 14
  let rate := a.sa.toNat % 256
  (a.old.port (bits a.x 31 30)).isNone &&
  (if portUnit kind = 4 then (s.eng a.n a.i).idx == 0 && !a.old.x.any (fun p => p.2.unit == kind)
   else (kind != 0x10 || (decide (8 ≤ rate) && decide (rate ≤ 200) && rate % 8 == 0)) &&
     decide (s.portsOpen a.n (portUnit kind) < portCap (portUnit kind)) &&
     (portUnit kind != 2 || reads s a false (ivLen a) (ivPlace a)))

/-- A commit point: the lead engine's alone, of the kind that bits 2 to 0 name (R331, R384). -/
def leads (kind : Option Nat) (s : State) (a : At) : Bool :=
  (s.eng a.n a.i).idx == 0 && (match kind with | some k => bits a.x 2 0 == k | none => true)

/-- Ports and commit points. -/
noncomputable def commitRows : List Row :=
  [ ⟨.popen, 0x50, mayOpen, fun s a =>
      let u := if portUnit (bits a.x 21 14) = 2 then read s a false (ivLen a) (ivPlace a) else s
      u.modRegs a fun r => r.setPort (bits a.x 31 30) (openedPort u a)⟩,
    ⟨.pclose, 0x51, fun _ a => (a.old.port (bits a.x 31 30)).isSome, onRegs fun a r =>
      { r with x := Cells.erase r.x (bits a.x 31 30) }⟩,
    ⟨.final, 0x61, leads (some 0), fun s a =>
      s.finalStatus a.e (statusOf (a.sa.toNat % 65536)) (a.sb.toNat % 2 ^ 32)
        (Cells.readBytes a.run.out 0 (Nat.min (a.sb.toNat % 2 ^ 32) 73728))⟩,
    ⟨.reserve, 0x61, fun s a => leads (some 1) s a && (match s.entry a.e with
        | some x => !(match (s.obj (handleIndex x.desc.key)).stf with | some f => f.waitLease | none => false)
        | none => false), fun s a =>
      let u := s.reserveFor' a.e
      match u.entry a.e, u.run a.e with
      | some y, some r =>
        match y.index with
        | some k => u.setRun a.e { r with work := Cells.writeBytes r.work 8 (leBytes 8 k), firstCommit := true }
        | none => u
      | _, _ => u⟩,
    ⟨.finalLode, 0x61, fun s a => leads (some 2) s a && (handOff a).isSome && (s.entry a.e).isSome, fun s a =>
      match handOff a, s.entry a.e with
      | some (kind, material), some x =>
        let out := Cells.readBytes a.run.out 0 (Nat.min a.count 73728)
        if a.status = some .ok ∧ a.count ≤ x.desc.outCap ∧ a.count ≤ 64 * a.run.kernel.winOut
        then s.applyHandOff a.e kind material out else s.finalStatus a.e a.status a.count out
      | _, _ => s⟩,
    ⟨.unit, 0x61, fun s a => leads (some 3) s a && (s.entry a.e).isSome, fun s a =>
      match s.entry a.e with
      | some x =>
        let k := Nat.min 65536 (x.desc.outCap - x.published)
        let u := s.publish a.e x x.published (Cells.readBytes a.run.out 0 k)
        (u.setRun a.e { a.run with firstCommit := true }).modEntry a.e fun x => { x with published := x.published + k }
      | none => s⟩,
    ⟨.failS, 0x62, leads none, fun s a => s.faultEnd a.e (failStatus a.run.handler (a.sa.toNat % 65536))⟩ ]

/-! ### The V and W slots -/

/-- Does the Stope's MRG give mask randomness: it is valid, reseeded first where that is due (R227, R229, R320)? -/
def mrgGives (s : State) (n : Nat) : Bool := ((s.mrgFresh n).mrg n).valid && (s.mrgFresh n).ent.phase != 4

/-- Does a masked instruction find its mask randomness? -/
def masks (ring : Bool) (s : State) (a : At) : Bool := !a.isMasked ring || mrgGives s a.n

/-- The state after a masked instruction has drawn it. -/
def drawn (ring : Bool) (s : State) (a : At) : State :=
  if a.isMasked ring then (s.mrgFresh a.n).pmu 0x06 ((s.mrgFresh a.n).tenantOf a) (some a.n) (some a.i) 3 else s

/-- The state in which a masked or plain access reads its elements, and whether it does. -/
def readsM (ring : Bool) (s : State) (a : At) (masked : Bool) (len : Nat) (els : List (Nat × Nat)) : Bool :=
  masks ring s a && reads (drawn ring s a) a masked len els
def readM (ring : Bool) (s : State) (a : At) (masked : Bool) (len : Nat) (els : List (Nat × Nat)) : State :=
  read (drawn ring s a) a masked len els

/-- The destination's active lanes receive `t`, share by share. -/
def toDest (ring : Bool) (s : State) (a : At) (t : Tri) : State :=
  putLanes s a ring (if ring then wWd a.x else vVd a.x) (a.shD ring) (a.active ring) t

/-- The destination's active lanes receive an unshared result. -/
def toPlain (ring : Bool) (s : State) (a : At) (l : List Nat) : State :=
  toDest ring s a { a := l, b := List.replicate l.length 0, c := List.replicate l.length 0 }

/-- A linear instruction: each share of the sources on its own. -/
def linearRow (ring : Bool) (cmd : Nat → Nat → Instr) (op : Nat) (f : At → List Nat → List Nat → List Nat) : Row :=
  ⟨cmd, op, masks ring, fun s a => toDest ring (drawn ring s a) a ((a.srcA ring).map2 (f a) (a.srcB ring))⟩

/-- The same with one source. -/
def linear1Row (ring : Bool) (cmd : Nat → Nat → Instr) (op : Nat) (f : At → List Nat → List Nat) : Row :=
  ⟨cmd, op, masks ring, fun s a => toDest ring (drawn ring s a) a ((a.srcA ring).map (f a))⟩

/-- The modulus register an instruction names, VALID. -/
def validM (ring : Bool) (_ : State) (a : At) : Bool := (a.old.getM (a.mreg ring)).status == 2
def qOf (ring : Bool) (a : At) : Nat := (a.old.getM (a.mreg ring)).q

/-- A modular instruction: it needs a VALID modulus register. -/
def Row.modular (ring : Bool) (row : Row) : Row :=
  { row with needs := fun s a => validM ring s a && row.needs s a }

/-- A product of a sharing. -/
def productRow (ring : Bool) (cmd : Nat → Nat → Instr) (op : Nat) (d : At → Sharing) (f : At → List Nat → List Nat → List Nat) :
    Row :=
  ⟨cmd, op, masks ring, fun s a =>
    let q := (drawn ring s a).product a ring (d a) 32 (f a)
    toDest ring q.1 a q.2⟩

/-- A conversion of a triple: the value stays, the shares are fresh. -/
def convertRow (ring : Bool) (cmd : Nat → Nat → Instr) (op : Nat) (from_ toS : At → Sharing) (needs : State → At → Bool) : Row :=
  ⟨cmd, op, fun s a => needs s a && masks ring s a, fun s a =>
    let q := (drawn ring s a).reshare (toS a) 32 ((a.srcA ring).value (from_ a))
    toDest ring q.1 a q.2⟩

/-- The arithmetic sharing of a conversion: modulo 2^32, or modulo Q with FN[0] 1. -/
def arithOf (ring : Bool) (a : At) : Sharing :=
  if (if ring then wFn a.x else vFn a.x).testBit 0 then .arith (qOf ring a) else .arith (2 ^ 32)
def arithReady (ring : Bool) (s : State) (a : At) : Bool :=
  !(if ring then wFn a.x else vFn a.x).testBit 0 || validM ring s a

/-- A refresh: which sharing it keeps, no field of the instruction says: a free choice (log 36). -/
def refreshRow (ring : Bool) (cmd : Nat → Nat → Instr) (op : Nat) : Row :=
  let kept (s : State) (a : At) : State × Sharing := s.someSharing [a.old.getM (a.mreg ring)]
  ⟨cmd, op, fun s a => masks ring (kept s a).1 a, fun s a =>
    let d := (kept s a).2
    let q := (drawn ring (kept s a).1 a).reshare d 32 ((a.srcA ring).value d)
    toDest ring q.1 a q.2⟩

/-- A selection, lane by lane, by public bits; with a shared source the result has fresh shares (R354). -/
def selectRow (ring : Bool) (cmd : Nat → Nat → Instr) (op : Nat) (pick : At → Nat → Bool) : Row :=
  ⟨cmd, op, masks ring, fun s a =>
    let t := (a.srcA ring).map2 (fun x y => mergeBits (pick a) y x) (a.srcB ring)
    let q := if a.shA ring || a.shB ring then (drawn ring s a).refreshed a t else (drawn ring s a, t)
    toDest ring q.1 a q.2⟩

/-- A comparison into p[vd]; inactive lanes are 0. -/
def compareRow (cmd : Nat → Nat → Instr) (op : Nat) (rel : Nat → Nat → Bool) : Row :=
  ⟨cmd, op, masks false, fun s a =>
    let l := compareBits (a.active false) rel ((a.srcA false).value .bool) ((a.srcB false).value .bool)
    (drawn false s a).modRegs a fun g => g.setP (vVd a.x) (BitVec.ofNat 16 (ofFlags l))⟩

/-- p[vd] receives a value. -/
def predRow (cmd : Nat → Nat → Instr) (op : Nat) (f : At → BitVec 16) : Row :=
  ⟨cmd, op, fun _ _ => true, fun s a => s.modRegs a fun g => g.setP (vVd a.x) (f a)⟩

/-- Write triples of registers or accumulators: the one named, and with share bits the two that follow. -/
def shares (sd : Bool) (put : Nat → List Nat → Regs → Regs) (t : Tri) (g : Regs) : Regs :=
  if sd then put 2 t.c (put 1 t.b (put 0 t.a g)) else put 0 t.a g

/-- VDOT and VDOTZ: each wide lane receives the sum of its four active products. -/
def dotRow (cmd : Nat → Nat → Instr) (op : Nat) (clear : Bool) : Row :=
  ⟨cmd, op, masks false, fun s a =>
    let q := (drawn false s a).product a false (.arith (2 ^ 128)) 128 (dots (a.active false))
    let put (k : Nat) (l : List Nat) (g : Regs) : Regs :=
      let old := if clear then [0, 0, 0, 0] else wide (a.old.getA (vVd a.x + k))
      g.setA (vVd a.x + k) (ofWide (zipOp (fun x y => (x + y) % 2 ^ 128) old l))
    q.1.modRegs a fun g => shares (vSd a.x) put q.2 g⟩

/-- VADDC and VSUBB: over 512 bits, with the carry in and out at bit 0 of p[FN]; shares one by one, the carry in going in
with share 0. The carry out of a masked sum is a free value (log 36). -/
def carryRow (cmd : Nat → Nat → Instr) (op : Nat) (f : Nat → Nat → Nat → Nat × Bool) : Row :=
  ⟨cmd, op, masks false, fun s a =>
    let q := f (ofWords (a.srcA false).a) (ofWords (a.srcB false).a) (b2n ((a.old.getP (vFn a.x)).getLsbD 0))
    let d := drawn false s a
    let c := if a.isMasked false then (Config.freeValue 1 d.freeNext).getLsbD 0 else q.2
    let d := if a.isMasked false then { d with freeNext := d.freeNext + 1 } else d
    (toDest false d a { a := words 16 q.1
                        b := words 16 (f (ofWords (a.srcA false).b) (ofWords (a.srcB false).b) 0).1
                        c := words 16 (f (ofWords (a.srcA false).c) (ofWords (a.srcB false).c) 0).1 }).modRegs a fun g =>
      g.setP (vFn a.x) (putBit0 (a.old.getP (vFn a.x)) c)⟩

/-- Short-vector arithmetic, comparison, predicates and moves (R352 to R354). -/
noncomputable def vectorRows : List Row :=
  [ linearRow false .vadd 0x01 fun _ => zipOp fun x y => (x + y) % 2 ^ 32,
    linearRow false .vsub 0x02 fun _ => zipOp fun x y => (x + 2 ^ 32 - y % 2 ^ 32) % 2 ^ 32,
    productRow false .vand 0x03 (fun _ => .bool) fun _ => zipOp fun x y => x &&& y,
    ⟨.vor, 0x04, masks false, fun s a =>
      let v := zipOp (fun x y => x ||| y) ((a.srcA false).value .bool) ((a.srcB false).value .bool)
      if a.shA false || a.shB false then
        let q := (drawn false s a).reshare .bool 32 v
        toDest false q.1 a q.2
      else toPlain false (drawn false s a) a v⟩,
    linearRow false .vxor 0x05 fun _ => zipOp fun x y => x ^^^ y,
    linear1Row false .vsll 0x06 fun a l => zipOp (fun x k => x * 2 ^ (k % 32) % 2 ^ 32) l (a.srcB false).a,
    linear1Row false .vsrl 0x07 fun a l => zipOp (fun x k => x % 2 ^ 32 / 2 ^ (k % 32)) l (a.srcB false).a,
    linear1Row false .vsra 0x08 fun a l =>
      zipOp (fun x k => ((BitVec.ofNat 32 x).sshiftRight (k % 32)).toNat) l (a.srcB false).a,
    linear1Row false .vslli 0x09 fun a l => l.map fun x => x * 2 ^ (bits a.x 4 0 % 32) % 2 ^ 32,
    linear1Row false .vsrli 0x0A fun a l => l.map fun x => x % 2 ^ 32 / 2 ^ (bits a.x 4 0 % 32),
    linear1Row false .vsrai 0x0B fun a l => l.map fun x => ((BitVec.ofNat 32 x).sshiftRight (bits a.x 4 0 % 32)).toNat,
    linear1Row false .vrotli 0x0C fun a l => l.map fun x => ((BitVec.ofNat 32 x).rotateLeft (bits a.x 4 0 % 32)).toNat,
    productRow false .vmul 0x10 (fun _ => .arith (2 ^ 32)) fun _ => zipOp fun x y => x * y % 2 ^ 32,
    ⟨.vmulw, 0x11, masks false, fun s a =>
      let q := (drawn false s a).product a false (.arith (2 ^ 64)) 64 (zipOp fun x y => x * y % 2 ^ 64)
      let d := vVd a.x
      let put (k : Nat) (l : List Nat) (g : Regs) : Regs :=
        let g := g.setV (d + 2 * k) (mergeBits (a.active false) (a.old.getV (d + 2 * k)) (l.map fun x => x % 2 ^ 32))
        g.setV (d + 2 * k + 1) (mergeBits (a.active false) (a.old.getV (d + 2 * k + 1)) (l.map fun x => x / 2 ^ 32))
      q.1.modRegs a fun g => shares (vSd a.x) put q.2 g⟩,
    dotRow .vdot 0x12 false,
    dotRow .vdotz 0x13 true,
    ⟨.vamov, 0x14, masks false, fun s a =>
      toDest false (drawn false s a) a (triOf (vSa a.x) fun k => words 16 (a.old.getA (vVa a.x + k)))⟩,
    ⟨.vamovi, 0x15, masks false, fun s a =>
      let put (k : Nat) (l : List Nat) (g : Regs) : Regs :=
        g.setA (vVd a.x + k) (ofWords (mergeBits (a.active false) (words 16 (a.old.getA (vVd a.x + k))) l))
      (drawn false s a).modRegs a fun g => shares (vSd a.x) put (a.srcA false) g⟩,
    carryRow .vaddc 0x16 fun a b c => ((a + b + c) % 2 ^ 512, decide (2 ^ 512 ≤ a + b + c)),
    carryRow .vsubb 0x17 fun a b c => ((a + 2 * 2 ^ 512 - b - c) % 2 ^ 512, decide (a < b + c)),
    (linearRow false .vmadd 0x18 fun a => zipOp fun x y => (x + y) % qOf false a).modular false,
    (linearRow false .vmsub 0x19 fun a => zipOp fun x y => (x % qOf false a + (qOf false a - y % qOf false a)) % qOf false a).modular
      false,
    (productRow false .vmmul 0x1A (fun a => .arith (qOf false a)) fun a => zipOp fun x y => x * y % qOf false a).modular false,
    (linear1Row false .vmred 0x1B fun a l => l.map fun x => x % qOf false a).modular false,
    compareRow .vcmpeq 0x20 fun x y => x == y,
    compareRow .vcmpltu 0x21 fun x y => decide (x < y),
    compareRow .vcmplt 0x22 fun x y => decide (toInt32 x < toInt32 y),
    selectRow false .vsel 0x23 fun a k => (a.old.getP (vFn a.x)).getLsbD k,
    ⟨.vbcast, 0x28, fun _ _ => true, fun s a => toPlain false s a (List.replicate 16 (a.vs % 2 ^ 32))⟩,
    ⟨.vins, 0x29, fun _ _ => true, fun s a =>
      toPlain false s a (setAt (a.old.getV (vVd a.x)) (bits a.x 3 0) (a.vs % 2 ^ 32))⟩,
    ⟨.vext, 0x2A, fun _ _ => true, fun s a => s.modRegs a fun g =>
      g.setS (vVd a.x) (BitVec.ofNat 64 (nthD (a.srcA false).a (bits a.x 3 0) 0))⟩,
    linear1Row false .vperm 0x2B fun a l => (a.srcB false).a.map fun k => nthD l (k % 16) 0,
    linear1Row false .vmov 0x2C fun _ l => l,
    predRow .pand 0x30 fun a => a.old.getP (vVa a.x) &&& a.old.getP (vVb a.x),
    predRow .por 0x31 fun a => a.old.getP (vVa a.x) ||| a.old.getP (vVb a.x),
    predRow .pxor 0x32 fun a => a.old.getP (vVa a.x) ^^^ a.old.getP (vVb a.x),
    predRow .pnot 0x33 fun a => ~~~a.old.getP (vVa a.x),
    predRow .vptail 0x34 fun a => BitVec.ofNat 16 (2 ^ Nat.min a.vs 16 - 1),
    predRow .pset 0x35 fun a => BitVec.ofNat 16 a.vs,
    predRow .preduce 0x36 fun a => if reduceP (a.old.getP (vVa a.x)) (!(vFn a.x).testBit 0) then 0xFFFF else 0,
    convertRow false .va2b 0x38 (arithOf false) (fun _ => .bool) (arithReady false),
    convertRow false .vb2a 0x39 (fun _ => .bool) (arithOf false) (arithReady false),
    refreshRow false .vrefr 0x3A ]

/-- Does an access of a list of elements pass every check (R314, R316, R356)? -/
def passes (a : At) (k : Access) (len : Nat) (els : List (Nat × Nat)) : Bool := (firstTrap a k len els).isNone

/-- A masked gather or scatter keeps to LOCAL and WORK (R358). -/
def gathers (a : At) (k : Access) : Bool :=
  (!k.masked || a.elements.all fun q => a.gatherOk q.2) && passes a k 4 a.elements

/-- The address and the sharing of VUST. -/
def vustAddr (a : At) : Nat :=
  let off := if bits a.x 18 17 = 2 then signExt 9 (bits a.x 8 0) else vOff a.x
  ((a.old.getS (vVa a.x)).toNat + off * 64) % 2 ^ 32
def unmasking (a : At) (umode mreg : Nat) : Sharing :=
  match umode with
  | 0 => .bool
  | 1 => .arith (2 ^ 32)
  | _ => .arith (a.old.getM mreg).q
def unmaskReady (a : At) (umode mreg : Nat) : Bool := decide (umode < 2) || (a.old.getM mreg).status == 2

/-- Vector loads, stores, gathers and scatters (R355, R356, R358, R359). With no active lane nothing is accessed. -/
noncomputable def vectorMemoryRows : List Row :=
  [ ⟨.vld, 0x40, fun s a => !a.anyLane || (passes a (.load (vSd a.x)) 64 [(0, a.vAddr)] &&
        readsM false s a (vSd a.x) 64 [(0, a.vAddr)]), fun s a =>
      if a.anyLane then
        let q := (readM false s a (vSd a.x) 64 [(0, a.vAddr)]).loadTri a (vSd a.x) a.vAddr 16
        toDest false q.1 a q.2
      else s⟩,
    ⟨.vst, 0x41, fun s a => !a.anyLane || (passes a (.store (vSd a.x)) 64 [(0, a.vAddr)] && masks false s a), fun s a =>
      if a.anyLane then (drawn false s a).storeTri a (vSd a.x) a.vAddr (a.active false) a.vsTri else s⟩,
    ⟨.vgath, 0x42, fun s a => gathers a (.load (vSd a.x)) && readsM false s a (vSd a.x) 4 a.elements, fun s a =>
      let u := readM false s a (vSd a.x) 4 a.elements
      toDest false u a (triOf (vSd a.x) fun k =>
        a.elements.foldl (fun l q => setAt l q.1 (ofLe (u.loadShare a (vSd a.x) q.2 4 k).2)) (List.replicate 16 0))⟩,
    ⟨.vscat, 0x43, fun s a => gathers a (.store (vSd a.x)) && readsM false s a (vSd a.x) 4 a.elements, fun s a =>
      let u := readM false s a (vSd a.x) 4 a.elements
      let r := if a.elements.any (fun q => a.refreshes (vSd a.x) q.2) then u.refreshed a a.vsTri else (u, a.vsTri)
      let put (k : Nat) (l : List Nat) (s : State) : State :=
        a.elements.foldl (fun s q => s.storeShare a q.2 k (leBytes 4 (nthD l q.1 0))) s
      if vSd a.x then put 2 r.2.c (put 1 r.2.b (put 0 r.2.a r.1)) else put 0 r.2.a r.1⟩,
    ⟨.vust, 0x44, fun s a => unmaskReady a (bits a.x 18 17) (vMreg a.x) &&
        (!a.anyLane || (passes a .unmask 64 [(0, vustAddr a)] && masks false s a)), fun s a =>
      if a.anyLane then
        (drawn false s a).storeWords a (vustAddr a) 0 (a.active false)
          (a.vsTri.value (unmasking a (bits a.x 18 17) (vMreg a.x)))
      else s⟩ ]

/-- The context that XH names, of the unit it must be of (R361). -/
def portOf (a : At) (ring : Bool) : Port := (a.old.port (if ring then wXh a.x else vXh a.x)).getD { unit := 0 }
def hasPort (a : At) (ring : Bool) (u : Nat) : Bool :=
  match a.old.port (if ring then wXh a.x else vXh a.x) with
  | some p => portUnit p.unit == u
  | none => false
def putPort (p : Port) (s : State) (a : At) (ring : Bool) : State :=
  s.modRegs a fun g => g.setPort (if ring then wXh a.x else vXh a.x) p

/-- A unit's 64 bytes into vd: plain, or freshly shared. -/
def unitOut (s : State) (a : At) (bs : Bytes) : State :=
  if vSd a.x then
    let q := s.reshare .bool 32 (wordsOfBytes 16 bs)
    toDest false q.1 a q.2
  else toPlain false s a (wordsOfBytes 16 bs)

/-- The four blocks of VAES: ECB, or XORed with keystream blocks. -/
def aesBlocks (a : At) (p : Port) : Bytes :=
  let blk (k : Nat) : Bytes :=
    let x := slice a.vBytes (16 * k) 16
    if p.unit = 0x30 then fit 16 (Config.prim .aesBlock [p.key, x])
    else (x.zip (fit 16 (Config.prim .aesBlock [p.key, p.counter, leBytes 8 (p.squeezed + k)]))).map fun q => q.1 ^^^ q.2
  blk 0 ++ blk 1 ++ blk 2 ++ blk 3

/-- The next 64 bytes of a stream of the operation. -/
def streamRow (cmd : Nat → Nat → Instr) (op kind : Nat) (data : Run → Bytes) (pos : Run → Nat) (next : Run → Run) : Row :=
  ⟨cmd, op, fun _ a => a.opened kind && decide (pos a.run < (data a.run).length), fun s a =>
    let u := match s.run a.e with | some r => s.setRun a.e (next r) | none => s
    toPlain false u a (wordsOfBytes 16 (slice (data a.run) (pos a.run) 64))⟩

/-- Hash, cipher and stream ports (R317 to R320, R361 to R363). -/
noncomputable def portRows : List Row :=
  [ ⟨.vkabs, 0x50, fun s a => hasPort a false 1 && !(portOf a false).final && (!vSd a.x || (portOf a false).masked) &&
        masks false s a, fun s a =>
      let p := portOf a false
      let data := p.data ++ a.vBytes.take (vLen a.x)
      putPort { p with data := data, tainted := p.tainted || vSd a.x }
        ((drawn false s a).pmu 0x08 (s.tenantOf a) (some a.n) none (data.length / p.rate - p.data.length / p.rate)) a false⟩,
    ⟨.vkfin, 0x51, fun _ a => hasPort a false 1 && !(portOf a false).final, fun s a =>
      let p := portOf a false
      putPort { p with data := p.data ++ [BitVec.ofNat 8 (bits a.x 10 0)], final := true }
        (s.pmu 0x08 (s.tenantOf a) (some a.n) none 1) a false⟩,
    ⟨.vksqz, 0x52, fun s a => hasPort a false 1 && (portOf a false).final && (vSd a.x == (portOf a false).masked) &&
        masks false s a, fun s a =>
      let p := portOf a false
      let u := putPort { p with squeezed := p.squeezed + 64 } (drawn false s a) a false
      unitOut (u.pmu 0x08 (u.tenantOf a) (some a.n) none
        (ceilDiv (p.squeezed + 64) p.rate - Nat.max 1 (ceilDiv p.squeezed p.rate))) a (p.squeeze p.squeezed 64)⟩,
    ⟨.vhblk, 0x53, fun s a => hasPort a false 2 && (!vSd a.x || (portOf a false).masked) && masks false s a, fun s a =>
      let p := portOf a false
      let data := p.data ++ a.vBytes
      putPort { p with data := data, tainted := p.tainted || vSd a.x }
        ((drawn false s a).pmu 0x09 (s.tenantOf a) (some a.n) none (data.length / p.block - p.data.length / p.block)) a false⟩,
    ⟨.vhrd, 0x54, fun s a => hasPort a false 2 && (vSd a.x == (portOf a false).masked) && masks false s a, fun s a =>
      let p := portOf a false
      unitOut (drawn false s a) a (fit 64 (fit (p.block / 2)
        (Config.prim (.sha2Block p.unit) [p.iv, p.data.take (p.data.length / p.block * p.block)])))⟩,
    ⟨.vakey, 0x55, fun _ a => hasPort a false 3, fun s a =>
      let p := portOf a false
      putPort (if a.x.testBit 0 then { p with counter := a.vBytes.take 16, squeezed := 0 } else { p with key := a.vBytes.take 32 })
        s a false⟩,
    ⟨.vaes, 0x56, fun s a => hasPort a false 3 && (vSd a.x == (portOf a false).masked) && masks false s a, fun s a =>
      let p := portOf a false
      let u := putPort { p with squeezed := p.squeezed + 4 } (drawn false s a) a false
      unitOut (u.pmu 0x0A (u.tenantOf a) (some a.n) none 4) a (aesBlocks a p)⟩,
    streamRow .vlstr 0x58 0x40 (fun r => r.lodeStream) (fun r => r.lodePos) fun r => { r with lodePos := r.lodePos + 64 },
    streamRow .vistr 0x59 0x41 (fun r => r.inStream) (fun r => r.inPos) fun r => { r with inPos := r.inPos + 64 },
    ⟨.vslh, 0x5A, fun s a => a.opened 0x42 && (s.run a.e).isSome, fun s a =>
      match s.run a.e with
      | some r =>
        let u := s.setRun a.e { r with handed := r.handed ++ (bytesOfWords (a.old.getV (vVd a.x))).take (vLen a.x) }
        if a.x.testBit 0 then u.askChannel a.e else u
      | none => s⟩,
    ⟨.vsldg, 0x5B, fun s a => a.opened 0x42 && (match s.entry a.e with | some x => x.sluice == .hashed | none => false),
      fun s a => match s.entry a.e with
        | some x => toPlain false s a (wordsOfBytes 16 (fit 64 x.digest))
        | none => s⟩,
    ⟨.vrnd, 0x5C, fun s a => (s.drawStope a.n 64).2.isSome, fun s a =>
      toPlain false (s.drawStope a.n 64).1 a (wordsOfBytes 16 ((s.drawStope a.n 64).2.getD []))⟩,
    ⟨.vmrg, 0x5D, fun s a => mrgGives s a.n, fun s a =>
      let q := (s.mrgFresh a.n).freshBytes 64
      toPlain false q.1 a (wordsOfBytes 16 q.2)⟩ ]

/-- A transform of each register of a group; a masked one refreshes its result. -/
def transformRow (cmd : Nat → Nat → Instr) (op : Nat) (f : At → MReg → List Nat → List Nat) : Row :=
  ⟨cmd, op, fun s a => validM true s a && masks true s a, fun s a =>
    let m := a.old.getM (wMreg a.x)
    let t := (a.srcA true).map (perReg (f a m) (wG a.x))
    if wSd a.x then
      let q := (drawn true s a).reshare (.arith m.q) 32 (t.value (.arith m.q))
      toDest true q.1 a q.2
    else toDest true (drawn true s a) a t⟩

/-- Ring arithmetic, transforms, decisions, packing and moves (R364 to R369). -/
noncomputable def ringRows : List Row :=
  [ (linearRow true .wadd 0x01 fun a => zipOp fun x y => (x + y) % qOf true a).modular true,
    (linearRow true .wsub 0x02 fun a => zipOp fun x y => (x % qOf true a + (qOf true a - y % qOf true a)) % qOf true a).modular true,
    linearRow true .wxor 0x03 fun _ => zipOp fun x y => x ^^^ y,
    productRow true .wand 0x04 (fun _ => .bool) fun _ => zipOp fun x y => x &&& y,
    (productRow true .wpmul 0x08 (fun a => .arith (qOf true a)) fun a => zipOp fun x y => x * y % qOf true a).modular true,
    ⟨.wbmul, 0x09, fun s a => validM true s a && (a.old.getM (wMreg a.x)).layers && masks true s a, fun s a =>
      let m := a.old.getM (wMreg a.x)
      let q := (drawn true s a).product a true (.arith m.q) 32 (perReg2 (baseMul m) (wG a.x))
      putLanes q.1 a true (wWd a.x) (wSd a.x) (fun k => a.active true (k / 2 * 2)) q.2⟩,
    (linear1Row true .wsmul 0x0A fun a l => l.map fun c => c * (a.ws % 2 ^ 32) % qOf true a).modular true,
    linearRow true .wclmul 0x0B fun a =>
      zipOp fun x y => if (wFn a.x).testBit 0 then clmul x y / 2 ^ 32 else clmul x y % 2 ^ 32,
    transformRow .wntt 0x10 fun _ m l => ntt m l,
    transformRow .wintt 0x11 fun a m l => intt m ((wFn a.x).testBit 0) l,
    (linear1Row true .wrot 0x12 fun a => rotate (qOf true a) (a.ws % (256 * wG a.x))).modular true,
    (linear1Row true .wdecomp 0x18 fun a l => l.map (decompOp (qOf true a) (wFn a.x))).modular true,
    (linearRow true .whint 0x19 fun a =>
      let g2 := gamma2 (qOf true a) ((wFn a.x).testBit 2)
      zipOp fun r z => if (wFn a.x).testBit 0 then useHint (qOf true a) g2 z r else makeHint (qOf true a) g2 z r).modular true,
    ⟨.wnorm, 0x1A, fun s a => validM true s a && masks true s a, fun s a =>
      let v := (a.srcA true).value (.arith (qOf true a))
      let l := compareBits (a.active true) (fun x _ => decide (a.ws ≤ centred (qOf true a) x)) v v
      (drawn true s a).modRegs a fun g => g.setK (wWd a.x) (BitVec.ofNat 256 (ofFlags (foldBits l)))⟩,
    ⟨.wcmpeq, 0x1B, masks true, fun s a =>
      let l := compareBits (a.active true) (fun x y => x == y) ((a.srcA true).value .bool) ((a.srcB true).value .bool)
      (drawn true s a).modRegs a fun g => g.setK (wWd a.x) (BitVec.ofNat 256 (ofFlags (foldBits l)))⟩,
    selectRow true .wsel 0x1C fun a k => (a.old.getK (wFn a.x)).getLsbD (k % 256),
    (linear1Row true .wcomp 0x20 fun a l => l.map (compress (qOf true a) (wFn a.x))).modular true,
    (linear1Row true .wdcmp 0x21 fun a l => l.map (decompress (qOf true a) (wFn a.x))).modular true,
    linear1Row true .wpack 0x22 fun a l => packWords (wFn a.x % 64) (l.map (biased ((wFn a.x).testBit 6) a.ws)),
    linear1Row true .wunp 0x23 fun a l => (unpackWords (wFn a.x % 64) l).map (biased ((wFn a.x).testBit 6) a.ws),
    linear1Row true .wmov 0x28 fun _ l => l,
    ⟨.wbcast, 0x29, fun _ _ => true, fun s a => toPlain true s a (List.replicate (256 * wG a.x) (a.ws % 2 ^ 32))⟩,
    ⟨.winsv, 0x2A, masks true, fun s a =>
      let t := triOf (wSb a.x) fun k => a.old.getV (wB a.x + k)
      let put (k : Nat) (l : List Nat) : List Nat :=
        let old := a.old.getG (wWd a.x + k * wG a.x) (wG a.x)
        (old.take a.sixteen) ++ l ++ old.drop (a.sixteen + 16)
      toDest true (drawn true s a) a { a := put 0 t.a, b := put 1 t.b, c := put 2 t.c }⟩,
    ⟨.wextv, 0x2B, masks true, fun s a =>
      let t := (a.srcA true).map fun l => (l.drop a.sixteen).take 16
      (drawn true s a).modRegs a fun g => shares (wSd a.x) (fun k l g => g.setV (wB a.x + k) l) t g⟩,
    ⟨.wktail, 0x2C, fun _ _ => true, fun s a => s.modRegs a fun g =>
      g.setK (wWd a.x) (BitVec.ofNat 256 (2 ^ Nat.min a.ws 256 - 1))⟩,
    ⟨.wkop, 0x2D, fun _ _ => true, fun s a =>
      let x := a.old.getK (wWa a.x)
      let y := a.old.getK (wB a.x)
      let r := match wFn a.x with
        | 0 => x &&& y
        | 1 => x ||| y
        | 2 => x ^^^ y
        | 3 => ~~~x
        | 4 => if x == BitVec.allOnes 256 then BitVec.allOnes 256 else 0
        | _ => if x != 0 then BitVec.allOnes 256 else 0
      s.modRegs a fun g => if wFn a.x = 6 then g.setP (wWd a.x) (x.setWidth 16) else g.setK (wWd a.x) r⟩,
    convertRow true .wa2b 0x30 (arithOf true) (fun _ => .bool) (arithReady true),
    convertRow true .wb2a 0x31 (fun _ => .bool) (arithOf true) (arithReady true),
    refreshRow true .wrefr 0x32 ]

/-- Ring loads and stores (R355, R357, R359): the lines that hold an active coefficient. -/
noncomputable def ringMemoryRows : List Row :=
  [ ⟨.wld, 0x38, fun s a => passes a (.load (wSd a.x)) 64 a.lines && readsM true s a (wSd a.x) 64 a.lines, fun s a =>
      let z := List.replicate 16 0
      let q := (List.range (16 * wG a.x)).foldl (fun (acc : State × Tri) k =>
        if (List.range 16).any fun j => a.active true (16 * k + j) then
          let v := acc.1.loadTri a (wSd a.x) ((a.wAddr + 64 * k) % 2 ^ 32) 16
          (v.1, { a := acc.2.a ++ v.2.a, b := acc.2.b ++ v.2.b, c := acc.2.c ++ v.2.c })
        else (acc.1, { a := acc.2.a ++ z, b := acc.2.b ++ z, c := acc.2.c ++ z }))
        (readM true s a (wSd a.x) 64 a.lines, { a := [], b := [], c := [] })
      toDest true q.1 a (q.2.map fun l => l.take (256 * wG a.x))⟩,
    ⟨.wst, 0x39, fun s a => passes a (.store (wSd a.x)) 64 a.lines && masks true s a, fun s a =>
      (drawn true s a).storeTri a (wSd a.x) a.wAddr (a.active true) a.wsTri⟩,
    ⟨.wust, 0x3A, fun s a => unmaskReady a (bits a.x 14 13) 0 && passes a .unmask 64 a.lines && masks true s a, fun s a =>
      (drawn true s a).storeWords a a.wAddr 0 (a.active true) (a.wsTri.value (unmasking a (bits a.x 14 13) 0))⟩ ]

/-- The coefficients that a sampler writes, all of wd: plain, or freshly shared on a masked context. -/
def sampled (s : State) (a : At) (l : List Nat) : State :=
  if wSd a.x then
    let q := s.reshare (.arith (qOf true a)) 32 l
    putLanes q.1 a true (wWd a.x) true (fun _ => true) q.2
  else putLanes s a true (wWd a.x) false (fun _ => true) (triOf false fun _ => l)

/-- A sampler's context: a finalised sponge whose masking its share bit matches, and a VALID modulus register. -/
def samples (s : State) (a : At) : Bool :=
  hasPort a true 1 && (portOf a true).final && (wSd a.x == (portOf a true).masked) && validM true s a

/-- A sampler that takes a fixed number of bytes. -/
def sampleRow (cmd : Nat → Nat → Instr) (op : Nat) (len : At → Nat) (f : At → Nat → (Nat → Nat) → List Nat) : Row :=
  ⟨cmd, op, fun s a => samples s a && masks true s a, fun s a =>
    let p := portOf a true
    sampled ((drawn true s a).taken a p (len a)) a (f a (qOf true a) p.next)⟩

/-- The samplers (R370). WSAMU, WSAMR and WSAMC take bytes until they have enough values. -/
noncomputable def samplerRows : List Row :=
  [ ⟨.wsamu, 0x40, samples, fun s a =>
      let p := portOf a true
      let r := sampleUniform ((wFn a.x).testBit 0) (qOf true a) p.next samplerFuel 0 []
      let u := s.taken a p r.2
      if r.1.length = 256 then sampled u a r.1 else sampled (u.freeCoeffs (qOf true a)).1 a (u.freeCoeffs (qOf true a)).2⟩,
    sampleRow .wsamb 0x41 (fun a => 64 * (wFn a.x % 4)) fun a q b => sampleCbd (wFn a.x % 4) q b,
    ⟨.wsamr, 0x42, fun s a => samples s a && masks true s a, fun s a =>
      let p := portOf a true
      let r := boundedBlocks (if wFn a.x % 4 = 2 then 2 else 4) (qOf true a) p.rate p.next 480 2312
      let u := (drawn true s a).taken a p r.2
      if r.1.length = 256 then sampled u a r.1 else sampled (u.freeCoeffs (qOf true a)).1 a (u.freeCoeffs (qOf true a)).2⟩,
    sampleRow .wsamy 0x43 (fun a => 32 * (wFn a.x % 32)) fun a q b => sampleMask (wFn a.x % 32) q b,
    ⟨.wsamc, 0x44, samples, fun s a =>
      let p := portOf a true
      match (if a.ws ≤ 64 then
          sampleBall a.ws (qOf true a) p.next samplerFuel 8 (256 - a.ws) (List.replicate 256 0) else none) with
      | some r => sampled (s.taken a p r.2) a r.1
      | none =>
        let u := s.taken a p 8
        sampled (u.freeCoeffs (qOf true a)).1 a (u.freeCoeffs (qOf true a)).2⟩ ]

end Sys2Proof.Claims

/-- The S-slot arithmetic (R326, R349, R350): where an engine stands at one of these instructions, its command answers exactly
the state in which sd holds the value the rules give (s0 ignores it) and the engine has gone on to the next slot. -/
def Obligations.ScalarArithmetic : Prop := Claims.Completes 0 Claims.aluRows

/-- S-slot arithmetic changes sd and nothing else (R322, R349): every other s register, every v, accumulator, p, w, k, m and
port register, local memory, every other engine, the objects, the Tally's entries and host memory stay as they were. -/
def Obligations.ScalarArithmeticFrame : Prop :=
  ∀ row ∈ Claims.aluRows, ∀ (s : State) (n i e : Nat) (r : Run), Claims.Stands s n i 0 row.op e r → (s.eng n i).trapped = false →
    ∃ t, exec (row.cmd n i) s = .next t ∧
      (∀ k, k ≠ sSd (slotOf (Claims.wordOf s n i) 0) → (t.eng n i).regs.getS k = (s.eng n i).regs.getS k) ∧
      (t.eng n i).regs.getS 0 = 0 ∧ (t.eng n i).regs.v = (s.eng n i).regs.v ∧ (t.eng n i).regs.a = (s.eng n i).regs.a ∧
      (t.eng n i).regs.p = (s.eng n i).regs.p ∧ (t.eng n i).regs.w = (s.eng n i).regs.w ∧
      (t.eng n i).regs.k = (s.eng n i).regs.k ∧ (t.eng n i).regs.m = (s.eng n i).regs.m ∧
      (t.eng n i).regs.x = (s.eng n i).regs.x ∧ (t.eng n i).regs.sstride = (s.eng n i).regs.sstride ∧
      (t.eng n i).loc = (s.eng n i).loc ∧ (t.eng n i).run = some e ∧
      (∀ m j, j < 16 → m ≠ n ∨ j ≠ i → t.eng m j = s.eng m j) ∧
      t.lode = s.lode ∧ t.tally.entries = s.tally.entries ∧ t.host = s.host ∧ t.pending = s.pending

/-- The S slot's loads and stores, branches and control values (R309, R310, R325, R349, R350): where the access passes its
checks, the target lies in the kernel's extent, or the control value exists, the command answers exactly the state of
its effect. -/
def Obligations.ScalarMemoryAndControl : Prop := Claims.Completes 0 Claims.scalarRows

/-- POPEN, PCLOSE and the commit points of the lead engine (R349, R351, R361, R385, R386, R387): where the port or the operation
allows them, the command answers exactly the state of its effect. -/
def Sys2Proof.Claims.PortsAndCommitPoints : Prop := Claims.Completes 0 Claims.commitRows

/-- The V slot (R322, R328, R329, R352, R353, R354): arithmetic, comparisons, predicates, moves, and the masked forms with
their share conversions; where its operands are as the rules ask, the command answers exactly the state in which its
destination holds the value the rules give and the engine has gone on. -/
def Obligations.VectorInstructions : Prop := Claims.Completes 1 Claims.vectorRows

/-- The V slot's loads, stores, gathers, scatters and unmasking store (R355, R357, R359), where every access passes its
checks. -/
def Sys2Proof.Claims.VectorMemory : Prop := Claims.Completes 1 Claims.vectorMemoryRows

/-- The hash, cipher, stream and randomness ports (R361, R362, R363, R385, R387), where the port is open for the instruction:
the command answers exactly the state of its effect. -/
def Sys2Proof.Claims.PortInstructions : Prop := Claims.Completes 1 Claims.portRows

/-- The W slot (R364 to R369): ring arithmetic, transforms, base multiplications, decisions, packing and moves, with the masked
forms; where a valid modulus and the operands' sharing are as the rules ask, the command answers exactly the state in
which its destination holds the result. -/
def Obligations.RingInstructions : Prop := Claims.Completes 2 Claims.ringRows

/-- The W slot's loads, stores and unmasking store (R355, R359), where every access passes its checks. -/
def Sys2Proof.Claims.RingMemory : Prop := Claims.Completes 2 Claims.ringMemoryRows

/-- The samplers (R370): from the bytes of their port they write the coefficients accepted in order, and the bytes taken are
gone from the port. -/
def Obligations.Samplers : Prop := Claims.Completes 2 Claims.samplerRows

/-- Memory access of the V and W slots (R355, R357, R359): loads, stores, gathers, scatters and the unmasking stores, where
every access passes its checks, answer exactly the state of their effect. -/
def Obligations.VectorAndRingMemory : Prop := Claims.VectorMemory ∧ Claims.RingMemory

/-- Ports and commit points (R349, R351, R361, R362, R363, R385, R386, R387): POPEN, PCLOSE, the lead engine's commit points,
and the hash, cipher, stream and randomness ports, where the port or the operation allows them, answer exactly the state
of their effect. -/
def Obligations.Ports : Prop := Claims.PortsAndCommitPoints ∧ Claims.PortInstructions

/-- A NOP slot, an empty slot among them, leaves only the step to the next slot or word (R324). -/
def Sys2Proof.Claims.NopSlots : Prop :=
  ∀ slot < 3, Claims.Completes slot [⟨.nopS, 0, fun _ _ => true, fun s _ => s⟩]

/-- BAR (R331): an engine that arrives first waits at its barrier, the last engine of its operation to arrive frees
all that wait there. BREAK (R332): where debugging is permitted the engine halts with its fault record written. -/
def Sys2Proof.Claims.BarriersAndBreak : Prop :=
  ∀ (s : State) (n i e : Nat) (r : Run),
    (Claims.Stands s n i 0 0x60 e r → ∀ k, k = bits (slotOf (Claims.wordOf s n i) 0) 2 0 →
      r.stope = n → r.first ≤ i → i < r.first + 2 ^ r.wlog2 →
      let mine := countAt (s.eng n i).bars k + 1
      let u := Claims.issued s n i 0 e
      let waits := u.setEng n i { u.eng n i with bars := bumpAt (s.eng n i).bars k 1, mode := 3, atBar := some k }
      ((∃ j, r.first ≤ j ∧ j < r.first + 2 ^ r.wlog2 ∧ j ≠ i ∧ countAt (s.eng n j).bars k ≠ mine) →
        exec (.barS n i) s = .next waits) ∧
      (r.wlog2 = 0 → exec (.barS n i) s =
        .next ((waits.setEng n i { waits.eng n i with atBar := none }).endSlot n i e (Claims.wordOf s n i))) ∧
      ((∀ j, r.first ≤ j → j < r.first + 2 ^ r.wlog2 → j ≠ i → countAt (s.eng n j).bars k = mine ∧
          (s.eng n j).atBar = some k ∧ (s.eng n j).run = some e) →
        ∃ t, exec (.barS n i) s = .next t ∧ ∀ j, r.first ≤ j → j < r.first + 2 ^ r.wlog2 → (t.eng n j).atBar = none)) ∧
    (Claims.Stands s n i 0 0x63 e r → (s.lcc.state ≤ 1 ∨ (s.lcc.state = 2 ∧ s.lcc.grant = 3)) →
      ∃ t, exec (.breakS n i) s = .next t ∧ (t.eng n i).mode = 7 ∧ field (t.eng n i).fault 7 0 = 0x0A ∧
        bit (t.eng n i).fault 31 = true ∧ (t.eng n i).fpc = (s.eng n i).pc ∧ (t.eng n i).fstamp = s.stamp ∧
        (t.eng n i).fop = 0x63 ∧ (t.eng n i).regs = (s.eng n i).regs)

/-- Traps (R332, R335, R338): with a handler, and a cause it takes, the lead engine starts at the trap word; without one the
operation ends with the status of the cause; a handler that overruns ends as KERNEL_FAULT; an engine whose steps stopped is
recorded as WATCHDOG and the operation stopped. A modulus build ends VALID or INVALID (R309). -/
def Obligations.TrapsAndBuilds : Prop :=
  ∀ (s : State) (e : Nat) (r : Run) (x : Entry), s.avs.tripped = false → s.run e = some r → s.entry e = some x →
    s.executing e = true →
    (r.trapped.isSome = true → r.kernel.trap ≠ 0xFFFF → r.handler = false → r.trapCause ∉ [8, 9, 10] →
      exec (.trapEntry e) s = .next ((s.setEng r.stope r.first { s.eng r.stope r.first with
        mode := 4, pc := (s.baseOf r.stope r.kernel + r.kernel.trap) % 4096, slot := 0, trapped := false, atBar := none }).setRun e
        { r with handler := true, handlerAt := s.stamp })) ∧
    (r.trapped.isSome = true → r.kernel.trap = 0xFFFF → r.handler = false → opFamily x.desc.opcode ≠ 14 →
      exec (.trapEntry e) s = .next ((s.setEntry e x).finish e (trapStatus r.trapCause))) ∧
    (r.handler = true → opFamily x.desc.opcode ≠ 14 →
      let u := s.advanceTo (r.handlerAt + s.cyclesNs r.stope 4096)
      let v := u.trapSlot r.stope r.first e 0 (u.eng r.stope r.first).fop 9 0 none
      exec (.trapHandlerOverrun e) s = .next ((v.setEntry e x).finish e .kernelFault)) ∧
    (opFamily x.desc.opcode ≠ 14 → (s.eng r.stope (s.oldestStep r)).trapped = false → (s.eng r.stope (s.oldestStep r)).mode ≠ 4 →
      x.target = .stope r.stope r.first r.wlog2 → x.await ≠ .eqt → x.stopping = none → ∃ t y, exec (.stepWatchdogExpiry e) s = .next t ∧ t.entry e = some y ∧
        y.stopping = some (.status .kernelFault) ∧ field (t.eng r.stope (s.oldestStep r)).fault 7 0 = 8) ∧
    (∀ n i k, n < 64 → i < 16 → k < 4 → (s.eng n i).run.isSome = true → ((s.eng n i).regs.getM k).status = 1 →
      ∃ t, exec (.msetBuildDone n i k) s = .next t ∧
        ((t.eng n i).regs.getM k).status = (if ((s.eng n i).regs.getM k).good then 2 else 3) ∧
        ((t.eng n i).regs.getM k).value = ((s.eng n i).regs.getM k).value ∧
        (∀ j, j < 4 → j ≠ k → (t.eng n i).regs.getM j = (s.eng n i).regs.getM j) ∧ (t.eng n i).regs.s = (s.eng n i).regs.s ∧
        t.regs = s.regs ∧ t.host = s.host)

/-- An engine that does not exist takes no command (R8, R9). -/
def Sys2Proof.Claims.NoSuchEngine : Prop :=
  ∀ (s : State) (n i : Nat), ¬(n < 64 ∧ i < 16) →
    ∀ c ∈ [Instr.addS n i, .nopS n i, .barS n i, .ld64 n i, .final n i, .vadd n i, .vld n i, .wntt n i, .wsamu n i],
      exec c s = .fault .noSuchUnit

/-- A NOP slot, an empty slot among them, leaves only the step to the next slot or word (R324). BAR (R331): an engine that
arrives first waits at its barrier, the last engine of its operation to arrive frees all that wait there. BREAK (R332):
where debugging is permitted the engine halts with its fault record written. An engine that does not exist takes no command
(R8, R9). -/
def Obligations.EngineEvents : Prop := Claims.NopSlots ∧ Claims.BarriersAndBreak ∧ Claims.NoSuchEngine

namespace Sys2Proof.Claims
open Sys2Proof.Machine

/-! ## Operations: the outcome of a kernel that runs -/

/-- One operation: its command, its kind, when its content checks pass and its draws succeed, and its outcome. -/
structure OpRow where
  cmd : Nat → Instr
  kind : OpKind
  fits : State → Nat → Entry → Bool := fun _ _ _ => true
  result : State → Nat → Entry → State

/-- Every operation of a table completes: its kernel runs for entry `e` and has the randomness it needs (R130, R230), its
checks pass, and the state it answers is its outcome. -/
def Operates (rows : List OpRow) : Prop :=
  ∀ row ∈ rows, ∀ (s : State) (e : Nat) (x : Entry),
    s.avs.tripped = false → s.running e row.kind = some x →
    (needsEntropy row.kind x.desc.options = true → s.maskOk e x = true) →
    row.fits s e x = true →
    exec (row.cmd e) s = .next (row.result s e x)

/-- A value that is given, or drawn from the operation's generator: whether it is there, the value, the state after. -/
def has (given : Bool) (len : Nat) (s : State) (x : Entry) : Bool := given || (s.drawFor x len).2.isSome
def val (given : Bool) (bs : Bytes) (len : Nat) (s : State) (x : Entry) : Bytes :=
  if given then bs else (s.drawFor x len).2.getD []
def after (given : Bool) (len : Nat) (s : State) (x : Entry) : State := if given then s else (s.drawFor x len).1

/-- The blinding of a point multiplication by a secret scalar: 64 bits, and the coordinate Z (R235); it is drawn after what
the operation itself draws. -/
def blindLen (pp : Nat) : Nat := 8 + (ecSizes pp).1
def hasBlind (pp : Nat) (given : Bool) (len : Nat) (s : State) (x : Entry) : Bool :=
  has given len s x && has false (blindLen pp) (after given len s x) x
def afterBlind (pp : Nat) (given : Bool) (len : Nat) (s : State) (x : Entry) : State :=
  after false (blindLen pp) (after given len s x) x

/-- A private RSA operation's blinding: what its Shaft job holds, else drawn (R233). -/
def hasRsa (given : Bool) (len : Nat) (s : State) (e : Nat) (x : Entry) : Bool :=
  has given len s x && has ((after given len s x).blindHeld e x) (16 + rsaK (opParam x.desc.opcode)) (after given len s x) x
def afterRsa (given : Bool) (len : Nat) (s : State) (e : Nat) (x : Entry) : State :=
  after ((after given len s x).blindHeld e x) (16 + rsaK (opParam x.desc.opcode)) (after given len s x) x

/-- OK or VERIFY_REJECT, with no output (R124). -/
def verdict (ok : Bool) (s : State) (e info : Nat) : State := if ok then s.commitOut e [] info else s.commitReject e info

/-- The parameter code of an entry's opcode. -/
def pp (x : Entry) : Nat := opParam x.desc.opcode

/-- The pair that a key generation computes from the seed it is given, or draws, and its row: the object when its checks and
its pairwise test hold (R110, R111), else KEY_CHECK_FAIL. A pair of a curve computes its public point blinded (R235). -/
def pairFrom (x : Entry) (s : State) : Bytes × Bytes :=
  let alg := opAlg x.desc.opcode
  keyPair alg (if x.desc.opt 0 then slice x.aux 32 (seedLen alg) else drawnSeed alg (val false [] (drawLen alg) s x))
def keygenRow (cmd : Nat → Instr) (k : OpKind) (ok : Entry → Bool) : OpRow :=
  let curve (x : Entry) : Bool := opFamily (opAlg x.desc.opcode) == 8
  ⟨cmd, k, fun s _ x => ok x && (if curve x then hasBlind (opParam (opAlg x.desc.opcode)) (x.desc.opt 0) (drawLen (opAlg x.desc.opcode)) s x
      else has (x.desc.opt 0) (drawLen (opAlg x.desc.opcode)) s x), fun s e x =>
    let alg := opAlg x.desc.opcode
    let kp := pairFrom x s
    let t := if curve x then afterBlind (opParam alg) (x.desc.opt 0) (drawLen alg) s x else after (x.desc.opt 0) (drawLen alg) s x
    if pairOk alg kp then t.createObject e (newPair x kp) kp.1 0 else t.failContent e k x .keyCheckFail⟩

/-- EXPAND and EVICT (R126, R127). -/
def expandRow (cmd : Nat → Instr) (k : OpKind) : OpRow :=
  ⟨cmd, k, fun _ _ _ => true, fun s e x =>
    let i := handleIndex x.desc.key
    if s.handleStatus x.tenant x.desc.key = none ∧ (s.obj i).expGran ≠ 0 then (s.useExpansion i).commitOut e [] 0x10000
    else
      let r := s.storeExpansion x.tenant x.desc.key true
      r.1.commitOut e [] (if r.2 then 0x10000 else 0)⟩
def evictRow (cmd : Nat → Instr) (k : OpKind) : OpRow :=
  ⟨cmd, k, fun _ _ _ => true, fun s e x =>
    ((s.setObj (handleIndex x.desc.key) { s.obj (handleIndex x.desc.key) with expGran := 0, expUsed := 0 }).dropFlaws
      fun p => p == .expansion (handleIndex x.desc.key)).commitOut e [] 0⟩

/-- μ of a signature: given whole in mode 2, else what the Sluice channel formed (R117, R118). -/
def muIn (x : Entry) : Bytes := if x.desc.mode = 2 then fit 64 x.input else fit 64 x.digest

/-- ML-KEM, ML-DSA and composites (chapter 04). -/
noncomputable def latticeRows : List OpRow :=
  [ keygenRow .kemKeygen .kemKeygen fun _ => true,
    ⟨.kemEncaps, .kemEncaps, fun s _ x =>
      (x.desc.key != 0 || modulusOk (pp x) (slice x.aux 0 (kemSizes (pp x)).1)) && has (x.desc.opt 0) 32 s x,
      fun s e x =>
        let ek := x.pubKey (kemSizes (pp x)).1
        let m := val (x.desc.opt 0) (slice x.aux (if x.desc.key = 0 then (kemSizes (pp x)).1 else 0) 32) 32 s x
        ((after (x.desc.opt 0) 32 s x).coldExpand x).commitOut e
          (fit (kemSizes (pp x)).2.2 (Config.prim (.kemCt (pp x)) [ek, m]) ++ fit 32 (Config.prim (.kemKey (pp x)) [ek, m]))
          (hitInfo x)⟩,
    ⟨.kemDecaps, .kemDecaps, fun _ _ _ => true, fun s e x =>
      (s.coldExpand x).commitOut e (fit 32 (Config.prim (.kemDec (pp x)) [x.secret, x.aux])) (hitInfo x)⟩,
    ⟨.kemEkcheck, .kemEkcheck, fun _ _ x => modulusOk (pp x) x.aux, fun s e _ => s.commitOut e [] 0⟩,
    expandRow .kemExpand .kemExpand, evictRow .kemEvict .kemEvict,
    keygenRow .dsaKeygen .dsaKeygen fun _ => true,
    ⟨.dsaSign, .dsaSign, fun s _ x => !x.lenFault && has (x.desc.opt 2) 32 s x, fun s e x =>
      let rnd := val (x.desc.opt 2) (List.replicate 32 0) 32 s x
      (after (x.desc.opt 2) 32 s x).commitSig e .dsaSign x
        (fit (dsaSizes (pp x)).2.2 (Config.prim (.dsaSig (pp x)) [x.secret, muIn x, rnd]))
        (iterations (pp x) x.secret (muIn x) rnd)⟩,
    -- with the length finding of R119 a drawn μ is signed and the signature discarded: the failure is held (R239)
    ⟨.dsaSign, .dsaSign, fun s _ x => x.lenFault && has false 64 s x && has (x.desc.opt 2) 32 (after false 64 s x) x,
      fun s e x => (after (x.desc.opt 2) 32 (after false 64 s x) x).failContent e .dsaSign x .lengthMismatch⟩,
    ⟨.dsaVerify, .dsaVerify, fun _ _ x => !x.lenFault, fun s e x =>
      let z := dsaSizes (pp x)
      verdict (Config.holds (.dsaVerify (pp x)) [x.pubKey z.1, muIn x, slice x.aux (x.desc.auxLen - z.2.2) z.2.2])
        (s.coldExpand x) e (hitInfo x)⟩,
    expandRow .dsaExpand .dsaExpand, evictRow .dsaEvict .dsaEvict,
    ⟨.compositeEncaps, .compEncaps, fun s _ x =>
      let p := pairOf (pp x)
      let ekLen := (kemSizes p.lat).1
      (x.desc.key != 0 || modulusOk p.lat (slice x.aux 0 ekLen)) &&
      (x.desc.key2 != 0 || (pointFails p.ec (slice x.aux (if x.desc.key = 0 then ekLen else 0) p.pub)).isEmpty) &&
      hasBlind p.ec false (32 + ecDrawLen p.ec) s x,
      fun s e x =>
        let p := pairOf (pp x)
        let ekLen := (kemSizes p.lat).1
        let ek := x.pubKey ekLen
        let pk := x.pubKey2 (if x.desc.key = 0 then ekLen else 0) p.pub
        let r := val false [] (32 + ecDrawLen p.ec) s x
        let m := slice r 0 32
        let eph := ecPrivate p.ec (slice r 32 (ecDrawLen p.ec))
        let cPq := fit (kemSizes p.lat).2.2 (Config.prim (.kemCt p.lat) [ek, m])
        let cTrad := fit p.ct (Config.prim (.ecPub p.ec) [eph])
        let z := ascii "FVCK" ++ leBytes 1 (pp x) ++ fit 32 (Config.prim (.kemKey p.lat) [ek, m]) ++
          fit p.ss (Config.prim (.ecShared p.ec) [eph, pk]) ++ cTrad ++ pk ++ sha3 cPq
        ((afterBlind p.ec false (32 + ecDrawLen p.ec) s x).coldExpand x).commitOut e (cPq ++ cTrad ++ sha3 z) (hitInfo x)⟩,
    ⟨.compositeDecaps, .compDecaps, fun s _ x =>
      let p := pairOf (pp x)
      (pointFails p.ec (slice x.aux (kemSizes p.lat).2.2 p.ct)).isEmpty && has false (blindLen p.ec) s x,
      fun s e x =>
        let p := pairOf (pp x)
        let cPq := slice x.aux 0 (kemSizes p.lat).2.2
        let cTrad := slice x.aux (kemSizes p.lat).2.2 p.ct
        let z := ascii "FVCK" ++ leBytes 1 (pp x) ++ fit 32 (Config.prim (.kemDec p.lat) [x.secret, cPq]) ++
          fit p.ss (Config.prim (.ecShared p.ec) [x.secret2, cTrad]) ++ cTrad ++
          (match x.bound2 with | some b => b.pub | none => []) ++ sha3 cPq
        ((after false (blindLen p.ec) s x).coldExpand x).commitOut e (sha3 z) (hitInfo x)⟩,
    ⟨.compositeSign, .compSign, fun s _ x =>
        let p := pairOf (pp x)
        !x.lenFault && hasBlind p.ec (x.desc.opt 2) (32 + (if ecNist p.ec then ecDrawLen p.ec else 0)) s x, fun s e x =>
      let p := pairOf (pp x)
      let len := 32 + (if ecNist p.ec then ecDrawLen p.ec else 0)
      let m' := combinerM (pp x) (ctxAt x.aux 0) (fit 64 x.digest)
      let mu := muOf (match x.bound1 with | some b => b.pub | none => []) (mPrime false [] 0 m')
      let r := val (x.desc.opt 2) (List.replicate 32 0) len s x
      let h := tradMessage p.ec m'
      -- DET: the nonce of FIPS 186-5, with the hash of R133; EdDSA is deterministic by definition (R137)
      let nonce := if x.desc.opt 2 then fit (ecSizes p.ec).1 (Config.prim (.ecNonce p.ec (if p.ec = 1 then 0 else 1)) [x.secret2, h])
        else scalarFrom p.ec (r.drop 32)
      (afterBlind p.ec (x.desc.opt 2) len s x).commitSig e .compSign x
        (fit (dsaSizes p.lat).2.2 (Config.prim (.dsaSig p.lat) [x.secret, mu, slice r 0 32]) ++
          fit p.ct (if ecNist p.ec then Config.prim (.ecSig p.ec) [x.secret2, h, nonce]
            else Config.prim (.edSig p.ec 0) [x.secret2, m', []]))
        (iterations p.lat x.secret mu (slice r 0 32))⟩,
    ⟨.compositeVerify, .compVerify, fun _ _ x =>
      let p := pairOf (pp x)
      !x.lenFault && (x.desc.key2 != 0 ||
        (pointFails p.ec (slice x.aux (if x.desc.key = 0 then (dsaSizes p.lat).1 else 0) p.pub)).isEmpty),
      fun s e x =>
        let p := pairOf (pp x)
        let z := dsaSizes p.lat
        let o1 := if x.desc.key = 0 then z.1 else 0
        let o2 := o1 + (if x.desc.key2 = 0 then p.pub else 0)
        let m' := combinerM (pp x) (ctxAt x.aux o2) (fit 64 x.digest)
        let sig := slice x.aux (x.desc.auxLen - pairLen (pp x)) (pairLen (pp x))
        verdict (Config.holds (.dsaVerify p.lat) [x.pubKey z.1, muOf (x.pubKey z.1) (mPrime false [] 0 m'), slice sig 0 z.2.2] &&
            (ecSigOk p.ec (slice sig z.2.2 p.ct) &&
              Config.holds (.ecVerify p.ec 0) [x.pubKey2 o1 p.pub, tradMessage p.ec m', slice sig z.2.2 p.ct]))
          (s.coldExpand x) e (hitInfo x)⟩ ]

/-- ENCAPS and DECAPS of families 6 and 7 (R153 to R155). -/
noncomputable def codeEncapsRow (cmd : Nat → Instr) (k : OpKind) : OpRow :=
  ⟨cmd, k, fun s _ x =>
    (x.desc.key != 0 || paddingOk (opFamily x.desc.opcode) (pp x) x.aux) && has false 64 s x, fun s e x =>
    let f := opFamily x.desc.opcode
    let pk := x.pubKey (codeSizes f (pp x)).1
    let r := val false [] 64 s x
    (after false 64 s x).commitOut e (fit (codeSizes f (pp x)).2 (Config.prim (.codeCt f (pp x)) [pk, r]) ++
      fit (codeK f) (Config.prim (.codeKey f (pp x)) [pk, r])) 0⟩
noncomputable def codeDecapsRow (cmd : Nat → Instr) (k : OpKind) : OpRow :=
  ⟨cmd, k, fun _ _ _ => true, fun s e x =>
    let f := opFamily x.desc.opcode
    s.commitOut e (fit (codeK f) (Config.prim (.codeDec f (pp x)) [x.secret, x.aux])) 0⟩

/-- SLH-DSA, Classic McEliece, HQC and elliptic curves (R142 to R161, R171). -/
noncomputable def classicRows : List OpRow :=
  [ keygenRow .slhKeygen .slhKeygen fun _ => true,
    ⟨.slhSign, .slhSign, fun s _ x => x.desc.auxLen == 1 + leField x.aux 0 1 &&
        (x.desc.mode != 0 || x.sluice != .none || s.freeChannel.isSome) && has (x.desc.opt 2) (slhN (pp x)) s x, fun s e x =>
      let y : Entry := if x.desc.mode = 0 then { x with input := s.inputOf x } else x
      let r := val (x.desc.opt 2) (slice x.secret (2 * slhN (pp x)) (slhN (pp x))) (slhN (pp x)) s x
      (after (x.desc.opt 2) (slhN (pp x)) s x).commitOut e
        (fit (slhSigLen (pp x)) (Config.prim (.slhSig (pp x)) [x.secret, slhMessage y 0, r])) 0⟩,
    ⟨.slhVerify, .slhVerify, fun _ _ x =>
        x.desc.auxLen == (if x.desc.key = 0 then 2 * slhN (pp x) else 0) + 1 +
          leField x.aux (if x.desc.key = 0 then 2 * slhN (pp x) else 0) 1 + slhSigLen (pp x), fun s e x =>
      verdict (Config.holds (.slhVerify (pp x)) [x.pubKey (2 * slhN (pp x)), x.digest,
        slice x.aux (x.desc.auxLen - slhSigLen (pp x)) (slhSigLen (pp x))]) s e 0⟩,
    ⟨.mceKeygen, .mceKeygen, fun s _ x => has (x.desc.opt 0) 32 s x, fun s e x =>
      let kp := keyPair (opAlg x.desc.opcode) (val (x.desc.opt 0) (slice x.aux 32 32) 32 s x)
      let t := after (x.desc.opt 0) 32 s x
      if pairOk (opAlg x.desc.opcode) kp then
        if x.desc.opt 1 then (t.evictFor x.tenant (mceGranules (opParam (opAlg x.desc.opcode)))).createObject e
          { newPair x kp with pinGran := mceGranules (opParam (opAlg x.desc.opcode)) } kp.1 x.info
        else t.createObject e (newPair x kp) kp.1 x.info
      else t.finish e .keyCheckFail⟩,
    codeEncapsRow .mceEncaps .mceEncaps, codeDecapsRow .mceDecaps .mceDecaps,
    keygenRow .hqcKeygen .hqcKeygen fun _ => true,
    codeEncapsRow .hqcEncaps .hqcEncaps, codeDecapsRow .hqcDecaps .hqcDecaps,
    keygenRow .ecKeygen .ecKeygen fun x =>
      !(x.desc.opt 0 && ecNist (pp x)) || scalarOk (pp x) (slice x.aux 32 (ecSizes (pp x)).1),
    ⟨.ecSign, .ecSign, fun s _ x =>
        if ecNist (pp x) then hasBlind (pp x) (x.desc.opt 2) (ecDrawLen (pp x)) s x
        else x.desc.auxLen == 1 + leField x.aux 0 1 && !edCtxBad (pp x) x.desc.mode (leField x.aux 0 1) &&
          has false (blindLen (pp x)) s x, fun s e x =>
      let n := (ecSizes (pp x)).2.2.1
      if ecNist (pp x) then
        let h := if x.desc.opt 3 then x.input else x.digest
        let k := if x.desc.opt 2 then fit (ecSizes (pp x)).1 (Config.prim (.ecNonce (pp x) x.desc.ph) [x.secret, h])
          else scalarFrom (pp x) (val false [] (ecDrawLen (pp x)) s x)
        (afterBlind (pp x) (x.desc.opt 2) (ecDrawLen (pp x)) s x).commitOut e (fit n (Config.prim (.ecSig (pp x)) [x.secret, h, k])) 0
      else (after false (blindLen (pp x)) s x).commitOut e (fit n (Config.prim (.edSig (pp x) x.desc.mode)
          [x.secret, if x.desc.mode = 1 ∧ x.desc.opt 3 = false then x.digest else x.input, ctxAt x.aux 0])) 0⟩,
    ⟨.ecVerify, .ecVerify, fun _ _ x =>
        (x.desc.key != 0 || (pointFails (pp x) (slice x.aux 0 x.ecPubLen)).isEmpty) &&
        (ecNist (pp x) || (ctxLensOk x x.ecPubLen (ecSizes (pp x)).2.2.1 &&
          !edCtxBad (pp x) x.desc.mode (leField x.aux x.ecPubLen 1))), fun s e x =>
      let n := (ecSizes (pp x)).2.2.1
      let sig := slice x.aux (x.desc.auxLen - n) n
      verdict (ecSigOk (pp x) sig && Config.holds (.ecVerify (pp x) x.desc.mode) [unpacked (pp x) (x.pubKey x.ecPubLen),
        if x.desc.opt 3 && ecNist (pp x) then x.input else x.digest, sig]) s e 0⟩,
    ⟨.ecAgree, .ecAgree, fun s _ x => (pointFails (pp x) x.aux).isEmpty && has false (blindLen (pp x)) s x, fun s e x =>
      (after false (blindLen (pp x)) s x).commitOut e
        (fit (ecSizes (pp x)).2.2.2 (Config.prim (.ecShared (pp x)) [x.secret, unpacked (pp x) x.aux])) 0⟩,
    ⟨.ecPkcheck, .ecPkcheck, fun _ _ x => (pointFails (pp x) x.aux).isEmpty, fun s e _ => s.commitOut e [] 0⟩ ]

/-- Does a public key by value pass the checks of R166? -/
def rsaKeyOk (x : Entry) : Bool := x.desc.key != 0 || rsaPubOk (pp x) (slice x.aux 0 (rsaK (pp x) + 4))

/-- RANDOM with PR reseeds its Stope's DRBG before a generate call (R170): whether it could, and the state after. -/
def renewed (s : State) (x : Entry) : Bool × State :=
  match x.desc.opt 0, x.target with
  | true, .stope m _ _ => ((s.reseedStope m).2, (s.reseedStope m).1)
  | _, _ => (true, s)

/-- RSA, hashes, MACs, key derivation, AES-GCM and random bytes (R162 to R170). RANDOM writes up to 64 KiB whole, more unit
by unit (R100). -/
noncomputable def symmetricRows : List OpRow :=
  [ ⟨.rsaKeygen, .rsaKeygen, fun s _ x => has false 32 s x, fun s e x =>
      let kp := keyPair (opAlg x.desc.opcode) (val false [] 32 s x)
      if pairOk (opAlg x.desc.opcode) kp then (after false 32 s x).createObject e (newPair x kp) kp.1 x.info
      else (after false 32 s x).finish e .keyCheckFail⟩,
    ⟨.rsaSign, .rsaSign, fun s e x => hasRsa (x.desc.opt 0 || x.desc.opt 2) (phLen x.desc.ph) s e x, fun s e x =>
      (afterRsa (x.desc.opt 0 || x.desc.opt 2) (phLen x.desc.ph) s e x).commitOut e
        (fit (rsaK (pp x)) (Config.prim (.rsaSig (pp x) x.desc.options) [x.secret, x.rsaDigest,
          val (x.desc.opt 0 || x.desc.opt 2) [] (phLen x.desc.ph) s x])) x.info⟩,
    ⟨.rsaVerify, .rsaVerify, fun _ _ x => rsaKeyOk x, fun s e x =>
      let sig := slice x.aux (x.desc.auxLen - rsaK (pp x)) (rsaK (pp x))
      verdict (rsaSigOk (pp x) (x.pubKey (rsaK (pp x) + 4)) sig && Config.holds (.rsaVerify (pp x) x.desc.options)
        [x.pubKey (rsaK (pp x) + 4), x.rsaDigest, sig]) s e x.info⟩,
    ⟨.rsaEncrypt, .rsaEncrypt, fun s _ x =>
        (labelAt x (if x.desc.key = 0 then rsaK (pp x) + 4 else 0)).2 && rsaKeyOk x && has false (phLen x.desc.ph) s x,
      fun s e x =>
        (after false (phLen x.desc.ph) s x).commitOut e (fit (rsaK (pp x)) (Config.prim (.rsaEnc (pp x) x.desc.options)
          [x.pubKey (rsaK (pp x) + 4), x.input, (labelAt x (if x.desc.key = 0 then rsaK (pp x) + 4 else 0)).1,
            val false [] (phLen x.desc.ph) s x])) x.info⟩,
    ⟨.rsaDecrypt, .rsaDecrypt, fun s e x =>
        let pub := match x.bound1 with | some b => b.pub | none => []
        (labelAt x (rsaK (pp x))).2 && rsaCtOk (pp x) pub (slice x.aux 0 (rsaK (pp x))) &&
        Config.holds (.rsaOaep (pp x) x.desc.options) [x.secret, slice x.aux 0 (rsaK (pp x)), (labelAt x (rsaK (pp x))).1] &&
        has (s.blindHeld e x) (16 + rsaK (opParam x.desc.opcode)) s x,
      fun s e x => (after (s.blindHeld e x) (16 + rsaK (opParam x.desc.opcode)) s x).commitOut e ((Config.prim (.rsaDec (pp x) x.desc.options)
        [x.secret, slice x.aux 0 (rsaK (pp x)), (labelAt x (rsaK (pp x))).1]).take (rsaK (pp x) - 2 * phLen x.desc.ph - 2))
        x.info⟩,
    ⟨.hashOp, .hash, fun _ _ x => !x.lenFault, fun s e x =>
      s.commitOut e (fit (if hashLen (pp x) = 0 then x.desc.outCap else hashLen (pp x)) x.digest) 0⟩,
    ⟨.hmac, .hmac, fun _ _ _ => true, fun s e x =>
      s.commitOut e (fit (hashLen (pp x)) (Config.prim (.hmac (pp x)) [x.secret, x.input])) 0⟩,
    ⟨.hmacVerify, .hmacVerify, fun _ _ _ => true, fun s e x =>
      verdict (fit (hashLen (pp x)) (Config.prim (.hmac (pp x)) [x.secret, x.input]) == x.aux) s e 0⟩,
    ⟨.kmac, .kmac, fun _ _ x => x.desc.auxLen == 1 + leField x.aux 0 1, fun s e x =>
      s.commitOut e (fit x.desc.outCap (Config.prim (.kmac (pp x) (x.desc.opt 0) x.desc.outCap)
        [x.secret, x.input, slice x.aux 1 (leField x.aux 0 1)])) 0⟩,
    ⟨.kmacVerify, .kmacVerify, fun _ _ _ => true, fun s e x =>
      let n := x.desc.auxLen - (1 + leField x.aux 0 1)
      verdict (fit n (Config.prim (.kmac (pp x) false n) [x.secret, x.input, slice x.aux 1 (leField x.aux 0 1)]) ==
        slice x.aux (1 + leField x.aux 0 1) n) s e 0⟩,
    ⟨.kdf, .kdf, fun _ _ x =>
        x.desc.auxLen == (33 + leField x.aux 32 1) + 2 + leField x.aux (33 + leField x.aux 32 1) 2, fun s e x =>
      let a := attrOf (slice x.aux 0 32)
      let off := 33 + leField x.aux 32 1
      s.createObject e { attr := a, secret := fit a.keyLen (Config.prim (.kmac (pp x) false a.keyLen)
        [x.secret, slice x.aux (off + 2) (leField x.aux off 2), slice x.aux 33 (leField x.aux 32 1)]) } [] 0⟩,
    ⟨.gcmSeal, .gcmSeal, fun s _ x => has (x.desc.opt 0) 12 s x, fun s e x =>
      let iv := val (x.desc.opt 0) (slice x.aux 0 12) 12 s x
      let aad := x.aux.drop (if x.desc.opt 0 then 12 else 0)
      let t := after (x.desc.opt 0) 12 s x
      (if x.desc.opt 0 then t else t.countSeal x).commitOut e
        (iv ++ fit x.desc.inLen (Config.prim .gcmCt [x.secret, iv, aad, x.input]) ++
          fit 16 (Config.prim .gcmTag [x.secret, iv, aad, x.input])) 0⟩,
    ⟨.gcmOpen, .gcmOpen, fun _ _ _ => true, fun s e x =>
      let iv := slice x.aux 0 12
      if Config.holds .gcmTag [x.secret, iv, x.aux.drop 28, x.input, slice x.aux 12 16] then
        s.commitOut e (fit x.desc.inLen (Config.prim .gcmPt [x.secret, iv, x.aux.drop 28, x.input])) 0
      else s.commitReject e 0⟩,
    ⟨.randomOp, .random, fun s _ x => (renewed s x).1 && has false (Nat.min (x.desc.outCap - x.published) 65536) (renewed s x).2 x,
      fun s e x =>
        let n := Nat.min (x.desc.outCap - x.published) 65536
        let bs := val false [] n (renewed s x).2 x
        let t := after false n (renewed s x).2 x
        if x.desc.outCap ≤ 65536 then t.commitOut e bs 0
        else
          let u := (t.publish e x x.published bs).modEntry e fun x =>
            { x with published := x.published + n, outBytes := x.published + n }
          if n = x.desc.outCap - x.published then (u.measure e x).finish e .ok else u⟩ ]

end Sys2Proof.Claims

/-- ML-KEM, ML-DSA, their expansions and the composites complete with the outcome of R110 to R137. -/
def Obligations.LatticeOperations : Prop := Claims.Operates Claims.latticeRows

/-- SLH-DSA, Classic McEliece, HQC and elliptic-curve operations complete with the outcome of R142 to R161. -/
def Obligations.HashCodeAndCurveOperations : Prop := Claims.Operates Claims.classicRows

/-- RSA, hash, MAC, KDF, AES-GCM and RANDOM operations complete with the outcome of R162 to R170. -/
def Obligations.RsaAndSymmetricOperations : Prop := Claims.Operates Claims.symmetricRows

namespace Sys2Proof.Claims
open Sys2Proof.Machine

/-! ## Key management and stateful signatures -/

/-- The object of an entry's first handle. -/
def keyOf (s : State) (x : Entry) : Obj := s.obj (handleIndex x.desc.key)

/-- A wrapped blob (R209): header, ciphertext, IV, the encrypted material, tag. -/
def wrapped (hdr ct key iv mat : Bytes) : Bytes :=
  hdr ++ ct ++ iv ++ fit mat.length (Config.prim .gcmCt [key, iv, hdr ++ ct, mat]) ++
    fit 16 (Config.prim .gcmTag [key, iv, hdr ++ ct, mat])

/-- The outcome of KEY_WRAP under a KEK (R209). -/
def wrapResult (s : State) (e : Nat) (x : Entry) (kek : Bound) : State :=
  let ff := pp x
  let o := keyOf s x
  let mat := { o with secret := x.secret }.material
  let hdr := ascii "FVKW" ++ leBytes 2 1 ++ leBytes 1 ff ++ [0] ++ leBytes 4 mat.length ++ fit 4 (kekIdOf ff kek) ++ o.attr.bytes
  if ff = 1 then
    let t := after false 12 s x
    let t := if t.handleStatus x.tenant kek.handle = none
      then t.setObj kek.index { t.obj kek.index with seals := (t.obj kek.index).seals + 1 } else t
    t.commitOut e (wrapped hdr [] kek.secret (val false [] 12 s x) mat) 0
  else
    let m := val false [] 32 s x
    (after false 32 s x).commitOut e
      (wrapped hdr (fit (kemSizes (wrapSet ff)).2.2 (Config.prim (.kemCt (wrapSet ff)) [kek.pub, m]))
        (kmac32 (fit 32 (Config.prim (.kemKey (wrapSet ff)) [kek.pub, m])) hdr "FV wrap") (List.replicate 12 0) mat) 0

/-- The derived object of TREE_DERIVE before its material (R212). -/
def derivedBase (s : State) (x : Entry) : Obj :=
  { attr := attrOf (slice x.aux 0 32), parent := x.desc.key, depth := (keyOf s x).depth + 1,
    treeLabel := slice x.aux 33 (leField x.aux 32 1) }

/-- What a fresh key pair draws: its seed or private value, and on a curve the blinding of its public point (R157, R235). -/
def hasPair (alg len : Nat) (s : State) (x : Entry) : Bool :=
  if opFamily alg = 8 then hasBlind (opParam alg) false len s x else has false len s x
def afterPair (alg len : Nat) (s : State) (x : Entry) : State :=
  if opFamily alg = 8 then afterBlind (opParam alg) false len s x else after false len s x

/-- Key management (R206 to R217, R552). -/
noncomputable def keyRows : List OpRow :=
  [ ⟨.keyInfo, .keyInfo, fun _ _ _ => true, fun s e x => s.commitOut e (s.infoRecord (handleIndex x.desc.key)) 0⟩,
    ⟨.pubExport, .pubExport, fun _ _ _ => true, fun s e x =>
      s.commitOut e (fit (pubLen (keyOf s x).attr.alg) (keyOf s x).pub) 0⟩,
    ⟨.pubImport, .pubImport, fun _ _ x =>
        let a := attrOf (slice x.aux 0 32)
        (pubLens a.alg).contains (x.desc.auxLen - 32) && (publicFails a.alg (x.aux.drop 32)).isEmpty, fun s e x =>
      let a := attrOf (slice x.aux 0 32)
      s.createObject e { attr := a, pub := heldPublic a.alg (x.aux.drop 32) } [] 0⟩,
    ⟨.symGen, .symGen, fun s _ x => has false (attrOf (slice x.aux 0 32)).symLen s x, fun s e x =>
      let a := attrOf (slice x.aux 0 32)
      (after false a.symLen s x).createObject e { attr := a, secret := val false [] a.symLen s x } [] 0⟩,
    ⟨.keyWrap, .keyWrap, fun s _ x => x.bound2.isSome && has false (if pp x = 1 then 12 else 32) s x, fun s e x =>
      match x.bound2 with
      | some kek => wrapResult s e x kek
      | none => s⟩,
    ⟨.keyUnwrap, .keyUnwrap, fun _ _ x => match x.bound2 with
        | some kek => (blobFails x (pp x) ((blobOf (pp x) x.aux).format == pp x) kek (blobOf (pp x) x.aux)).isEmpty
        | none => false, fun s e x =>
      match x.bound2 with
      | some kek =>
        let b := blobOf (pp x) x.aux
        s.createObject e (unwrapped (attrOf b.attrBytes)
          (fit b.matLen (Config.prim .gcmPt [blobKey (pp x) kek b, b.iv, b.aad, b.body]))) [] 0
      | none => s⟩,
    ⟨.keyReplace, .keyReplace, fun s _ x =>
        (replaceFails s x).isEmpty && (x.desc.mode == 1 || (x.desc.mode == 2 && x.bound2.isSome) ||
          (x.desc.mode == 0 && (if (keyOf s x).attr.kind = kindKeypair then hasPair (keyOf s x).attr.alg (drawLen (keyOf s x).attr.alg) s x
            else has false (keyOf s x).attr.symLen s x))), fun s e x =>
      let a := (keyOf s x).attr
      match x.desc.mode, x.bound2 with
      | 1, _ => s.stageReplacement e { attr := a, pub := heldPublic a.alg x.aux } []
      | 2, some kek => s.stageReplacement e (blobObj (leField x.aux 6 1) kek (blobOf (leField x.aux 6 1) x.aux)) []
      | _, _ =>
        if a.kind = kindKeypair then
          let kp := keyPair a.alg (drawnSeed a.alg (val false [] (drawLen a.alg) s x))
          let t := afterPair a.alg (drawLen a.alg) s x
          if pairOk a.alg kp then t.stageReplacement e { attr := a, pub := kp.1, secret := kp.2 } kp.1
          else t.failContent e .keyReplace x .keyCheckFail
        else
          let key := val false [] a.symLen s x
          if Config.holds (.knownAnswer 1) [key] then
            (after false a.symLen s x).stageReplacement e { attr := a, secret := key } []
          else (after false a.symLen s x).failContent e .keyReplace x .keyCheckFail⟩,
    ⟨.keyDestroy, .keyDestroy, fun _ _ _ => true, fun s e x =>
      (s.setEntry e { x with await := .holders }).destroyAll [handleIndex x.desc.key] 0 (some e) true⟩,
    ⟨.treeDerive, .treeDerive, fun s _ x =>
        (derivedBase s x).attr.kind != kindKeypair || opFamily (derivedBase s x).attr.alg != 8 ||
          has false (blindLen (opParam (derivedBase s x).attr.alg)) s x, fun s e x =>
      let o := derivedBase s x
      let seed (len : Nat) : Bytes := treeSeed x.secret o.treeLabel o.attr.kind o.attr.alg len
      if o.attr.kind = kindKeypair then
        let kp := keyPair o.attr.alg (drawnSeed o.attr.alg (seed (drawLen o.attr.alg)))
        let t := if opFamily o.attr.alg = 8 then after false (blindLen (opParam o.attr.alg)) s x else s
        if pairOk o.attr.alg kp then t.createObject e { o with pub := kp.1, secret := kp.2 } kp.1 0
        else t.failContent e .treeDerive x .keyCheckFail
      else s.createObject e { o with computed := false, secret := seed o.attr.symLen } [] 0⟩,
    ⟨.usageClear, .usageClear, fun _ _ _ => true, fun s e x =>
      let i := handleIndex x.desc.key
      let o := keyOf s x
      let o : Obj := { o with attr := { o.attr with usage := o.attr.usage &&& (0xFFFF - leField x.aux 0 2) } }
      if o.persists then
        let t := (s.setObj i o).setEntry e { x with await := .keyRecord }
        { t with lode := { t.lode with writes := t.lode.writes ++
          [{ entry := some e, index := i, handle := o.handle i, marker := false, obj := o }] } }
      else (s.setObj i o).commitOut e [] 0⟩ ]

/-- A signature's first commit point: its randomiser drawn (of LMS; XMSS derives its own) and its index reserved (R186). -/
def reserved (s : State) (e : Nat) (x : Entry) : State :=
  if x.index.isSome then s
  else
    let given := opFamily x.desc.opcode == 5
    ((after given (stfN (pp x)) s x).modEntry e fun y => { y with output := val given [] (stfN (pp x)) s x }).reserveFor' e

/-- Stateful signatures (R175 to R194, R555). -/
noncomputable def statefulRows : List OpRow :=
  [ ⟨.stfKeygen, .stfKeygen, fun s _ x =>
        x.parent.isNone && has (x.desc.opt 0) (stfSeedLen (opFamily x.desc.opcode) (pp x)) s x, fun s e x =>
      let f := opFamily x.desc.opcode
      let n := stfSeedLen f (pp x)
      (((after (x.desc.opt 0) n s x).releaseUnit e x.target true).setEntry e
        { x with target := .none, await := .kids, output := val (x.desc.opt 0) (slice x.aux 40 n) n s x
                 part := stfChunks f (pp x) (Nat.max 1 (leField x.aux 32 1)), kids := 0 }).startChunks e⟩,
    ⟨.stfSign, .stfSign, fun s e x =>
        (x.index.isSome || has (opFamily x.desc.opcode == 5) (stfN (pp x)) s x) &&
        (match (reserved s e x).entry e with
          | some y => !y.decided && y.index.isSome && (y.sluice != .none || (reserved s e x).freeChannel.isSome)
          | none => false), fun s e x =>
      let f := opFamily x.desc.opcode
      let u := reserved s e x
      match u.entry e with
      | some y =>
        let l := match (keyOf u y).stf with | some g => g.levels | none => 1
        u.commitOut e (fit (stfSigLen f (pp x) l)
          (Config.prim (.stfSig f (pp x) l) [y.secret, leBytes 8 (y.index.getD 0), y.output, u.inputOf y])) 0
      | none => u⟩,
    ⟨.stfVerify, .stfVerify, fun _ _ _ => true, fun s e x =>
      let f := opFamily x.desc.opcode
      verdict (match s.stfKey x x.aux with
        | .ok key => (match stfSigOf f (x.desc.opt 0) key (x.aux.drop key.len) with
          | some p => p.2 && Config.holds (.stfVerify f key.pp (x.desc.opt 0)) [x.pubKey key.len, x.digest, x.aux.drop key.len]
          | none => false)
        | .error _ => false) s e 0⟩,
    ⟨.stfQuery, .stfQuery, fun s _ x => (keyOf s x).stf.isSome, fun s e x =>
      s.commitOut e (s.queryRecord ((keyOf s x).stf.getD {})) 0⟩,
    ⟨.stfSetfloor, .stfSetfloor, fun s _ x => match (keyOf s x).stf with
        | some f => decide (leField x.aux 0 8 ≤ f.total)
        | none => false, fun s e x =>
      let i := handleIndex x.desc.key
      let floor := leField x.aux 0 8
      let f := (keyOf s x).stf.getD {}
      if !f.unknown && decide (floor ≤ f.next) then s.commitOut e [] 0
      else
        let g : Stateful := if f.unknown then { f with ready := false, flooring := f.flooring + 1 }
          else { f with ready := false, flooring := f.flooring + 1, next := floor, burned := f.burned + (floor - f.next) }
        let t := s.setObj i { keyOf s x with stf := some g }
        ((if f.unknown then t else t.warnLow i).setEntry e { x with await := .lease i }).askLease
          { index := i, slot := f.slot, entry := some e, frontier := floor, floor := some floor }⟩,
    ⟨.stfCache, .stfCache, fun s _ x => match (keyOf s x).stf with
        | some f => f.cache == 2 || f.cache == 1 || decide (s.granFixed x.tenant +
            cacheGranules (opFamily (keyOf s x).attr.alg) (opParam (keyOf s x).attr.alg) f.levels ≤ s.share x.tenant)
        | none => false, fun s e x =>
      let i := handleIndex x.desc.key
      let o := keyOf s x
      let f := o.stf.getD {}
      if f.cache = 2 then s.commitOut e [] 0
      else if f.cache = 1 then s.setEntry e { x with await := .cache i }
      else
        let g := cacheGranules (opFamily o.attr.alg) (opParam o.attr.alg) f.levels
        let t := (s.evictFor x.tenant g).modStf i fun f => { f with cache := 1, cacheGran := g, cacheBy := some x.order }
        (t.setEntry e { x with await := .cache i, kids := 0
                               part := stfChunks (opFamily o.attr.alg) (opParam o.attr.alg) f.levels }).startChunks e⟩ ]

end Sys2Proof.Claims

/-- Key management operations complete with the outcome of R206 to R217 and R552. -/
def Obligations.KeyManagement : Prop := Claims.Operates Claims.keyRows

/-- Stateful key generation, signing with its reserved index, verification, query, floor and cache complete with the outcome
of R178, R186, R555, R194, R193 and R191. -/
def Obligations.StatefulOperations : Prop := Claims.Operates Claims.statefulRows

/-- The events of Lode's flash stores: the lease writes with their anchor (R184, R185), the sector erase, the key-record
write of an updated object (R220), the retries after 10 ms (R185, R217), the swap of a replacement (R216), the end of a
destruction (R217), the chunks of a key generation (R178), the end of a cache build (R191), and the power-up pass over a
table whose digest matches neither pair (R192). -/
def Obligations.FlashStoreEvents : Prop :=
  ∀ s : State, s.avs.tripped = false →
    (∀ (w : LeaseWrite), s.lode.leaseActive = none → s.lode.leaseQueue.find? (fun w => !w.waitRetry) = some w →
      (s.leaseFlash w).isSome = true → s.lode.leaseKey.isSome = true →
      exec .leaseWriteStart s = .next { s with lode := { s.lode with
        leaseActive := some w, leaseQueue := s.lode.leaseQueue.erase w
        anchor := { s.lode.anchor with seqP := s.lode.anchor.seqC + 1, digP := s.leaseDigest (some (s.leaseRecord w)) } } }) ∧
    (∀ (w : LeaseWrite), s.lode.leaseActive = some w →
      let b := (s.leaseFlash w).getD false
      let put (r : LeaseRec) : State :=
        let recs := (s.sector b w.slot).recs ++ [r]
        s.setSector b w.slot { s.sector b w.slot with recs := recs, erasing := decide (32 ≤ recs.length) }
      let t := put (s.leaseRecord w)
      exec (.leaseWriteDone true) s = .next
        (({ t with lode := { t.lode with
             leaseActive := none, lastSlotB := Cells.set (fun _ => true) t.lode.lastSlotB w.slot b
             anchor := { t.lode.anchor with seqC := t.lode.anchor.seqP, digC := t.lode.anchor.digP } } } : State).leaseApply w
          (s.leaseRecord w)) ∧
      (w.tries < 2 → exec (.leaseWriteDone false) s = .next
        (let u := put { s.leaseRecord w with mac := [] }
         { u with lode := { u.lode with leaseActive := some { w with tries := w.tries + 1 } } }))) ∧
    exec .leaseWriteRetry s = .next { s with lode := { s.lode with
      leaseQueue := s.lode.leaseQueue.map fun w => { w with waitRetry := false } } } ∧
    exec .storeWriteRetry s = .next { s with lode := { s.lode with
      writes := s.lode.writes.map fun w => { w with failed := false }, storeRetry := false } } ∧
    (∀ b n, (s.sector b n).erasing = true →
      exec (.sectorEraseDone b n) s =
        .next (s.setSector b n { recs := [], erases := (s.sector b n).erases + 1, erasing := false })) ∧
    (∀ (h : Nat) (w : StoreWrite) (key : Bytes),
      s.lode.writes.find? (fun w => w.handle == h && !w.failed) = some w → s.lode.storageKey = some key →
      let seq := s.lode.recordSeq + 1
      let r : KeyRecord := { handle := w.handle, seq := seq, marker := w.marker, obj := w.obj, under := key }
      let kept (u : State) (r : KeyRecord) : State :=
        let ws := s.lode.writes.erase w
        { u with lode := { u.lode with
          writes := ws, recordSeq := seq, storeRetry := ws.any fun v => v.failed
          records := (s.lode.records.filter fun q => handleIndex q.handle != w.index) ++
            (newestRecord (s.lode.records.filter fun q => handleIndex q.handle == w.index)).toList ++ [r] } }
      (w.marker = true →
        exec (.keyRecordWriteDone h true) s = .next ((kept s r).removalCheck (handleTenant h)) ∧
        exec (.keyRecordWriteDone h false) s = .next (s.storeFailed w)) ∧
      (∀ e x iv, w.marker = false → (s.drawCentral 3 12).2 = some iv → w.entry = some e →
        s.lode.staged.any (fun g => g.entry == e) = false → s.entry e = some x → x.await = .keyRecord →
        exec (.keyRecordWriteDone h true) s = .next
          ((((kept (s.drawCentral 3 12).1 { r with blob := recordBlob key iv w.obj w.handle seq }).setEntry e
            { x with await := .none }).commitOut e [] 0).removalCheck (handleTenant h)))) ∧
    (∀ (e : Nat) (g : Staged), s.lode.staged.find? (fun g => g.entry == e && g.replace) = some g →
      g.written = true → (s.entry e).isSome = true → exec (.keySwap e) s = .next (s.swapKey g)) ∧
    (∀ (e : Nat) (x : Entry), s.entry e = some x → x.live = true → x.await = .holders →
      (∀ p ∈ s.lode.holders, p.1 = e → s.holding p.2 = false) →
      (∀ w ∈ s.lode.writes, w.marker = true → w.entry ≠ some e) → (∀ q ∈ s.zdp.purges, q.2.2 ≠ some e) →
      exec (.destroyComplete e) s = .next
        (({ s with lode := { s.lode with holders := s.lode.holders.filter fun p => p.1 != e } }.setEntry e
          { x with await := .none }).commitOut e [] 0)) ∧
    (∀ (k e : Nat) (c x : Entry), s.entry k = some c → c.live = true → c.started = true → c.parent = some e →
      (s.freeEntry k).entry e = some x → x.order = c.spillToken →
      (c.leaves = [] → exec (.keygenChunkDone k) s = .next ((((s.freeEntry k).setEntry e
        { x with kids := x.kids - 1, doneBy := (c.chunk, c.onStope) :: x.doneBy }).startChunks e).splitNext e c.onStope)) ∧
      (c.leaves ≠ [] →
        exec (.keygenChunkDone k) s = .next
          (if Config.holds (.recompute (opFamily x.desc.opcode) (opParam x.desc.opcode)) (x.output :: c.leaves.map (leBytes 8))
           then (((s.freeEntry k).setEntry e { x with kids := x.kids - 1 }).startChunks e).splitNext e c.onStope
           else (s.freeEntry k).finish e .keyCheckFail))) ∧
    (∀ (i : Nat) (f : Stateful), (s.obj i).stf = some f → f.cache = 1 → f.cacheBy.isSome = true →
      (∀ e ∈ s.entriesWhere (fun x => x.await == .cache i), ∀ x, s.entry e = some x → x.kids = 0 ∧ x.part = 0) →
      exec (.cacheBuildDone i) s = .next
        ((s.setObj i { s.obj i with stf := some { f with cache := 2, cacheBy := none } }).forEntries
          (s.entriesWhere fun x => x.await == .cache i) fun t e =>
            match t.entry e with
            | some x =>
              let u := t.setEntry e { x with await := .none }
              if x.desc.kind = some .stfCache then u.commitOut e [] 0 else u
            | none => t)) ∧
    (s.lode.leaseReady = false → s.released 4 = true → s.restoring = false →
      let keys := s.objectsWhere fun o => o.isStf
      let found := s.lode.leaseKey.isSome && ((List.range 1024).all (fun n => (s.inForce n).isNone) || s.leaseDigest none == s.lode.anchor.digC ||
        s.leaseDigest none == s.lode.anchor.digP)
      let t := if found then s.forEntries keys fun s i => s.leaseResume i else s.forEntries keys fun s i => s.leaseUnknown i
      (∀ n < 1024, t.slotOwner n = none → t.inForce n = none) →
      exec .leasePowerup s = .next { t with lode := { t.lode with leaseReady := true } })

namespace Sys2Proof.Claims
open Sys2Proof.Machine

/-! ## Registers -/

/-- A write of a requester arrives at a page: the page exists, is within reach and is not shown DISABLED, and no primary
write of the requester waits there (R38 to R40, R43). -/
def Arrives (s : State) (req : Requester) (p : Page) : Prop :=
  s.onBus req = true ∧ req.reaches p = true ∧ p.exists = true ∧ s.dir.published.contains p = false ∧ s.primary req p = none

/-- ... and the page is not frozen (R41). -/
def Writes (s : State) (req : Requester) (p : Page) : Prop := Arrives s req p ∧ bit (s.reg p 0x008) 3 = false

/-- `CTL` with FREEZE and EN as a write gives them, and with DRAIN. -/
def ctlWith (old v : Word) (drain : Bool) : Word :=
  let w := if bit v 3 then setBit old 3 else clearBit old 3
  let w := if drain then (if bit v 1 then setBit w 1 else clearBit w 1) else w
  if bit v 0 then setBit w 0 else clearBit w 0

/-- A memory error, by the memory it arises in (R512): where an engine reads, it stands until it is read; a correctable one
elsewhere is corrected and shown; an uncorrectable one is found at once. -/
def MemoryError (s : State) (f : Flaw) (u : State) : Prop :=
  (∀ n i a, f.place = .loc n i a → (s.eng n i).run.isSome = true → u = { s with flaws := s.flaws ++ [f] }) ∧
  (∀ e a, f.place = .region e a → (s.run e).isSome = true → u = { s with flaws := s.flaws ++ [f] }) ∧
  (∀ i, f.place = .object i → (s.obj i).present = true → f.uncorr = true → u = { s with flaws := s.flaws ++ [f] }) ∧
  (f.uncorr = false →
    ((∃ i, f.place = .object i ∨ f.place = .expansion i ∨ f.place = .pinned i ∨ f.place = .cache i) → u = s.setErr .lod 3) ∧
    (∀ n j, f.place = .shaft n j → u = (s.countCorrected (64 + n) 1).setErr (.shf n) 3) ∧
    (∀ e b, f.place = .tally e b → u = s.setErr .tly 3) ∧ (∀ e, f.place = .buffer e → u = s.setErr .adt 3) ∧
    (∀ a, f.place = .headframe a → u = s.setErr .hdf 3) ∧ (∀ a, f.place = .retained a → u = s.setErr .cny 3)) ∧
  (f.uncorr = true →
    (∀ i, f.place = .pinned i → (s.obj i).pinGran ≠ 0 → u = s.foundUncorr .lod 4 i) ∧
    (∀ e, f.place = .buffer e → (s.entry e).isSome = true → u = (s.foundUncorr .adt 7 e).loseWork e) ∧
    (∀ e, f.place = .tally e true → (s.entry e).isSome = true → u = (s.foundUncorr .tly 6 e).freeEntry e) ∧
    (∀ t c, f.place = .context t c → (s.ctx t c).working = true →
      u = ((s.dropCore t c).setCtx t c (s.ctx t c).cleared).foundUncorr (.tdgs t) 8 c) ∧
    (∀ a, f.place = .headframe a → u = (s.foundUncorr .hdf 9 a).assertSource 8 true))

/-- A failed read is reported through its function's AER. -/
def reported (s : State) (t : Nat) : State := s.setFn t { s.fn t with aer := (s.fn t).aer + 1 }

/-- A failed read of each kind. -/
def readFailed (s : State) : DmaRead → State → Prop
  | .descriptor t q, u =>
    (s.sq t q).en = true → (s.sq t q).error = false → (s.sq t q).head ≠ (s.sq t q).tail → u = (reported s t).sqFail t q 3
  | .entry e, u => ∀ x, s.entry e = some x → x.decided = false →
      u = (match x.sluice with
        | .hashing _ => ((reported s x.tenant).modEntry e fun y => { y with sluice := .none }).setErr .slc 16
        | _ => reported s x.tenant).endWith e .dmaFault true
  | .pack n, u => ∀ r, s.kstFront n 1 = some r → u = (reported s 0).kstEnd r 8 0xFF
  | .ownerBlob cmd, u => u = (reported s 0).ownCommandBy (BitVec.ofNat 32 cmd) false
  | .memory f, u => MemoryError s f u

end Sys2Proof.Claims

/-- A critical write takes effect when its complement follows (R43): the pair leaves no primary behind and nothing else
changed before the value takes effect. -/
def Sys2Proof.Claims.ComplementedPairTakesEffect : Prop :=
  ∀ (s : State) (req : Requester) (p : Page) (off : Nat) (v : Word), Claims.Writes s req p →
    s.criticalPair req p off v (~~~v) = (s, some v) ∧
    (∀ c : Word, c ≠ ~~~v → s.criticalPair req p off v c = (s.shadowMismatch p off 1, none))

/-- `CTL` (R41, R42, R445): FREEZE, DRAIN and EN take the values written, and BRST on a drained idle Stope or Shaft resets
it; a request at a unit that has not drained, or at a page without DRAIN, is refused and logged. -/
def Obligations.ControlRegister : Prop :=
  ∀ (s : State) (req : Requester) (p : Page) (v : Word), Claims.Arrives s req p → p.firstOfBlock = true →
    Cells.wf regDefault s.regs = true →
    let u := s.freshCopy p 0x008
    (∀ c ∈ [Instr.ctlFreeze req p v (~~~v), .ctlDrain req p v (~~~v), .ctlEn req p v (~~~v)],
      (bit v 2 = false → bit v 0 = true → p.hasDrain = false ∨ (s.draining p = false ∧ bit v 1 = true ∧ s.pageIdle p = false) ∨
          (s.draining p = true ∧ bit v 1 = false) →
        exec c s = .next (u.setReg p 0x008 (Claims.ctlWith (s.reg p 0x008) v p.hasDrain))) ∧
      (bit v 2 = false → bit v 0 = false → p.hasDrain = false → s.pageIdle p = true → bit v 3 = bit (s.reg p 0x008) 3 →
        exec c s = .next ((u.putCtl p 3 (bit v 3)).putCtl p 0 false))) ∧
    (bit v 2 = true → bit v 0 = true → bit v 1 = true → bit v 3 = bit (s.reg p 0x008) 3 → s.resetPending = false →
      let w := (u.putCtl p 3 (bit v 3)).putCtl p 0 true
      (p.hasDrain = true → s.draining p = true → s.pageIdle p = true →
        exec (.ctlBrst req p v (~~~v)) s = .next (((w.blockLog p 1).setInt .rst 17).blockReset p)) ∧
      (p.hasDrain = true → s.draining p = true → s.pageIdle p = false →
        exec (.ctlBrst req p v (~~~v)) s = .next ((w.blockLog p 2).setErr p 6)) ∧
      (p.hasDrain = false → exec (.ctlBrst req p v (~~~v)) s = .next ((w.blockLog p 3).accessErr p)))

/-- ERRINJ sets the `ERR` bits written where it is allowed, and is ignored with `ERR.ACCESS` elsewhere; INTEN takes the value
written and signals a bit that it newly enables (R41). -/
def Sys2Proof.Claims.ErrorInjectionAndEnables : Prop :=
  ∀ (s : State) (req : Requester) (p : Page) (v : Word), Claims.Writes s req p → p.firstOfBlock = true →
    (s.injectAllowed = true → exec (.errinjWrite req p v) s = .next (s.setErrBits p (v &&& 0xFFFF007F#32))) ∧
    (s.injectAllowed = false → exec (.errinjWrite req p v) s = .next (s.setErr p 0)) ∧
    exec (.intenWrite req p v) s =
      .next (if v &&& ~~~(s.reg p 0x020) &&& s.reg p 0x01C = 0 then s.setReg p 0x020 v
        else (s.setReg p 0x020 v).raiseVector p.owner 64)

/-- `ERR` bits latch (R41): those set before stay, an unmasked one sets `INTSTS` bit 0, and no other register, no queue of
commands and no byte of host memory changes. -/
def Sys2Proof.Claims.ErrorBitsLatch : Prop :=
  ∀ (s : State) (p : Page) (bits : Word),
    let t := s.setErrBits p bits
    t.reg p.first 0x010 = s.reg p.first 0x010 ||| bits ∧
      (bits &&& ~~~(s.reg p.first 0x014) ≠ 0 → bit (t.reg p.first 0x01C) 0 = true) ∧
      (bits &&& ~~~(s.reg p.first 0x014) = 0 → t.reg p.first 0x01C = s.reg p.first 0x01C) ∧
      (∀ k, k ≠ p.first.key 0x010 → k ≠ p.first.key 0x01C → Cells.get regDefault t.regs k = Cells.get regDefault s.regs k) ∧
    t.pending = s.pending ∧ t.host = s.host ∧ t.tally = s.tally ∧ t.lode = s.lode

/-- The shadow of a critical register (R43, R44, R45): the complement of a waiting primary write stages an RWS value or
takes effect; another value, a complement that comes too late or none at all, and a stored copy that differs are shadow
mismatches. -/
def Sys2Proof.Claims.ShadowRegisters : Prop :=
  ∀ (s : State) (req : Requester) (p : Page) (off : Nat) (w : Word) (x : Primary),
    s.onBus req = true → req.reaches p = true → p.exists = true → s.dir.published.contains p = false →
    bit (s.reg p 0x008) 3 = false → critReg p off = true → s.primary req p = some x → x.off = off →
    ¬(p = .lcc ∧ off = 0x124) →
    (s.stamp ≤ x.since + 100000 → w = ~~~x.value →
      (rwsMask p off ≠ 0 →
        exec (.shadowComplement req p off w) s = .next ((s.dropPrimary req p).stage p off (x.value &&& rwsMask p off))) ∧
      (rwsMask p off = 0 → off = 0x008 →
        exec (.shadowComplement req p off w) s = .next (((s.dropPrimary req p).freshCopy p off).ctlWrite p x.value))) ∧
    (s.stamp ≤ x.since + 100000 → w ≠ ~~~x.value →
      exec (.shadowComplement req p off w) s = .next ((s.dropPrimary req p).shadowMismatch p off 1)) ∧
    (x.since + 100000 < s.stamp →
      exec (.shadowComplement req p off w) s =
        .next (((s.dropPrimary req p).shadowMismatch p off 2).shadowMismatch p off 2)) ∧
    exec (.shadowTimeout req p) s =
      .next ((({ s with stamp := Nat.max s.stamp (x.since + 100000) } : State).dropPrimary req p).shadowMismatch p off 2) ∧
    (∀ flip : Word, flip ≠ 0 → exec (.shadowCopyMismatch p off flip) s =
      .next (({ s with flips := Cells.put s.flips (p.key off) flip } : State).shadowMismatch p off 3))

/-- REGISTER_WRITE (R6, R7, R30, R38, R40): a 32-bit write puts the writable fields of a plain register in place and clears
the bits of a W1C field that are written 1; a write of a read-only register or at a wrong alignment is ignored with
`ERR.ACCESS`; a write outside a virtual function's own window changes nothing; 64 bits are two writes, the lower first. -/
def Sys2Proof.Claims.RegisterWrites : Prop :=
  ∀ (s : State) (req : Requester) (fn addr : Nat) (v : BitVec 64) (p : Page) (off : Nat),
    req.ofBar fn = true → fn < 256 → barPlace fn addr = .page p off → off < 0x400 → Claims.Writes s req p →
    (∀ d, addr % 4 = 0 → regDef p off = some d → d.crit = false → d.rws = 0 → d.writable req ≠ 0 → off ≠ 0x018 → off ≠ 0x020 →
      ownRule p off = false → s.gatedCommand req p off (v.truncate 32) = none →
      exec (.registerWrite req fn addr 4 v) s = .next (s.setReg p off (d.after req (s.reg p off) (v.truncate 32)))) ∧
    (∀ d, addr % 4 = 0 → regDef p off = some d → d.writable req = 0 →
      exec (.registerWrite req fn addr 4 v) s = .next (s.setErr p 0)) ∧
    (addr % 4 ≠ 0 → exec (.registerWrite req fn addr 4 v) s = .next (s.setErr p 0)) ∧
    (addr % 8 = 0 → exec (.registerWrite req fn addr 8 v) s =
      .next ((s.wordWrite req fn addr (v.truncate 32)).wordWrite req fn (addr + 4) ((v >>> 32).truncate 32))) ∧
    (∀ t size, t ≠ fn → exec (.registerWrite (.tenant t) fn addr size v) s = .next s)

/-- ID and VER are read-only in every page (R6, R33, R39): a write at either leaves both as they were. -/
def Sys2Proof.Claims.IdentityRegistersIgnoreWrites : Prop :=
  ∀ (s : State) (req : Requester) (fn addr : Nat) (v : BitVec 64) (p : Page) (off : Nat), off = 0 ∨ off = 4 →
    barPlace fn addr = .page p off →
    ∃ t, exec (.registerWrite req fn addr 4 v) s = .next t ∧ t.reg p 0 = s.reg p 0 ∧ t.reg p 4 = s.reg p 4

/-- DMA_READ_FAILURE (R511, R512): a descriptor fetch puts its queue in error with cause 3, an operation's data completes it
as DMA_FAULT, a pack ends its load with result 8, an ownership blob makes its command ABORTED; an error of an internal memory
stands until it is read, or is corrected, or found, at once. -/
def Obligations.FailedHostReads : Prop :=
  ∀ (s : State) (what : DmaRead), ∃ u, exec (.dmaReadFailure what) s = .next u ∧ Claims.readFailed s what u

/-- ERRINJ sets the `ERR` bits written where it is allowed, and is ignored with `ERR.ACCESS` elsewhere; INTEN takes the
value written and signals a bit that it newly enables (R41). `ERR` bits latch (R41): those set before stay, an unmasked one
sets `INTSTS` bit 0, and no other register, no queue of commands and no byte of host memory changes. -/
def Obligations.ErrorBits : Prop := Claims.ErrorInjectionAndEnables ∧ Claims.ErrorBitsLatch

/-- REGISTER_WRITE (R6, R7, R30, R38, R40): a 32-bit write puts the writable fields of a plain register in place and clears
the bits of a W1C field that are written 1; a write of a read-only register or at a wrong alignment is ignored with
`ERR.ACCESS`; a write outside a virtual function's own window changes nothing; 64 bits are two writes, the lower first. ID
and VER are read-only in every page (R6, R33, R39): a write at either leaves both as they were. -/
def Obligations.OrdinaryWrites : Prop := Claims.RegisterWrites ∧ Claims.IdentityRegistersIgnoreWrites

/-- A critical write takes effect when its complement follows (R43): the pair leaves no primary behind and nothing else
changed before the value takes effect. The shadow of a critical register (R43, R44, R45): the complement of a waiting
primary write stages an RWS value or takes effect; another value, a complement that comes too late or none at all, and a
stored copy that differs are shadow mismatches. -/
def Obligations.CriticalRegisters : Prop := Claims.ComplementedPairTakesEffect ∧ Claims.ShadowRegisters

namespace Sys2Proof.Claims
open Sys2Proof.Machine

/-! ## Transactions -/

/-- The state with its active commit replaced. -/
def withCommit (s : State) (c : Commit) : State := { s with txn := { s.txn with active := some c } }

end Sys2Proof.Claims

/-- A write of an RWS register in an open transaction is staged, and nothing in force changes (R46, R47); the staged count is
limited (R48); outside a transaction the write is ignored with `ERR.NOTXN`. -/
def Sys2Proof.Claims.StagedWrites : Prop :=
  ∀ (s : State) (req : Requester) (p : Page) (off : Nat) (v : Word), Claims.Writes s req p → rwsMask p off ≠ 0 → critReg p off = false →
    let x := s.txnOf p.scope
    (x.phase = .opened → x.staged.length + x.overlays.length < p.scope.limit →
      exec (.rwsWrite req p off v) s =
        .next (s.setTxn p.scope { x with staged := Cells.put x.staged (p.key off) (v &&& rwsMask p off) })) ∧
    (x.phase = .opened → p.scope.limit ≤ x.staged.length + x.overlays.length → (∀ q ∈ x.staged, q.1 ≠ p.key off) →
      exec (.rwsWrite req p off v) s = .next (s.setTxn p.scope { x with overflow := true })) ∧
    (x.phase ≠ .opened → exec (.rwsWrite req p off v) s = .next (s.setErr p 1))

/-- TXN_BEGIN, TXN_COMMIT, TXN_ABORT and the timeout (R49, R51, R52 step 1, R48, R56). -/
def Sys2Proof.Claims.TransactionCommands : Prop :=
  ∀ (s : State) (req : Requester) (sc : Scope) (v : Word), Claims.Writes s req sc.page →
    let x := s.txnOf sc
    let done (r : TxnResult) : State :=
      s.setTxn sc { x with phase := .idle, id := 0, result := r, overflow := false, staged := [], overlays := [] }
    (bit v 0 = true → x.phase = .idle → s.zdp.prep = none → (sc = .device → s.hfCommitting = false) →
      exec (.txnBegin req sc v) s = .next (s.setTxn sc
        { phase := .opened, id := (x.lastId + 1) % 2 ^ 32, lastId := (x.lastId + 1) % 2 ^ 32, errAddr := x.errAddr,
          openedAt := s.stamp })) ∧
    (bit v 0 = true → x.phase ≠ .idle → exec (.txnBegin req sc v) s = .next (s.setTxn sc { x with result := .busy })) ∧
    (x.phase = .opened → v.toNat = x.id →
      let expiry := x.openedAt + Nat.max 100 (s.regField sc.page 0x114 23 0) * 1000
      (s.stamp < expiry →
        (s.isWorker = false → x.overflow = false →
          exec (.txnCommit req sc v) s = .next (s.setTxn sc { x with phase := .committing })) ∧
        (s.isWorker = false → x.overflow = true → exec (.txnCommit req sc v) s = .next (done .overflow)) ∧
        (s.isWorker = true → exec (.txnCommit req sc v) s = .next (done .member))) ∧
      (expiry ≤ s.stamp → exec (.txnCommit req sc v) s = .next (done .timeout)) ∧
      exec (.txnAbort req sc v) s = .next (done .aborted)) ∧
    (x.phase = .opened → v.toNat ≠ x.id → exec (.txnAbort req sc v) s = .next (s.setTxn sc { x with result := .idMismatch })) ∧
    (x.phase ≠ .opened → exec (.txnCommit req sc v) s = .next (s.setErr sc.page 0)) ∧
    (x.phase = .opened → exec (.txnTimeout sc) s =
      .next ((s.advanceTo (x.openedAt + Nat.max 100 (s.regField sc.page 0x114 23 0) * 1000)).setTxn sc
        { x with phase := .idle, id := 0, result := .timeout, overflow := false, staged := [], overlays := [] })) ∧
    exec (.txnEpochRead req sc) s = .next (s.latch req (sc.page.key 0x118)
      (BitVec.ofNat 32 s.txn.epoch :: BitVec.ofNat 32 (s.txn.epoch / 2 ^ 32) :: digestWords s.txn.digest))

/-- The steps of a commit (R52, R55): validation, the stamp E, which nothing else shares, with dispatch paused, the pages' values in force, the last
acknowledgement with dispatch resumed and the EPOCH record, and the new epoch with its digest. -/
def Obligations.CommitSteps : Prop :=
  ∀ (s : State) (c : Commit), s.avs.tripped = false → s.zdp.prep = none → s.isManager = false → s.isWorker = false →
    (∀ sc, (s.txnOf sc).phase = .committing → s.txn.active = none → s.txn.waiting = [] →
      s.invalidAt (s.txnOf sc).staged = none →
      exec (.commitValidationDone sc) s = .next (Claims.withCommit s
        { of := .scope sc, stage := .awaitQuiesce, staged := (s.txnOf sc).staged, overlays := (s.txnOf sc).overlays })) ∧
    (∀ sc a, (s.txnOf sc).phase = .committing → s.txn.active = none → s.txn.waiting = [] →
      s.invalidAt (s.txnOf sc).staged = some a → s.breaksLock (s.txnOf sc).staged = false →
      ∃ t, exec (.commitValidationDone sc) s = .next t ∧ (t.txnOf sc).phase = .idle ∧ (t.txnOf sc).result = .invalid ∧
        (t.txnOf sc).errAddr = a ∧ (t.txnOf sc).staged = [] ∧ t.regs = s.regs) ∧
    (s.txn.active = some c →
      (∀ sc, c.of = .scope sc → c.stage = .awaitQuiesce → c.supplied = false →
        let u := s.nextStamp
        exec .commitQuiesce s = .next (Claims.withCommit
          { u with tally := { u.tally with paused := true, epochStamp := u.stamp } }
          { c with stage := .applying, stampE := u.stamp, unacked := pagesOf c.staged
                   olds := c.staged.map fun q => (q.1, Cells.get regDefault s.regs q.1), epoch := s.txn.epoch + 1 })) ∧
      (∀ p, c.stage = .applying → p ∈ c.unacked →
        let mine := c.staged.filter fun q => keyPage q.1 == some p
        exec (.pageApply p) s = .next (((Claims.withCommit
          { s with regs := mine.foldl (fun m q => Cells.set regDefault m q.1 q.2) s.regs
                   flips := s.flips.filter fun q => !mine.any fun m => m.1 == q.1 }
          { c with unacked := c.unacked.filter fun u => u != p }).notePers s.persValue).pageInForce p)) ∧
      (∀ sc, c.of = .scope sc → c.stage = .applying → c.unacked = [] → c.overlays = [] → touchesOwners c = false →
        exec .commitLastAck s = .next (((((Claims.withCommit { s with tally := { s.tally with paused := false } }
            { c with stage := .awaitDigest }).clearStaged c.of).settleDirectory).pageInForce .cny) |>.logEvent 0x0002 0
          (match sc with | .tenant t => t | .device => 0xFF) 0x0018
          (match sc with | .tenant t => t | .device => 0) c.of.code c.stampE c.epoch)) ∧
      (∀ sc, c.of = .scope sc → c.stage = .awaitDigest → c.supplied = false → s.zdp.quarantined = false → s.txn.waiting = [] →
        ∃ t, exec .digestPublish s = .next t ∧ t.txn.epoch = c.epoch ∧ t.txn.active = none ∧
          (t.txnOf sc).phase = .idle ∧ (t.txnOf sc).result = .committed ∧ bit (t.reg sc.page 0x01C) 16 = true)) ∧
    (∀ why l r, s.txn.hfQueue = (why, l) :: r → (s.txnOf .device).phase = .idle → s.txn.active = none → s.txn.waiting = [] →
      exec .headframeCommit s = .next (Claims.withCommit { s with txn := { s.txn with hfQueue := r } }
        { of := .headframe why, stage := .awaitQuiesce, staged := l }))

/-- A write of an RWS register in an open transaction is staged, and nothing in force changes (R46, R47); the staged count
is limited (R48); outside a transaction the write is ignored with `ERR.NOTXN`. TXN_BEGIN, TXN_COMMIT, TXN_ABORT and the
timeout (R49, R51, R52 step 1, R48, R56). -/
def Obligations.Transactions : Prop := Claims.StagedWrites ∧ Claims.TransactionCommands

namespace Sys2Proof.Claims
open Sys2Proof.Machine

/-! ## Queues and entries -/

/-- Queue work reaches function `t`: configuration is ready, the function exists, no reset of it is under way, and Adit's
clock runs. -/
def Serves (s : State) (t q : Nat) : Prop :=
  t < 256 ∧ q < 64 ∧ s.cfgReady = true ∧ (s.fn t).enabled = true ∧ (s.fn t).phase = .active ∧ s.avs.tripped = false

/-- How far pointer `p` lies ahead of a queue's head. -/
def ahead (x : Sq) (p : Nat) : Nat := (p + queueSize x.cfg - x.head) % queueSize x.cfg

/-- The descriptor at an SQ's head, and the entry that its fetch makes (R74, R82). -/
def headDesc (s : State) (t q : Nat) : Desc :=
  descOf (s.hostRead ((s.sq t q).baseHi.toNat * 2 ^ 32 + (s.sq t q).baseLo.toNat + 64 * (s.sq t q).head) 64)
def fetched (s : State) (t q : Nat) : State :=
  let x := s.sq t q
  let d := headDesc s t q
  let u := s.setSq t q { x with head := (x.head + 1) % queueSize x.cfg, seq := (x.seq + 1) % 2 ^ 32, fetched := x.fetched + 1 }
  let u := u.setEntry (freeKey 0 s.tally.entries)
    { tenant := t, sq := q, cq := field x.cfg 13 8, sub := x.fetched, order := s.tally.nextOrder, desc := d
      admitted := s.stamp, deadline := u.deadlineOf t q d ((opKind d.opcode).getD .nop)
      covers := if opKind d.opcode = some .fence then u.fenceCover t q x.fetched d.auxAddr else [] }
  { u with tally := { u.tally with
    nextOrder := s.tally.nextOrder + 1, occPeak := Nat.max s.tally.occPeak u.tally.entries.length } }

end Sys2Proof.Claims

/-- Enabling, disabling and aborting queues (R65, R92, R93): an SQ starts empty with SEQ 0 where its size is valid, its CQ
enabled and none of its operations are admitted; a CQ starts empty with phase 1 where its size is valid and its base was
written; an invalid enable is ignored with `ERR.ACCESS`. -/
def Sys2Proof.Claims.QueueControls : Prop :=
  ∀ (s : State) (req : Requester) (t q : Nat), Claims.Serves s t q → Claims.Writes s req (.tnt t) → s.qsel t = q →
    let x := s.sq t q
    let c := s.cq t q
    (x.en = false → sizeOk x.cfg = true → (s.cq t (field x.cfg 13 8)).en = true → s.sqActive t q = 0 →
      exec (.sqEnable req t) s = .next ((s.setSq t q { x with
        en := true, head := 0, tail := 0, seq := 0, error := false, errCause := 0, fetched := 0, submitted := 0
        abortTo := 0, bells := [] }).uncover t q)) ∧
    (x.en = false → sizeOk x.cfg = false ∨ (s.cq t (field x.cfg 13 8)).en = false ∨ s.sqActive t q ≠ 0 →
      exec (.sqEnable req t) s = .next (s.setErr (.tnt t) 0)) ∧
    (x.en = true → exec (.sqDisable req t) s = .next ((s.setSq t q { x with en := false }).dropCover t q x.fetched)) ∧
    (x.en = true → exec (.sqAbort req t) s = .next (((s.setSq t q { x with abortTo := x.submitted }).forEntries
      ((s.setSq t q { x with abortTo := x.submitted }).entriesWhere fun y => y.tenant == t && y.sq == q) fun u e =>
        u.endWith e .abortedHost true).nextStamp)) ∧
    (c.en = false → sizeOk c.cfg = true → c.baseWritten = true → c.waiting = [] →
      exec (.cqEnable req t) s = .next (s.setCq t q { c with
        en := true, tail := 0, hostHead := 0, phase := true, error := false, errCause := 0 })) ∧
    (c.en = true → c.error = false → c.waiting = [] →
      (∀ r < 64, (s.sq t r).en = true → field (s.sq t r).cfg 13 8 ≠ q) →
      exec (.cqDisable req t) s = .next (s.setCq t q { c with en := false })) ∧
    (c.en = true → c.error = false → (∃ r < 64, (s.sq t r).en = true ∧ field (s.sq t r).cfg 13 8 = q) →
      exec (.cqDisable req t) s = .next (s.setErr (.tnt t) 0)) ∧
    (c.en = true → c.error = true → exec (.cqDisable req t) s =
      .next ((s.setCq t q { c with en := false, waiting := [] }).forEntries c.waiting fun u e => u.freeEntry e))

/-- Doorbells (R67): a tail within the queue and not behind the tail is taken; one outside the queue puts it in error with
cause 1, one that goes backwards with cause 2; a bell of a disabled queue sets `ERR` bit 18; a head bell frees slots. -/
def Sys2Proof.Claims.Doorbells : Prop :=
  ∀ (s : State) (t q : Nat) (v : Word), Claims.Serves s t q →
    let x := s.sq t q
    let c := s.cq t q
    let p := field v 15 0
    (x.en = true → x.error = false → p < queueSize x.cfg → Claims.ahead x x.tail ≤ Claims.ahead x p →
      ∃ u, exec (.sqTailDoorbell t q v) s = .next u ∧ (u.sq t q).tail = p ∧
        (u.sq t q).submitted = x.submitted + (Claims.ahead x p - Claims.ahead x x.tail) ∧ (u.sq t q).head = x.head ∧
        u.host = s.host ∧ u.regs = s.regs ∧ u.pending = s.pending ∧ u.tally.entries = s.tally.entries) ∧
    (x.en = true → x.error = false → queueSize x.cfg ≤ p → exec (.sqTailDoorbell t q v) s = .next (s.sqFail t q 1)) ∧
    (x.en = true → x.error = false → p < queueSize x.cfg → Claims.ahead x p < Claims.ahead x x.tail →
      exec (.sqTailDoorbell t q v) s = .next (s.sqFail t q 2)) ∧
    (x.en = false → exec (.sqTailDoorbell t q v) s = .next (s.setErr (.tnt t) 18)) ∧
    (c.en = true → c.error = false → p < queueSize c.cfg → c.waiting = [] →
      (p + queueSize c.cfg - c.hostHead) % queueSize c.cfg ≤ (c.tail + queueSize c.cfg - c.hostHead) % queueSize c.cfg →
      exec (.cqHeadDoorbell t q v) s = .next (s.setCq t q { c with hostHead := p })) ∧
    (c.en = false → exec (.cqHeadDoorbell t q v) s = .next (s.setErr (.tnt t) 18)) ∧
    (c.en = true → c.error = false → queueSize c.cfg ≤ p → ∃ u, exec (.cqHeadDoorbell t q v) s = .next u ∧
      (u.cq t q).error = true ∧ (u.cq t q).errCause = 1 ∧ ∀ r < 64, field (s.sq t r).cfg 13 8 = q → (u.sq t r).error = true)

/-- A descriptor fetch (R74, R77, R78, R92): HEAD, SEQ and the entry advance; the first failing check completes the entry at
once, an aborted descriptor ends as ABORTED_HOST, one with lists waits for them, any other is admitted. -/
def Obligations.DescriptorFetch : Prop :=
  ∀ (s : State) (t q : Nat), Claims.Serves s t q → s.mayFetch t q = true →
    let x := s.sq t q
    let d := Claims.headDesc s t q
    let e := freeKey 0 s.tally.entries
    let u := Claims.fetched s t q
    let seq := if bit x.cfg 19 then some x.seq else none
    (x.fetched < x.abortTo → exec (.descriptorFetch t q) s = .next (u.finish e .abortedHost)) ∧
    (x.abortTo ≤ x.fetched → ∀ st, u.checksBefore t d seq = .error st →
      exec (.descriptorFetch t q) s = .next (u.finish e st)) ∧
    (x.abortTo ≤ x.fetched → ∀ k, u.checksBefore t d seq = .ok k →
      (d.sgl = true → d.inLen ≠ 0 ∨ d.outCap ≠ 0 → exec (.descriptorFetch t q) s = .next u) ∧
      (d.sgl = false ∨ (d.inLen = 0 ∧ d.outCap = 0) → exec (.descriptorFetch t q) s = .next (u.admitEntry e))) ∧
    (∀ f y, s.entry f = some y → y.state = .queued → y.sglDone = false → y.parent = none →
      (y.spilled.isSome = true ∨ (s.fn y.tenant).bme = true → exec (.sglFetch f) s = .next (s.admitEntry f)) ∧
      (y.spilled = none → (s.fn y.tenant).bme = false → exec (.sglFetch f) s = .next (s.finish f .dmaFault))) ∧
    exec (.admissionResume t) s =
      .next ((s.entriesWhere fun y => y.tenant == t && (y.part != 0 || !y.again.isEmpty)).foldl (fun u f => u.startChunks f) s)

/-- Bus mastering and MSI-X (R61, R101): with Bus Master Enable and the mask cleared, the messages that the PBA holds go; a
clear of Bus Master Enable puts every queue of the function in error with cause 4 and discards its operations' outcomes. -/
def Obligations.BusMasteringAndVectors : Prop :=
  ∀ (s : State) (t : Nat), s.cfgReady = true → (s.fn t).enabled = true → s.avs.tripped = false →
    let f := s.fn t
    let sent (g : Fn) : Fn :=
      { g with pba := g.pba.filter (fun v => !g.unmasked.contains v)
               sent := (g.pba.filter fun v => g.unmasked.contains v).foldl (fun m v => bumpAt m v 1) g.sent }
    (f.fnMask = false → (exec (.busMasterEnableSet t) s = .next ((s.setFn t { f with bme := true }).setFn t (sent { f with bme := true })))) ∧
    (∀ v ≤ 64, f.bme = true → f.fnMask = false →
      exec (.msixUnmask t v) s = .next ((s.setFn t { f with unmasked := withOne f.unmasked v }).setFn t
        (sent { f with unmasked := withOne f.unmasked v }))) ∧
    (f.bme = true → Cells.risingFrom 0 s.tally.entries = true → (∀ p ∈ s.tally.entries, p.2.tenant = t → p.2.decided = false) →
      ∃ u, exec (.busMasterEnableClear t) s = .next u ∧ (u.fn t).bme = false ∧
        (∀ q < 64, (u.sq t q).error = true ∧ (u.sq t q).errCause = 4 ∧ (u.cq t q).error = true ∧ (u.cq t q).errCause = 4) ∧
        (∀ e x, s.entry e = some x → u.entry e = some { x with discard := x.discard || x.tenant == t }) ∧ u.host = s.host)

/-- The timed steps of Tally (R83, R88, R102, R122, R254): each raises the stamp to its deadline, and the entry ends. -/
def Sys2Proof.Claims.TimedCompletions : Prop :=
  ∀ (s : State) (e : Nat) (x : Entry), s.avs.tripped = false → s.entry e = some x →
    (x.state = .waitEntropy → x.waitAt < x.deadline →
      exec (.entropyWaitTimeout e) s = .next ((s.advanceTo x.waitAt).finish e .noEntropy)) ∧
    (x.state = .hold →
      exec (.holdReleaseTime e) s = .next ((s.advanceTo x.releaseAt).finish e x.status)) ∧
    (x.state = .dispatched → x.stopping = none → x.await = .eqt →
      exec (.eqtRelease e) s = .next (((s.advanceTo x.releaseAt).setEntry e
        { x with await := .none }).commitOut e x.output x.info)) ∧
    (x.state = .queued ∨ x.state = .waitEntropy →
      exec (.deadlineExpiry e) s = .next (((s.advanceTo x.deadline).finish e .deadlineExpired).nextStamp)) ∧
    (x.state = .hold ∨ x.state = .committed → exec (.deadlineExpiry e) s = .next s) ∧
    (∀ t q, t < 256 → q < 64 → bit (s.cq t q).irq 0 = true → field (s.cq t q).irq 31 16 ≠ 0 → (s.cq t q).counted ≠ 0 →
      exec (.cqIrqTimer t q) s = .next ((s.advanceTo ((s.cq t q).firstCounted + field (s.cq t q).irq 31 16 * 1000)).raiseCq t q))

/-- Stops (R339): an acknowledged stop ends the operation as its cause says; an engine that does not acknowledge is reset,
counted, recorded and tested, and one whose test fails does not serve again. -/
def Sys2Proof.Claims.EngineStops : Prop :=
  ∀ (s : State), s.avs.tripped = false →
    (∀ e x n f w how, s.entry e = some x → x.target = .stope n f w → x.stopping = some how → how ≠ .requeue →
      exec (.engineStopAck e) s = .next (s.endStopped e how)) ∧
    (∀ n i e x, n < 64 → i < 16 → (s.eng n i).mode = 5 → (s.eng n i).run = some e → s.entry e = some x →
      x.stopping.isSome = true → s.draining (.stp n) = false → ∃ t, exec (.engineStopTimeout n i) s = .next t ∧
        (∀ j, j < 16 → j ≠ i → (s.eng n j).run ≠ some e ∨ t.eng n j = s.eng n j) ∧ (t.eng n i).run = none ∧
        (t.eng n i).mode = 8 ∧ (t.eng n i).resets = (s.eng n i).resets + 1) ∧
    (∀ n i pass, n < 64 → i < 16 → (s.eng n i).mode = 8 →
      exec (.engineSelftestDone n i pass) s = .next (s.setEng n i { s.eng n i with mode := 0, dead := !pass })) ∧
    (∀ n i pass, ¬(n < 64 ∧ i < 16) → exec (.engineSelftestDone n i pass) s = .fault .noSuchUnit)

/-- Family 0xF (R90 to R93): NOP completes with OK; a FENCE completes once all it covers have their records; ABORT_TAG ends the
tenant's earlier operations of the tag and reports how many. -/
def Obligations.QueueOperations : Prop :=
  ∀ (s : State) (e : Nat) (x : Entry), s.avs.tripped = false →
    (s.running e .nop = some x → exec (.nopOpcode e) s = .next (s.commitOut e [] 0)) ∧
    (s.entry e = some x → x.state = .queued → x.sglDone = true → x.desc.kind = some .fence → s.dispatchHeld = false → s.fenceFree x = true →
      (∀ c ∈ x.covers, c.2 ≤ (s.sq x.tenant c.1).fetched ∧ ∀ p ∈ s.tally.entries, p.2.tenant = x.tenant → p.2.sq = c.1 →
        p.2.parent = none → p.2.sub < c.2 → p.2.order = x.order) →
      exec (.fence e) s = .next (s.commitOut e [] 0)) ∧
    (s.entry e = some x → x.state = .queued → x.sglDone = true → x.desc.kind = some .abortTag →
      exec (.abortTag e) s = .next
        (let hit := s.entriesWhere fun y => y.tenant == x.tenant && y.desc.tag == x.desc.auxAddr &&
            decide (y.order < x.order) && y.abortable
         ((hit.foldl (fun s f => s.endWith f .abortedHost true) s).commitOut e [] hit.length).nextStamp))

/-- Sluice (R118, R119, R281, R283): a free channel goes to the urgent, then the oldest request, whose auxiliary buffer is read
first; a channel that has hashed an input
hands the digest to its operation; `SLC_RESV` is Headframe's alone. -/
def Obligations.SluiceChannels : Prop :=
  ∀ (s : State), s.avs.tripped = false →
    (∀ c e x k, s.freeChannel = some c → s.nextChannel = some e → s.entry e = some x → x.desc.kind = some k →
      (x.state = .dispatched → exec .sluiceChannelGrant s = .next (s.setEntry e { x with sluice := .hashing c })) ∧
      (x.state ≠ .dispatched → s.dmaOk x = true ∨ x.desc.auxLen = 0 →
        (s.sluiceFinding k x (s.auxOf x) = none →
          exec .sluiceChannelGrant s = .next (s.setEntry e { x with sluice := .hashing c, aux := s.auxOf x })) ∧
        (∀ st, s.sluiceFinding k x (s.auxOf x) = some st →
          (k ≠ .dsaSign → k ≠ .compSign → exec .sluiceChannelGrant s = .next (s.finish e st)) ∧
          (k = .dsaSign ∨ k = .compSign → exec .sluiceChannelGrant s =
            .next (s.setEntry e { x with sluice := .hashed, aux := s.auxOf x, lenFault := true }))))) ∧
    (∀ e x k c, s.entry e = some x → x.sluice = .hashing c → x.desc.kind = some k → s.dmaOk x = true ∨ x.desc.inLen = 0 →
      (x.state ≠ .dispatched → exec (.sluiceHashDone e) s =
        .next (s.setEntry e { x with sluice := .hashed, digest := s.sluiceDigest k x x.aux (s.inputOf x) })) ∧
      (∀ r, x.state = .dispatched → s.run e = some r → r.handed ≠ [] → exec (.sluiceHashDone e) s = .next (s.setEntry e
        { x with sluice := .hashed, digest := fit 64 (Config.prim (.handOff x.desc.opcode) [r.handed, s.inputOf x]) })) ∧
      (x.state = .dispatched → s.run e = none →
        exec (.sluiceHashDone e) s = .next (s.setEntry e { x with sluice := .hashed }))) ∧
    (∀ v, Claims.Writes s .headframe .slc → exec (.slcResvWrite .headframe v) s = .next (s.setReg .slc 0x10C (v &&& 1))) ∧
    (∀ v, Claims.Writes s (.tenant 0) .slc → exec (.slcResvWrite (.tenant 0) v) s = .next (s.setErr .slc 0))

/-- A completion record (R79): TAG, status code, SQ, byte count, stamp, INFO, SQ head and phase, each at its place in 32
bytes. -/
def Sys2Proof.Claims.CompletionRecordLayout : Prop :=
  ∀ (x : Entry) (head : Nat) (phase : Bool),
    let r := x.record head phase
    r.length = 32 ∧ leField r 0 8 = x.desc.tag % 2 ^ 64 ∧ leField r 8 2 = x.status.code ∧ leField r 10 2 = x.sq % 2 ^ 16 ∧
    leField r 12 4 = x.recordBytes % 2 ^ 32 ∧ leField r 16 8 = x.stamp % 2 ^ 64 ∧ leField r 24 4 = x.recordInfo % 2 ^ 32 ∧
    leField r 28 2 = head % 2 ^ 16 ∧ leField r 30 1 = (if phase then 1 else 0) ∧ leField r 31 1 = 0

/-- A record goes to the slot TAIL of its CQ (R66, R69): its 32 bytes lie there, every other byte of host memory is as it was,
TAIL advances, and the entry is free. -/
def Sys2Proof.Claims.RecordIsWritten : Prop :=
  ∀ (s : State) (e : Nat) (x : Entry), s.entry e = some x →
    let c := s.cq x.tenant x.cq
    let a := c.baseHi.toNat * 2 ^ 32 + c.baseLo.toNat + 32 * c.tail
    let t := s.writeRecord e x
    t.hostRead a 32 = x.record (s.sq x.tenant x.sq).head c.phase ∧
    (∀ b, b < a ∨ a + 32 ≤ b → Cells.get byte0 t.host b = Cells.get byte0 s.host b) ∧
    (t.cq x.tenant x.cq).tail = (c.tail + 1) % queueSize c.cfg ∧ t.entry e = none ∧
    (∀ f, f ≠ e → t.entry f = s.entry f) ∧ t.lode = s.lode ∧ t.engs = s.engs ∧ t.pending = s.pending

/-- An operation that commits with output (R12, R69, R99): the output lies at OUT_ADDR, the record in its CQ slot, and no other
byte of host memory has changed. Output above OUT_CAP is not written: OUTPUT_TOO_SMALL reports the size (R80, R385). -/
def Sys2Proof.Claims.OutputIsWritten : Prop :=
  ∀ (s : State) (e : Nat) (x : Entry) (out : Bytes) (info : Nat),
    s.entry e = some x → x.state = .dispatched → x.parent = none → x.spilled = none → x.discard = false → (s.fn x.tenant).bme = true →
    (s.cq x.tenant x.cq).waiting = [] → (s.cq x.tenant x.cq).open = true →
    let c := s.cq x.tenant x.cq
    let a := c.baseHi.toNat * 2 ^ 32 + c.baseLo.toNat + 32 * c.tail
    let t := s.commitOut e out info
    (out.length ≤ x.desc.outCap → x.desc.sgl = false → x.desc.outAddr + out.length ≤ a ∨ a + 32 ≤ x.desc.outAddr →
      t.hostRead x.desc.outAddr out.length = out ∧
      leField (t.hostRead a 32) 8 2 = 0x0000 ∧ leField (t.hostRead a 32) 12 4 = out.length % 2 ^ 32 ∧
      (∀ b, (b < a ∨ a + 32 ≤ b) → (b < x.desc.outAddr ∨ x.desc.outAddr + out.length ≤ b) →
        Cells.get byte0 t.host b = Cells.get byte0 s.host b)) ∧
    (out.length ≤ x.desc.outCap → x.desc.sgl = true →
      ∀ b, (b < a ∨ a + 32 ≤ b) → (∀ p ∈ x.outList, b < p.1 ∨ p.1 + p.2 ≤ b) →
        Cells.get byte0 t.host b = Cells.get byte0 s.host b) ∧
    (x.desc.outCap < out.length →
      leField (t.hostRead a 32) 8 2 = 0x0106 ∧ leField (t.hostRead a 32) 12 4 = out.length % 2 ^ 32 ∧
      (∀ b, b < a ∨ a + 32 ≤ b → Cells.get byte0 t.host b = Cells.get byte0 s.host b))

/-- A completion record (R79): TAG, status code, SQ, byte count, stamp, INFO, SQ head and phase, each at its place in 32
bytes. A record goes to the slot TAIL of its CQ (R66, R69): its 32 bytes lie there, every other byte of host memory is as it
was, TAIL advances, and the entry is free. An operation that commits with output (R12, R69, R99): the output lies at
OUT_ADDR, the record in its CQ slot, and no other byte of host memory has changed. Output above OUT_CAP is not written:
OUTPUT_TOO_SMALL reports the size (R80, R385). -/
def Obligations.RecordsAndOutput : Prop := Claims.CompletionRecordLayout ∧ Claims.RecordIsWritten ∧ Claims.OutputIsWritten

/-- The timed steps of Tally (R83, R88, R102, R122, R254): each raises the stamp to its deadline, and the entry ends. Stops
(R339): an acknowledged stop ends the operation as its cause says; an engine that does not acknowledge is reset, counted,
recorded and tested, and one whose test fails does not serve again. -/
def Obligations.TimedEnds : Prop := Claims.TimedCompletions ∧ Claims.EngineStops

/-- Enabling, disabling and aborting queues (R65, R92, R93): an SQ starts empty with SEQ 0 where its size is valid, its CQ
enabled and none of its operations are admitted; a CQ starts empty with phase 1 where its size is valid and its base was
written; an invalid enable is ignored with `ERR.ACCESS`. Doorbells (R67): a tail within the queue and not behind the tail is
taken; one outside the queue puts it in error with cause 1, one that goes backwards with cause 2; a bell of a disabled queue
sets `ERR` bit 18; a head bell frees slots. -/
def Obligations.QueueControlsAndDoorbells : Prop := Claims.QueueControls ∧ Claims.Doorbells

/-- Functions and tenants (R397, R404, R406, R407): an FLR disables the function's queues at stamp T and frees its entries; once
all its operations have stopped its pages are at their reset values; a removal starts the same way; virtual functions come and
go with SR-IOV. -/
def Obligations.FunctionsAndTenants : Prop :=
  ∀ (s : State) (t : Nat), s.avs.tripped = false → s.cfgReady = true → t < 256 →
    let f := s.fn t
    let off (u : State) (why : Nat) : Prop :=
      (u.fn t).phase = (if why = 1 then .removing else .flr) ∧ (u.fn t).flrStamp = s.stamp ∧ (u.fn t).flrWhy = why ∧
      (∀ q ∈ u.sqs, q.1 / 64 = t → q.2.en = false) ∧ (∀ q ∈ u.cqs, q.1 / 64 = t → q.2.en = false) ∧ u.host = s.host
    (f.enabled = true → f.phase = .active → (∀ q ∈ s.tally.entries, q.2.tenant ≠ t) →
      ∃ u, exec (.flr t) s = .next u ∧ off u 0) ∧
    (f.enabled = true → f.phase = .flr ∨ f.phase = .removing → exec (.flr t) s = .next s) ∧
    (f.enabled = true → f.phase = .flr → f.removeNext = false → (∀ q ∈ s.tally.entries, q.2.tenant ≠ t) →
      ∃ u, exec (.flrComplete t) s = .next u ∧ (u.fn t).phase = .active ∧ (u.fn t).flrCount = Nat.min 0xFFFF (f.flrCount + 1) ∧
        (∀ q ∈ u.sqs, q.1 / 64 ≠ t) ∧ (∀ q ∈ u.cqs, q.1 / 64 ≠ t) ∧ (∀ q ∈ u.ctxs, q.1 / 1024 ≠ t) ∧
        u.reg (.tnt t) 0x180 = s.reg (.tnt t) 0x180 ∧ u.reg (.tnt t) 0x100 = regDefault ((Page.tnt t).key 0x100)) ∧
    (∀ req v, Claims.Writes s req (.tntA t) → bit v 0 = true → t ≠ 0 →
      (f.phase = .active → (∀ q ∈ s.tally.entries, q.2.tenant ≠ t) →
        ∃ u, exec (.tntRemove req t v (~~~v)) s = .next u ∧ off u 1) ∧
      (f.phase = .flr → ∃ u, exec (.tntRemove req t v (~~~v)) s = .next u ∧ u.fn t = { f with removeNext := true })) ∧
    (∀ num, num ≤ s.vfLimit → ∃ u, exec (.vfEnable num) s = .next u ∧
      (∀ k, 1 ≤ k → k ≤ num → (u.fn k).enabled = true ∧ (u.fn k).phase ≠ .absent) ∧
      (∀ k, num < k → u.fn k = s.fn k) ∧ u.fn 0 = s.fn 0 ∧ u.regs = s.regs ∧ u.host = s.host) ∧
    (s.tally.entries = [] → ∃ u, exec .vfDisable s = .next u ∧ (∀ q ∈ s.fns, q.1 ≠ 0 → (u.fn q.1).enabled = false) ∧
      (u.fn 0).enabled = (s.fn 0).enabled)

/-- Work spill on a worker (R422 to R424, R195): WORK makes an entry that waits for its keys or runs, STOP abandons it, PURGE
drops the key and acknowledges a destruction, a grant gives the next sub-range; on the manager a RESULT commits, an eviction
report and an acknowledgement are noted, and a request is granted from below the frontier. -/
def Obligations.SpilledWork : Prop :=
  ∀ (s : State), s.avs.tripped = false →
    (∀ w : Work, s.isWorker = true → s.zdp.lostManager = none → Cells.risingFrom 0 s.tally.entries = true → ∃ t e x, exec (.zdpWork w) s = .next t ∧ t.entry e = some x ∧
      s.entry e = none ∧ x.spilled = some w.token ∧ x.tenant = 0 ∧ x.input = w.input ∧ x.aux = w.aux ∧ x.digest = w.digest ∧
      x.deadline = s.stamp + w.remaining ∧ x.desc.opcode = w.opcode ∧ (w.key = 0 → w.key2 = 0 → x.keyWait = false)) ∧
    (∀ token e x, s.entriesWhere (fun y => y.spilled == some token) = [e] → s.entry e = some x → x.state ≠ .dispatched →
      exec (.zdpStop token) s = .next (s.freeEntry e)) ∧
    (∀ h i, s.isWorker = true → s.cached h = some i →
      exec (.zdpPurge h true) s = .next ((s.destroyAll [i] 0 none false).send 0 { kind := .purgeAck, nums := [s.zdp.devid, h] }) ∧
      exec (.zdpPurge h false) s = .next (s.setObj i (s.obj i).gone)) ∧
    (∀ h lo hi (l : RangeKey) i f, s.isWorker = true → s.zdp.lostManager = none → s.cached h = some i → (s.obj i).stf = some f →
      let a := (s.obj i).attr.alg
      let g : Stateful := { f with levels := l.levels, leaseLog2 := l.log2, total := stfTotal (opFamily a) (opParam a) l.levels
                                   extending := false, frontier := hi }
      exec (.subrangeGrant h lo hi l) s = .next (s.setObj i { s.obj i with
        stf := some (if f.withdrawn = true ∨ f.subLeft = 0 then
          { g with next := lo, sub := some (lo, hi), subNext := none, withdrawn := false } else { g with subNext := some (lo, hi) }) })) ∧
    (∀ (h : Nat) (blob tk : Bytes), s.isWorker = true → s.zdp.lostManager = none → s.zdp.transportKey = some tk →
      s.cached h = none →
      let b := blobOf 0x81 blob
      let a := attrOf b.attrBytes
      b.headOk = true → b.format = 0x81 → attrValid b.attrBytes = true → b.matLen = materialLen a.kind a.alg a.keyLen →
      b.kekId = kekIdOf 1 { secret := tk } → Config.holds .gcmTag [tk, b.iv, keyAad b.aad h s.zdp.devid, b.body, b.tag] = true →
      let o := unwrapped a (fit b.matLen (Config.prim .gcmPt [tk, b.iv, keyAad b.aad h s.zdp.devid, b.body]))
      s.room 0 o.units true false false = true → (s.allocIndex).2.isSome = true →
      ∃ t i, exec (.keyMessage h blob) s = .next t ∧ (t.obj i).present = true ∧ (t.obj i).cacheOf = some h ∧
        (t.obj i).tenant = 0 ∧ (t.obj i).secret = o.secret ∧ (t.obj i).pub = o.pub) ∧
    (∀ d e x (a : Answer), s.isManager = true → s.resultFor d a.token = some e → s.entry e = some x → a.info ≠ 0xFFFFFFFF →
      opKind x.desc.opcode ≠ some .stfSign →
      (statusOf a.code = some .ok → a.created = false →
        exec (.zdpResult d a) s = .next ((s.setEntry e { x with info := a.info }).commitOut e a.output a.info)) ∧
      (statusOf a.code = some .verifyReject →
        exec (.zdpResult d a) s = .next ((s.setEntry e { x with info := a.info }).commitReject e a.info))) ∧
    (∀ d h, s.isManager = true → s.onWorker d = [] →
      exec (.cacheEvictionReport d h) s = .next (s.setMember d { s.member d with keys := without (s.member d).keys h })) ∧
    (∀ d h, exec (.purgeAck d h) s = .next { s with zdp := { s.zdp with
      purges := s.zdp.purges.filter fun q => !(q.1 == d && q.2.1 == h) } }) ∧
    (∀ d h, s.isManager = true → (s.member d).admitted = true → (s.member d).keys.contains h = true →
      (s.obj (handleIndex h)).present = true → (s.obj (handleIndex h)).handle (handleIndex h) = h →
      exec (.subrangeRequestReceipt d h) s = .next (s.grantRange d (handleIndex h) h))

namespace Sys2Proof.Claims
open Sys2Proof.Machine

/-- An entry may be dispatched to a target now: its turn has come, its key is neither stale nor found bad, and it needs no
randomness that is missing (R84, R85, R205, R230, R254, R259, R401, R512). -/
def Dispatchable (s : State) (e : Nat) (x : Entry) (k : OpKind) (target : Target) : Prop :=
  s.entry e = some x ∧ x.desc.kind = some k ∧ s.ready x k = true ∧ s.turnOf x target = true ∧ s.targetOk k x target = true ∧
  s.staleAtDispatch x k = false ∧ (takesKey k = true → s.flawedKeys x = []) ∧
  (s.wantsEntropy k x target = true → s.ent.phase ≠ 4 ∧ s.randomAt target = true) ∧
  (k = .stfSign → x.parent = none → s.stfAtDispatch e x = none)

/-- The inputs an entry still needs can be read: Sluice has read them, it has none, or its function is a bus master (R61). -/
def InputsReadable (s : State) (x : Entry) : Prop :=
  x.sluice = .hashed ∨ s.dmaOk x = true ∨ (x.desc.inLen = 0 ∧ x.desc.auxLen = 0)

/-- The material of an operation's keys that its kernel's secret window takes (R312). -/
def secretOf (x : Entry) (kn : Kernel) : Bytes :=
  ((match x.bound1 with | some b => b.secret | none => []) ++ (match x.bound2 with | some b => b.secret | none => [])).take
    (kn.winSec * 64)

end Sys2Proof.Claims

/-- DISPATCH (R10, R11, R84, R205, R289, R401): the entry is DISPATCHED at the present stamp and bound to its keys; a Stope
allocates an aligned engine set and a run, a Shaft that is free takes the job, each charging the tenant; an operation that
needs randomness ends as NO_ENTROPY while the source has failed and waits while it is not ready, one whose key went away as
HANDLE_STALE, one whose key is found bad as MEMORY_UNCORRECTABLE. -/
def Sys2Proof.Claims.Dispatch : Prop :=
  ∀ (s : State) (e : Nat) (x : Entry) (k : OpKind), s.avs.tripped = false →
    (∀ target, Claims.Dispatchable s e x k target → (∀ d, target ≠ .worker d) →
      ((∃ n first w, target = .stope n first w) ∨ Claims.InputsReadable s x) →
      ∃ t y, exec (.dispatch e target) s = .next t ∧ t.entry e = some y ∧ y.state = .dispatched ∧ y.dispatched = s.stamp ∧
        y.target = target ∧ y.started = false ∧ y.desc = x.desc ∧ y.admitted = x.admitted ∧ t.stamp = s.stamp ∧
        t.host = s.host ∧ t.pending = s.pending ∧
        (∀ n first w, target = .stope n first w → ∀ kn, s.kernelAt n x.desc.opcode x.tenant = some kn →
          (∃ r, t.run e = some r ∧ r.stope = n ∧ r.first = first ∧ r.wlog2 = w) ∧
          (∀ i, first ≤ i → i < first + 2 ^ w → (t.eng n i).run = some e ∧ (t.eng n i).mode = 1 ∧ (t.eng n i).idx = i - first) ∧
          (∀ m i, m < 64 → i < 16 → (m ≠ n ∨ i < first ∨ first + 2 ^ w ≤ i) → t.eng m i = s.eng m i) ∧
          (t.fn x.tenant).credit = ((s.takeTurn x target).fn x.tenant).credit - Int.ofNat (s.kernelCost kn)) ∧
        (∀ n, target = .shaft n → (s.shaft n).main = none → (s.shaft n).wipeMain = 0 →
          ∃ j, (t.shaft n).main = some j ∧ j.entry = e ∧ j.started = s.stamp)) ∧
    (∀ target, (∀ d, target ≠ .worker d) → s.entry e = some x → x.desc.kind = some k → s.ready x k = true → s.turnOf x target = true →
      s.targetOk k x target = true →
      (s.staleAtDispatch x k = true → exec (.dispatch e target) s = .next (s.finish e .handleStale)) ∧
      (s.staleAtDispatch x k = false → takesKey k = true → s.flawedKeys x ≠ [] →
        exec (.dispatch e target) s = .next (s.loseKeys e (s.flawedKeys x))) ∧
      (s.staleAtDispatch x k = false → (takesKey k = true → s.flawedKeys x = []) → s.wantsEntropy k x target = true →
        (s.ent.phase = 4 → exec (.dispatch e target) s = .next (s.finish e .noEntropy)) ∧
        (s.ent.phase ≠ 4 → s.randomAt target = false → ∃ t y, exec (.dispatch e target) s = .next t ∧ t.entry e = some y ∧
          y.state = .waitEntropy ∧ y.waitAt = s.stamp + s.regField .ent 0x110 15 0 * 1000000)))

/-- KERNEL_START (R226, R312, R313): the LODE secret window holds three planes whose exclusive or is the secret, the input
window lies in the kernel's layout, and the operation has started. -/
def Sys2Proof.Claims.KernelStart : Prop :=
  ∀ (s : State) (e : Nat) (x : Entry) (r : Run), s.avs.tripped = false → s.entry e = some x → s.run e = some r → x.live = true →
    x.started = false → Claims.InputsReadable s x →
    let sec := Claims.secretOf x r.kernel
    (sec = [] ∨ s.maskFresh.lode.maskGen = true →
    ∃ t y q, exec (.kernelStart e) s = .next t ∧ t.entry e = some y ∧ y.started = true ∧ t.run e = some q ∧
      let z : Entry := if x.sluice = .hashed then x else { x with aux := s.auxOf x, input := s.inputOf x }
      q.lsec = sec.length ∧ q.startStamp = s.stamp ∧ q.kernel = r.kernel ∧ q.stope = r.stope ∧
      (∀ i, i < sec.length → Cells.get byte0 q.sec i ^^^ Cells.get byte0 q.sec (sec.length + i) ^^^
        Cells.get byte0 q.sec (2 * sec.length + i) = sec[i]!) ∧
      q.input = (inputLayout r.kernel z.input z.aux z.digest).1 ∧ q.inStream = (inputLayout r.kernel z.input z.aux z.digest).2 ∧
      t.host = s.host ∧ t.engs = s.engs ∧ t.regs = s.regs) ∧
    (sec ≠ [] → s.maskFresh.lode.maskGen = false →
      exec (.kernelStart e) s = .next (((s.capture e).maskFresh).finish e .noEntropy))

/-- DISPATCH (R10, R11, R84, R205, R289, R401): the entry is DISPATCHED at the present stamp and bound to its keys; a Stope
allocates an aligned engine set and a run, a Shaft that is free takes the job, each charging the tenant; an operation that
needs randomness ends as NO_ENTROPY while the source has failed and waits while it is not ready, one whose key went away as
HANDLE_STALE, one whose key is found bad as MEMORY_UNCORRECTABLE. KERNEL_START
(R226, R312, R313): the LODE secret window holds three planes whose exclusive or is the secret, the input window lies in the
kernel's layout, and the operation has started. -/
def Obligations.DispatchAndStart : Prop := Claims.Dispatch ∧ Claims.KernelStart

namespace Sys2Proof.Claims
open Sys2Proof.Machine

/-- A generator's next request is `r`: no other of the generator comes before it, by class and then by arrival (R258). -/
def NextAt (s : State) (g : Nat) (r : DrbgReq) : Prop := nextReq g s.ent.queue = some r

/-- The queue without a request. -/
def served (s : State) (r : DrbgReq) : State := { s with ent := { s.ent with queue := s.ent.queue.erase r } }

end Sys2Proof.Claims

/-- Shafts (R291 to R300): a checkpoint counts and gives way to a waiting candidate unless the job is exclusive or the Shaft
drains; the end of a wipe resumes a suspended job and counts the time it yielded; a private RSA result that fails its check
is KERNEL_FAULT; a stop ends as its cause says; a Shaft serves once its test has passed. -/
def Sys2Proof.Claims.ShaftJobs : Prop :=
  ∀ (s : State) (n : Nat), s.avs.tripped = false → n < 8 →
    let h := s.shaft n
    (∀ m, h.main = some m → h.inner = none → h.wipeYield = 0 →
      let m1 : ShaftJob := { m with checkpoints := (m.checkpoints + 1) % 2 ^ 32 }
      (h.candidate = none → exec (.shaftCheckpoint n) s = .next (s.setShaft n { h with main := some m1 })) ∧
      (∀ e x, h.candidate = some e → s.entry e = some x → m.exclusive = false → s.draining (.shf n) = false →
        ∃ t j q, exec (.shaftCheckpoint n) s = .next t ∧ (t.shaft n).inner = some j ∧ j.entry = e ∧ j.started = s.stamp ∧
          (t.shaft n).candidate = none ∧ (t.shaft n).main = some q ∧ q.entry = m.entry ∧
          q.yields = Nat.min 0xFFFF (m.yields + 1) ∧ (t.shaft n).innerFrom = s.stamp ∧
          (t.shaft n).yieldTotal = Nat.min 0xFFFF (h.yieldTotal + 1) ∧ t.host = s.host ∧ t.lode = s.lode) ∧
      (∀ e x, h.candidate = some e → s.entry e = some x → m.exclusive = true ∨ s.draining (.shf n) = true →
        exec (.shaftCheckpoint n) s = .next (s.setShaft n { h with main := some m1 }))) ∧
    (∀ (inner pass : Bool) (j : ShaftJob) (x : Entry) (k : OpKind), (if inner then h.inner else h.main) = some j →
      s.running j.entry k = some x → x.desc.kind = some k →
      (j.kind = 1 → pass = false → ∃ t, exec (.shaftCommit n inner pass) s = .next t ∧
        t = ((((s.setErr (.shf n) 16).setInt (.shf n) 16).logEvent 0x000A 2 0xFF 0x0050 n 1 s.stamp n).finish j.entry .kernelFault)) ∧
      (j.kind ≠ 1 ∨ pass = true → k = .rsaSign → exec (.shaftCommit n inner pass) s = exec (.rsaSign j.entry) s) ∧
      (j.kind ≠ 1 ∨ pass = true →
        (k = .rsaDecrypt → exec (.shaftCommit n inner pass) s = exec (.rsaDecrypt j.entry) s) ∧
        (k = .rsaVerify → exec (.shaftCommit n inner pass) s = exec (.rsaVerify j.entry) s) ∧
        (k = .rsaEncrypt → exec (.shaftCommit n inner pass) s = exec (.rsaEncrypt j.entry) s) ∧
        (k = .rsaKeygen → exec (.shaftCommit n inner pass) s = exec (.rsaKeygen j.entry) s) ∧
        (k = .mceKeygen → exec (.shaftCommit n inner pass) s = exec (.mceKeygen j.entry) s) ∧
        (k = .keyReplace → exec (.shaftCommit n inner pass) s = exec (.keyReplace j.entry) s))) ∧
    (h.wipeAll = false → h.wipeYield ≠ 0 → s.draining (.shf n) = false →
      exec (.shaftWipeDone n true) s = .next (s.setShaft n { h with
        wipeYield := 0, main := h.main.map fun m => { m with yielded := m.yielded + (s.stamp - h.innerFrom) } })) ∧
    (h.wipeAll = false → h.wipeMain ≠ 0 → h.candidate = none → s.draining (.shf n) = false →
      exec (.shaftWipeDone n false) s = .next (s.setShaft n { h with wipeMain := 0 })) ∧
    (∀ e x how, s.entry e = some x → x.target = .shaft n → x.stopping = some how →
      exec (.shaftStopAck e) s = .next (s.endStopped e how) ∧
      ∃ u, exec (.shaftStopTimeout e) s = .next u ∧ u = ((s.advanceTo (x.stopAt + x.stopTo)).setErr (.shf n) 5).endStopped e how) ∧
    (h.test = 1 → s.hdf.eccPending.contains (64 + n) = false →
      exec (.shaftSelftestDone n true) s = .next (s.setShaft n { h with test := 2, wipeAll := false })) ∧
    (h.test = 1 → exec (.shaftSelftestDone n false) s =
      .next ((s.setShaft n { h with test := 3, wipeAll := false }).disableUnit (.shf n) 2))

/-- Units out of service and changing hands (R241, R402, R403, R512, R513): an unresponsive unit is DISABLED; the third threshold
of corrected errors since the last device reset disables a unit, an earlier one drains it for a block-level reset; a
drained Stope is cleared of its last owner's data and serves the new one. -/
def Sys2Proof.Claims.UnitsOutOfService : Prop :=
  ∀ (s : State) (n : Nat), s.avs.tripped = false →
    (n < 64 → s.outOfService (.stp n) = false →
      (∃ t, exec (.unitUnresponsive (.stp n)) s = .next t ∧ t.outOfService (.stp n) = true) ∧
      (s.hdf.eccPending.contains n = false → s.eccExceeded (.stope n) = true →
        (countAt s.hdf.eccResets n < 2 → s.stopeIdle n = false →
          exec (.eccThreshold (.stope n)) s = .next (({ s with hdf := { s.hdf with
            eccResets := bumpAt s.hdf.eccResets n 1, eccCount := s.hdf.eccCount.filter fun q => q.1 != n
            eccPending := s.hdf.eccPending ++ [n] } } : State).setReg (.stp n) 0x008
              (setBit (s.reg (.stp n) 0x008) 1))) ∧
        (2 ≤ countAt s.hdf.eccResets n → ∃ t, exec (.eccThreshold (.stope n)) s = .next t ∧
          t.outOfService (.stp n) = true ∧ countAt t.hdf.eccResets n = countAt s.hdf.eccResets n + 1))) ∧
    (n < 16 → s.outOfService .dgs = false → s.hdf.eccPending.contains (128 + n) = false → s.eccExceeded (.core n) = true →
      ∃ t, exec (.eccThreshold (.core n)) s = .next t ∧ countAt t.hdf.eccResets (128 + n) = countAt s.hdf.eccResets (128 + n) + 1 ∧
        (t.dgs.dead.contains n = true ↔ s.dgs.dead.contains n = true ∨ 2 ≤ countAt s.hdf.eccResets (128 + n))) ∧
    (∀ u, s.eccExceeded u = false → exec (.eccThreshold u) s = .next s) ∧
    (n < 64 → (s.stope n).handover = true → s.draining (.stp n) = true → s.stopeIdle n = true →
      s.stopeOwner n = (s.stope n).handTo →
      ∃ t, exec (.unitHandover (.stp n)) s = .next t ∧ (t.stope n).handover = false ∧ t.draining (.stp n) = false ∧
        (∀ i < 16, (t.eng n i).loc = []) ∧ (t.sampler n).entries = [] ∧ t.lode.objs = s.lode.objs ∧ t.host = s.host)

/-- The noise cells (R250 to R253, R259, R260): settled cells go to test and those without samples are excluded; four healthy
cells bring the source up, fewer start another attempt and, after the third, total failure; a cell that fails a continuous
test is excluded, and with fewer than four left the source has failed; a restart from FAILED starts over. -/
def Sys2Proof.Claims.EntropySource : Prop :=
  ∀ (s : State),
    let ready (t : State) : Prop := t.ent.phase = 2 ∨ t.ent.phase = 3
    let passes (v : Verdicts) (c : Nat) : Bool := (s.cell c).cstate == 2 || ((s.cell c).cstate == 1 &&
      (match v.find? fun p => p.cell == c with | some p => p.verdict.2.2.isNone | none => true))
    let good (v : Verdicts) : Nat := ((List.range 8).filter (passes v)).length
    ((s.ent.phase = 1 ∨ s.ent.phase = 5) → s.ent.stage = 0 → ∀ dead, ∃ t, exec (.entSettleDone dead) s = .next t ∧
      t.ent.stage = 1 ∧ t.stamp = Nat.max s.stamp (s.ent.since + 2500000) ∧
      (∀ c < 8, c ∉ dead → (t.cell c).cstate = 1) ∧
      (∀ c < 8, c ∈ dead → (t.cell c).cstate = 3 ∧ (t.cell c).cause = 4 ∧ (t.cell c).excl = true)) ∧
    (∀ failed, (s.ent.phase = 1 ∨ s.ent.phase = 5) → s.ent.stage = 1 → 4 ≤ good failed →
      ∃ t, exec (.entStartupTestDone failed) s = .next t ∧ ready t ∧ t.ent.central.live = true ∧ t.ent.attempt = 0 ∧
        bit (t.reg .ent 0x01C) 18 = true ∧ (∀ e x, s.entry e = some x → x.state = .waitEntropy →
          ∀ y, t.entry e = some y → y.state = .queued)) ∧
    (∀ failed, s.ent.phase = 1 → s.ent.stage = 1 → s.ent.attempt < 2 → good failed < 4 →
      ∃ t, exec (.entStartupTestDone failed) s = .next t ∧ t.ent.phase = 1 ∧ t.ent.stage = 2 ∧ t.ent.since = s.stamp) ∧
    (∀ failed, s.ent.stage = 1 → (s.ent.phase = 1 ∧ 2 ≤ s.ent.attempt) ∨ s.ent.phase = 5 → good failed < 4 →
      ∃ t, exec (.entStartupTestDone failed) s = .next t ∧ t.ent.phase = 4 ∧ t.ent.failStamp = s.stamp) ∧
    (s.ent.phase = 1 → s.ent.stage = 2 → ∃ t, exec .entStartupRetry s = .next t ∧
      t.stamp = Nat.max s.stamp (s.ent.since + 10000000) ∧ t.ent.phase = 1 ∧ t.ent.attempt = s.ent.attempt + 1 ∧
      t.ent.stage = 0 ∧ t.ent.since = t.stamp ∧ ∀ c < 8, t.cell c = { s.cell c with cstate := 1 }) ∧
    (∀ c (samples : List (BitVec 8)), c < 8 → (s.cell c).cstate = 2 →
      let r := healthRun (s.cell c).health (s.cell c).aptMax samples
      (r.2.2.2 = none → ∃ t, exec (.cellTestFail c samples) s = .next t ∧ (t.cell c).cstate = 2 ∧ (t.cell c).health = r.1 ∧
        (t.cell c).aptMax = r.2.1 ∧ t.ent.phase = s.ent.phase ∧ s.ent.pool <+: t.ent.pool) ∧
      (∀ cause, r.2.2.2 = some cause → (s.cell c).excl = false → ready s →
        ∃ t, exec (.cellTestFail c samples) s = .next t ∧ (t.cell c).cstate = 3 ∧ (t.cell c).cause = cause ∧
          (t.cell c).excl = true ∧ (4 < s.healthyCells → t.ent.phase = 3) ∧
          (s.healthyCells ≤ 4 → t.ent.phase = 4 ∧ t.ent.central.live = false ∧ t.ent.mrgs = [] ∧ t.lode.maskGen = false ∧
            t.ent.queue = [] ∧ t.ent.pool = []))) ∧
    (∀ req v, Claims.Writes s req .ent → bit v 0 = true → bit v 1 = false → s.ent.phase = 4 →
      ∃ t, exec (.entRestart req v (~~~v)) s = .next t ∧ t.ent.phase = 5 ∧ t.ent.stage = 0 ∧ t.ent.attempt = 0 ∧
        t.ent.since = s.stamp) ∧
    (∀ req v, Claims.Writes s req .ent → bit v 0 = true → bit v 1 = false → ready s →
      ∃ t, exec (.entRestart req v (~~~v)) s = .next t ∧ t.ent.phase = s.ent.phase ∧
        ∀ c < 8, t.cell c = if (s.cell c).excl then { s.cell c with cstate := 1 } else s.cell c)

/-- Generators (R229, R255, R258, R262): scheduled reseeds, the request served next by class and order of arrival, refills of a
tenant's data buffer, and reads of it, whose first word leaves the buffer; an empty buffer underruns. -/
def Sys2Proof.Claims.Generators : Prop :=
  ∀ (s : State),
    (s.ent.central.live = true → ∃ t, exec .centralDrbgReseed s = .next t ∧
      t.stamp = (if 4096 ≤ s.ent.central.requests then s.stamp else Nat.max s.stamp (s.ent.central.seededAt + 100000)) ∧
      t.ent.pool = s.ent.pool.drop 3 ∧ t.ent.central.live = true ∧ t.ent.central.requests = 0 ∧ t.ent.central.seededAt = t.stamp ∧
      t.ent.central.seedings = s.ent.central.seedings + 1 ∧ t.ent.central.persLater = false ∧
      (3 ≤ s.ent.pool.length → t.ent.central.work = Config.prim .drbgReseed [s.ent.central.work, (s.ent.pool.take 3).flatten,
        if s.ent.central.persLater then s.persValue else []])) ∧
    (∀ g n, Claims.NextAt s g { gen := g, cls := 1, use := .reseedMrg n } → (s.gen n).live = true → s.ent.phase ≠ 4 →
      ∃ t, exec (.drbgRequestServed g) s = .next t ∧ t.mrg n = { valid := true, seededAt := s.stamp } ∧
        t.ent.queue = s.ent.queue.erase { gen := g, cls := 1, use := .reseedMrg n } ∧
        (t.gen n).requests = (s.gen n).requests + 1) ∧
    (∀ t r, r = { gen := 64, cls := 5, use := DrbgUse.refill t } → Claims.NextAt s 64 r → s.ent.central.live = true → s.entReady = true →
      ∃ u, exec (.entRefill t) s = .next u ∧ u.ent.queue = s.ent.queue.erase r ∧
        (u.fn t).entBuf.length = Nat.max 16 (s.fn t).entBuf.length ∧
        (u.fn t).entBuf.take (s.fn t).entBuf.length = (s.fn t).entBuf ∧
        u.ent.central.requests = (if s.ent.central.due 100000 s.stamp then 0 else s.ent.central.requests) + 1) ∧
    (∀ req t, s.onBus req = true → req.reaches (.tent t) = true → t < 256 →
      (∀ w rest, (s.fn t).entBuf = w :: rest → ∃ u, exec (.entDataRead req t) s = .next u ∧ (u.fn t).entBuf = rest ∧
        (u.fn t).tDrawn = ((s.fn t).tDrawn + 1) % 2 ^ 32 ∧ u.regs = s.regs) ∧
      ((s.fn t).entBuf = [] → ∃ u, exec (.entDataRead req t) s = .next u ∧ (u.fn t).entUnderrun = true ∧
        (u.fn t).entBuf = [])) ∧
    (s.avs.tripped = false → s.ent.phase ≠ 4 → s.ent.central.live = true → s.ent.queue = [] →
      (∀ n < 64, (s.gen n).live = true → ∃ t, exec (.stopeDrbgReseed n) s = .next t ∧ (t.gen n).requests = 0 ∧
        (t.gen n).seedings = (s.gen n).seedings + 1 ∧ (t.gen n).live = true ∧ t.ent.queue = []) ∧
      (∀ n < 64, (s.mrg n).valid = true → (s.gen n).live = true → ∃ t, exec (.mrgReseed n) s = .next t ∧
        t.mrg n = { valid := true, seededAt := t.stamp } ∧ t.stamp = Nat.max s.stamp ((s.mrg n).seededAt + s.mrgPeriod n) ∧
        t.ent.queue = []) ∧
      (s.lode.maskGen = true → ∃ t, exec .lodeMaskReseed s = .next t ∧ t.lode.maskGen = true ∧ t.lode.maskAt = t.stamp ∧
        t.stamp = Nat.max s.stamp (s.lode.maskAt + maskPeriod) ∧ t.ent.central.requests = 1))

/-- Shafts (R291 to R300): a checkpoint counts and gives way to a waiting candidate unless the job is exclusive or the Shaft
drains; the end of a wipe resumes a suspended job and counts the time it yielded; a private RSA result that fails its check
is KERNEL_FAULT; a stop ends as its cause says; a Shaft serves once its test has passed. Units out of service and changing
hands (R241, R402, R403, R512, R513): an unresponsive unit is DISABLED; the third threshold of corrected errors since the
last device reset disables a unit, an earlier one drains it for a block-level reset; a drained Stope is cleared of its last
owner's data and serves the new one. -/
def Obligations.ShaftsAndService : Prop := Claims.ShaftJobs ∧ Claims.UnitsOutOfService

/-- The noise cells (R250 to R253, R259, R260): settled cells go to test and those without samples are excluded; four
healthy cells bring the source up, fewer start another attempt and, after the third, total failure; a cell that fails a
continuous test is excluded, and with fewer than four left the source has failed; a restart from FAILED starts over.
Generators (R229, R255, R258, R262): scheduled reseeds, the request served next by class and order of arrival, refills of a
tenant's data buffer, and reads of it, whose first word leaves the buffer; an empty buffer underruns. -/
def Obligations.EntropyAndGenerators : Prop := Claims.EntropySource ∧ Claims.Generators

namespace Sys2Proof.Claims
open Sys2Proof.Machine

/-- The request that a write of `KST_CMD` makes (R390). -/
def kstRequest (s : State) (n : Nat) (v : Word) : KstReq :=
  { stope := n, cmd := field v 3 0, slot := field v 13 12, abandon := bit v 8, downgrade := bit v 9
    pack := if field v 3 0 = 1 then {} else (lookup (s.stope n).store.packs (field v 13 12)).getD {}
    src := (s.reg (.kst n) 0x140).toNat + 2 ^ 32 * (s.reg (.kst n) 0x144).toNat, len := s.regField (.kst n) 0x148 18 0 }

/-- The Stope's result is cleared as a request of it begins. -/
def kstBegun (s : State) (n : Nat) : State := s.setStope n { s.stope n with result := 0, kidx := 0xFF }

end Sys2Proof.Claims

/-- Kernel-store requests (R390 to R393): a LOAD that meets an empty queue goes to its fetch, an UNLOAD or RELOAD to the drain;
a request behind another waits; one for a Stope whose last is not over is ignored with RESULT BUSY. A fetched pack that
passes its checks drains the Stope, another ends with its result; the drained Stope's store is written; passed tests ask
for the commit, failed ones restore the old store; a drain that takes too long ends as BUSY. -/
def Obligations.KernelStoreRequests : Prop :=
  ∀ (s : State) (n : Nat) (req : Requester) (v : Word), n < 64 → s.avs.tripped = false →
    let r := Claims.kstRequest s n v
    let b := Claims.kstBegun s n
    (Claims.Writes s req (.kst n) →
      (field v 3 0 = 1 → s.kstQueue = [] →
        exec (.kstLoad req n v) s =
          .next (({ b with kstQueue := [{ r with phase := 1, since := s.stamp }] } : State).measuring true)) ∧
      (∀ q rest, field v 3 0 = 1 → s.kstQueue = q :: rest → q.phase ≠ 0 → (∀ x ∈ s.kstQueue, x.stope ≠ n) →
        exec (.kstLoad req n v) s = .next { b with kstQueue := s.kstQueue ++ [r] }) ∧
      (∀ x ∈ s.kstQueue, x.stope = n → field v 3 0 = 1 →
        exec (.kstLoad req n v) s = .next ((s.setStope n { s.stope n with result := 9 }).setErr (.kst n) 0)) ∧
      (field v 3 0 = 2 → s.kstQueue = [] → bit v 8 = false → s.stopeIdle n = false → exec (.kstUnload req n v) s =
        .next (({ b with kstQueue := [{ r with phase := 3, since := s.stamp }] } : State).setReg (.stp n) 0x008
          (setBit (s.reg (.stp n) 0x008) 1))) ∧
      (field v 3 0 = 3 → s.kstQueue = [] → bit v 8 = false → s.stopeIdle n = false → exec (.kstReload req n v) s =
        .next (({ b with kstQueue := [{ r with phase := 3, since := s.stamp }] } : State).setReg (.stp n) 0x008
          (setBit (s.reg (.stp n) 0x008) 1)))) ∧
    (∀ q rest, s.kstQueue = q :: rest → q.stope = n →
      (q.phase = 1 → (s.fn 0).bme = true →
        let m := s.measuring false
        let image := m.hostRead q.src (Nat.min q.len 262145)
        let q1 : KstReq := { q with image := image, pack := packOf image q.src }
        (m.packResult n image q.downgrade = 0 → exec (.packFetchDone n) s = .next (m.kstDrain q1)) ∧
        (m.packResult n image q.downgrade ≠ 0 →
          exec (.packFetchDone n) s = .next (m.kstEnd q1 (m.packResult n image q.downgrade) 0xFF))) ∧
      (q.phase = 1 → (s.fn 0).bme = false → exec (.packFetchDone n) s = .next (s.kstEnd q 8 0xFF)) ∧
      (q.phase = 3 → s.stopeIdle n = true →
        let written (st : Store) : State := ((s.dropFlaws (FlawAt.inStore n)).setStope n
          { s.stope n with store := st, saved := some (s.stope n).store }).forgetMeasures st
        (q.cmd = 1 → ∀ st, (s.stope n).store.install q.pack = some st →
          exec (.loadDrained n) s = .next { written st with kstQueue := { q with phase := 5 } :: rest }) ∧
        (q.cmd = 3 → exec (.loadDrained n) s =
          .next { written ((s.stope n).store.rewrite q.slot) with kstQueue := { q with phase := 5 } :: rest }) ∧
        (q.cmd = 2 → exec (.loadDrained n) s = .next { written ((s.stope n).store.unload q.slot) with
          kstQueue := { q with phase := 6 } :: rest
          txn := { s.txn with hfQueue := s.txn.hfQueue ++ [(HfReason.kernelEnd n, [])] } })) ∧
      (q.phase = 3 → s.stopeIdle n = false → exec (.loadDrainTimeout n) s =
        .next ((((s.advanceTo (q.since + s.timeoutNs (.kst n) 500000000)).setErr (.kst n) 5).undrainUnit (.stp n)).kstEnd
          q 9 0xFF)) ∧
      (q.phase = 5 → exec (.katDone n none) s = .next
        { s.setStope n { s.stope n with store := (s.stope n).store.tested } with
          kstQueue := { q with phase := 6 } :: rest
          txn := { s.txn with hfQueue := s.txn.hfQueue ++ [(HfReason.kernelEnd n, [])] } }) ∧
      (q.phase = 5 → ∀ k, exec (.katDone n (some k)) s = .next
        ((((s.dropFlaws (FlawAt.inStore n)).setStope n
          { s.stope n with store := ((s.stope n).saved.getD (s.stope n).store) }).undrainUnit (.stp n)).kstEnd q 7
          (k % 256)))) ∧
    (∀ corr, let c := corr + (s.storeFlaws n).1
      0 < c → (s.storeFlaws n).2 = [] → exec (.kstScrub n corr []) s = .next
        ((((s.dropFlaws (FlawAt.inStore n)).setStope n
          { s.stope n with scrubCorr := Nat.min 0xFFFF ((s.stope n).scrubCorr + c) }).countCorrected n c).setErr (.kst n) 3)) ∧
    (∀ a p, (s.stope n).store.packs.find? (fun p => decide (p.2.base ≤ a) && decide (a < p.2.base + p.2.words)) = some p →
      a < 4096 → p.2.broken = false → (s.storeFlaws n).2 = [] → (∃ q rest, s.kstQueue = q :: rest ∧ q.phase ≠ 0) → ∃ t q, exec (.kstScrub n 0 [a]) s = .next t ∧
        lookup (t.stope n).store.packs p.1 = some { p.2 with broken := true } ∧
        (t.stope n).scrubUncorr = Nat.min 0xFFFF ((s.stope n).scrubUncorr + 1) ∧ q ∈ t.kstQueue ∧ q.stope = n ∧ q.cmd = 3 ∧
        q.slot = p.1 ∧ q.byHeadframe = true)

/-- Clocks, voltage and temperature (R337, R540, R541, R547 to R549): Headframe's clock change within 1.0 to 2.0 GHz, limited by
power and temperature; a poll that is hot lowers the limit by 50 MHz after the tenth in a row; above 120 °C the trip is held; the
loop's tick raises the set point by 10 mV, or lowers it by 5 mV; a regulator fault, or the third unanswered transaction,
stops the loop at 1.0 GHz. No clock exceeds the limit after a poll. -/
def Obligations.ClocksAndVoltage : Prop :=
  ∀ (s : State), s.released 2 = true →
    (∀ n (c : ClockSet), n < 64 → 1000 ≤ c.mhz → c.mhz ≤ 2000 → (s.stope n).clockTarget ≠ 0 →
      ∃ t, exec (.stopeClockChange n c) s = .next t ∧
        (∀ mhz, c = .configured mhz → (t.stope n).clockTarget = mhz ∧ (t.stope n).powerLimit = (s.stope n).powerLimit) ∧
        (∀ mhz, c = .powerLimit mhz → (t.stope n).powerLimit = mhz ∧ (t.stope n).clockTarget = (s.stope n).clockTarget) ∧
        (t.stope n).clock = Nat.min (Nat.min (t.stope n).clockTarget (t.stope n).powerLimit)
          (if s.avs.stopped then 1000 else s.avs.limit) ∧
        (∀ m < 64, m ≠ n → t.stope m = s.stope m) ∧ s.avs.setPoint ≤ t.avs.setPoint ∧ t.regs = s.regs ∧ t.host = s.host) ∧
    (∀ l : List Int, l ≠ [] → ∃ t, exec (.thermalPoll l) s = .next t ∧ t.avs.temp = junction l ∧
      (throttleAt ≤ junction l → 9 ≤ s.avs.hot → t.avs.limit = Nat.max 1000 (s.avs.limit - 50) ∧ t.avs.hot = 0) ∧
      (throttleAt ≤ junction l → s.avs.hot < 9 → t.avs.limit = s.avs.limit ∧ t.avs.hot = s.avs.hot + 1) ∧
      (junction l ≤ throttleAt - 5 → 99 ≤ s.avs.cool → t.avs.limit = Nat.min 2000 (s.avs.limit + 50)) ∧
      (s.avs.stopped = false → ∀ n < 64, (s.stope n).clockTarget ≠ 0 → (t.stope n).clock =
        Nat.min (Nat.min (s.stope n).clockTarget (s.stope n).powerLimit) t.avs.limit)) ∧
    (∀ temp : Int, 120 < temp → exec (.thermtrip temp) s = .next { s with avs := { s.avs with temp := temp, tripped := true } }) ∧
    (s.avs.stopped = false →
      (∀ above, exec (.avsLoopTick above true) s = .next (
        let t : State := s.advanceTo (s.avs.loopAt + 1000000)
        { t with avs := { t.avs with
          loopAt := t.stamp, unanswered := 0, setPoint := Nat.min 850 (s.avs.setPoint + 10), holdUntil := t.stamp + 100000000 } })) ∧
      (∃ t, exec (.avsLoopTick true false) s = .next t ∧ t.avs.setPoint =
        if s.avs.holdUntil ≤ Nat.max s.stamp (s.avs.loopAt + 1000000) then Nat.max 650 (s.avs.setPoint - 5) else s.avs.setPoint) ∧
      (∃ t, exec (.avsFault true) s = .next t ∧ t.avs.stopped = true ∧
        ∀ n < 64, (s.stope n).clockTarget ≠ 0 → (t.stope n).clock =
          Nat.min (Nat.min (s.stope n).clockTarget (s.stope n).powerLimit) 1000) ∧
      (s.avs.unanswered < 2 → exec (.avsFault false) s =
        .next { s with avs := { s.avs with unanswered := s.avs.unanswered + 1, loopAt := s.stamp } }))

namespace Sys2Proof.Claims
open Sys2Proof.Machine

/-- The context that a tenant has selected, its last comparison forgotten as a command begins (R285). -/
def current (s : State) (t : Nat) : Ctx := { s.dgsCur t with cmpDone := false, cmpAt := none }

/-- A context at the start of its message, a keyed one bound to its object (R267, R278). -/
def opened (x : Ctx) (i : Nat) (o : Obj) : Ctx :=
  { x with
    state := 1, count := 0, data := [], waiting := 0, result := [], window := 0, squeezing := false, readWords := []
    spent := false, matched := false, cmpDone := false, cmpAt := none, extra := if x.keyed then 1 else 0
    bound := if x.keyed then some i else none
    secret := if x.keyed then o.secret else [], usage := if x.keyed then o.attr.usage else 0 }

end Sys2Proof.Claims

/-- The digest service's commands (R267, R272, R273, R275, R277, R279): OPEN with its checks and slot limits, RESET, FINAL, NEXT,
COMPARE with its result 40 ns later whatever the data, CLOSE; a command that the context's state does not allow is flagged
and changes nothing else of the context. -/
def Sys2Proof.Claims.DigestCommands : Prop :=
  ∀ (s : State) (req : Requester) (t : Nat), Claims.Writes s req (.tdgs t) → t < 256 →
    let c := s.dgsSel t
    let x := Claims.current s t
    let u := s.setCur t x
    let i := handleIndex x.key.toNat
    let going := x.lastword = true ∨ x.header ≠ 0 ∨ x.msgLen ≠ 0
    (x.state = 0 → x.valid = true → u.slotUse t < s.regField (.tntA t) 0x160 10 0 → u.slotUseAll < 1024 →
      (x.keyed = false → going →
        exec (.dgsOpen req t) s = .next (((u.dropCore t c).setCtx t c (Claims.opened x i {})).feedCores)) ∧
      (x.keyed = true → u.dgsKeyOk t x = true → s.entReady = true → going → ∃ w, exec (.dgsOpen req t) s = .next w ∧
        w.ctx t c = Claims.opened x i (s.obj i) ∧ w.regs = s.regs ∧ w.host = s.host) ∧
      (x.keyed = true → u.dgsKeyOk t x = false → exec (.dgsOpen req t) s = .next (u.dgsErr t 8)) ∧
      (x.keyed = true → u.dgsKeyOk t x = true → s.entReady = false → exec (.dgsOpen req t) s = .next (u.dgsErr t 11))) ∧
    (x.state = 0 → x.valid = false → exec (.dgsOpen req t) s = .next (u.dgsErr t 13)) ∧
    (x.state = 0 → x.valid = true → s.regField (.tntA t) 0x160 10 0 ≤ u.slotUse t → exec (.dgsOpen req t) s = .next (u.dgsErr t 9)) ∧
    (x.state ≠ 0 → exec (.dgsOpen req t) s = .next (u.dgsErr t 12)) ∧
    (x.state ≠ 0 → x.keyed = false → going →
      exec (.dgsReset req t) s = .next (((u.dropCore t c).setCtx t c (Claims.opened x i {})).feedCores)) ∧
    (x.state ≠ 0 → x.keyed = true → u.dgsKeyOk t x = true → s.lode.maskGen = true → going →
      ∃ w, exec (.dgsReset req t) s = .next w ∧ w.ctx t c = Claims.opened x i (s.obj i)) ∧
    (x.state ≠ 0 → x.keyed = true → u.dgsKeyOk t x = false → exec (.dgsReset req t) s = .next (u.dgsErr t 8)) ∧
    (x.state = 0 → exec (.dgsReset req t) s = .next (u.dgsErr t 12)) ∧
    (x.state = 1 → x.lastword = true → exec (.dgsFinal req t) s = .next (u.dgsFinalise t c)) ∧
    (x.state = 1 → x.lastword = false → x.count < x.msgLen → exec (.dgsFinal req t) s = .next (u.dgsKill t 3)) ∧
    (x.state ≠ 1 → exec (.dgsFinal req t) s = .next (u.dgsErr t 12)) ∧
    (x.state = 3 → x.xof = true → x.window + 64 < x.resultLen → exec (.dgsNext req t) s = .next ((u.setCur t
      { x with state := 2, window := x.window + 64, squeezing := true, extra := 1, matched := false }).feedCores)) ∧
    (x.state = 3 → x.keyed = false → 1 ≤ field x.cmplen 6 0 → field x.cmplen 6 0 ≤ 64 →
      exec (.dgsCompare req t) s = .next (u.setCur t { x with
        cmpAt := some (s.stamp + 40)
        cmpPend := slice x.windowBytes 0 (field x.cmplen 6 0) ==
          slice (((List.range 16).map fun i => leBytes 4 (Cells.get (fun _ => (0 : Word)) x.cmp i).toNat).flatten) 0
            (field x.cmplen 6 0) })) ∧
    (s.avs.tripped = false → ∀ d at_, (s.ctx t d).cmpAt = some at_ → exec (.dgsCompareDone t d) s =
      .next ((s.advanceTo at_).setCtx t d
        { s.ctx t d with cmpDone := true, matched := (s.ctx t d).cmpPend, cmpAt := none })) ∧
    (x.state ≠ 0 → exec (.dgsClose req t) s = .next ((u.dropCore t c).setCur t
      { cfg := x.cfg, key := x.key, outlen := x.outlen, lenLo := x.lenLo, lenHi := x.lenHi, lastvb := x.lastvb
        cmplen := x.cmplen, cmp := x.cmp, err := x.err }))

/-- Data and results of the digest service (R268 to R276): a word written in ABSORB is absorbed and LASTVB limits the last
one's bytes; a write without room, before OPEN or after the end is flagged; a core's block advances its context, which is
DONE after its last; a result word of an unkeyed context may be read again, a keyed one once. -/
def Sys2Proof.Claims.DigestDataAndResults : Prop :=
  ∀ (s : State) (req : Requester) (t : Nat) (v : BitVec 32), Claims.Writes s req (.tdgs t) → t < 256 →
    let c := s.dgsSel t
    let x := s.ctx t c
    (x.state = 1 → 0 < x.space → exec (.dgsDinWrite req t v false) s = .next (s.dgsAbsorb t c (leBytes 4 v.toNat))) ∧
    (x.state = 1 → x.space = 0 → exec (.dgsDinWrite req t v false) s = .next (s.dgsKill t 4)) ∧
    (x.state = 0 → exec (.dgsDinWrite req t v false) s = .next (s.dgsErr t 12)) ∧
    (x.state = 1 → exec (.dgsDinWrite req t v true) s = .next (s.dgsKill t 5)) ∧
    (x.state = 1 → 0 < x.space → x.lastword = true → field x.lastvb 2 0 ≤ 4 →
      let a := s.dgsAbsorb t c ((leBytes 4 v.toNat).take (field x.lastvb 2 0))
      exec (.dgsDlastWrite req t v false) s = .next (if (a.ctx t c).state = 1 then a.dgsFinalise t c else a)) ∧
    (∀ core k, s.avs.tripped = false → lookup s.dgs.cores core = some k → (s.ctx (k / 1024) (k % 1024)).state = 1 →
      (s.ctx (k / 1024) (k % 1024)).block ≤ (s.ctx (k / 1024) (k % 1024)).waiting →
      exec (.dgsBlockDone core) s = .next ((({ s with dgs := { s.dgs with cores := Cells.erase s.dgs.cores core } } : State).setCtx
        (k / 1024) (k % 1024) { s.ctx (k / 1024) (k % 1024) with
          waiting := (s.ctx (k / 1024) (k % 1024)).waiting - (s.ctx (k / 1024) (k % 1024)).block }).feedCores)) ∧
    (∀ i, i < 16 →
      (x.state = 3 → x.keyed = false → exec (.dgsResultRead req t i) s = .next s ∧
        s.dgsResult t i = BitVec.ofNat 32 (leField x.windowBytes (4 * i) 4)) ∧
      (x.state = 3 → x.keyed = true → x.usage.testBit useMac = true → x.spent = false → i ∉ x.readWords →
        ∃ u, exec (.dgsResultRead req t i) s = .next u ∧ u.dgsResult t i = 0) ∧
      (x.state ≠ 3 → exec (.dgsResultRead req t i) s = .next (s.dgsErr t 0)))

/-- The digest service's commands (R267, R272, R273, R275, R277, R279): OPEN with its checks and slot limits, RESET, FINAL,
NEXT, COMPARE with its result 40 ns later whatever the data, CLOSE; a command that the context's state does not allow is
flagged and changes nothing else of the context. Data and results of the digest service (R268 to R276): a word written in
ABSORB is absorbed and LASTVB limits the last one's bytes; a write without room, before OPEN or after the end is flagged; a
core's block advances its context, which is DONE after its last; a result word of an unkeyed context may be read again, a
keyed one once. -/
def Obligations.DigestEngine : Prop := Claims.DigestCommands ∧ Claims.DigestDataAndResults

namespace Sys2Proof.Claims
open Sys2Proof.Machine

/-! ## Zedaup links -/

/-- Link `l` is `x` now; the other links, the members, the objects, the Tally and host memory are as they were. -/
def LinkNow (s t : State) (l : Nat) (x : Link) : Prop :=
  t.link l = x ∧ (∀ k, k ≠ l → t.link k = s.link k) ∧ t.zdp.members = s.zdp.members ∧ t.lode = s.lode ∧ t.tally = s.tally ∧
    t.host = s.host ∧ t.pending = s.pending

/-- A link that is DOWN: what its lanes, counters and partner last were, at stamp `n`. -/
def downLink (x : Link) (n : Stamp) : Link :=
  { lanes := x.lanes, lrole := x.lrole, corr := x.corr, uncorr := x.uncorr, replays := x.replays, peer := x.peer
    peerRole := x.peerRole, peerState := x.peerState, beatAt := x.beatAt, lost := x.lost, since := n }

end Sys2Proof.Claims

/-- Training and keying (R413, R414): signal on all lanes starts EQUALISE, on some DETECT, on none takes the link DOWN; the
states follow one another, each within its time; a good handshake keys the link and brings it UP, a failed one is
retried after 1 s; a key is replaced after 2^31 flits. -/
def Sys2Proof.Claims.LinkTraining : Prop :=
  ∀ (s : State) (l : Nat), s.avs.tripped = false → l < 4 →
    let x := s.link l
    (s.released 8 = true → s.zdp.deadLinks.contains l = false → x.lstate < 2 →
      (∃ t, exec (.linkSignalDetect l 15) s = .next t ∧ Claims.LinkNow s t l { x with lanes := 15, lstate := 2, since := s.stamp }) ∧
      (∀ n, 0 < n → n < 15 → ∃ t, exec (.linkSignalDetect l n) s = .next t ∧
        Claims.LinkNow s t l { x with lanes := n, lstate := 1, since := s.stamp })) ∧
    (s.released 8 = true → s.zdp.deadLinks.contains l = false → x.lstate ≠ 0 →
      ∃ t, exec (.linkSignalDetect l 0) s = .next t ∧ Claims.LinkNow s t l (Claims.downLink { x with lanes := 0 } s.stamp)) ∧
    (x.lstate = 2 → exec (.linkEqualiseDone l) s = .next (s.setLink l { x with lstate := 3, since := s.stamp })) ∧
    (x.lstate = 3 → exec (.linkAlignDone l) s = .next (s.setLink l { x with lstate := 4, since := s.stamp })) ∧
    (x.lstate = 6 → x.queue = [] → x.unacked = [] → ∃ t, exec (.linkAlignDone l) s = .next t ∧
      Claims.LinkNow s t l { x with lstate := 5, since := s.stamp }) ∧
    (∀ p ∈ [(1, 1000000), (2, 20000000), (3, 100000), (6, 25000000)], x.lstate = p.1 → ∃ t, exec (.linkStateTimeout l) s = .next t ∧
      t.stamp = Nat.max s.stamp (x.since + p.2) ∧ Claims.LinkNow s t l (Claims.downLink x t.stamp)) ∧
    (x.lstate = 4 → x.failedAt = none → ∃ t, exec (.linkStateTimeout l) s = .next t ∧ t.stamp = Nat.max s.stamp (x.since + s.joinNs) ∧
      bit (t.reg .zdp 0x010) 5 = true ∧ Claims.LinkNow s t l (Claims.downLink x t.stamp)) ∧
    (∀ secret transcript, x.lstate = 4 →
      (x.queue = [] → ∃ t, exec (.handshake (.link l) true secret transcript) s = .next t ∧
        let k := fit 64 (Config.prim (.kmac 2 false 64) [secret, sha3 transcript, ascii "FV zedaup link"])
        Claims.LinkNow s t l { x with
          lstate := 5, since := s.stamp, keyed := true, keyDown := k.take 32, keyUp := k.drop 32, sent := 0, received := 0
          rekeyDown := 0, rekeyUp := 0, failedAt := none, tries := 0, unacked := [], credit := [256, 256, 256] }) ∧
      exec (.handshake (.link l) false secret transcript) s =
        .next ((s.setLink l { x with failedAt := some s.stamp }).setErr .zdp 19)) ∧
    (∀ n, x.failedAt = some n → x.lstate = 4 → ∃ t, exec (.handshakeRetry l) s = .next t ∧
      t.stamp = Nat.max s.stamp (n + 1000000000) ∧ Claims.LinkNow s t l { x with failedAt := none, since := t.stamp }) ∧
    (x.keyed = true →
      (x.rekeyDown + 2 ^ 31 ≤ (if x.lrole = 1 then x.received else x.sent) → exec (.linkRekey l true) s = .next (s.setLink l { x with
        keyDown := fit 32 (Config.prim (.kmac 2 false 32) [x.keyDown, [], ascii "FV zedaup rekey"])
        rekeyDown := x.rekeyDown + 2 ^ 31 })) ∧
      (x.rekeyUp + 2 ^ 31 ≤ (if x.lrole = 1 then x.sent else x.received) → exec (.linkRekey l false) s = .next (s.setLink l { x with
        keyUp := fit 32 (Config.prim (.kmac 2 false 32) [x.keyUp, [], ascii "FV zedaup rekey"])
        rekeyUp := x.rekeyUp + 2 ^ 31 })) ∧
      ((if x.lrole = 1 then x.received else x.sent) < x.rekeyDown + 2 ^ 31 → exec (.linkRekey l true) s = .next s))

/-- A link that is up (R410, R412, R415, R416): a block counts its corrected codewords and arrives, one that cannot be
corrected is discarded; credits return; an unanswered flit is replayed and the eighth replay retrains; heartbeats go out,
are taken, and missing ones lose the partner, and with it on a manager its members and on a worker its manager. -/
def Sys2Proof.Claims.LinksInUse : Prop :=
  ∀ (s : State) (l : Nat), s.avs.tripped = false → l < 4 →
    let x := s.link l
    (x.lstate = 5 → x.queue = [] → x.unacked = [] → ∀ corr ack, exec (.fecBlock l corr 0 ack) s =
      .next (s.setLink l { x with corr := Nat.min 0xFFFF (x.corr + corr), uncorr := Nat.min 0xFFFF x.uncorr
                                  received := x.received + 10 })) ∧
    (x.lstate = 5 → ∀ corr uncorr ack, uncorr ≠ 0 → exec (.fecBlock l corr uncorr ack) s =
      .next ((s.setLink l { x with corr := Nat.min 0xFFFF (x.corr + corr), uncorr := Nat.min 0xFFFF (x.uncorr + uncorr) }).setErr
        .zdp 17)) ∧
    (x.lstate = 5 → x.queue = [] → ∀ vc n, exec (.zdpCredit l vc n) s =
      .next (s.setLink l { x with credit := setAt x.credit vc (Nat.min 256 (nthD x.credit vc 0 + n)) })) ∧
    (x.lstate = 5 → x.unacked ≠ [] →
      (x.tries + 1 < 8 → exec (.replayTimeout l) s =
        .next (s.setLink l { x with tries := x.tries + 1, replays := Nat.min 0xFFFF (x.replays + 1) })) ∧
      (8 ≤ x.tries + 1 → ∃ t, exec (.replayTimeout l) s = .next t ∧ bit (t.reg .zdp 0x010) 16 = true ∧
        Claims.LinkNow s t l { x with lstate := 6, since := s.stamp, tries := 0, replays := Nat.min 0xFFFF (x.replays + 1) })) ∧
    (s.isManager = false → s.zdp.uplink ≠ l →
      (x.lstate = 6 → x.lost = false → exec (.retrainTimeout l) s =
        .next ((s.advanceTo (x.since + 100000)).setLink l
          { x with lost := true, lrole := if x.lrole = 4 then 4 else 0 })) ∧
      (x.beatAt ≠ 0 → x.lost = false → exec (.heartbeatTimeout l) s =
        .next ((s.advanceTo (x.beatAt + 100000)).setLink l
          { x with lost := true, lrole := if x.lrole = 4 then 4 else 0 }))) ∧
    (∀ d, s.isManager = true → s.zdp.prep = none → x.beatAt ≠ 0 → x.lost = false → (s.member d).via = l → (s.member d).mstate = 3 →
      s.tally.entries = [] → ∃ t, exec (.heartbeatTimeout l) s = .next t ∧ (t.member d).mstate = 5 ∧
        t.stamp = Nat.max s.stamp (x.beatAt + 100000) ∧ (t.member d).lostAt = some t.stamp ∧ (t.member d).full = true) ∧
    (x.lstate = 5 → s.isManager = false → s.zdp.uplink ≠ l → s.role = 0 → x.queue = [] → ∀ b : Beat,
      ∃ t, exec (.heartbeat l b) s = .next t ∧ t.stamp = s.stamp ∧ (t.link l).lrole = 0 ∧ (t.link l).peer = b.dev ∧
        (t.link l).peerRole = b.role ∧ (t.link l).peerState = b.mstate ∧ (t.link l).beatAt = s.stamp ∧
        (t.link l).echo = b.tx ∧ (t.link l).lost = false) ∧
    (x.lstate = 5 → s.isManager = false → s.zdp.uplink = l → s.zdp.mstate = mMember → s.zdp.lostManager = none →
      s.holdNs ≠ 0 → ∀ b : Beat, b.role ≠ 2 → b.mgrOk = false → ∃ t, exec (.heartbeat l b) s = .next t ∧
        t.zdp.lostManager = some t.stamp ∧ t.zdp.sync = false ∧ bit (t.reg .zdp 0x01C) 19 = true) ∧
    (∀ n, s.zdp.overAt = some n → exec .syncHoldoff s = .next
      { s.advanceTo (n + 10000000) with zdp := { s.zdp with overAt := none, sync := inSync s.zdp.offset } }) ∧
    (x.lstate = 5 → x.queue = [] → nthD x.credit 0 0 ≠ 0 → x.unacked = [] →
      let m : Msg := { kind := .heartbeat, nums := [s.zdp.devid, s.role, s.zdp.mstate, s.alarmClass, b2n s.mgrOk, s.freeShare,
                                                    b2n s.zdp.sync, s.stamp, x.echo, x.beatAt, s.zdp.offset.toNat] }
      exec (.heartbeatSend l) s = .next (s.setLink l { x with
        unacked := [m], sent := x.sent + m.flits, credit := setAt x.credit 0 (nthD x.credit 0 0 - Nat.min (nthD x.credit 0 0) m.flits) }))

/-- Training and keying (R413, R414): signal on all lanes starts EQUALISE, on some DETECT, on none takes the link DOWN; the
states follow one another, each within its time; a good handshake keys the link and brings it UP, a failed one is retried
after 1 s; a key is replaced after 2^31 flits. A link that is up (R410, R412, R415, R416): a block counts its corrected
codewords and arrives, one that cannot be corrected is discarded; credits return; an unanswered flit is replayed and the
eighth replay retrains; heartbeats go out, are taken, and missing ones lose the partner, and with it on a manager its
members and on a worker its manager. -/
def Obligations.ZedaupLinks : Prop := Claims.LinkTraining ∧ Claims.LinksInUse

/-- The manager's joining and its member commands (R417, R419, R431, R432): an attestation that holds makes a joiner and one
that does not is refused with a record; the session brings the transport key; ADMIT, REFUSE, QUARANTINE, RESYNC, EVICT
and RESET do what they say to a member, and are ignored with `ERR.ACCESS` on a device that is no manager; a step past its
time refuses the joiner; a lost member returns by RESUME, and its hold ends. -/
def Obligations.ManagerCommands : Prop :=
  ∀ (s : State), s.avs.tripped = false →
    (∀ l a, s.isManager = true → l < 4 → (s.link l).lstate = 5 → (s.link l).lrole = 2 →
      let sound := a.signed = true ∧ a.lifecycle = 2 ∧ a.ownerKey = s.lcc.ownKey ∧ s.allowedFirmware a.measurement = true ∧ a.hops ≤ 5
      (∀ d, sound → s.idFor a.identity = some d → exec (.joinAttestation l a) s = .next (({ s with zdp := { s.zdp with
          ids := (s.zdp.ids.filter fun p => p.1 != a.identity && p.2 != d) ++ [(a.identity, d)] } } : State).setMember d
        { mstate := 1, step := 3, stepAt := s.stamp, identity := a.identity, hops := a.hops, via := l, kernels := a.kernels
          full := true })) ∧
      (¬sound → exec (.joinAttestation l a) s = .next ((s.setErr .zdp 19).zdpRecord 2 3 0))) ∧
    (∀ d (secret transcript k : Bytes), s.isManager = true → (s.member d).mstate = 1 → (s.member d).step = 3 → s.zdp.transportKey = some k →
      let sk := fit 64 (Config.prim (.kmac 2 false 64) [secret, sha3 transcript, ascii "FV zedaup session"])
      (bit (s.reg .zdp 0x104) 2 = false → ∃ t, exec (.handshake (.session d) true secret transcript) s = .next t ∧
        t.member d = { s.member d with session := true, sessionKey := sk, mstate := 2, step := 4, stepAt := s.stamp } ∧
        bit (t.reg .zdp 0x01C) 17 = true) ∧
      (bit (s.reg .zdp 0x104) 2 = true → (s.member d).sync = false →
        ∃ t, exec (.handshake (.session d) true secret transcript) s = .next t ∧
          t.member d = { s.member d with session := true, sessionKey := sk, step := 5, stepAt := s.stamp }) ∧
      (s.zdp.prep = none → ∃ t, exec (.handshake (.session d) false secret transcript) s = .next t ∧
        t.member d = {} ∧ bit (t.reg .zdp 0x010) 19 = true)) ∧
    (∀ d, s.isManager = true → s.zdp.prep = none → (s.member d).mstate = 1 ∨ (s.member d).mstate = 2 →
      ∃ t, exec (.joinStepTimeout d) s = .next t ∧ t.stamp = Nat.max s.stamp ((s.member d).stepAt + s.joinNs) ∧ t.member d = {} ∧
        bit (t.reg .zdp 0x010) 19 = true ∧ bit (t.reg .zdp 0x010) 5 = true) ∧
    (∀ req d, Claims.Writes s req .zdp → s.isManager = true → d < 256 →
      let m := s.member d
      (m.mstate = 2 → m.sync = false → ∃ t, exec (.zdpAdmit req d) s = .next t ∧
        t.member d = { m with mstate := 1, step := 5, stepAt := s.stamp }) ∧
      (m.mstate = 2 → m.sync = true → ∃ t, exec (.zdpAdmit req d) s = .next t ∧
        t.member d = { m with mstate := 1, step := 6, stepAt := s.stamp, full := true } ∧ ∃ q ∈ t.txn.hfQueue, q.1 = .members) ∧
      (m.mstate = 2 → ∃ t, exec (.zdpRefuse req d) s = .next t ∧ t.member d = {} ∧ bit (t.reg .zdp 0x010) 19 = true) ∧
      (m.mstate = 3 → ∃ t, exec (.quarantine req d) s = .next t ∧ t.member d = { m with mstate := 4 } ∧
        bit (t.reg .zdp 0x01C) 18 = true) ∧
      (m.admitted = true → ∃ t, exec (.resync req d) s = .next t ∧ t.member d = { m with full := true } ∧
        ∃ q ∈ t.txn.hfQueue, q.1 = .members) ∧
      (∀ c ∈ [Instr.zdpEvict req d, Instr.mcmdReset req d], m.admitted = true → s.tally.entries = [] → s.zdp.prep = none →
        ∃ t, exec c s = .next t ∧ t.member d = {} ∧ t.zdp.lost = Nat.min 0xFFFF (s.zdp.lost + 1) ∧
          bit (t.reg .zdp 0x010) 20 = true ∧ ∀ q ∈ t.zdp.purges, q.1 ≠ d)) ∧
    (∀ req d, Claims.Writes s req .zdp → s.isManager = false → (req.isHeadframe = true → s.isWorker = false) →
      ∀ c ∈ [Instr.zdpAdmit req d, .zdpRefuse req d, .quarantine req d, .resync req d, .zdpEvict req d, .mcmdReset req d],
        exec c s = .next (s.setErr .zdp 0)) ∧
    (∀ d l, s.isManager = true → l < 4 → (s.link l).lstate = 5 → (s.member d).mstate = 5 → (s.member d).session = true →
      ∃ t, exec (.zdpResume d l) s = .next t ∧ (t.link l).lrole = 2 ∧ t.member d =
        { s.member d with mstate := 1, step := 5, stepAt := s.stamp, via := l, lostAt := none, full := true }) ∧
    (∀ d n, s.isManager = true → (s.member d).lostAt = some n → (s.member d).mstate = 5 → s.tally.entries = [] →
      ∃ t, exec (.holdTimeout d) s = .next t ∧ t.stamp = Nat.max s.stamp (n + s.holdNs) ∧ t.member d = {} ∧
        ∀ q ∈ t.zdp.purges, q.1 ≠ d)

/-- The constellation from a worker's side, and roles (R413, R417, R419, R426, R432): taking and leaving a role, the session,
the transport key, a failed or late join and its retry, quarantine by the manager, eviction and dissolution, and the
end of a hold. -/
def Obligations.WorkerMembership : Prop :=
  ∀ (s : State), s.avs.tripped = false → s.isManager = false →
    (∀ req v, Claims.Writes s req .zdp →
      let u := s.freshCopy .zdp 0x104
      (s.role = 0 → s.zdp.mstate = 0 → bit v 3 = false → field v 1 0 = 1 → exec (.roleWrite req v (~~~v)) s =
        .next (let w := u.setReg .zdp 0x104 (BitVec.ofNat 32 (b2n (bit v 2) * 4 + 1))
               { w with zdp := { w.zdp with mstate := mSeeking, devid := 0, uplink := 15 } })) ∧
      (s.role = 0 → s.zdp.mstate = 0 → field v 1 0 = 2 → s.ent.central.live = true → s.entReady = true →
        ∃ t, exec (.roleWrite req v (~~~v)) s = .next t ∧ t.zdp.mstate = mManager ∧ t.role = 2 ∧ t.zdp.devid = 0 ∧
          ∃ k, t.zdp.transportKey = some k ∧ k.length = 32) ∧
      (field v 1 0 = 3 → bit v 3 = false → ∃ t, exec (.roleWrite req v (~~~v)) s = .next t ∧ t.zdp.mstate = s.zdp.mstate ∧
        t.role = s.role ∧ bit (t.reg .zdp 0x010) 0 = true) ∧
      (s.role = 1 → s.zdp.mstate = mMember → s.zdp.lostManager = none → field v 1 0 = 1 → bit v 3 = true →
        ∃ t, exec (.zdpLeave req v (~~~v)) s = .next t ∧ t.zdp.mstate = mSeeking ∧ t.zdp.uplink = 15 ∧
          t.zdp.transportKey = none ∧ t.zdp.results = [])) ∧
    (s.zdp.mstate = mJoining →
      (∀ d (secret transcript : Bytes), s.zdp.session = false → exec (.handshake (.session d) true secret transcript) s =
        .next { s with zdp := { s.zdp with session := true, joinStep := 3, joinAt := s.stamp
                                           sessionKey := fit 64 (Config.prim (.kmac 2 false 64)
                                             [secret, sha3 transcript, ascii "FV zedaup session"]) } }) ∧
      (∀ d secret transcript, s.zdp.session = false → ∃ t, exec (.handshake (.session d) false secret transcript) s = .next t ∧
        t.zdp.refusedAt = some s.stamp ∧ t.zdp.uplink = 15 ∧ bit (t.reg .zdp 0x010) 19 = true) ∧
      (∀ key devid, s.zdp.session = true → key.length = 32 → exec (.transportKey key devid false) s = .next { s with zdp := { s.zdp with
        transportKey := some key, devid := devid, joinStep := 5, joinAt := s.stamp } }) ∧
      (∀ key devid, s.zdp.session = true → key.length = 32 → exec (.transportKey key devid true) s = .next { s with zdp := { s.zdp with
        transportKey := some key, devid := devid, mstate := mPending, joinStep := 4, joinAt := s.stamp } }) ∧
      (∀ d, ∃ t, exec (.joinStepTimeout d) s = .next t ∧ t.stamp = Nat.max s.stamp (s.zdp.joinAt + s.joinNs) ∧
        t.zdp.refusedAt = some t.stamp ∧ bit (t.reg .zdp 0x010) 19 = true ∧ bit (t.reg .zdp 0x010) 5 = true)) ∧
    (∀ n, s.zdp.refusedAt = some n → exec .joinRetry s =
      .next { s.advanceTo (n + 1000000000) with zdp := { s.zdp with refusedAt := none } }) ∧
    (s.zdp.mstate = mMember →
      (∀ d, ∃ t, exec (.quarantine .headframe d) s = .next t ∧ t.zdp.quarantined = true ∧ bit (t.reg .zdp 0x01C) 18 = true) ∧
      (∀ d, s.zdp.lostManager = none → ∃ t, exec (.zdpEvict .headframe d) s = .next t ∧
        t.zdp.mstate = (if s.role = 1 then mSeeking else 0) ∧ t.zdp.transportKey = none) ∧
      (s.zdp.lostManager = none → ∃ t, exec .dissolve s = .next t ∧
        t.zdp.mstate = (if s.role = 1 then mSeeking else 0) ∧ t.zdp.transportKey = none)) ∧
    (∀ n, s.zdp.lostManager = some n →
      (∀ d, ∃ t, exec (.holdTimeout d) s = .next t ∧ t.stamp = Nat.max s.stamp (n + s.holdNs) ∧ t.zdp.lostManager = none ∧
        t.zdp.transportKey = none ∧ t.zdp.results = []) ∧
      (∀ d l, l < 4 → (s.link l).lstate = 5 → s.zdp.session = true → s.zdp.results = [] →
        ∃ t, exec (.zdpResume d l) s = .next t ∧ t.zdp.lostManager = none ∧ t.zdp.uplink = l ∧ (t.link l).lrole = 1 ∧
          t.zdp.joinStep = 5))

/-- The constellation commit (R428 to R431): overlays staged, a worker's PREPARE validated and answered, COMMIT only with a
greater epoch, the manager's wait for its members, a failed or late PREPARE given up, members admitted or quarantined by
their final digest, and polls that quarantine and then lose a silent member. -/
def Obligations.ConstellationCommits : Prop :=
  ∀ (s : State), s.avs.tripped = false →
    let x := s.txnOf .device
    (∀ req v, Claims.Writes s req .zdp →
      let d := if bit (s.reg .zdp 0x184) 8 then 256 else s.regField .zdp 0x184 7 0
      (x.phase = .opened → x.staged.length + x.overlays.length < (Scope.device).limit → exec (.rcfgDataWrite req v) s =
        .next (s.setTxn .device { x with overlays :=
          (x.overlays.filter fun q => !(q.1 == d && q.2.1 == s.regField .zdp 0x188 23 0)) ++ [(d, s.regField .zdp 0x188 23 0, v)] })) ∧
      (x.phase ≠ .opened → exec (.rcfgDataWrite req v) s = .next (s.setErr .zdp 1))) ∧
    (∀ d, s.isManager = true → (s.member d).admitted = true → exec (.commitRequest d) s =
      .next { s with txn := { s.txn with hfQueue := s.txn.hfQueue ++ [(.workerRequest d, [])] } }) ∧
    (∀ full nums, s.isWorker = true → s.zdp.lostManager = none →
      (s.prepareFault (numPairs nums) = none → x.phase = .idle →
        ∃ t, exec (.zdpPrepare full nums) s = .next t ∧ (t.txnOf .device).phase = .prepared ∧
          (t.txnOf .device).staged = numPairs nums ∧ t.zdp.prepFull = full ∧ t.regs = s.regs ∧ t.txn.epoch = s.txn.epoch) ∧
      (∀ a, s.prepareFault (numPairs nums) = some a → exec (.zdpPrepare full nums) s =
        .next (s.send 0 { kind := .prepareReply, nums := [s.zdp.devid, 0, s.txn.epoch, a], data := [] }))) ∧
    (∀ e, x.phase = .prepared → s.txn.epoch < e → s.txn.active = none → s.txn.waiting = [] → s.isManager = false →
      ∃ t, exec (.zdpCommit e) s = .next t ∧ (t.txnOf .device).phase = .committing ∧ t.regs = s.regs ∧
        t.txn.active = some { of := .scope .device, stage := .awaitQuiesce, staged := x.staged, epoch := e, supplied := true }) ∧
    (∀ e, e ≤ s.txn.epoch → exec (.zdpCommit e) s = .next s) ∧
    (x.phase = .prepared → exec .zdpAbort s = .next (s.setTxn .device
      { x with phase := .idle, id := 0, result := .prepareFailed, overflow := false, staged := [], overlays := [] })) ∧
    (∀ p c, s.zdp.prep = some p → s.txn.active = some c →
      (∀ d e a dg, p.sentCommit = false → d ∈ p.waiting →
        (without p.waiting d ≠ [] → ∃ t, exec (.prepareReply d true e a dg) s = .next t ∧ t.txn = s.txn ∧
          t.member d = { s.member d with prepared := dg, epoch := e } ∧
          t.zdp.prep = some { p with waiting := without p.waiting d, topEpoch := Nat.max p.topEpoch e }) ∧
        (without p.waiting d = [] → ∃ t, exec (.prepareReply d true e a dg) s = .next t ∧
          t.txn.active = some { c with stage := .awaitQuiesce, epoch := Nat.max p.topEpoch e + 1, supplied := true } ∧
          ∃ q, t.zdp.prep = some q ∧ q.sentCommit = true ∧ q.waiting = t.commitMembers ∧ q.since = s.stamp) ∧
        (∀ sc, c.of = .scope sc → c.stage = .preparing → s.txn.waiting = [] → (s.member d).step ≠ 6 →
          ∃ t, exec (.prepareReply d false e a dg) s = .next t ∧ t.txn.active = none ∧ t.zdp.prep = none ∧
            (t.txnOf sc).phase = .idle ∧ (t.txnOf sc).result = .prepareFailed ∧ (t.txnOf sc).errAddr = a ∧ t.regs = s.regs)) ∧
      (∀ sc, p.sentCommit = false → c.of = .scope sc → c.stage = .preparing → s.txn.waiting = [] →
        (∀ d ∈ p.waiting, (s.member d).step ≠ 6) → ∃ t, exec .prepTimeout s = .next t ∧
          t.stamp = Nat.max s.stamp (p.since + s.regField .zdp 0x124 15 0 * 1000000) ∧ t.txn.active = none ∧ t.zdp.prep = none ∧
          (t.txnOf sc).phase = .idle ∧ (t.txnOf sc).result = .prepareFailed) ∧
      (∀ d e, p.sentCommit = true → d ∈ p.waiting → without p.waiting d ≠ [] →
        let m := s.member d
        let n : Member := { m with expected := m.prepared, epoch := e, full := false, polls := 0 }
        (m.step = 6 → ∃ t, exec (.finalDigestReply d e m.prepared) s = .next t ∧
          t.member d = { n with digest := m.prepared, mstate := 3, step := 0 } ∧ bit (t.reg .zdp 0x01C) 16 = true ∧
          t.zdp.prep = some { p with waiting := without p.waiting d }) ∧
        (∀ dg, m.step ≠ 6 → m.mstate = 3 → dg ≠ m.prepared → ∃ t, exec (.finalDigestReply d e dg) s = .next t ∧
          t.member d = { n with digest := dg, mstate := 4 } ∧ bit (t.reg .zdp 0x01C) 18 = true) ∧
        (m.step ≠ 6 → m.mstate = 4 → m.full = true → ∃ t, exec (.finalDigestReply d e m.prepared) s = .next t ∧
          t.member d = { n with digest := m.prepared, mstate := 3 }))) ∧
    (s.isManager = true →
      (Cells.risingFrom 0 s.zdp.members = true → s.zdp.prep = none → s.tally.entries = [] →
        ∃ t, exec .pollTimer s = .next t ∧ ∀ d, (s.member d).admitted = true →
          ((s.member d).polls = 0 → t.member d = { s.member d with polls := 1 }) ∧
          ((s.member d).mstate = 3 → (s.member d).polls = 1 ∨ (s.member d).polls = 2 →
            t.member d = { s.member d with mstate := 4, polls := (s.member d).polls + 1 }) ∧
          (3 ≤ (s.member d).polls → (t.member d).mstate = 5)) ∧
      (∀ d e free alarm sync dg, (s.member d).mstate = 3 → s.txn.active = none →
        let m : Member := { s.member d with epoch := e, digest := dg, polls := 0, free := free, alarm := alarm, sync := sync }
        (e = s.txn.epoch → dg = (s.member d).expected →
          ∃ t, exec (.pollReply d e free alarm sync dg []) s = .next t ∧ t.member d = m) ∧
        (e ≠ s.txn.epoch ∨ dg ≠ (s.member d).expected →
          ∃ t, exec (.pollReply d e free alarm sync dg []) s = .next t ∧ t.member d = { m with mstate := 4 })))

namespace Sys2Proof.Claims
open Sys2Proof.Machine

/-- After a device reset (R436, R443): no work, no queue, transaction or session is left, the domains D1 to D8 are in reset, the
registers of the blocks are at their reset values, and the flashes, OTP rows and the backup domain keep what they hold. -/
def DeviceReset (s t : State) : Prop :=
  t.tally = {} ∧ t.sqs = [] ∧ t.cqs = [] ∧ t.txn = {} ∧ t.spdms = [] ∧ t.ctxs = [] ∧ t.engs = [] ∧ t.stopes = [] ∧
    (∀ d, 1 ≤ d → d ≤ 8 → t.released d = false) ∧ (∀ p off, p.exists = true → p ≠ .rst → p ≠ .cny → t.reg p off = regDefault (p.key off)) ∧
    t.lode.records = s.lode.records ∧ t.lode.objs = [] ∧ t.lcc.copies = s.lcc.copies ∧ t.lcc.slotA = s.lcc.slotA ∧
    t.lcc.slotB = s.lcc.slotB ∧ t.cny.log = s.cny.log ∧ t.cny.rootKey = s.cny.rootKey ∧ t.cny.locked = s.cny.locked ∧
    t.host = s.host ∧ t.pending = s.pending

end Sys2Proof.Claims

/-- Resets (R434 to R436, R443, R444): each source resets what it names and is recorded in `RST_CAUSE`; a power-on reset also
restarts the stamp and the log; a link reset leaves every domain but D7; the release of D1 waits for the last source and
starts the option load. -/
def Sys2Proof.Claims.Resets : Prop :=
  ∀ (s : State), s.lcc.phase ≠ 3 → s.lcc.completing = false →
    ((∀ x ∈ s.rst.asserted, x.1 ≠ 1) → ∃ t, exec (.powerOnReset false) s = .next t ∧ Claims.DeviceReset s t ∧ t.stamp = 0 ∧
      t.hdf.log = [] ∧ t.reg .rst 0x100 = 0x00020001#32) ∧
    (s.rst.asserted = [] →
      (∀ q ∈ [(Instr.pinReset, 2), (.headframeWatchdogExpiry, 6), (.mctpDeviceReset, 8)], s.released 2 = true →
        ∃ t, exec q.1 s = .next t ∧ Claims.DeviceReset s t ∧ t.stamp = s.stamp ∧ t.hdf.log = s.hdf.log ∧
          t.regField .rst 0x100 3 0 = q.2 ∧ bit (t.reg .rst 0x100) (16 + q.2) = true ∧ t.rst.asserted = [(q.2, true)]) ∧
      (∀ req v, Claims.Writes s req .rst → field v 3 0 = 1 → ∃ t, exec (.rstSoft req v (~~~v)) s = .next t ∧
        Claims.DeviceReset s t ∧ t.stamp = s.stamp ∧ t.regField .rst 0x100 3 0 = 8) ∧
      (s.isWorker = true → ∃ t, exec .zdpReset s = .next t ∧ Claims.DeviceReset s t ∧ t.regField .rst 0x100 3 0 = 9) ∧
      (bit (s.reg .rst 0x104) 31 = false → ∃ t, exec .perst s = .next t ∧ Claims.DeviceReset s t ∧
        t.regField .rst 0x100 3 0 = 3) ∧
      (s.released 7 = true → s.cfgReady = true → ∀ q ∈ [(Instr.hotReset, 4), (.linkDown, 5)], ∃ t, exec q.1 s = .next t ∧
        t.regField .rst 0x100 3 0 = q.2 ∧ t.rst.asserted = [(q.2, false)] ∧ t.released 7 = false ∧ t.cfgReady = false ∧
        (∀ d, d ≠ 7 → d ≤ 8 → t.released d = s.released d))) ∧
    (∀ req v, Claims.Writes s req .rst → field v 3 0 ≠ 1 →
      exec (.rstSoft req v (~~~v)) s = .next ((s.freshCopy .rst 0x10C).setErr .rst 0)) ∧
    (∀ c b straps, c ≠ 7 → s.rst.asserted = [(c, b)] → s.released 1 = false → ∃ t, exec (.resetDeassert c straps) s = .next t ∧
      t.rst.asserted = [] ∧ t.released 1 = true ∧ t.bootPhase = 0 ∧ t.reg .rst 0x11C = BitVec.ofNat 32 s.stamp ∧
      t.reg .rst 0x114 = BitVec.ofNat 32 (straps % 16) ∧ t.rst.loading = true ∧ t.rst.safeLoad = decide (8 ≤ s.cny.loadCount)) ∧
    (∀ c d straps, c ≠ 7 → c ≠ d → s.rst.asserted = [(c, true), (d, true)] → exec (.resetDeassert c straps) s =
      .next { s with rst := { s.rst with asserted := [(d, true)] } }) ∧
    (∀ o, s.rst.loading = true → ∃ t, exec (.optionLoadDone o) s = .next t ∧ t.rst.loading = false ∧ t.rst.optionsDone = true ∧
      t.rst.trims = o.trims ∧ t.dir.disabled = o.disabled ∧ t.cny.loadCount = 0 ∧
      t.lcc.state = (lcVote s.lcc.copies).getD 3 ∧ t.lcc.voteFail = (lcVote s.lcc.copies).isNone ∧
      (s.rst.safeLoad = true ∨ o.ownerFail = true → bit (t.reg .rst 0x104) 26 = true ∧ bit (t.reg .rst 0x010) 17 = true ∧
        t.vfLimit = 255))

/-- The release of the domains and the digest cores (R438, R439, R445, R446, R455): a domain follows its predecessor after its
time, D5 in four groups; Headframe alone requests domains, when their conditions hold; a drained idle digest core is
reset, another is refused. -/
def Sys2Proof.Claims.DomainRelease : Prop :=
  ∀ (s : State),
    (∀ d, s.mayRelease d = true →
      (d ≠ 5 → ∃ t, exec (.domainRelease d) s = .next t ∧ t.released d = true ∧
        t.rst.lastRel = Nat.max s.stamp (s.rst.lastRel + 20480) ∧
        (d = 2 → t.bootPhase = if s.lcc.state = 3 then 9 else 1) ∧ (d = 2 → t.txn.epoch = 0) ∧ (d = 4 → t.ent.phase = 1)) ∧
      (d = 5 → s.rst.groups < 3 → ∃ t, exec (.domainRelease 5) s = .next t ∧ t.rst.groups = s.rst.groups + 1 ∧
        t.released 5 = false ∧ t.rst.lastRel = Nat.max s.stamp (s.rst.lastRel + (if s.rst.groups = 0 then 20480 else 5120))) ∧
      (d = 5 → s.rst.groups = 3 → ∃ t, exec (.domainRelease 5) s = .next t ∧ t.released 5 = true ∧
        t.rst.lastRel = Nat.max s.stamp (s.rst.lastRel + 5120))) ∧
    (∀ d, s.mayRelease d = false → exec (.domainRelease d) s = .next s) ∧
    (∀ v, Claims.Writes s .headframe .rst → s.mayRequest (field v 3 0) = true → exec (.rstRelWrite .headframe v) s =
      .next (s.setReg .rst 0x140 (BitVec.ofNat 32 (Nat.max (field v 3 0) (s.regField .rst 0x140 3 0))))) ∧
    (∀ t v, Claims.Writes s (.tenant t) .rst → exec (.rstRelWrite (.tenant t) v) s = .next (s.setErr .rst 0)) ∧
    (∀ req v, Claims.Writes s req .rst → s.resetPending = false → field v 31 16 = 0 → exec (.dcoreDrain req v (~~~v)) s =
      .next ((s.freshCopy .rst 0x138).setReg .rst 0x138 (v &&& 0xFFFF#32)).feedCores) ∧
    (∀ req n, Claims.Writes s req .rst → s.resetPending = false → n < 16 →
      let v := BitVec.ofNat 32 (2 ^ (16 + n) + 2 ^ n)
      ((∀ p ∈ s.dgs.cores, p.1 ≠ n) → ∃ t, exec (.dcoreReset req v (~~~v)) s = .next t ∧
        t.reg .rst 0x134 = BitVec.ofNat 32 (0x0017 * 65536 + n * 256 + 1) ∧ bit (t.reg .rst 0x01C) 17 = true) ∧
      ((∃ p ∈ s.dgs.cores, p.1 = n) → ∃ t, exec (.dcoreReset req v (~~~v)) s = .next t ∧
        t.reg .rst 0x134 = BitVec.ofNat 32 (0x0017 * 65536 + n * 256 + 2) ∧ bit (t.reg .rst 0x010) 21 = true))

/-- The boot (R219, R221, R439, R448 to R453): failing units are DISABLED and a fatal failure stops the boot; a valid header
and firmware image are taken in turn, an invalid image falls back or stops; the keys, configuration readiness, the packs
in order, full readiness, the owner's record in the two flashes in turn, and the persistent objects. -/
def Obligations.Boot : Prop :=
  ∀ (s : State), s.avs.tripped = false →
    let stopped (t : State) : Prop := t.bootPhase = 9 ∧ t.rst.stopped = true ∧ t.tally = {} ∧
      ∀ d, 3 ≤ d → d ≤ 8 → t.released d = false
    (s.released 3 = true → s.rst.bistDone = false → ∀ pages cores links,
      (∃ t, exec (.bistDone pages cores links false) s = .next t ∧ t.rst.bistDone = true ∧ t.rst.bistOk = true ∧
        (∀ n < 64, Page.stp n ∈ pages → t.outOfService (.stp n) = true) ∧
        (∀ n < 8, Page.shf n ∈ pages → t.outOfService (.shf n) = true) ∧
        (∀ n < 16, n ∈ cores → n ∈ t.dgs.dead) ∧ (∀ n < 4, n ∈ links → n ∈ t.zdp.deadLinks)) ∧
      (∃ t, exec (.bistDone pages cores links true) s = .next t ∧ stopped t)) ∧
    (s.released 3 = true → s.rst.stopped = false → s.rst.fwLoaded = false → s.rst.header = [] → s.hdf.wdtRun < 3 →
      ∀ b h l, (s.flashOrder.drop s.rst.tried).head? = some b →
        (s.headerOk h = true → ∃ t, exec (.bootHeaderRead b h l) s = .next t ∧ t.rst.header = h ∧ t.rst.packs = packTable h l ∧
          t.bootPhase = 2 ∧ t.regField .rst 0x114 5 4 = b2n b) ∧
        (s.headerOk h = false → s.rst.tried + 1 < s.flashOrder.length → ∃ t, exec (.bootHeaderRead b h l) s = .next t ∧
          t.rst.tried = s.rst.tried + 1 ∧ t.rst.stopped = false ∧ bit (t.reg .rst 0x104) 25 = true ∧
          bit (t.reg .rst 0x010) 18 = true) ∧
        (s.headerOk h = false → s.flashOrder.length ≤ s.rst.tried + 1 → ∃ t, exec (.bootHeaderRead b h l) s = .next t ∧
          stopped t)) ∧
    (s.rst.header ≠ [] → s.rst.fwLoaded = false → ∀ image,
      (image.length = leField s.rst.header 16 4 → sha384 image = slice s.rst.header 48 48 →
        ∃ t, exec (.firmwareLoadDone image) s = .next t ∧ t.rst.fwLoaded = true ∧ t.rst.fwDigest = sha384 image ∧
          t.reg .rst 0x118 = BitVec.ofNat 32 (leField s.rst.header 8 4) ∧
          ∀ b, s.lcc.slotA = some b → (s.ownRecOf b).macOk = true → (s.ownRecOf b).count = s.lcc.ownCount →
            (s.ownRecOf b).owned = true → t.lcc.ownState = 1 ∧ t.lcc.ownKey = (s.ownRecOf b).keyId) ∧
      (image.length ≠ leField s.rst.header 16 4 → s.flashOrder.length ≤ s.rst.tried + 1 →
        ∃ t, exec (.firmwareLoadDone image) s = .next t ∧ stopped t)) ∧
    (s.released 2 = true → s.rst.fwLoaded = false → s.lcc.state ≠ 3 → s.rst.stopped = true → ∀ h image l, s.headerOk h = true →
      image.length = leField h 16 4 → sha384 image = slice h 48 48 → ∃ t, exec (.recoveryImage h image l) s = .next t ∧
        t.rst.fwLoaded = true ∧ t.rst.stopped = false ∧ t.regField .rst 0x114 5 4 = 2) ∧
    (s.lcc.state = 3 → ∀ h image l, exec (.recoveryImage h image l) s = .next s) ∧
    (∀ k, s.lcc.secret = some k → s.rst.fwLoaded = true → s.released 4 = true → s.rst.keysDone = false → s.lcc.state = 1 ∨ s.lcc.state = 2 →
      let seed := attestSeed k s.rst.fwDigest
      exec .keyDerivationDone s = .next { s with
        freeNext := s.freeNext + 1
        lode := { s.lode with identityKey := some (identitySecret k), attestKey := some seed
                              aliasSig := deviceSig (identitySeed k) (attestPublic seed) (s.signRandom 32) }
        rst := { s.rst with keysDone := true } }) ∧
    (s.released 7 = true → s.cfgReady = false → ∃ t, exec .configReady s = .next t ∧ t.cfgReady = true ∧
      t.reg .rst 0x124 = BitVec.ofNat 32 s.stamp ∧ t.reg .rst 0x128 = BitVec.ofNat 32 (s.stamp / 2 ^ 32)) ∧
    (∀ k mask p, s.rst.packs[k]? = some (mask, p) → s.bootPhase = 6 → s.rst.packNext = k →
      ∃ t, exec (.bootPackLoaded k) s = .next t ∧ t.rst.packNext = k + 1 ∧ lookup t.rst.measures (4 + k) = some (sha384 p.image) ∧
        ∀ n < 64, ∀ st, mask = 2 ^ n → k + 1 < s.rst.packs.length → s.outOfService (.stp n) = false →
          (s.stope n).store.packs.length < 4 → s.packResult n p.image false = 0 → (s.stope n).store.install p = some st →
          (t.stope n).store = st) ∧
    (s.bootPhase = 7 → s.rst.bootCommitted = true → ∃ t, exec .fullReadiness s = .next t ∧ t.bootPhase = 8 ∧
      bit (t.reg .rst 0x104) 31 = true ∧ t.reg .rst 0x12C = BitVec.ofNat 32 s.stamp ∧ t.hdf.wdtRun = 0 ∧
      bit (t.reg .rst 0x01C) 16 = true) ∧
    (s.bootPhase ≠ 7 → exec .fullReadiness s = .next s) ∧
    (∀ k, s.txn.recordPending = true → s.rst.fwLoaded = true → s.lcc.secret = some k →
      let q : OwnerRec := { epoch := s.txn.epoch, values := rwsOnly s.regs }
      let r : OwnerRec := { q with tag := q.tagUnder k }
      let u : State := { s with txn := { s.txn with recordPending := false } }
      exec .ownerConfigRecordWrite s = .next (if s.rst.lastOwnerB then { u with rst := { s.rst with lastOwnerB := false, ownerA := some r } }
        else { u with rst := { s.rst with lastOwnerB := true, ownerB := some r } })) ∧
    (∀ key r, s.lode.storageKey = some key → s.lode.rootLost = false → s.released 4 = true → s.rst.fwLoaded = true →
      s.lode.maskKey.isSome = true → s.restoring = true → s.lode.records = [r] → s.tally.entries = [] →
      (r.tagOk = true → r.under = key → r.marker = false → ∃ t, exec .persistRestore s = .next t ∧ t.lode.restoreDone = true ∧
        t.lode.restoreFail = 0 ∧ bit (t.reg .lod 0x01C) 16 = true ∧ (t.obj (handleIndex r.handle)).present = true ∧
        (t.obj (handleIndex r.handle)).gen = handleGen r.handle ∧
        (t.obj (handleIndex r.handle)).tenant = handleTenant r.handle ∧ (t.obj (handleIndex r.handle)).held = false) ∧
      (r.tagOk = false ∨ r.under ≠ key → ∃ t, exec .persistRestore s = .next t ∧ t.lode.restoreDone = true ∧ t.lode.restoreFail = 1 ∧
        t.lode.restorePartial = true ∧ bit (t.reg .lod 0x010) 17 = true ∧ t.lode.objs = s.lode.objs)) ∧
    (s.lode.storageKey = none ∨ s.lode.rootLost = true → s.released 4 = true → s.rst.fwLoaded = true →
      s.lode.maskKey.isSome = true → s.restoring = true →
      s.tally.entries = [] → ∃ t, exec .persistRestore s = .next t ∧ t.restoring = false ∧ t.lode.rootLost = true ∧
        t.lode.objs = s.lode.objs)

/-- Resets (R434 to R436, R443, R444): each source resets what it names and is recorded in `RST_CAUSE`; a power-on reset
also restarts the stamp and the log; a link reset leaves every domain but D7; the release of D1 waits for the last source
and starts the option load. The release of the domains and the digest cores (R438, R439, R445, R446, R455): a domain follows
its predecessor after its time, D5 in four groups; Headframe alone requests domains, when their conditions hold; a drained
idle digest core is reset, another is refused. -/
def Obligations.ResetsAndRelease : Prop := Claims.Resets ∧ Claims.DomainRelease

namespace Sys2Proof.Claims
open Sys2Proof.Machine

/-- The life-cycle controller takes a command now: none runs, and no lockout lasts (R462, R466). -/
def Idle (s : State) : Prop := s.lccBusy = false ∧ s.lcc.lockout = none

/-- The instruction for a life-cycle command. -/
noncomputable def lccInstr (cmd : Nat) (req : Requester) (v : Word) : Instr :=
  match cmd with
  | 1 => .toTest req v (~~~v)
  | 2 => .toProduction req v (~~~v)
  | 3 => .toEndOfLife req v (~~~v)
  | _ => .setTok3 req v (~~~v)

/-- The instruction for an ownership command. -/
noncomputable def ownInstr (cmd : Nat) (req : Requester) (v : Word) : Instr :=
  match cmd with
  | 1 => .ownEnroll req v (~~~v)
  | 2 => .ownTransfer req v (~~~v)
  | 3 => .ownRelease req v (~~~v)
  | _ => .ownRestore req v (~~~v)

/-- The blob of an ownership command (R469). -/
def ownBlob (s : State) : Bytes :=
  s.hostRead ((s.reg .lcc 0x154).toNat + 2 ^ 32 * (s.reg .lcc 0x158).toNat) (Nat.min 8192 (s.reg .lcc 0x15C).toNat)

/-- An ownership command is checked against its blob (R462, R466, R469, R471). -/
def OwnOpen (s : State) (cmd : Nat) : Prop :=
  Idle s ∧ s.isWorker = false ∧ s.lcc.state = 2 ∧ s.lcc.ownState = ownNeeds cmd ∧ (cmd ≠ 4 → s.lcc.ownCount < 64) ∧
    (s.fn 0).bme = true ∧ s.lcc.secret ≠ none ∧ (∀ b, s.lcc.slotA = some b → (s.ownRecOf b).count ≤ s.lcc.ownCount) ∧
    (∀ b, s.lcc.slotB = some b → (s.ownRecOf b).count ≤ s.lcc.ownCount)

end Sys2Proof.Claims

/-- Life-cycle commands (R462 to R466): a wrong token is refused with a lockout, no such transition, BUSY and LOCKED; a right
one draws the device secret, drops VENDOR_TEST objects or destroys every key class, and starts programming the copies;
the last copy ends the transition with a device reset; SET_TOK3 keeps the new digest. -/
def Obligations.LifeCycleCommands : Prop :=
  ∀ (s : State) (req : Requester) (cmd : Nat) (v : Word), Claims.Writes s req .lcc → 1 ≤ cmd → cmd ≤ 4 → field v 3 0 = cmd →
    let c := Claims.lccInstr cmd req v
    let x := s.lcc
    (Claims.Idle s → cmd ≠ 4 → ∀ d, x.tokenFor cmd = some d →
      (sha3 (s.regBytes .lcc 0x104) ≠ d → ∃ t, exec c s = .next t ∧ t.lcc = { x with
          result := 2, lockout := some s.stamp, tokFail := Nat.min 0xFFFF (x.tokFail + 1) } ∧
        bit (t.reg .lcc 0x010) 16 = true ∧ t.lode = s.lode ∧ ∀ i < 8, t.reg .lcc (0x104 + 4 * i) = 0) ∧
      (sha3 (s.regBytes .lcc 0x104) = d → s.copyFrom 0 cmd false ≠ 5 →
        (cmd = 1 → x.secretA = .blank → s.ent.central.live = true → s.entReady = true → ∃ t, exec c s = .next t ∧
          t.lcc.cmd = 1 ∧ t.lcc.phase = 3 ∧ t.lcc.nextCopy = s.copyFrom 0 1 false ∧
          ∃ k, t.lcc.secretA = .key k ∧ k.length = 32 ∧ t.lcc.devid = sha3 (identityPublic k)) ∧
        (cmd = 2 → ∃ t, exec c s = .next t ∧ t.lcc.cmd = 2 ∧ t.lcc.phase = 3 ∧ t.lcc.nextCopy = s.copyFrom 0 2 false ∧
          ∀ r ∈ t.lode.records, r.obj.vendorTest = false) ∧
        (cmd = 3 → ∃ t, exec c s = .next t ∧ t.lcc.cmd = 3 ∧ t.lcc.phase = 3 ∧ t.lode.storageKey = none ∧
          t.lode.leaseKey = none ∧ t.lode.identityKey = none ∧ t.lode.attestKey = none ∧ t.cny.rootKey = none ∧
          t.zdp.transportKey = none ∧ t.lode.dstamp = s.stamp ∧ ∀ i, (t.obj i).present = false))) ∧
    (Claims.Idle s → cmd ≠ 4 → x.tokenFor cmd = none → ∃ t, exec c s = .next t ∧ t.lcc = { x with result := 5 }) ∧
    (Claims.Idle s → cmd = 4 → x.state = 2 → x.ownState = 1 → x.tok3Written = false →
      sha3 (s.regBytes .lcc 0x104) = (if x.tok3Flag then x.tok3b else x.tok3a) → ∃ t, exec c s = .next t ∧ t.lcc = { x with
        tok3Written := true, tok3b := s.regBytes .lcc 0x1C0, tok3Flag := true, result := 1 } ∧
        bit (t.reg .lcc 0x01C) 16 = true) ∧
    (s.lccBusy = true → ∃ t, exec c s = .next t ∧ t.lcc = { x with result := 3 } ∧ bit (t.reg .lcc 0x010) 0 = true) ∧
    (∀ n, s.lccBusy = false → x.lockout = some n → s.stamp < n + 1000000000 → ∃ t, exec c s = .next t ∧
      t.lcc = { x with result := 0xC }) ∧
    (∀ n, x.lockout = some n → exec .tokenLockoutExpiry s =
      .next { s.advanceTo (n + 1000000000) with lcc := { x with lockout := none } }) ∧
    (x.completing = false → x.cmd = cmd → cmd ≤ 3 → x.phase = 3 → x.nextCopy < 5 → x.copies.length = 5 →
      let u := s.programCopy x.nextCopy cmd (lcPattern cmd)
      (nthD u.lcc.copies x.nextCopy {}).reads = some cmd →
      (u.copyFrom (x.nextCopy + 1) cmd false < 5 → exec (.lcCopyProgrammed true) s = .next { u with lcc := { u.lcc with
        nextCopy := u.copyFrom (x.nextCopy + 1) cmd false, tries := 0, copiesDone := u.copiesAt cmd } }) ∧
      (u.copyFrom (x.nextCopy + 1) cmd false = 5 → 3 ≤ u.copiesAt cmd → (∀ q ∈ s.rst.asserted, q.1 ≠ 8) →
        ∃ t, exec (.lcCopyProgrammed true) s = .next t ∧ (8, true) ∈ t.rst.asserted ∧ t.lcc.copies = u.lcc.copies ∧
          t.lcc.cmd = 0 ∧ t.tally = {} ∧ (cmd = 3 → t.lcc.secretA = .ones ∧ t.lcc.secretB = .ones)))

/-- Ownership (R467 to R471): an enrolment takes the key, a transfer signed by the owner hands over, a signed release gives up,
each counted and followed by a commit; RESTORE takes back a record of this device; another signature, state or blob is
refused by its result. -/
def Obligations.Ownership : Prop :=
  ∀ (s : State) (req : Requester) (cmd : Nat) (v : Word), Claims.Writes s req .lcc → 1 ≤ cmd → cmd ≤ 4 → field v 2 0 = cmd →
    let c := Claims.ownInstr cmd req v
    let x := s.lcc
    let blob := Claims.ownBlob s
    let tail := x.devid ++ leBytes 8 x.ownCount
    let changed (t : State) (owned : Bool) (key : Bytes) : Prop := t.lcc.ownCount = x.ownCount + 1 ∧ t.lcc.ownCmd = cmd ∧
      t.lcc.ownState = b2n owned ∧ t.lcc.ownPub = key ∧ t.lcc.ownKey = (if owned then sha3 key else []) ∧
      (HfReason.ownership, []) ∈ t.txn.hfQueue ∧ t.regs = s.regs
    (Claims.OwnOpen s cmd →
      (cmd = 1 → blob.length = 2592 → ∃ t, exec c s = .next t ∧ changed t true blob) ∧
      (cmd = 2 → blob.length = 2592 + 4627 →
        pureSigned x.ownPub [] (ascii "FV transfer" ++ tail ++ sha3 (blob.take 2592)) (blob.drop 2592) = true →
        ∃ t, exec c s = .next t ∧ changed t true (blob.take 2592)) ∧
      (cmd = 3 → blob.length = 4627 → pureSigned x.ownPub [] (ascii "FV release" ++ tail) blob = true →
        ∃ t, exec c s = .next t ∧ changed t false []) ∧
      (cmd = 1 → blob.length ≠ 2592 → ∃ t, exec c s = .next t ∧ t.lcc = { x with result := 0xA } ∧ t.regs = s.regs) ∧
      (cmd = 4 → (s.ownRecOf blob).macOk = true → (s.ownRecOf blob).count = x.ownCount → ∃ t, exec c s = .next t ∧
        t.lcc.slotA = some blob ∧ t.lcc.slotB = some blob ∧ t.lcc.result = 1 ∧
        t.lcc.ownState = b2n (s.ownRecOf blob).owned ∧ t.lcc.ownCount = x.ownCount ∧ bit (t.reg .lcc 0x01C) 17 = true)) ∧
    (Claims.Idle s → s.isWorker = true → ∃ t, exec c s = .next t ∧ t.lcc = { x with result := 9 } ∧ t.regs = s.regs) ∧
    (Claims.Idle s → s.isWorker = false → x.state ≠ 2 → ∃ t, exec c s = .next t ∧ t.lcc = { x with result := 0xB } ∧
      t.regs = s.regs)

/-- Debug authorisation and the JTAG port (R472 to R475): a challenge is drawn and expires; a correct authorisation of LEVEL 1
or 2 is granted until it ends or expires, one of LEVEL 3 waits for the alarm it raises, an incorrect one is refused, and
each consumes the challenge; the instructions capture their registers, and scan is open only at its level. -/
def Obligations.DebugAndJtag : Prop :=
  ∀ (s : State), s.released 2 = true →
    let x := s.lcc
    (∀ via, (∀ req, via = some req → Claims.Writes s req .lcc) → s.lccBusy = false → s.entReady = true → s.ent.central.live = true →
      ∃ t, exec (.newchal via) s = .next t ∧ t.lcc.challengeAt = s.stamp ∧ t.lcc.grant = x.grant ∧
        ∃ k, t.lcc.challenge = some k ∧ k.length = 32) ∧
    (∀ b, s.lccBusy = false →
      let level := leField b 6 1
      let signer := leField b 7 1
      let sound := x.state = 2 ∧ s.authFields b = true ∧ (signer = 2 → x.ownState = 1) ∧
        pureSigned (if signer = 2 then x.ownPub else Config.romKey romDebug) (ascii "FV debug") (b.take 80) (b.drop 80) = true
      (sound → level ≠ 3 → ∃ t, exec (.dbgauth b) s = .next t ∧ t.lcc = { x with
        challenge := none, grant := level, signer := signer, validity := leField b 72 4, grantAt := s.stamp } ∧
        bit (t.reg .lcc 0x01C) 18 = true) ∧
      (sound → level = 3 → ∃ t, exec (.dbgauth b) s = .next t ∧ t.lcc = { x with
        challenge := none, waiting := some (signer, leField b 72 4) } ∧ bit (t.reg .cny 0x104) 0x1C = true) ∧
      (¬sound → exec (.dbgauth b) s = .next (({ s with lcc := { x with challenge := none } } : State).setErr .lcc 20))) ∧
    (∀ req, Claims.Writes s req .lcc → s.lccBusy = false → x.grant ≠ 0 → x.scanUsed = false →
      ∃ t, exec (.dbgEnd req) s = .next t ∧ t.lcc = { x with grant := 0, signer := 0, validity := 0, scanUsed := false }) ∧
    (∀ k, x.challenge = some k → exec .challengeExpiry s = .next
      { s.advanceTo (x.challengeAt + 60000000000) with lcc := { x with challenge := none } }) ∧
    (x.grant ≠ 0 → x.scanUsed = false → ∃ t, exec .debugExpiry s = .next t ∧
      t.stamp = Nat.max s.stamp (x.grantAt + x.validity * 1000000000) ∧
      t.lcc = { x with grant := 0, signer := 0, validity := 0, scanUsed := false }) ∧
    (x.grant ≠ 0 → x.scanUsed = true → (∀ q ∈ s.rst.asserted, q.1 ≠ 8) → ∃ t, exec .debugExpiry s = .next t ∧
      (8, true) ∈ t.rst.asserted ∧ t.tally = {} ∧ t.lcc.grant = 0) ∧
    (∀ q ∈ [(Instr.bypass, 0, [0]), (.idcode, 1, fit 4 Config.idcode),
        (.ident, 2, fit 16 Config.uid ++ fit 32 x.devid ++ leBytes 4 s.lccState), (.dbgsts, 3, leBytes 4 s.lccDbg)],
      exec q.1 s = .next { s with lcc := { x with jtag := q.2.1, jtagOut := q.2.2 } }) ∧
    (2 ≤ s.debugLevel → (∀ a b, exec (.samplePreload a b) s =
        .next { s with lcc := { x with jtag := 4, jtagOut := a, boundary := b, scanUsed := true } }) ∧
      exec .extest s = .next { s with lcc := { x with jtag := 5, scanUsed := true } }) ∧
    (s.debugLevel < 2 → (∀ a b, exec (.samplePreload a b) s = .next s) ∧ exec .extest s = .next s)

namespace Sys2Proof.Claims
open Sys2Proof.Machine

/-! ## Attestation -/

/-- Connection `c` answers with a message of these fields, and is otherwise `x`; nothing else changed. -/
def Answers (s t : State) (c : Nat) (x : Spdm) (code : Nat) (fields : List Bytes) : Prop :=
  let m := Config.spdmBytes code fields
  t.spdm c = { x with response := m, transcript := x.transcript ++ m } ∧ (∀ k, k ≠ c → t.spdm k = s.spdm k) ∧
    t.regs = s.regs ∧ t.lode = s.lode ∧ t.host = s.host ∧ t.pending = s.pending

/-- A request on `c` that leaves the connection `x` is answered so. -/
def Asked (s : State) (i : Instr) (c : Nat) (x : Spdm) (code : Nat) (fields : List Bytes) : Prop :=
  ∃ t, exec i s = .next t ∧ Answers s t c x code fields

end Sys2Proof.Claims

/-- Attestation (R476 to R478): each request is answered in its order, out of order with an ERROR and on a closed connection
not at all; the signatures are the attestation key's, sessions are made, updated and ended, and key the IDE streams. -/
def Obligations.Attestation : Prop :=
  ∀ (s : State) (c : Nat),
    let x := s.spdm c
    let requests : List Instr := [.getCapabilities c, .negotiateAlgorithms c, .getDigests c, .getCertificate c 0 0 0, .spdmChallenge c [],
      .getMeasurements c 0xFF [], .keyExchange c [], .spdmFinish c [], .keyUpdate c, .spdmHeartbeat c, .endSession c, .vendorDefinedRequest c 0 []]
    (s.spdmOpen c = false → ∀ i ∈ .getVersion c :: requests, exec i s = .next s) ∧
    (s.spdmOpen c = true →
      Claims.Asked s (.getVersion c) c { step := 1 } 0x04 [] ∧
      (x.step = 0 → ∀ i ∈ requests, Claims.Asked s i c x 0x7F []) ∧
      (1 ≤ x.step → Claims.Asked s (.getCapabilities c) c { x with step := Nat.max 2 x.step } 0x61 []) ∧
      (2 ≤ x.step → Claims.Asked s (.negotiateAlgorithms c) c { x with step := 3 } 0x63 []) ∧
      (3 ≤ x.step →
        (∀ b, s.certChain = some b → Claims.Asked s (.getDigests c) c x 0x01 [sha384 b] ∧
          ∀ off len, off < b.length → Claims.Asked s (.getCertificate c 0 off len) c x 0x02
            [(b.drop off).take len, leBytes 2 (b.length - off - ((b.drop off).take len).length)]) ∧
        (s.certChain = none → ∀ slot off len, Claims.Asked s (.getCertificate c slot off len) c x 0x7F []) ∧
        (∀ seed, s.lode.attestKey = some seed →
          (∀ nonce, Claims.Asked s (.spdmChallenge c nonce) c x 0x03
            [nonce, Config.prim (.ecSig 2) [attestPrivate seed, sha384 (x.transcript ++ nonce), scalarFrom 2 (s.signRandom (ecDrawLen 2))]]) ∧
          (∀ nonce, Claims.Asked s (.getMeasurements c 0xFF nonce) c x 0x60
            ((s.measureBlocks ++ [(0xF0, deviceSig seed (sha384 (s.measureBlocks.map fun (q : Nat × Bytes) => q.2).flatten ++ nonce)
              (s.signRandom 32))]).map fun (q : Nat × Bytes) => leBytes 1 q.1 ++ q.2)) ∧
          (∀ peer, s.ent.central.live = true → s.entReady = true → ∃ t r, exec (.keyExchange c peer) s = .next t ∧
            (s.drawCentral 3 (ecDrawLen 2)).2 = some r ∧ r.length = ecDrawLen 2 ∧ let d := scalarFrom 2 r
            let u := (s.drawCentral 3 (ecDrawLen 2)).1
            (t.spdm c).session = 1 ∧ (t.spdm c).sessionId = x.sessionId + 1 ∧
            (t.spdm c).secret = Config.prim (.ecShared 2) [d, peer] ∧
            (t.spdm c).response = Config.spdmBytes 0x64 [Config.prim (.ecPub 2) [d], Config.prim (.ecSig 2)
              [attestPrivate seed, sha384 (x.transcript ++ peer ++ Config.prim (.ecPub 2) [d]), scalarFrom 2 (u.signRandom (ecDrawLen 2))]])) ∧
        (x.session = 1 → Claims.Asked s (.spdmFinish c (fit 48 (Config.prim (.hmac 0x03) [x.secret, x.transcript]))) c
          { x with session := 2 } 0x65 []) ∧
        (∀ mac, x.session ≠ 1 → Claims.Asked s (.spdmFinish c mac) c x 0x7F []) ∧
        (x.session = 2 →
          Claims.Asked s (.keyUpdate c) c { x with updates := x.updates + 1 } 0x69 [] ∧
          Claims.Asked s (.spdmHeartbeat c) c x 0x68 [] ∧
          Claims.Asked s (.endSession c) c { x with session := 0, secret := [], updates := 0 } 0x6C [] ∧
          ∀ stream key, Claims.Asked s (.vendorDefinedRequest c stream key) c { x with ide := Cells.put x.ide (stream % 256) key }
            0x7E [leBytes 1 (stream % 256)])))

namespace Sys2Proof.Claims
open Sys2Proof.Machine

/-! ## Canary -/

/-- Source `src` raised its alarm (R490 step 1, R498): logged, pending, signalled and handed to Tally with the class its mapping
gave at detection. -/
def Raised (s t : State) (src cause detail : Nat) : Prop :=
  bit (t.reg .cny 0x104) src = true ∧ bit (t.reg .cny 0x01C) 16 = true ∧ t.cny.lastSrc = src ∧
    t.cny.detected = s.cny.detected ++ [{ src := src, cls := s.mapClass src, detected := t.stamp, cause := cause }] ∧
    (s.cny.log.length < 64 → ∃ e, t.cny.log = s.cny.log ++ [e] ∧ e.src = src ∧ e.cls = s.mapClass src ∧ e.cause = cause ∧
      e.detail = detail ∧ e.processed = false ∧ e.seq = s.cny.logSeq) ∧ t.lode = s.lode ∧ t.tally = s.tally ∧ t.host = s.host

end Sys2Proof.Claims

/-- Tamper detection and the backup domain (R482 to R485, R488, R492, R494 to R499, R502): a pulse samples the loops, the case
inputs and the cell; a disturbed loop or input, a monitor, or the cell's removal raises its source once; a source is
cleared once its condition is gone; the lock is for PRODUCTION; retained memory opens its ranges; the log is processed at
power-up. -/
def Obligations.TamperDetection : Prop :=
  ∀ (s : State), s.cnyMain = true →
    (∀ first second cases mv, ∃ t, exec (.loopPulse first second cases mv) s = .next t ∧
      t.stamp = Nat.max s.stamp (s.cny.pulseAt + field (s.reg .cny 0x13C) 13 0 * 1000) ∧
      (∀ n < 8, t.loop n = sampleLoop (s.loop n) (bit (s.reg .cny 0x134) n) (bit (s.reg .cny 0x134) (8 + n))
        (first.testBit n) (second.testBit n)) ∧
      (∀ n < 4, t.loop (8 + n) = sampleCase (s.loop (8 + n)) (bit (s.reg .cny 0x138) n)
        (cases.testBit n != bit (s.reg .cny 0x138) (4 + n))) ∧
      t.cny.vbatMv = mv % 4096 ∧ t.cny.batLow = decide (mv < 2400) ∧
      (mv < 2400 → s.cny.batLow = false → Claims.Raised s t 0x19 0 mv)) ∧
    (∀ n, n < 8 → s.loopBad n = true → (s.loop n).raised = false → ∃ t, exec (.loopEvent n) s = .next t ∧
      Claims.Raised s t n (s.loop n).cause 0 ∧ (t.loop n).raised = true ∧ bit t.cny.srcAct n = true) ∧
    (∀ n, n < 4 → s.loopBad (8 + n) = true → (s.loop (8 + n)).raised = false → ∃ t, exec (.caseEvent n) s = .next t ∧
      Claims.Raised s t (8 + n) (s.loop (8 + n)).cause 0 ∧ (t.loop (8 + n)).raised = true) ∧
    (∀ n, (s.loop n).raised = true → exec (.loopEvent n) s = .next s) ∧
    (∀ src cause detail lasting, bit s.cny.srcAct src = false → s.monitorOn src = true → trips src cause detail = true →
      ∃ t, exec (.monitorEvent src cause detail lasting) s = .next t ∧ Claims.Raised s t src cause detail ∧
        t.cny.srcAct = if lasting then setBit s.cny.srcAct src else s.cny.srcAct) ∧
    (∀ src cause detail lasting, s.monitorOn src = false ∨ trips src cause detail = false →
      exec (.monitorEvent src cause detail lasting) s = .next s) ∧
    (∀ src, 0x0C ≤ src → src ≤ 0x14 → s.monitorOn src = true) ∧
    (∀ mv, mv < 1800 → s.cny.vbatGone = false → ∃ t, exec (.vbatRemoved mv) s = .next t ∧ Claims.Raised s t 0x18 0 mv ∧
      t.cny.vbatGone = true ∧ bit t.cny.srcAct 0x18 = true) ∧
    (∀ n, 12 ≤ n → n < 32 → bit s.cny.srcAct n = true → bit (s.regAtE .cny 0x144) 8 = false → exec (.sourceClear n) s =
      .next { s with cny := { s.cny with srcAct := clearBit s.cny.srcAct n, vbatGone := s.cny.vbatGone && n != 0x18 } }) ∧
    (∀ n, n < 12 → bit s.cny.srcAct n = true ∨ (s.loop n).raised = true → s.loopBad n = false → bit (s.regAtE .cny 0x144) 8 = false →
      exec (.sourceClear n) s = .next (({ s with cny := { s.cny with srcAct := clearBit s.cny.srcAct n } } : State).setLoop n
        { s.loop n with raised := false })) ∧
    (∀ n, 12 ≤ n → bit s.cny.srcAct n = false → (s.loop n).raised = false → exec (.sourceClear n) s = .next s) ∧
    (∀ req v, Claims.Writes s req .cny → bit v 0 = true →
      let u := s.freshCopy .cny 0x130
      (s.lcc.state = 2 → exec (.cnyLock req v (~~~v)) s = .next
        { u with cny := { s.cny with locked := true, floor := (List.range 32).map fun k => s.mapClass k } }) ∧
      (s.lcc.state ≠ 2 → exec (.cnyLock req v (~~~v)) s = .next (u.setErr .cny 0))) ∧
    (∀ req v, Claims.Writes s req .cny →
      let a := s.regField .cny 0x150 11 2 * 4
      let on (t : State) : State := t.setReg .cny 0x150 (BitVec.ofNat 32 ((a + 4) % 4096))
      (0x400 ≤ a → a < 0x800 → exec (.rmdataAccess req true v) s = .next (on { s with cny := { s.cny with
        retained := Cells.writeBytes s.cny.retained a (leBytes 4 v.toNat) } })) ∧
      (a < 0x400 ∨ 0x800 ≤ a → exec (.rmdataAccess req true v) s = .next (on (s.setErr .cny 0))) ∧
      (0x400 ≤ a → a < 0xC00 → exec (.rmdataAccess req false v) s = .next (on s)) ∧
      (a < 0x400 ∨ 0xC00 ≤ a → exec (.rmdataAccess req false v) s = .next (on (s.setErr .cny 0)))) ∧
    (s.rst.logRead = false → s.cny.sealed = true → s.cny.detected = [] → s.cny.logLost = s.cny.lostCounted →
      (∀ e, s.cny.log = [e] → e.processed = false → ∃ t, exec .eventLogProcess s = .next t ∧ t.rst.logRead = true ∧
        (∃ f, t.cny.log = [f] ∧ f.processed = true ∧ f.src = e.src ∧ f.cls = e.cls) ∧
        (e.counted = false → e.backup = true ∨ 3 ≤ e.cls → s.cny.tctr < 2048 → t.cny.tctr = s.cny.tctr + 1) ∧
        (e.cls < 2 → t.cny.held = s.cny.held ∧ t.cny.phase = s.cny.phase) ∧
        (2 ≤ e.cls → e.cls < 5 → t.cny.held = true ∧ t.cny.phase = 5 ∧ (4 ≤ e.cls → t.cny.rootKey = none)) ∧
        (5 ≤ e.cls → t.cny.phase = 4 ∧ t.bootPhase = 0xA)) ∧
      ((∀ e ∈ s.cny.log, e.processed = true) → exec .eventLogProcess s = .next { s with rst := { s.rst with logRead := true } })) ∧
    (s.rst.logRead = true → exec .eventLogProcess s = .next s)

/-- The alarm's action sequence (R486, R490 to R493, R218, R261, R434): Tally applies an event by its class, A2 holds dispatch
and A3 scrubs; the scrub clears the engines, A4 then destroys every key class, A5 shuts down; the hold is released when
its conditions are met and not before. -/
def Obligations.AlarmSequence : Prop :=
  ∀ (s : State), s.avs.tripped = false →
    (∀ a rest, s.cny.detected = a :: rest → s.lcc.phase ≠ 3 → ∃ t, exec .alarmCutoff s = .next t ∧ t.cny.detected = rest ∧
      (a.cls < 2 → t.cny.held = s.cny.held ∧ t.cny.phase = s.cny.phase ∧ t.tally = s.tally ∧ t.lode = s.lode ∧
        (a.src, a.cls) ∈ t.cny.inForce) ∧
      (s.cny.phase = 0 → s.cny.inForce = [] → s.cny.scrubbed = false →
        (a.cls = 2 → t.cny.held = true ∧ t.cny.phase = 5 ∧ t.cny.inForce = [(a.src, 2)] ∧ t.lode.serving = s.lode.serving) ∧
        (3 ≤ a.cls → t.cny.held = true ∧ t.cny.phase = 2 ∧ t.lode.serving = false ∧ t.tally.cutoff = s.stamp + 1))) ∧
    (s.cny.detected = [] → exec .alarmCutoff s = .next s) ∧
    (s.cny.phase = 2 → (∀ q ∈ s.tally.entries, q.2.state ≠ .dispatched) → ∃ t, exec .scrubDone s = .next t ∧
      (∀ n i, (t.eng n i).loc = []) ∧ t.runs = [] ∧ (∀ n < 8, (t.shaft n).main = none ∧ (t.shaft n).inner = none) ∧
      t.cny.scrubbed = true ∧
      (s.alarmClass = 3 → s.cny.held = true → t.cny.phase = 5) ∧
      (4 ≤ s.alarmClass → s.cny.zeroised = false → t.cny.phase = 3)) ∧
    (s.cny.phase = 3 → s.cny.scrubbed = true → s.cny.shut = false → s.isManager = false → s.isWorker = false → s.zdp.mstate = 0 →
      ∃ t, exec .zeroiseDone s = .next t ∧ t.lode.storageKey = none ∧ t.lode.identityKey = none ∧ t.lode.attestKey = none ∧
        t.cny.rootKey = none ∧ t.zdp.transportKey = none ∧ (∀ i, (t.obj i).present = false) ∧
        (s.alarmClass = 4 → s.cny.held = true → t.cny.phase = 5 ∧ ∀ p, s.lcc.waiting = some p →
          t.lcc.grant = 3 ∧ t.lcc.signer = p.1 ∧ t.lcc.validity = p.2) ∧
        (5 ≤ s.alarmClass → t.cny.phase = 4 ∧ t.bootPhase = 0xA ∧ t.tally = {} ∧
          ∀ d, 3 ≤ d → d ≤ 8 → t.released d = false)) ∧
    (∀ req v, s.released 2 = true → Claims.Writes s req .cny → bit v 0 = true →
      let rel (u : State) : State := ({ u with
        cny := { s.cny with held := false, phase := 0, inForce := [], scrubbed := false, zeroised := false }
        lode := { s.lode with serving := true }
        txn := { s.txn with hfQueue := s.txn.hfAgain ++ s.txn.hfQueue, hfAgain := [] } } : State).setInt .cny 17
      let u := s.freshCopy .cny 0x10C
      (s.cny.held = true → s.mayReleaseHold = true → s.alarmClass < 4 →
        exec (.alarmRelease true req v (~~~v)) s = .next (rel s) ∧ exec (.alarmRelease false req v (~~~v)) s = .next (rel u)) ∧
      (s.cny.held = true → s.mayReleaseHold = false →
        exec (.alarmRelease true req v (~~~v)) s = .next (s.setErr .cny 17) ∧
        exec (.alarmRelease false req v (~~~v)) s = .next (u.setErr .cny 17)) ∧
      (s.cny.held = false → s.cny.phase = 0 →
        (s.cny.inForce = [] → exec (.alarmRelease true req v (~~~v)) s = .next s) ∧
        (s.cny.inForce ≠ [] → s.alarmClass < 4 → exec (.alarmRelease true req v (~~~v)) s = .next (rel s))))

/-- The event log's way out (R504, R506, R507): an acknowledged record is not sent again, an unacknowledged one is sent up to
three times more, the BMC polls from a sequence number on, and a read takes the record selected and marks it read. -/
def Obligations.EventDelivery : Prop :=
  ∀ (s : State),
    let h := s.hdf
    (s.released 2 = true →
      (∀ q, q ∈ h.offered → ∃ t, exec (.pldmEventAck q) s = .next t ∧ q ∈ t.hdf.ackedSeqs ∧ t.hdf.log = h.log ∧
        t.regs = s.regs ∧ (h.mctpOn = false → h.inFlight = some q → t.hdf.inFlight = none)) ∧
      (∀ q, q ∉ h.offered → exec (.pldmEventAck q) s = .next s) ∧
      (∀ enable n, ∃ t, exec (.eventPoll enable n) s = .next t ∧ t.hdf.mctpOn = enable ∧ t.hdf.log = h.log ∧
        t.hdf.polled = h.log.find? fun r => decide (n ≤ r.seq) && (decide (field (s.regAtE .hdf 0x130) 1 0 ≤ r.cls) ||
          (r.kind == 3 && decide (1 ≤ r.cls))))) ∧
    (∀ q, h.inFlight = some q → h.tries < 3 → exec .eventResendTimeout s = .next (
      let u := s.advanceTo (h.sentAt + 1000000000)
      { u with hdf := { h with tries := h.tries + 1, sentAt := u.stamp } })) ∧
    (∀ q, h.inFlight = some q → 3 ≤ h.tries → ∃ t, exec .eventResendTimeout s = .next t ∧ t.hdf.log = h.log ∧
      t.stamp = Nat.max s.stamp (h.sentAt + 1000000000) ∧ ((∀ r ∈ h.log, r.seq < h.nextSend) → t.hdf.inFlight = none)) ∧
    (h.inFlight = none → exec .eventResendTimeout s = .next s) ∧
    (∀ req, s.onBus req = true → req.reaches .hdf = true → s.dir.published.contains .hdf = false →
      (∀ r, h.record (s.reg .hdf 0x108).toNat = some r → exec (.logdataRead req) s = .next
        (({ s with hdf := { h with readSeqs := withOne h.readSeqs r.seq } } : State).latch req (Page.hdf.key 0x10C)
          (digestWords r.bytes))) ∧
      (h.record (s.reg .hdf 0x108).toNat = none → exec (.logdataRead req) s =
        .next ((s.latch req (Page.hdf.key 0x10C) (digestWords [])).setErr .hdf 16)))

/-- The performance monitor (R519 to R528): FREEZE takes stamp Z and CLEAR clears the counters; event selections and counter
writes follow their rules; sampling tags a word, and its entry reaches the buffer; windows latch the bytes of a port and
its peak, and a read of the peak clears it. -/
def Obligations.PerformanceMonitor : Prop :=
  ∀ (s : State),
    (∀ req t v, monitorExists t = true → Claims.Writes s req (monitorPage t) →
      let p := monitorPage t
      (bit v 0 = true → bit (s.reg p 0x104) 0 = false → exec (.pmuFreeze req t v) s =
        .next (((s.setReg p 0x104 1).setReg p 0x10C (BitVec.ofNat 32 s.stamp)).setReg p 0x110 (BitVec.ofNat 32 (s.stamp / 2 ^ 32)))) ∧
      (bit v 0 = false → exec (.pmuFreeze req t v) s = .next (s.setReg p 0x104 0)) ∧
      (∃ u, exec (.pmuClear req t v) s = .next u ∧ ∀ k < p.counters, u.reg p (0x180 + 8 * k) = 0 ∧ u.reg p (0x184 + 8 * k) = 0) ∧
      (∀ n < p.counters,
        let old := s.reg p (0x140 + 4 * n)
        let w := v &&& evselMask p
        (field w 20 19 ∈ eventScopes (field w 7 0) → bit old 31 = false →
          exec (.pmuEvselWrite req t n v) s = .next (s.setReg p (0x140 + 4 * n) w)) ∧
        (field w 20 19 ∉ eventScopes (field w 7 0) → exec (.pmuEvselWrite req t n v) s = .next (s.setErr p 0)) ∧
        (∀ hi, bit old 31 = false → exec (.pmuCntWrite req t n hi v) s = .next (s.setReg p (0x180 + 8 * n + 4 * b2n hi) v)) ∧
        (∀ hi, bit old 31 = true → exec (.pmuCntWrite req t n hi v) s = .next (s.setErr p 0))) ∧
      (s.maySample p (v &&& 0x3F#32).toNat = true → exec (.pmuSselWrite req t v) s = .next (s.setReg p 0x200 (v &&& 0x3F#32))) ∧
      (s.maySample p (v &&& 0x3F#32).toNat = false → exec (.pmuSselWrite req t v) s = .next (s.setErr p 0)) ∧
      (s.maySample p (s.regField p 0x200 5 0) = true → ∃ u, exec (.pmuSampleEnable req t v) s = .next u ∧
        (u.sampler (s.regField p 0x200 5 0)).cfg = v &&& 0x31F#32) ∧
      (s.maySample p (s.regField p 0x200 5 0) = false → exec (.pmuSampleEnable req t v) s = .next (s.setErr p 0))) ∧
    (s.avs.tripped = false → ∀ n i cause stall e y r, n < 64 → i < 16 → (s.eng n i).run = some e → s.entry e = some y → s.run e = some r →
      (s.eng n i).slot = 0 → (s.eng n i).mode = 1 → (s.sampler n).active = true → (s.sampler n).tagged = none →
      (s.sampler n).stoppedFull = false → (s.sampler n).interval ≤ (s.sampler n).words →
      ∃ t b, exec (.sampleTag n i cause stall) s = .next t ∧ (t.sampler n).tagged = some b ∧ b.take 8 = leBytes 8 s.stamp ∧
        (b.drop 8).take 2 = leBytes 2 y.desc.opcode ∧ (t.sampler n).words = 0 ∧ (t.sampler n).entries = (s.sampler n).entries) ∧
    (s.avs.tripped = false → ∀ n latency trapped, n < 64 →
      let x := s.sampler n
      (x.tagged = none → ∀ dropped, exec (.sampleEntryWrite n latency trapped dropped) s = .next s) ∧
      (∀ b, x.tagged = some b →
        exec (.sampleEntryWrite n latency trapped true) s =
          .next (s.setSampler n { x with tagged := none, lost := Nat.min 0xFFFF (x.lost + 1) }) ∧
        (x.entries.length < 128 → ∃ t, exec (.sampleEntryWrite n latency trapped false) s = .next t ∧ t.sampler n =
          { x with entries := x.entries ++ [sampleDone b trapped latency], tagged := none }) ∧
        (128 ≤ x.entries.length → ∃ t, exec (.sampleEntryWrite n latency trapped false) s = .next t ∧ t.sampler n =
          { x with entries := x.entries.drop 1 ++ [sampleDone b trapped latency], tagged := none
                   lost := Nat.min 0xFFFF (x.lost + 1) }))) ∧
    (∀ req v, Claims.Writes s req .pmu →
      (v &&& 0xFFFFF#32 ≠ s.reg .pmu 0x244 → ∃ t, exec (.pmuBwSelect req true v) s = .next t ∧
        t.reg .pmu 0x244 = v &&& 0xFFFFF#32 ∧ s.stamp < t.bwNext) ∧
      (v &&& 0xFF#32 ≠ s.reg .pmu 0x240 → ∃ t, exec (.pmuBwSelect req false v) s = .next t ∧
        t.reg .pmu 0x240 = v &&& 0xFF#32 ∧ s.stamp < t.bwNext) ∧
      (v &&& 0xFF#32 = s.reg .pmu 0x240 → exec (.pmuBwSelect req false v) s = .next s)) ∧
    (∀ i o, ∃ t, exec (.bwWindowEnd i o) s = .next t ∧ s.stamp ≤ t.stamp ∧ t.reg .pmu 0x248 = BitVec.ofNat 32 i ∧
      t.reg .pmu 0x24C = BitVec.ofNat 32 (i / 2 ^ 32) ∧ t.reg .pmu 0x250 = BitVec.ofNat 32 o ∧
      t.reg .pmu 0x254 = BitVec.ofNat 32 (o / 2 ^ 32) ∧
      (let peak := (s.reg .pmu 0x258).toNat + 2 ^ 32 * (s.reg .pmu 0x25C).toNat
       (peak < Nat.max i o → t.reg .pmu 0x258 = BitVec.ofNat 32 (Nat.max i o)) ∧
       (Nat.max i o ≤ peak → t.reg .pmu 0x258 = s.reg .pmu 0x258))) ∧
    (∀ req, s.onBus req = true → req.reaches .pmu = true → s.dir.published.contains .pmu = false →
      exec (.bwpeakRead req) s = .next (((s.latch req (Page.pmu.key 0x258) [s.reg .pmu 0x258, s.reg .pmu 0x25C]).setReg .pmu
        0x258 0).setReg .pmu 0x25C 0))

namespace Sys2Proof.Claims
open Sys2Proof.Machine

/-! ## The whole machine -/

/-- The life-cycle state `n` is read from more than half of the valid copies (R460). -/
def majority (l : List LcCopy) (n : Nat) : Prop :=
  let valid := l.filterMap LcCopy.reads
  valid.length < 2 * (valid.filter fun v => v == n).length

end Sys2Proof.Claims

/-- R460: the life-cycle state is the one read from more than half of the valid copies; with no majority, or no valid copy, it
is END_OF_LIFE with `LCC_STATE.VOTE_FAIL`. -/
def Obligations.LifeCycleVote : Prop :=
  ∀ (s : State) (o : OptionSet), s.rst.loading = true → s.lcc.copies.length = 5 → ∃ t, exec (.optionLoadDone o) s = .next t ∧
    (∀ n, Claims.majority s.lcc.copies n → t.lcc.state = n ∧ bit (t.showReg .lcc 0x100) 17 = false) ∧
    ((∀ n, ¬Claims.majority s.lcc.copies n) → t.lcc.state = 3 ∧ bit (t.showReg .lcc 0x100) 17 = true) ∧
    (s.lcc.copies.filterMap LcCopy.reads = [] → t.lcc.state = 3 ∧ bit (t.showReg .lcc 0x100) 17 = true)

/-- R50: a read of `TXN_EPOCH_LO` latches the high word and the digest for its reader, and later reads of those registers
return what it latched, whatever was committed in between; a tenant's page shows the device's epoch and digest. -/
def Obligations.EpochReads : Prop :=
  ∀ (s : State) (req : Requester) (sc : Scope), s.mayRead req sc.page = true → sc.page.exists = true →
    (∃ t, exec (.txnEpochRead req sc) s = .next t ∧ ∀ u : State, u.latches = t.latches → u.mayRead req sc.page = true →
      u.readReg req sc.page 0x11C = BitVec.ofNat 32 (s.txn.epoch / 2 ^ 32) ∧
      ∀ i < 8, u.readReg req sc.page (0x120 + 4 * i) = BitVec.ofNat 32 (leField s.txn.digest (4 * i) 4)) ∧
    s.readReg req sc.page 0x118 = BitVec.ofNat 32 s.txn.epoch ∧
    (s.latches = [] → s.readReg req sc.page 0x11C = BitVec.ofNat 32 (s.txn.epoch / 2 ^ 32) ∧
      ∀ i < 8, s.readReg req sc.page (0x120 + 4 * i) = BitVec.ofNat 32 (leField s.txn.digest (4 * i) 4))

/-- R69: a record is written into slot TAIL only while that slot is free; while the queue is full the record waits in Tally,
its entry stays allocated, and STALLED reads 1. -/
def Obligations.RecordsWaitForASlot : Prop :=
  ∀ (s : State) (e : Nat) (x : Entry) (st : Status), s.entry e = some x → x.state = .queued → x.parent = none → x.spilled = none →
    x.resv = none → x.index = none → x.discard = false → (s.fn x.tenant).bme = true → x.tenant < 256 → x.cq < 64 →
    let c := s.cq x.tenant x.cq
    let a := c.baseHi.toNat * 2 ^ 32 + c.baseLo.toNat + 32 * c.tail
    let t := s.finish e st
    c.waiting = [] → c.en = true → c.error = false → c.tail < 65536 →
    ((c.tail + 1) % queueSize c.cfg ≠ c.hostHead % queueSize c.cfg → t.entry e = none ∧ leField (t.hostRead a 32) 8 2 = st.code ∧
      (t.cq x.tenant x.cq).waiting = []) ∧
    ((c.tail + 1) % queueSize c.cfg = c.hostHead % queueSize c.cfg → t.host = s.host ∧ (t.cq x.tenant x.cq).tail = c.tail ∧
      (t.cq x.tenant x.cq).waiting = [e] ∧ bit (t.showQueue x.tenant x.cq 0x130) 18 = true ∧
      ∃ y, t.entry e = some y ∧ y.desc = x.desc ∧ y.status = st)

/-- A step runs the command at the front of the queue on the state with the queue's rest; with nothing waiting one cycle of
SYS_CLK goes by (R18; that an idle step is a cycle is the model's choice, log 4). -/
def Obligations.StepRunsFront : Prop :=
  (∀ (s : State) (c : Instr) (rest : List Instr), s.pending = c :: rest → step s = exec c { s with pending := rest }) ∧
  (∀ s : State, s.pending = [] → step s = .next s.tick) ∧
  (∀ s : State, s.tick.regs = s.regs ∧ s.tick.host = s.host ∧ s.tick.tally = s.tally ∧ s.tick.pending = s.pending ∧
    (s.zdp.mstate < 2 ∨ 4 < s.zdp.mstate → s.edge + 40 < 2 ^ 64 → s.tick.stamp = s.edge + 40 ∧ s.tick.edge = s.edge + 40))

/-- The machine right after power-on (R41, R55, R414, R435 to R437): only the backup and reset domains are out of reset, the
power-on source is asserted, no work waits, no transaction is open, the epoch is 0, every link is DOWN, every page that
has `CTL` is enabled and neither drained nor frozen, and no error or interrupt is pending. -/
def Obligations.ResetState : Prop :=
  let s := State.reset
  s.pending = [] ∧ s.host = [] ∧ s.released 0 = true ∧ (∀ d, 1 ≤ d → d ≤ 8 → s.released d = false) ∧ s.bootPhase = 0 ∧
  s.reg .rst 0x100 = 0x00020001#32 ∧ s.resetPending = true ∧ s.tally.entries = [] ∧ s.txn.epoch = 0 ∧
  (∀ sc, (s.txnOf sc).phase = .idle ∧ (s.txnOf sc).staged = []) ∧ (∀ l, (s.link l).lstate = 0 ∧ (s.link l).keyed = false) ∧
  (∀ t q, (s.sq t q).en = false ∧ (s.cq t q).en = false) ∧ (∀ i, (s.obj i).present = false) ∧
  (∀ n < 64, s.reg (.stp n) 0x008 = 1 ∧ s.reg (.stp n) 0x010 = 0 ∧ s.reg (.stp n) 0x01C = 0) ∧
  (∀ n < 8, s.reg (.shf n) 0x008 = 1 ∧ s.reg (.shf n) 0x010 = 0) ∧ s.cny.held = false ∧ s.avs.tripped = false

/-- The canonical form of the sparse tables, which is the model's own way of holding registers and memory (log 3), holds at reset,
where every register reads its reset value (R41). -/
def Obligations.CanonicalAtReset : Prop := State.reset.Canonical

/-- Every step, of whatever command, keeps the canonical form of the registers (R41), of host memory and of retained memory
(R500, R502); the form is the model's own (log 3). -/
def Obligations.CanonicalKept : Prop :=
  ∀ (s t : State), s.Canonical → step s = .next t → t.Canonical

/-- No command touches the queue of waiting commands: a step takes the front one and leaves the others in their order (the
queue is the model's own; log 4; a write takes effect in the order of its arrival, R40). -/
def Obligations.QueueIsFirstInFirstOut : Prop :=
  ∀ (s t : State), step s = .next t → t.pending = s.pending.tail
end

