-- ==== Sys2Proof/Laws/Cells.lean ====
section
/-! SUPPORT. What the operations of a sparse table do: a read after a write, and that every operation keeps the canonical
form (rising keys, nothing listed that an unlisted key reads as). -/
namespace Sys2Proof.Machine

section
variable {α : Type} (d : Nat → α) (m : Cells α)

@[simp] theorem Cells.get_nil (k : Nat) : Cells.get d [] k = d k := rfl

/-! ## A read after a write -/

theorem Cells.get_put (k j : Nat) (v : α) : Cells.get d (m.put k v) j = if j = k then v else Cells.get d m j := by
  induction m with
  | nil => rfl
  | cons p r ih =>
    obtain ⟨a, w⟩ := p
    simp only [Cells.put]
    split
    · rfl
    · split
      · subst a
        simp only [Cells.get]
        split <;> rfl
      · simp only [Cells.get, ih]
        split
        · split
          · exact absurd (‹j = k› ▸ ‹j = a›) ‹k ≠ a›
          · rfl
        · rfl

theorem Cells.get_erase (k j : Nat) : Cells.get d (m.erase k) j = if j = k then d j else Cells.get d m j := by
  induction m with
  | nil => simp [Cells.erase]
  | cons p r ih =>
    obtain ⟨a, w⟩ := p
    by_cases h : a = k
    · subst a
      simp only [Cells.erase, List.filter_cons, bne_self_eq_false, Bool.false_eq_true, if_false] at ih ⊢
      rw [ih]
      by_cases e : j = k <;> simp [Cells.get, e]
    · have : (a != k) = true := by simpa using h
      simp only [Cells.erase, List.filter_cons, this, if_true, Cells.get] at ih ⊢
      rw [ih]
      by_cases e : j = a
      · subst e
        simp [h]
      · simp [e]

@[simp] theorem Cells.get_put_same (k : Nat) (v : α) : Cells.get d (m.put k v) k = v := by simp [Cells.get_put]

theorem Cells.get_put_other {k j : Nat} (v : α) (h : j ≠ k) : Cells.get d (m.put k v) j = Cells.get d m j := by
  simp [Cells.get_put, h]

variable [DecidableEq α]

theorem Cells.get_set (k j : Nat) (v : α) : Cells.get d (Cells.set d m k v) j = if j = k then v else Cells.get d m j := by
  unfold Cells.set
  split
  · rw [Cells.get_erase]
    split
    · subst j
      exact (‹v = d k›).symm
    · rfl
  · exact Cells.get_put d m k j v

@[simp] theorem Cells.get_set_same (k : Nat) (v : α) : Cells.get d (Cells.set d m k v) k = v := by simp [Cells.get_set]

theorem Cells.get_set_other {k j : Nat} (v : α) (h : j ≠ k) : Cells.get d (Cells.set d m k v) j = Cells.get d m j := by
  simp [Cells.get_set, h]

end

/-! ## The canonical form -/

section
variable {α : Type}

theorem Cells.rising_mono {m : Cells α} {a b : Nat} (h : a ≤ b) (hm : Cells.risingFrom b m = true) : Cells.risingFrom a m = true := by
  cases m with
  | nil => rfl
  | cons p r =>
    simp only [Cells.risingFrom, Bool.and_eq_true, decide_eq_true_eq] at hm ⊢
    exact ⟨Nat.le_trans h hm.1, hm.2⟩

theorem Cells.rising_filter (p : Nat × α → Bool) (m : Cells α) (lo : Nat) (h : Cells.risingFrom lo m = true) :
    Cells.risingFrom lo (m.filter p) = true := by
  induction m generalizing lo with
  | nil => rfl
  | cons q r ih =>
    obtain ⟨j, v⟩ := q
    simp only [Cells.risingFrom, Bool.and_eq_true, decide_eq_true_eq] at h
    simp only [List.filter_cons]
    split
    · simp only [Cells.risingFrom, Bool.and_eq_true, decide_eq_true_eq]
      exact ⟨h.1, ih _ h.2⟩
    · exact Cells.rising_mono (by omega) (ih _ h.2)

theorem Cells.rising_put (m : Cells α) (lo k : Nat) (v : α) (hk : lo ≤ k) (h : Cells.risingFrom lo m = true) :
    Cells.risingFrom lo (m.put k v) = true := by
  induction m generalizing lo with
  | nil => simpa [Cells.put, Cells.risingFrom] using hk
  | cons q r ih =>
    obtain ⟨j, w⟩ := q
    simp only [Cells.risingFrom, Bool.and_eq_true, decide_eq_true_eq] at h
    simp only [Cells.put]
    split
    · simp only [Cells.risingFrom, Bool.and_eq_true, decide_eq_true_eq]
      exact ⟨hk, by omega, h.2⟩
    · split
      · subst j
        simp only [Cells.risingFrom, Bool.and_eq_true, decide_eq_true_eq]
        exact ⟨hk, h.2⟩
      · simp only [Cells.risingFrom, Bool.and_eq_true, decide_eq_true_eq]
        exact ⟨h.1, ih _ (by omega) h.2⟩

theorem Cells.all_put (p : Nat × α → Bool) (m : Cells α) (k : Nat) (v : α) (hv : p (k, v) = true) (h : m.all p = true) :
    (m.put k v).all p = true := by
  induction m with
  | nil => simpa [Cells.put] using hv
  | cons q r ih =>
    obtain ⟨j, w⟩ := q
    simp only [List.all_cons, Bool.and_eq_true] at h
    simp only [Cells.put]
    split
    · simp [hv, h]
    · split
      · simp [hv, h]
      · simp [h.1, ih h.2]

theorem Cells.all_filter (p q : Nat × α → Bool) (m : Cells α) (h : m.all p = true) : (m.filter q).all p = true := by
  rw [List.all_eq_true] at h ⊢
  exact fun x hx => h x (List.mem_filter.mp hx).1

variable [DecidableEq α] {d : Nat → α} {m : Cells α}

@[simp] theorem Cells.wf_nil : Cells.wf d ([] : Cells α) = true := rfl

/-- Dropping entries keeps the canonical form. -/
theorem Cells.wf_filter (p : Nat × α → Bool) (h : Cells.wf d m = true) : Cells.wf d (m.filter p) = true := by
  simp only [Cells.wf, Bool.and_eq_true] at h ⊢
  exact ⟨Cells.rising_filter p m 0 h.1, Cells.all_filter _ p m h.2⟩

theorem Cells.wf_erase (k : Nat) (h : Cells.wf d m = true) : Cells.wf d (m.erase k) = true := Cells.wf_filter _ h

theorem Cells.wf_clearRange (a n : Nat) (h : Cells.wf d m = true) : Cells.wf d (m.clearRange a n) = true := Cells.wf_filter _ h

/-- A write keeps the canonical form. -/
theorem Cells.wf_set (k : Nat) (v : α) (h : Cells.wf d m = true) : Cells.wf d (Cells.set d m k v) = true := by
  unfold Cells.set
  split
  · exact Cells.wf_erase k h
  · simp only [Cells.wf, Bool.and_eq_true] at h ⊢
    exact ⟨Cells.rising_put m 0 k v (Nat.zero_le k) h.1, Cells.all_put _ m k v (by simpa using ‹¬v = d k›) h.2⟩

theorem Cells.wf_modify (k : Nat) (f : α → α) (h : Cells.wf d m = true) : Cells.wf d (Cells.modify d m k f) = true :=
  Cells.wf_set k _ h

/-- Any number of writes keeps the canonical form. -/
theorem Cells.wf_foldl_set {β : Type} (l : List β) (key : β → Nat) (val : Cells α → β → α) (h : Cells.wf d m = true) :
    Cells.wf d (l.foldl (fun m x => Cells.set d m (key x) (val m x)) m) = true := by
  induction l generalizing m with
  | nil => exact h
  | cons x r ih => exact ih (Cells.wf_set _ _ h)

end

/-! ## Byte memories -/

/-- A write of a byte string keeps the canonical form. -/
theorem Cells.wf_writeBytes (m : Cells Byte) (a : Nat) (bs : Bytes) (h : Cells.wf byte0 m = true) :
    Cells.wf byte0 (m.writeBytes a bs) = true := by
  induction bs generalizing m a with
  | nil => exact h
  | cons b r ih => exact ih _ _ (Cells.wf_set a b h)

/-- A byte read after a byte string was written from `a`: inside it the byte written, outside it the byte before. -/
theorem Cells.get_writeBytes (m : Cells Byte) (a k : Nat) (bs : Bytes) :
    Cells.get byte0 (m.writeBytes a bs) k = if a ≤ k ∧ k < a + bs.length then bs.getD (k - a) 0 else Cells.get byte0 m k := by
  induction bs generalizing m a with
  | nil => simp [Cells.writeBytes]
  | cons b r ih =>
    rw [Cells.writeBytes, ih, Cells.get_set]
    have l : (b :: r).length = r.length + 1 := rfl
    by_cases h : a + 1 ≤ k
    · have e : k - a = (k - (a + 1)) + 1 := by omega
      by_cases h2 : k < a + 1 + r.length
      · rw [if_pos ⟨h, h2⟩, if_pos ⟨by omega, by omega⟩, e, List.getD_cons_succ]
      · rw [if_neg (by omega), if_neg (by omega), if_neg (by omega)]
    · rw [if_neg (by omega)]
      by_cases e : k = a
      · subst e
        simp
      · rw [if_neg e, if_neg (by omega)]

@[simp] theorem Cells.readBytes_length (m : Cells Byte) (a n : Nat) : (m.readBytes a n).length = n := by
  induction n generalizing a with
  | zero => rfl
  | succ n ih => simp [Cells.readBytes, ih]

/-- A byte string read at where it was written is itself. -/
theorem Cells.readBytes_writeBytes (m : Cells Byte) (a : Nat) (bs : Bytes) : (m.writeBytes a bs).readBytes a bs.length = bs := by
  apply List.ext_getElem (by simp)
  intro k h1 h2
  have key : ∀ (n b : Nat) (l : Cells Byte) (h : k < (l.readBytes b n).length),
      (l.readBytes b n)[k] = Cells.get byte0 l (b + k) := by
    clear h1 h2
    induction k with
    | zero =>
      intro n b l h
      cases n with
      | zero => simp at h
      | succ n => simp [Cells.readBytes]
    | succ k ih =>
      intro n b l h
      cases n with
      | zero => simp at h
      | succ n =>
        simp only [Cells.readBytes, List.getElem_cons_succ]
        rw [ih]
        congr 1
        omega
  rw [key, Cells.get_writeBytes, if_pos (by omega)]
  simp [h2]

end Sys2Proof.Machine
end

