-- ==== Sys2Proof/Laws/Engines.lean ====
section
/-! SUPPORT. What issuing a slot does, said once for each of its outcomes. -/
namespace Sys2Proof.Machine

/-- What a slot works on (the fields of `At` that `State.issue` fills in). -/
def State.at_ (s : State) (n i slot e : Nat) (r : Run) : At :=
  let t := if slot = 0 then s.beginWord n i e (s.storeWord n (s.eng n i).pc) else s
  { n := n, i := i, e := e, run := r, w := s.storeWord n (s.eng n i).pc
    x := slotOf (s.storeWord n (s.eng n i).pc) slot, pc := (s.eng n i).pc, old := (t.eng n i).old }

/-- An engine that stands at a slot with this opcode issues it. -/
theorem State.issue_eq {s : State} {n i slot op e : Nat} {r : Run} {f : State → At → Did}
    (ht : s.avs.tripped = false) (hr : (s.eng n i).run = some e) (hrun : s.run e = some r)
    (hm : (s.eng n i).mode = 1 ∨ (s.eng n i).mode = 2 ∨ (s.eng n i).mode = 4) (hslot : (s.eng n i).slot = slot)
    (hx : s.executing e = true)
    (hl : slot = 0 → illegalSlot (s.storeWord n (s.eng n i).pc) ((s.eng n i).mode == 4) = none)
    (hf : slot = 0 → s.wordFlaws n (s.eng n i).pc = [])
    (hop : slotOp (slotOf (s.storeWord n (s.eng n i).pc) slot) = op) :
    s.issue n i slot op f =
      (match f (if slot = 0 then s.beginWord n i e (s.storeWord n (s.eng n i).pc) else s) (s.at_ n i slot e r) with
       | .ok u => u.endSlot n i e (s.storeWord n (s.eng n i).pc)
       | .trap cause addr elem =>
         ((if slot = 0 then s.beginWord n i e (s.storeWord n (s.eng n i).pc) else s).trapSlot n i e slot op cause addr
           elem).endSlot n i e (s.storeWord n (s.eng n i).pc)
       | .bad u addr elem => (u.trapSlot n i e slot op 4 addr elem).endSlot n i e (s.storeWord n (s.eng n i).pc)
       | .wait => if (s.eng n i).mode = 1 then s.setEng n i { s.eng n i with mode := 2 } else s
       | .hold u => u) := by
  have hlegal : (if slot = 0 then illegalSlot (s.storeWord n (s.eng n i).pc) ((s.eng n i).mode == 4) else none) = none := by
    split
    · exact hl ‹_›
    · rfl
  have hmode : ((s.eng n i).mode == 1 || (s.eng n i).mode == 2 || (s.eng n i).mode == 4) = true := by
    rcases hm with h | h | h <;> simp [h]
  have hq : (if slot = 0 then s.meet n i 3 (s.wordFlaws n (s.eng n i).pc) else (s, none)) = (s, none) := by
    split
    · rw [hf ‹_›]; rfl
    · rfl
  unfold State.issue
  simp only [hr, hrun, ht, hmode, hslot, hx, hlegal, hop, hq]
  simp only [State.at_, Bool.false_or, Bool.not_true, bne_self_eq_false, Bool.or_self, Bool.false_eq_true, if_false,
    ne_eq, not_true_eq_false]
  try (generalize f _ _ = d; cases d <;> rfl)

/-- An engine command on a unit that exists answers a next state. -/
theorem engineCmd_next {n i : Nat} {s : State} (hn : n < 64) (hi : i < 16) : engineCmd n i s = .next s := by
  simp [engineCmd, hn, hi]

/-- An engine command on a unit that does not exist stops by name. -/
theorem engineCmd_fault {n i : Nat} {s : State} (h : ¬(n < 64 ∧ i < 16)) : engineCmd n i s = .fault .noSuchUnit := by
  simp only [engineCmd, if_neg h]

end Sys2Proof.Machine
end

