-- ==== Sys2Proof/Laws/State.lean ====
section
/-! SUPPORT. The named updates of the state: what each leaves as it was, field by field, and a read after each write. -/
namespace Sys2Proof.Machine

variable (s : State)

/-! ### `setReg` -/

@[simp] theorem State.setReg_pending (p : Page) (off : Nat) (v : Word) : (s.setReg p off v).pending = s.pending := rfl
@[simp] theorem State.setReg_stamp (p : Page) (off : Nat) (v : Word) : (s.setReg p off v).stamp = s.stamp := rfl
@[simp] theorem State.setReg_freeNext (p : Page) (off : Nat) (v : Word) : (s.setReg p off v).freeNext = s.freeNext := rfl
@[simp] theorem State.setReg_prims (p : Page) (off : Nat) (v : Word) : (s.setReg p off v).prims = s.prims := rfl
@[simp] theorem State.setReg_flips (p : Page) (off : Nat) (v : Word) : (s.setReg p off v).flips = s.flips := rfl
@[simp] theorem State.setReg_latches (p : Page) (off : Nat) (v : Word) : (s.setReg p off v).latches = s.latches := rfl
@[simp] theorem State.setReg_txn (p : Page) (off : Nat) (v : Word) : (s.setReg p off v).txn = s.txn := rfl
@[simp] theorem State.setReg_dir (p : Page) (off : Nat) (v : Word) : (s.setReg p off v).dir = s.dir := rfl
@[simp] theorem State.setReg_fns (p : Page) (off : Nat) (v : Word) : (s.setReg p off v).fns = s.fns := rfl
@[simp] theorem State.setReg_sqs (p : Page) (off : Nat) (v : Word) : (s.setReg p off v).sqs = s.sqs := rfl
@[simp] theorem State.setReg_cqs (p : Page) (off : Nat) (v : Word) : (s.setReg p off v).cqs = s.cqs := rfl
@[simp] theorem State.setReg_tally (p : Page) (off : Nat) (v : Word) : (s.setReg p off v).tally = s.tally := rfl
@[simp] theorem State.setReg_host (p : Page) (off : Nat) (v : Word) : (s.setReg p off v).host = s.host := rfl
@[simp] theorem State.setReg_hdf (p : Page) (off : Nat) (v : Word) : (s.setReg p off v).hdf = s.hdf := rfl
@[simp] theorem State.setReg_cny (p : Page) (off : Nat) (v : Word) : (s.setReg p off v).cny = s.cny := rfl
@[simp] theorem State.setReg_lode (p : Page) (off : Nat) (v : Word) : (s.setReg p off v).lode = s.lode := rfl
@[simp] theorem State.setReg_ent (p : Page) (off : Nat) (v : Word) : (s.setReg p off v).ent = s.ent := rfl
@[simp] theorem State.setReg_ctxs (p : Page) (off : Nat) (v : Word) : (s.setReg p off v).ctxs = s.ctxs := rfl
@[simp] theorem State.setReg_dgs (p : Page) (off : Nat) (v : Word) : (s.setReg p off v).dgs = s.dgs := rfl
@[simp] theorem State.setReg_slc (p : Page) (off : Nat) (v : Word) : (s.setReg p off v).slc = s.slc := rfl
@[simp] theorem State.setReg_shafts (p : Page) (off : Nat) (v : Word) : (s.setReg p off v).shafts = s.shafts := rfl
@[simp] theorem State.setReg_stopes (p : Page) (off : Nat) (v : Word) : (s.setReg p off v).stopes = s.stopes := rfl
@[simp] theorem State.setReg_engs (p : Page) (off : Nat) (v : Word) : (s.setReg p off v).engs = s.engs := rfl
@[simp] theorem State.setReg_runs (p : Page) (off : Nat) (v : Word) : (s.setReg p off v).runs = s.runs := rfl
@[simp] theorem State.setReg_kstQueue (p : Page) (off : Nat) (v : Word) : (s.setReg p off v).kstQueue = s.kstQueue := rfl
@[simp] theorem State.setReg_samplers (p : Page) (off : Nat) (v : Word) : (s.setReg p off v).samplers = s.samplers := rfl
@[simp] theorem State.setReg_lcc (p : Page) (off : Nat) (v : Word) : (s.setReg p off v).lcc = s.lcc := rfl
@[simp] theorem State.setReg_zdp (p : Page) (off : Nat) (v : Word) : (s.setReg p off v).zdp = s.zdp := rfl
@[simp] theorem State.setReg_rst (p : Page) (off : Nat) (v : Word) : (s.setReg p off v).rst = s.rst := rfl
@[simp] theorem State.setReg_spdms (p : Page) (off : Nat) (v : Word) : (s.setReg p off v).spdms = s.spdms := rfl
@[simp] theorem State.setReg_avs (p : Page) (off : Nat) (v : Word) : (s.setReg p off v).avs = s.avs := rfl
@[simp] theorem State.setReg_bwNext (p : Page) (off : Nat) (v : Word) : (s.setReg p off v).bwNext = s.bwNext := rfl
@[simp] theorem State.setReg_edge (p : Page) (off : Nat) (v : Word) : (s.setReg p off v).edge = s.edge := rfl
@[simp] theorem State.setReg_flaws (p : Page) (off : Nat) (v : Word) : (s.setReg p off v).flaws = s.flaws := rfl

/-! ### `advanceTo` -/

@[simp] theorem State.advanceTo_pending (t : Stamp) : (s.advanceTo t).pending = s.pending := rfl
@[simp] theorem State.advanceTo_freeNext (t : Stamp) : (s.advanceTo t).freeNext = s.freeNext := rfl
@[simp] theorem State.advanceTo_regs (t : Stamp) : (s.advanceTo t).regs = s.regs := rfl
@[simp] theorem State.advanceTo_prims (t : Stamp) : (s.advanceTo t).prims = s.prims := rfl
@[simp] theorem State.advanceTo_flips (t : Stamp) : (s.advanceTo t).flips = s.flips := rfl
@[simp] theorem State.advanceTo_latches (t : Stamp) : (s.advanceTo t).latches = s.latches := rfl
@[simp] theorem State.advanceTo_txn (t : Stamp) : (s.advanceTo t).txn = s.txn := rfl
@[simp] theorem State.advanceTo_dir (t : Stamp) : (s.advanceTo t).dir = s.dir := rfl
@[simp] theorem State.advanceTo_fns (t : Stamp) : (s.advanceTo t).fns = s.fns := rfl
@[simp] theorem State.advanceTo_sqs (t : Stamp) : (s.advanceTo t).sqs = s.sqs := rfl
@[simp] theorem State.advanceTo_cqs (t : Stamp) : (s.advanceTo t).cqs = s.cqs := rfl
@[simp] theorem State.advanceTo_tally (t : Stamp) : (s.advanceTo t).tally = s.tally := rfl
@[simp] theorem State.advanceTo_host (t : Stamp) : (s.advanceTo t).host = s.host := rfl
@[simp] theorem State.advanceTo_hdf (t : Stamp) : (s.advanceTo t).hdf = s.hdf := rfl
@[simp] theorem State.advanceTo_cny (t : Stamp) : (s.advanceTo t).cny = s.cny := rfl
@[simp] theorem State.advanceTo_lode (t : Stamp) : (s.advanceTo t).lode = s.lode := rfl
@[simp] theorem State.advanceTo_ent (t : Stamp) : (s.advanceTo t).ent = s.ent := rfl
@[simp] theorem State.advanceTo_ctxs (t : Stamp) : (s.advanceTo t).ctxs = s.ctxs := rfl
@[simp] theorem State.advanceTo_dgs (t : Stamp) : (s.advanceTo t).dgs = s.dgs := rfl
@[simp] theorem State.advanceTo_slc (t : Stamp) : (s.advanceTo t).slc = s.slc := rfl
@[simp] theorem State.advanceTo_shafts (t : Stamp) : (s.advanceTo t).shafts = s.shafts := rfl
@[simp] theorem State.advanceTo_stopes (t : Stamp) : (s.advanceTo t).stopes = s.stopes := rfl
@[simp] theorem State.advanceTo_engs (t : Stamp) : (s.advanceTo t).engs = s.engs := rfl
@[simp] theorem State.advanceTo_runs (t : Stamp) : (s.advanceTo t).runs = s.runs := rfl
@[simp] theorem State.advanceTo_kstQueue (t : Stamp) : (s.advanceTo t).kstQueue = s.kstQueue := rfl
@[simp] theorem State.advanceTo_samplers (t : Stamp) : (s.advanceTo t).samplers = s.samplers := rfl
@[simp] theorem State.advanceTo_lcc (t : Stamp) : (s.advanceTo t).lcc = s.lcc := rfl
@[simp] theorem State.advanceTo_zdp (t : Stamp) : (s.advanceTo t).zdp = s.zdp := rfl
@[simp] theorem State.advanceTo_rst (t : Stamp) : (s.advanceTo t).rst = s.rst := rfl
@[simp] theorem State.advanceTo_spdms (t : Stamp) : (s.advanceTo t).spdms = s.spdms := rfl
@[simp] theorem State.advanceTo_avs (t : Stamp) : (s.advanceTo t).avs = s.avs := rfl
@[simp] theorem State.advanceTo_bwNext (t : Stamp) : (s.advanceTo t).bwNext = s.bwNext := rfl
@[simp] theorem State.advanceTo_flaws (t : Stamp) : (s.advanceTo t).flaws = s.flaws := rfl

/-! ### `dropFlaws` -/

@[simp] theorem State.dropFlaws_pending (p : FlawAt → Bool) : (s.dropFlaws p).pending = s.pending := rfl
@[simp] theorem State.dropFlaws_stamp (p : FlawAt → Bool) : (s.dropFlaws p).stamp = s.stamp := rfl
@[simp] theorem State.dropFlaws_freeNext (p : FlawAt → Bool) : (s.dropFlaws p).freeNext = s.freeNext := rfl
@[simp] theorem State.dropFlaws_regs (p : FlawAt → Bool) : (s.dropFlaws p).regs = s.regs := rfl
@[simp] theorem State.dropFlaws_prims (p : FlawAt → Bool) : (s.dropFlaws p).prims = s.prims := rfl
@[simp] theorem State.dropFlaws_flips (p : FlawAt → Bool) : (s.dropFlaws p).flips = s.flips := rfl
@[simp] theorem State.dropFlaws_latches (p : FlawAt → Bool) : (s.dropFlaws p).latches = s.latches := rfl
@[simp] theorem State.dropFlaws_txn (p : FlawAt → Bool) : (s.dropFlaws p).txn = s.txn := rfl
@[simp] theorem State.dropFlaws_dir (p : FlawAt → Bool) : (s.dropFlaws p).dir = s.dir := rfl
@[simp] theorem State.dropFlaws_fns (p : FlawAt → Bool) : (s.dropFlaws p).fns = s.fns := rfl
@[simp] theorem State.dropFlaws_sqs (p : FlawAt → Bool) : (s.dropFlaws p).sqs = s.sqs := rfl
@[simp] theorem State.dropFlaws_cqs (p : FlawAt → Bool) : (s.dropFlaws p).cqs = s.cqs := rfl
@[simp] theorem State.dropFlaws_tally (p : FlawAt → Bool) : (s.dropFlaws p).tally = s.tally := rfl
@[simp] theorem State.dropFlaws_host (p : FlawAt → Bool) : (s.dropFlaws p).host = s.host := rfl
@[simp] theorem State.dropFlaws_hdf (p : FlawAt → Bool) : (s.dropFlaws p).hdf = s.hdf := rfl
@[simp] theorem State.dropFlaws_cny (p : FlawAt → Bool) : (s.dropFlaws p).cny = s.cny := rfl
@[simp] theorem State.dropFlaws_lode (p : FlawAt → Bool) : (s.dropFlaws p).lode = s.lode := rfl
@[simp] theorem State.dropFlaws_ent (p : FlawAt → Bool) : (s.dropFlaws p).ent = s.ent := rfl
@[simp] theorem State.dropFlaws_ctxs (p : FlawAt → Bool) : (s.dropFlaws p).ctxs = s.ctxs := rfl
@[simp] theorem State.dropFlaws_dgs (p : FlawAt → Bool) : (s.dropFlaws p).dgs = s.dgs := rfl
@[simp] theorem State.dropFlaws_slc (p : FlawAt → Bool) : (s.dropFlaws p).slc = s.slc := rfl
@[simp] theorem State.dropFlaws_shafts (p : FlawAt → Bool) : (s.dropFlaws p).shafts = s.shafts := rfl
@[simp] theorem State.dropFlaws_stopes (p : FlawAt → Bool) : (s.dropFlaws p).stopes = s.stopes := rfl
@[simp] theorem State.dropFlaws_engs (p : FlawAt → Bool) : (s.dropFlaws p).engs = s.engs := rfl
@[simp] theorem State.dropFlaws_runs (p : FlawAt → Bool) : (s.dropFlaws p).runs = s.runs := rfl
@[simp] theorem State.dropFlaws_kstQueue (p : FlawAt → Bool) : (s.dropFlaws p).kstQueue = s.kstQueue := rfl
@[simp] theorem State.dropFlaws_samplers (p : FlawAt → Bool) : (s.dropFlaws p).samplers = s.samplers := rfl
@[simp] theorem State.dropFlaws_lcc (p : FlawAt → Bool) : (s.dropFlaws p).lcc = s.lcc := rfl
@[simp] theorem State.dropFlaws_zdp (p : FlawAt → Bool) : (s.dropFlaws p).zdp = s.zdp := rfl
@[simp] theorem State.dropFlaws_rst (p : FlawAt → Bool) : (s.dropFlaws p).rst = s.rst := rfl
@[simp] theorem State.dropFlaws_spdms (p : FlawAt → Bool) : (s.dropFlaws p).spdms = s.spdms := rfl
@[simp] theorem State.dropFlaws_avs (p : FlawAt → Bool) : (s.dropFlaws p).avs = s.avs := rfl
@[simp] theorem State.dropFlaws_bwNext (p : FlawAt → Bool) : (s.dropFlaws p).bwNext = s.bwNext := rfl
@[simp] theorem State.dropFlaws_edge (p : FlawAt → Bool) : (s.dropFlaws p).edge = s.edge := rfl

/-! ### `setFn` -/

@[simp] theorem State.setFn_pending (t : Nat) (f : Fn) : (s.setFn t f).pending = s.pending := rfl
@[simp] theorem State.setFn_stamp (t : Nat) (f : Fn) : (s.setFn t f).stamp = s.stamp := rfl
@[simp] theorem State.setFn_freeNext (t : Nat) (f : Fn) : (s.setFn t f).freeNext = s.freeNext := rfl
@[simp] theorem State.setFn_regs (t : Nat) (f : Fn) : (s.setFn t f).regs = s.regs := rfl
@[simp] theorem State.setFn_prims (t : Nat) (f : Fn) : (s.setFn t f).prims = s.prims := rfl
@[simp] theorem State.setFn_flips (t : Nat) (f : Fn) : (s.setFn t f).flips = s.flips := rfl
@[simp] theorem State.setFn_latches (t : Nat) (f : Fn) : (s.setFn t f).latches = s.latches := rfl
@[simp] theorem State.setFn_txn (t : Nat) (f : Fn) : (s.setFn t f).txn = s.txn := rfl
@[simp] theorem State.setFn_dir (t : Nat) (f : Fn) : (s.setFn t f).dir = s.dir := rfl
@[simp] theorem State.setFn_sqs (t : Nat) (f : Fn) : (s.setFn t f).sqs = s.sqs := rfl
@[simp] theorem State.setFn_cqs (t : Nat) (f : Fn) : (s.setFn t f).cqs = s.cqs := rfl
@[simp] theorem State.setFn_tally (t : Nat) (f : Fn) : (s.setFn t f).tally = s.tally := rfl
@[simp] theorem State.setFn_host (t : Nat) (f : Fn) : (s.setFn t f).host = s.host := rfl
@[simp] theorem State.setFn_hdf (t : Nat) (f : Fn) : (s.setFn t f).hdf = s.hdf := rfl
@[simp] theorem State.setFn_cny (t : Nat) (f : Fn) : (s.setFn t f).cny = s.cny := rfl
@[simp] theorem State.setFn_lode (t : Nat) (f : Fn) : (s.setFn t f).lode = s.lode := rfl
@[simp] theorem State.setFn_ent (t : Nat) (f : Fn) : (s.setFn t f).ent = s.ent := rfl
@[simp] theorem State.setFn_ctxs (t : Nat) (f : Fn) : (s.setFn t f).ctxs = s.ctxs := rfl
@[simp] theorem State.setFn_dgs (t : Nat) (f : Fn) : (s.setFn t f).dgs = s.dgs := rfl
@[simp] theorem State.setFn_slc (t : Nat) (f : Fn) : (s.setFn t f).slc = s.slc := rfl
@[simp] theorem State.setFn_shafts (t : Nat) (f : Fn) : (s.setFn t f).shafts = s.shafts := rfl
@[simp] theorem State.setFn_stopes (t : Nat) (f : Fn) : (s.setFn t f).stopes = s.stopes := rfl
@[simp] theorem State.setFn_engs (t : Nat) (f : Fn) : (s.setFn t f).engs = s.engs := rfl
@[simp] theorem State.setFn_runs (t : Nat) (f : Fn) : (s.setFn t f).runs = s.runs := rfl
@[simp] theorem State.setFn_kstQueue (t : Nat) (f : Fn) : (s.setFn t f).kstQueue = s.kstQueue := rfl
@[simp] theorem State.setFn_samplers (t : Nat) (f : Fn) : (s.setFn t f).samplers = s.samplers := rfl
@[simp] theorem State.setFn_lcc (t : Nat) (f : Fn) : (s.setFn t f).lcc = s.lcc := rfl
@[simp] theorem State.setFn_zdp (t : Nat) (f : Fn) : (s.setFn t f).zdp = s.zdp := rfl
@[simp] theorem State.setFn_rst (t : Nat) (f : Fn) : (s.setFn t f).rst = s.rst := rfl
@[simp] theorem State.setFn_spdms (t : Nat) (f : Fn) : (s.setFn t f).spdms = s.spdms := rfl
@[simp] theorem State.setFn_avs (t : Nat) (f : Fn) : (s.setFn t f).avs = s.avs := rfl
@[simp] theorem State.setFn_bwNext (t : Nat) (f : Fn) : (s.setFn t f).bwNext = s.bwNext := rfl
@[simp] theorem State.setFn_edge (t : Nat) (f : Fn) : (s.setFn t f).edge = s.edge := rfl
@[simp] theorem State.setFn_flaws (t : Nat) (f : Fn) : (s.setFn t f).flaws = s.flaws := rfl

/-! ### `setSq` -/

@[simp] theorem State.setSq_pending (t q : Nat) (x : Sq) : (s.setSq t q x).pending = s.pending := rfl
@[simp] theorem State.setSq_stamp (t q : Nat) (x : Sq) : (s.setSq t q x).stamp = s.stamp := rfl
@[simp] theorem State.setSq_freeNext (t q : Nat) (x : Sq) : (s.setSq t q x).freeNext = s.freeNext := rfl
@[simp] theorem State.setSq_regs (t q : Nat) (x : Sq) : (s.setSq t q x).regs = s.regs := rfl
@[simp] theorem State.setSq_prims (t q : Nat) (x : Sq) : (s.setSq t q x).prims = s.prims := rfl
@[simp] theorem State.setSq_flips (t q : Nat) (x : Sq) : (s.setSq t q x).flips = s.flips := rfl
@[simp] theorem State.setSq_latches (t q : Nat) (x : Sq) : (s.setSq t q x).latches = s.latches := rfl
@[simp] theorem State.setSq_txn (t q : Nat) (x : Sq) : (s.setSq t q x).txn = s.txn := rfl
@[simp] theorem State.setSq_dir (t q : Nat) (x : Sq) : (s.setSq t q x).dir = s.dir := rfl
@[simp] theorem State.setSq_fns (t q : Nat) (x : Sq) : (s.setSq t q x).fns = s.fns := rfl
@[simp] theorem State.setSq_cqs (t q : Nat) (x : Sq) : (s.setSq t q x).cqs = s.cqs := rfl
@[simp] theorem State.setSq_tally (t q : Nat) (x : Sq) : (s.setSq t q x).tally = s.tally := rfl
@[simp] theorem State.setSq_host (t q : Nat) (x : Sq) : (s.setSq t q x).host = s.host := rfl
@[simp] theorem State.setSq_hdf (t q : Nat) (x : Sq) : (s.setSq t q x).hdf = s.hdf := rfl
@[simp] theorem State.setSq_cny (t q : Nat) (x : Sq) : (s.setSq t q x).cny = s.cny := rfl
@[simp] theorem State.setSq_lode (t q : Nat) (x : Sq) : (s.setSq t q x).lode = s.lode := rfl
@[simp] theorem State.setSq_ent (t q : Nat) (x : Sq) : (s.setSq t q x).ent = s.ent := rfl
@[simp] theorem State.setSq_ctxs (t q : Nat) (x : Sq) : (s.setSq t q x).ctxs = s.ctxs := rfl
@[simp] theorem State.setSq_dgs (t q : Nat) (x : Sq) : (s.setSq t q x).dgs = s.dgs := rfl
@[simp] theorem State.setSq_slc (t q : Nat) (x : Sq) : (s.setSq t q x).slc = s.slc := rfl
@[simp] theorem State.setSq_shafts (t q : Nat) (x : Sq) : (s.setSq t q x).shafts = s.shafts := rfl
@[simp] theorem State.setSq_stopes (t q : Nat) (x : Sq) : (s.setSq t q x).stopes = s.stopes := rfl
@[simp] theorem State.setSq_engs (t q : Nat) (x : Sq) : (s.setSq t q x).engs = s.engs := rfl
@[simp] theorem State.setSq_runs (t q : Nat) (x : Sq) : (s.setSq t q x).runs = s.runs := rfl
@[simp] theorem State.setSq_kstQueue (t q : Nat) (x : Sq) : (s.setSq t q x).kstQueue = s.kstQueue := rfl
@[simp] theorem State.setSq_samplers (t q : Nat) (x : Sq) : (s.setSq t q x).samplers = s.samplers := rfl
@[simp] theorem State.setSq_lcc (t q : Nat) (x : Sq) : (s.setSq t q x).lcc = s.lcc := rfl
@[simp] theorem State.setSq_zdp (t q : Nat) (x : Sq) : (s.setSq t q x).zdp = s.zdp := rfl
@[simp] theorem State.setSq_rst (t q : Nat) (x : Sq) : (s.setSq t q x).rst = s.rst := rfl
@[simp] theorem State.setSq_spdms (t q : Nat) (x : Sq) : (s.setSq t q x).spdms = s.spdms := rfl
@[simp] theorem State.setSq_avs (t q : Nat) (x : Sq) : (s.setSq t q x).avs = s.avs := rfl
@[simp] theorem State.setSq_bwNext (t q : Nat) (x : Sq) : (s.setSq t q x).bwNext = s.bwNext := rfl
@[simp] theorem State.setSq_edge (t q : Nat) (x : Sq) : (s.setSq t q x).edge = s.edge := rfl
@[simp] theorem State.setSq_flaws (t q : Nat) (x : Sq) : (s.setSq t q x).flaws = s.flaws := rfl

/-! ### `setCq` -/

@[simp] theorem State.setCq_pending (t q : Nat) (x : Cq) : (s.setCq t q x).pending = s.pending := rfl
@[simp] theorem State.setCq_stamp (t q : Nat) (x : Cq) : (s.setCq t q x).stamp = s.stamp := rfl
@[simp] theorem State.setCq_freeNext (t q : Nat) (x : Cq) : (s.setCq t q x).freeNext = s.freeNext := rfl
@[simp] theorem State.setCq_regs (t q : Nat) (x : Cq) : (s.setCq t q x).regs = s.regs := rfl
@[simp] theorem State.setCq_prims (t q : Nat) (x : Cq) : (s.setCq t q x).prims = s.prims := rfl
@[simp] theorem State.setCq_flips (t q : Nat) (x : Cq) : (s.setCq t q x).flips = s.flips := rfl
@[simp] theorem State.setCq_latches (t q : Nat) (x : Cq) : (s.setCq t q x).latches = s.latches := rfl
@[simp] theorem State.setCq_txn (t q : Nat) (x : Cq) : (s.setCq t q x).txn = s.txn := rfl
@[simp] theorem State.setCq_dir (t q : Nat) (x : Cq) : (s.setCq t q x).dir = s.dir := rfl
@[simp] theorem State.setCq_fns (t q : Nat) (x : Cq) : (s.setCq t q x).fns = s.fns := rfl
@[simp] theorem State.setCq_sqs (t q : Nat) (x : Cq) : (s.setCq t q x).sqs = s.sqs := rfl
@[simp] theorem State.setCq_tally (t q : Nat) (x : Cq) : (s.setCq t q x).tally = s.tally := rfl
@[simp] theorem State.setCq_host (t q : Nat) (x : Cq) : (s.setCq t q x).host = s.host := rfl
@[simp] theorem State.setCq_hdf (t q : Nat) (x : Cq) : (s.setCq t q x).hdf = s.hdf := rfl
@[simp] theorem State.setCq_cny (t q : Nat) (x : Cq) : (s.setCq t q x).cny = s.cny := rfl
@[simp] theorem State.setCq_lode (t q : Nat) (x : Cq) : (s.setCq t q x).lode = s.lode := rfl
@[simp] theorem State.setCq_ent (t q : Nat) (x : Cq) : (s.setCq t q x).ent = s.ent := rfl
@[simp] theorem State.setCq_ctxs (t q : Nat) (x : Cq) : (s.setCq t q x).ctxs = s.ctxs := rfl
@[simp] theorem State.setCq_dgs (t q : Nat) (x : Cq) : (s.setCq t q x).dgs = s.dgs := rfl
@[simp] theorem State.setCq_slc (t q : Nat) (x : Cq) : (s.setCq t q x).slc = s.slc := rfl
@[simp] theorem State.setCq_shafts (t q : Nat) (x : Cq) : (s.setCq t q x).shafts = s.shafts := rfl
@[simp] theorem State.setCq_stopes (t q : Nat) (x : Cq) : (s.setCq t q x).stopes = s.stopes := rfl
@[simp] theorem State.setCq_engs (t q : Nat) (x : Cq) : (s.setCq t q x).engs = s.engs := rfl
@[simp] theorem State.setCq_runs (t q : Nat) (x : Cq) : (s.setCq t q x).runs = s.runs := rfl
@[simp] theorem State.setCq_kstQueue (t q : Nat) (x : Cq) : (s.setCq t q x).kstQueue = s.kstQueue := rfl
@[simp] theorem State.setCq_samplers (t q : Nat) (x : Cq) : (s.setCq t q x).samplers = s.samplers := rfl
@[simp] theorem State.setCq_lcc (t q : Nat) (x : Cq) : (s.setCq t q x).lcc = s.lcc := rfl
@[simp] theorem State.setCq_zdp (t q : Nat) (x : Cq) : (s.setCq t q x).zdp = s.zdp := rfl
@[simp] theorem State.setCq_rst (t q : Nat) (x : Cq) : (s.setCq t q x).rst = s.rst := rfl
@[simp] theorem State.setCq_spdms (t q : Nat) (x : Cq) : (s.setCq t q x).spdms = s.spdms := rfl
@[simp] theorem State.setCq_avs (t q : Nat) (x : Cq) : (s.setCq t q x).avs = s.avs := rfl
@[simp] theorem State.setCq_bwNext (t q : Nat) (x : Cq) : (s.setCq t q x).bwNext = s.bwNext := rfl
@[simp] theorem State.setCq_edge (t q : Nat) (x : Cq) : (s.setCq t q x).edge = s.edge := rfl
@[simp] theorem State.setCq_flaws (t q : Nat) (x : Cq) : (s.setCq t q x).flaws = s.flaws := rfl

/-! ### `hostWrite` -/

@[simp] theorem State.hostWrite_pending (a : Nat) (bs : Bytes) : (s.hostWrite a bs).pending = s.pending := rfl
@[simp] theorem State.hostWrite_stamp (a : Nat) (bs : Bytes) : (s.hostWrite a bs).stamp = s.stamp := rfl
@[simp] theorem State.hostWrite_freeNext (a : Nat) (bs : Bytes) : (s.hostWrite a bs).freeNext = s.freeNext := rfl
@[simp] theorem State.hostWrite_regs (a : Nat) (bs : Bytes) : (s.hostWrite a bs).regs = s.regs := rfl
@[simp] theorem State.hostWrite_prims (a : Nat) (bs : Bytes) : (s.hostWrite a bs).prims = s.prims := rfl
@[simp] theorem State.hostWrite_flips (a : Nat) (bs : Bytes) : (s.hostWrite a bs).flips = s.flips := rfl
@[simp] theorem State.hostWrite_latches (a : Nat) (bs : Bytes) : (s.hostWrite a bs).latches = s.latches := rfl
@[simp] theorem State.hostWrite_txn (a : Nat) (bs : Bytes) : (s.hostWrite a bs).txn = s.txn := rfl
@[simp] theorem State.hostWrite_dir (a : Nat) (bs : Bytes) : (s.hostWrite a bs).dir = s.dir := rfl
@[simp] theorem State.hostWrite_fns (a : Nat) (bs : Bytes) : (s.hostWrite a bs).fns = s.fns := rfl
@[simp] theorem State.hostWrite_sqs (a : Nat) (bs : Bytes) : (s.hostWrite a bs).sqs = s.sqs := rfl
@[simp] theorem State.hostWrite_cqs (a : Nat) (bs : Bytes) : (s.hostWrite a bs).cqs = s.cqs := rfl
@[simp] theorem State.hostWrite_tally (a : Nat) (bs : Bytes) : (s.hostWrite a bs).tally = s.tally := rfl
@[simp] theorem State.hostWrite_hdf (a : Nat) (bs : Bytes) : (s.hostWrite a bs).hdf = s.hdf := rfl
@[simp] theorem State.hostWrite_cny (a : Nat) (bs : Bytes) : (s.hostWrite a bs).cny = s.cny := rfl
@[simp] theorem State.hostWrite_lode (a : Nat) (bs : Bytes) : (s.hostWrite a bs).lode = s.lode := rfl
@[simp] theorem State.hostWrite_ent (a : Nat) (bs : Bytes) : (s.hostWrite a bs).ent = s.ent := rfl
@[simp] theorem State.hostWrite_ctxs (a : Nat) (bs : Bytes) : (s.hostWrite a bs).ctxs = s.ctxs := rfl
@[simp] theorem State.hostWrite_dgs (a : Nat) (bs : Bytes) : (s.hostWrite a bs).dgs = s.dgs := rfl
@[simp] theorem State.hostWrite_slc (a : Nat) (bs : Bytes) : (s.hostWrite a bs).slc = s.slc := rfl
@[simp] theorem State.hostWrite_shafts (a : Nat) (bs : Bytes) : (s.hostWrite a bs).shafts = s.shafts := rfl
@[simp] theorem State.hostWrite_stopes (a : Nat) (bs : Bytes) : (s.hostWrite a bs).stopes = s.stopes := rfl
@[simp] theorem State.hostWrite_engs (a : Nat) (bs : Bytes) : (s.hostWrite a bs).engs = s.engs := rfl
@[simp] theorem State.hostWrite_runs (a : Nat) (bs : Bytes) : (s.hostWrite a bs).runs = s.runs := rfl
@[simp] theorem State.hostWrite_kstQueue (a : Nat) (bs : Bytes) : (s.hostWrite a bs).kstQueue = s.kstQueue := rfl
@[simp] theorem State.hostWrite_samplers (a : Nat) (bs : Bytes) : (s.hostWrite a bs).samplers = s.samplers := rfl
@[simp] theorem State.hostWrite_lcc (a : Nat) (bs : Bytes) : (s.hostWrite a bs).lcc = s.lcc := rfl
@[simp] theorem State.hostWrite_zdp (a : Nat) (bs : Bytes) : (s.hostWrite a bs).zdp = s.zdp := rfl
@[simp] theorem State.hostWrite_rst (a : Nat) (bs : Bytes) : (s.hostWrite a bs).rst = s.rst := rfl
@[simp] theorem State.hostWrite_spdms (a : Nat) (bs : Bytes) : (s.hostWrite a bs).spdms = s.spdms := rfl
@[simp] theorem State.hostWrite_avs (a : Nat) (bs : Bytes) : (s.hostWrite a bs).avs = s.avs := rfl
@[simp] theorem State.hostWrite_bwNext (a : Nat) (bs : Bytes) : (s.hostWrite a bs).bwNext = s.bwNext := rfl
@[simp] theorem State.hostWrite_edge (a : Nat) (bs : Bytes) : (s.hostWrite a bs).edge = s.edge := rfl
@[simp] theorem State.hostWrite_flaws (a : Nat) (bs : Bytes) : (s.hostWrite a bs).flaws = s.flaws := rfl

/-! ### `setEntry` -/

@[simp] theorem State.setEntry_pending (e : Nat) (x : Entry) : (s.setEntry e x).pending = s.pending := rfl
@[simp] theorem State.setEntry_stamp (e : Nat) (x : Entry) : (s.setEntry e x).stamp = s.stamp := rfl
@[simp] theorem State.setEntry_freeNext (e : Nat) (x : Entry) : (s.setEntry e x).freeNext = s.freeNext := rfl
@[simp] theorem State.setEntry_regs (e : Nat) (x : Entry) : (s.setEntry e x).regs = s.regs := rfl
@[simp] theorem State.setEntry_prims (e : Nat) (x : Entry) : (s.setEntry e x).prims = s.prims := rfl
@[simp] theorem State.setEntry_flips (e : Nat) (x : Entry) : (s.setEntry e x).flips = s.flips := rfl
@[simp] theorem State.setEntry_latches (e : Nat) (x : Entry) : (s.setEntry e x).latches = s.latches := rfl
@[simp] theorem State.setEntry_txn (e : Nat) (x : Entry) : (s.setEntry e x).txn = s.txn := rfl
@[simp] theorem State.setEntry_dir (e : Nat) (x : Entry) : (s.setEntry e x).dir = s.dir := rfl
@[simp] theorem State.setEntry_fns (e : Nat) (x : Entry) : (s.setEntry e x).fns = s.fns := rfl
@[simp] theorem State.setEntry_sqs (e : Nat) (x : Entry) : (s.setEntry e x).sqs = s.sqs := rfl
@[simp] theorem State.setEntry_cqs (e : Nat) (x : Entry) : (s.setEntry e x).cqs = s.cqs := rfl
@[simp] theorem State.setEntry_host (e : Nat) (x : Entry) : (s.setEntry e x).host = s.host := rfl
@[simp] theorem State.setEntry_hdf (e : Nat) (x : Entry) : (s.setEntry e x).hdf = s.hdf := rfl
@[simp] theorem State.setEntry_cny (e : Nat) (x : Entry) : (s.setEntry e x).cny = s.cny := rfl
@[simp] theorem State.setEntry_lode (e : Nat) (x : Entry) : (s.setEntry e x).lode = s.lode := rfl
@[simp] theorem State.setEntry_ent (e : Nat) (x : Entry) : (s.setEntry e x).ent = s.ent := rfl
@[simp] theorem State.setEntry_ctxs (e : Nat) (x : Entry) : (s.setEntry e x).ctxs = s.ctxs := rfl
@[simp] theorem State.setEntry_dgs (e : Nat) (x : Entry) : (s.setEntry e x).dgs = s.dgs := rfl
@[simp] theorem State.setEntry_slc (e : Nat) (x : Entry) : (s.setEntry e x).slc = s.slc := rfl
@[simp] theorem State.setEntry_shafts (e : Nat) (x : Entry) : (s.setEntry e x).shafts = s.shafts := rfl
@[simp] theorem State.setEntry_stopes (e : Nat) (x : Entry) : (s.setEntry e x).stopes = s.stopes := rfl
@[simp] theorem State.setEntry_engs (e : Nat) (x : Entry) : (s.setEntry e x).engs = s.engs := rfl
@[simp] theorem State.setEntry_runs (e : Nat) (x : Entry) : (s.setEntry e x).runs = s.runs := rfl
@[simp] theorem State.setEntry_kstQueue (e : Nat) (x : Entry) : (s.setEntry e x).kstQueue = s.kstQueue := rfl
@[simp] theorem State.setEntry_samplers (e : Nat) (x : Entry) : (s.setEntry e x).samplers = s.samplers := rfl
@[simp] theorem State.setEntry_lcc (e : Nat) (x : Entry) : (s.setEntry e x).lcc = s.lcc := rfl
@[simp] theorem State.setEntry_zdp (e : Nat) (x : Entry) : (s.setEntry e x).zdp = s.zdp := rfl
@[simp] theorem State.setEntry_rst (e : Nat) (x : Entry) : (s.setEntry e x).rst = s.rst := rfl
@[simp] theorem State.setEntry_spdms (e : Nat) (x : Entry) : (s.setEntry e x).spdms = s.spdms := rfl
@[simp] theorem State.setEntry_avs (e : Nat) (x : Entry) : (s.setEntry e x).avs = s.avs := rfl
@[simp] theorem State.setEntry_bwNext (e : Nat) (x : Entry) : (s.setEntry e x).bwNext = s.bwNext := rfl
@[simp] theorem State.setEntry_edge (e : Nat) (x : Entry) : (s.setEntry e x).edge = s.edge := rfl
@[simp] theorem State.setEntry_flaws (e : Nat) (x : Entry) : (s.setEntry e x).flaws = s.flaws := rfl

/-! ### `setTxn` -/

@[simp] theorem State.setTxn_pending (sc : Scope) (x : Txn) : (s.setTxn sc x).pending = s.pending := rfl
@[simp] theorem State.setTxn_stamp (sc : Scope) (x : Txn) : (s.setTxn sc x).stamp = s.stamp := rfl
@[simp] theorem State.setTxn_freeNext (sc : Scope) (x : Txn) : (s.setTxn sc x).freeNext = s.freeNext := rfl
@[simp] theorem State.setTxn_regs (sc : Scope) (x : Txn) : (s.setTxn sc x).regs = s.regs := rfl
@[simp] theorem State.setTxn_prims (sc : Scope) (x : Txn) : (s.setTxn sc x).prims = s.prims := rfl
@[simp] theorem State.setTxn_flips (sc : Scope) (x : Txn) : (s.setTxn sc x).flips = s.flips := rfl
@[simp] theorem State.setTxn_latches (sc : Scope) (x : Txn) : (s.setTxn sc x).latches = s.latches := rfl
@[simp] theorem State.setTxn_dir (sc : Scope) (x : Txn) : (s.setTxn sc x).dir = s.dir := rfl
@[simp] theorem State.setTxn_fns (sc : Scope) (x : Txn) : (s.setTxn sc x).fns = s.fns := rfl
@[simp] theorem State.setTxn_sqs (sc : Scope) (x : Txn) : (s.setTxn sc x).sqs = s.sqs := rfl
@[simp] theorem State.setTxn_cqs (sc : Scope) (x : Txn) : (s.setTxn sc x).cqs = s.cqs := rfl
@[simp] theorem State.setTxn_tally (sc : Scope) (x : Txn) : (s.setTxn sc x).tally = s.tally := rfl
@[simp] theorem State.setTxn_host (sc : Scope) (x : Txn) : (s.setTxn sc x).host = s.host := rfl
@[simp] theorem State.setTxn_hdf (sc : Scope) (x : Txn) : (s.setTxn sc x).hdf = s.hdf := rfl
@[simp] theorem State.setTxn_cny (sc : Scope) (x : Txn) : (s.setTxn sc x).cny = s.cny := rfl
@[simp] theorem State.setTxn_lode (sc : Scope) (x : Txn) : (s.setTxn sc x).lode = s.lode := rfl
@[simp] theorem State.setTxn_ent (sc : Scope) (x : Txn) : (s.setTxn sc x).ent = s.ent := rfl
@[simp] theorem State.setTxn_ctxs (sc : Scope) (x : Txn) : (s.setTxn sc x).ctxs = s.ctxs := rfl
@[simp] theorem State.setTxn_dgs (sc : Scope) (x : Txn) : (s.setTxn sc x).dgs = s.dgs := rfl
@[simp] theorem State.setTxn_slc (sc : Scope) (x : Txn) : (s.setTxn sc x).slc = s.slc := rfl
@[simp] theorem State.setTxn_shafts (sc : Scope) (x : Txn) : (s.setTxn sc x).shafts = s.shafts := rfl
@[simp] theorem State.setTxn_stopes (sc : Scope) (x : Txn) : (s.setTxn sc x).stopes = s.stopes := rfl
@[simp] theorem State.setTxn_engs (sc : Scope) (x : Txn) : (s.setTxn sc x).engs = s.engs := rfl
@[simp] theorem State.setTxn_runs (sc : Scope) (x : Txn) : (s.setTxn sc x).runs = s.runs := rfl
@[simp] theorem State.setTxn_kstQueue (sc : Scope) (x : Txn) : (s.setTxn sc x).kstQueue = s.kstQueue := rfl
@[simp] theorem State.setTxn_samplers (sc : Scope) (x : Txn) : (s.setTxn sc x).samplers = s.samplers := rfl
@[simp] theorem State.setTxn_lcc (sc : Scope) (x : Txn) : (s.setTxn sc x).lcc = s.lcc := rfl
@[simp] theorem State.setTxn_zdp (sc : Scope) (x : Txn) : (s.setTxn sc x).zdp = s.zdp := rfl
@[simp] theorem State.setTxn_rst (sc : Scope) (x : Txn) : (s.setTxn sc x).rst = s.rst := rfl
@[simp] theorem State.setTxn_spdms (sc : Scope) (x : Txn) : (s.setTxn sc x).spdms = s.spdms := rfl
@[simp] theorem State.setTxn_avs (sc : Scope) (x : Txn) : (s.setTxn sc x).avs = s.avs := rfl
@[simp] theorem State.setTxn_bwNext (sc : Scope) (x : Txn) : (s.setTxn sc x).bwNext = s.bwNext := rfl
@[simp] theorem State.setTxn_edge (sc : Scope) (x : Txn) : (s.setTxn sc x).edge = s.edge := rfl
@[simp] theorem State.setTxn_flaws (sc : Scope) (x : Txn) : (s.setTxn sc x).flaws = s.flaws := rfl

/-! ### `setObj` -/

@[simp] theorem State.setObj_pending (i : Nat) (o : Obj) : (s.setObj i o).pending = s.pending := rfl
@[simp] theorem State.setObj_stamp (i : Nat) (o : Obj) : (s.setObj i o).stamp = s.stamp := rfl
@[simp] theorem State.setObj_freeNext (i : Nat) (o : Obj) : (s.setObj i o).freeNext = s.freeNext := rfl
@[simp] theorem State.setObj_regs (i : Nat) (o : Obj) : (s.setObj i o).regs = s.regs := rfl
@[simp] theorem State.setObj_prims (i : Nat) (o : Obj) : (s.setObj i o).prims = s.prims := rfl
@[simp] theorem State.setObj_flips (i : Nat) (o : Obj) : (s.setObj i o).flips = s.flips := rfl
@[simp] theorem State.setObj_latches (i : Nat) (o : Obj) : (s.setObj i o).latches = s.latches := rfl
@[simp] theorem State.setObj_txn (i : Nat) (o : Obj) : (s.setObj i o).txn = s.txn := rfl
@[simp] theorem State.setObj_dir (i : Nat) (o : Obj) : (s.setObj i o).dir = s.dir := rfl
@[simp] theorem State.setObj_fns (i : Nat) (o : Obj) : (s.setObj i o).fns = s.fns := rfl
@[simp] theorem State.setObj_sqs (i : Nat) (o : Obj) : (s.setObj i o).sqs = s.sqs := rfl
@[simp] theorem State.setObj_cqs (i : Nat) (o : Obj) : (s.setObj i o).cqs = s.cqs := rfl
@[simp] theorem State.setObj_tally (i : Nat) (o : Obj) : (s.setObj i o).tally = s.tally := rfl
@[simp] theorem State.setObj_host (i : Nat) (o : Obj) : (s.setObj i o).host = s.host := rfl
@[simp] theorem State.setObj_hdf (i : Nat) (o : Obj) : (s.setObj i o).hdf = s.hdf := rfl
@[simp] theorem State.setObj_cny (i : Nat) (o : Obj) : (s.setObj i o).cny = s.cny := rfl
@[simp] theorem State.setObj_ent (i : Nat) (o : Obj) : (s.setObj i o).ent = s.ent := rfl
@[simp] theorem State.setObj_ctxs (i : Nat) (o : Obj) : (s.setObj i o).ctxs = s.ctxs := rfl
@[simp] theorem State.setObj_dgs (i : Nat) (o : Obj) : (s.setObj i o).dgs = s.dgs := rfl
@[simp] theorem State.setObj_slc (i : Nat) (o : Obj) : (s.setObj i o).slc = s.slc := rfl
@[simp] theorem State.setObj_shafts (i : Nat) (o : Obj) : (s.setObj i o).shafts = s.shafts := rfl
@[simp] theorem State.setObj_stopes (i : Nat) (o : Obj) : (s.setObj i o).stopes = s.stopes := rfl
@[simp] theorem State.setObj_engs (i : Nat) (o : Obj) : (s.setObj i o).engs = s.engs := rfl
@[simp] theorem State.setObj_runs (i : Nat) (o : Obj) : (s.setObj i o).runs = s.runs := rfl
@[simp] theorem State.setObj_kstQueue (i : Nat) (o : Obj) : (s.setObj i o).kstQueue = s.kstQueue := rfl
@[simp] theorem State.setObj_samplers (i : Nat) (o : Obj) : (s.setObj i o).samplers = s.samplers := rfl
@[simp] theorem State.setObj_lcc (i : Nat) (o : Obj) : (s.setObj i o).lcc = s.lcc := rfl
@[simp] theorem State.setObj_zdp (i : Nat) (o : Obj) : (s.setObj i o).zdp = s.zdp := rfl
@[simp] theorem State.setObj_rst (i : Nat) (o : Obj) : (s.setObj i o).rst = s.rst := rfl
@[simp] theorem State.setObj_spdms (i : Nat) (o : Obj) : (s.setObj i o).spdms = s.spdms := rfl
@[simp] theorem State.setObj_avs (i : Nat) (o : Obj) : (s.setObj i o).avs = s.avs := rfl
@[simp] theorem State.setObj_bwNext (i : Nat) (o : Obj) : (s.setObj i o).bwNext = s.bwNext := rfl
@[simp] theorem State.setObj_edge (i : Nat) (o : Obj) : (s.setObj i o).edge = s.edge := rfl
@[simp] theorem State.setObj_flaws (i : Nat) (o : Obj) : (s.setObj i o).flaws = s.flaws := rfl

/-! ### `setCtx` -/

@[simp] theorem State.setCtx_pending (t c : Nat) (x : Ctx) : (s.setCtx t c x).pending = s.pending := rfl
@[simp] theorem State.setCtx_stamp (t c : Nat) (x : Ctx) : (s.setCtx t c x).stamp = s.stamp := rfl
@[simp] theorem State.setCtx_freeNext (t c : Nat) (x : Ctx) : (s.setCtx t c x).freeNext = s.freeNext := rfl
@[simp] theorem State.setCtx_regs (t c : Nat) (x : Ctx) : (s.setCtx t c x).regs = s.regs := rfl
@[simp] theorem State.setCtx_prims (t c : Nat) (x : Ctx) : (s.setCtx t c x).prims = s.prims := rfl
@[simp] theorem State.setCtx_flips (t c : Nat) (x : Ctx) : (s.setCtx t c x).flips = s.flips := rfl
@[simp] theorem State.setCtx_latches (t c : Nat) (x : Ctx) : (s.setCtx t c x).latches = s.latches := rfl
@[simp] theorem State.setCtx_txn (t c : Nat) (x : Ctx) : (s.setCtx t c x).txn = s.txn := rfl
@[simp] theorem State.setCtx_dir (t c : Nat) (x : Ctx) : (s.setCtx t c x).dir = s.dir := rfl
@[simp] theorem State.setCtx_fns (t c : Nat) (x : Ctx) : (s.setCtx t c x).fns = s.fns := rfl
@[simp] theorem State.setCtx_sqs (t c : Nat) (x : Ctx) : (s.setCtx t c x).sqs = s.sqs := rfl
@[simp] theorem State.setCtx_cqs (t c : Nat) (x : Ctx) : (s.setCtx t c x).cqs = s.cqs := rfl
@[simp] theorem State.setCtx_tally (t c : Nat) (x : Ctx) : (s.setCtx t c x).tally = s.tally := rfl
@[simp] theorem State.setCtx_host (t c : Nat) (x : Ctx) : (s.setCtx t c x).host = s.host := rfl
@[simp] theorem State.setCtx_hdf (t c : Nat) (x : Ctx) : (s.setCtx t c x).hdf = s.hdf := rfl
@[simp] theorem State.setCtx_cny (t c : Nat) (x : Ctx) : (s.setCtx t c x).cny = s.cny := rfl
@[simp] theorem State.setCtx_lode (t c : Nat) (x : Ctx) : (s.setCtx t c x).lode = s.lode := rfl
@[simp] theorem State.setCtx_ent (t c : Nat) (x : Ctx) : (s.setCtx t c x).ent = s.ent := rfl
@[simp] theorem State.setCtx_dgs (t c : Nat) (x : Ctx) : (s.setCtx t c x).dgs = s.dgs := rfl
@[simp] theorem State.setCtx_slc (t c : Nat) (x : Ctx) : (s.setCtx t c x).slc = s.slc := rfl
@[simp] theorem State.setCtx_shafts (t c : Nat) (x : Ctx) : (s.setCtx t c x).shafts = s.shafts := rfl
@[simp] theorem State.setCtx_stopes (t c : Nat) (x : Ctx) : (s.setCtx t c x).stopes = s.stopes := rfl
@[simp] theorem State.setCtx_engs (t c : Nat) (x : Ctx) : (s.setCtx t c x).engs = s.engs := rfl
@[simp] theorem State.setCtx_runs (t c : Nat) (x : Ctx) : (s.setCtx t c x).runs = s.runs := rfl
@[simp] theorem State.setCtx_kstQueue (t c : Nat) (x : Ctx) : (s.setCtx t c x).kstQueue = s.kstQueue := rfl
@[simp] theorem State.setCtx_samplers (t c : Nat) (x : Ctx) : (s.setCtx t c x).samplers = s.samplers := rfl
@[simp] theorem State.setCtx_lcc (t c : Nat) (x : Ctx) : (s.setCtx t c x).lcc = s.lcc := rfl
@[simp] theorem State.setCtx_zdp (t c : Nat) (x : Ctx) : (s.setCtx t c x).zdp = s.zdp := rfl
@[simp] theorem State.setCtx_rst (t c : Nat) (x : Ctx) : (s.setCtx t c x).rst = s.rst := rfl
@[simp] theorem State.setCtx_spdms (t c : Nat) (x : Ctx) : (s.setCtx t c x).spdms = s.spdms := rfl
@[simp] theorem State.setCtx_avs (t c : Nat) (x : Ctx) : (s.setCtx t c x).avs = s.avs := rfl
@[simp] theorem State.setCtx_bwNext (t c : Nat) (x : Ctx) : (s.setCtx t c x).bwNext = s.bwNext := rfl
@[simp] theorem State.setCtx_edge (t c : Nat) (x : Ctx) : (s.setCtx t c x).edge = s.edge := rfl
@[simp] theorem State.setCtx_flaws (t c : Nat) (x : Ctx) : (s.setCtx t c x).flaws = s.flaws := rfl

/-! ### `setGen` -/

@[simp] theorem State.setGen_pending (n : Nat) (g : Gen) : (s.setGen n g).pending = s.pending := rfl
@[simp] theorem State.setGen_stamp (n : Nat) (g : Gen) : (s.setGen n g).stamp = s.stamp := rfl
@[simp] theorem State.setGen_freeNext (n : Nat) (g : Gen) : (s.setGen n g).freeNext = s.freeNext := rfl
@[simp] theorem State.setGen_regs (n : Nat) (g : Gen) : (s.setGen n g).regs = s.regs := rfl
@[simp] theorem State.setGen_prims (n : Nat) (g : Gen) : (s.setGen n g).prims = s.prims := rfl
@[simp] theorem State.setGen_flips (n : Nat) (g : Gen) : (s.setGen n g).flips = s.flips := rfl
@[simp] theorem State.setGen_latches (n : Nat) (g : Gen) : (s.setGen n g).latches = s.latches := rfl
@[simp] theorem State.setGen_txn (n : Nat) (g : Gen) : (s.setGen n g).txn = s.txn := rfl
@[simp] theorem State.setGen_dir (n : Nat) (g : Gen) : (s.setGen n g).dir = s.dir := rfl
@[simp] theorem State.setGen_fns (n : Nat) (g : Gen) : (s.setGen n g).fns = s.fns := rfl
@[simp] theorem State.setGen_sqs (n : Nat) (g : Gen) : (s.setGen n g).sqs = s.sqs := rfl
@[simp] theorem State.setGen_cqs (n : Nat) (g : Gen) : (s.setGen n g).cqs = s.cqs := rfl
@[simp] theorem State.setGen_tally (n : Nat) (g : Gen) : (s.setGen n g).tally = s.tally := rfl
@[simp] theorem State.setGen_host (n : Nat) (g : Gen) : (s.setGen n g).host = s.host := rfl
@[simp] theorem State.setGen_hdf (n : Nat) (g : Gen) : (s.setGen n g).hdf = s.hdf := rfl
@[simp] theorem State.setGen_cny (n : Nat) (g : Gen) : (s.setGen n g).cny = s.cny := rfl
@[simp] theorem State.setGen_lode (n : Nat) (g : Gen) : (s.setGen n g).lode = s.lode := rfl
@[simp] theorem State.setGen_ctxs (n : Nat) (g : Gen) : (s.setGen n g).ctxs = s.ctxs := rfl
@[simp] theorem State.setGen_dgs (n : Nat) (g : Gen) : (s.setGen n g).dgs = s.dgs := rfl
@[simp] theorem State.setGen_slc (n : Nat) (g : Gen) : (s.setGen n g).slc = s.slc := rfl
@[simp] theorem State.setGen_shafts (n : Nat) (g : Gen) : (s.setGen n g).shafts = s.shafts := rfl
@[simp] theorem State.setGen_stopes (n : Nat) (g : Gen) : (s.setGen n g).stopes = s.stopes := rfl
@[simp] theorem State.setGen_engs (n : Nat) (g : Gen) : (s.setGen n g).engs = s.engs := rfl
@[simp] theorem State.setGen_runs (n : Nat) (g : Gen) : (s.setGen n g).runs = s.runs := rfl
@[simp] theorem State.setGen_kstQueue (n : Nat) (g : Gen) : (s.setGen n g).kstQueue = s.kstQueue := rfl
@[simp] theorem State.setGen_samplers (n : Nat) (g : Gen) : (s.setGen n g).samplers = s.samplers := rfl
@[simp] theorem State.setGen_lcc (n : Nat) (g : Gen) : (s.setGen n g).lcc = s.lcc := rfl
@[simp] theorem State.setGen_zdp (n : Nat) (g : Gen) : (s.setGen n g).zdp = s.zdp := rfl
@[simp] theorem State.setGen_rst (n : Nat) (g : Gen) : (s.setGen n g).rst = s.rst := rfl
@[simp] theorem State.setGen_spdms (n : Nat) (g : Gen) : (s.setGen n g).spdms = s.spdms := rfl
@[simp] theorem State.setGen_avs (n : Nat) (g : Gen) : (s.setGen n g).avs = s.avs := rfl
@[simp] theorem State.setGen_bwNext (n : Nat) (g : Gen) : (s.setGen n g).bwNext = s.bwNext := rfl
@[simp] theorem State.setGen_edge (n : Nat) (g : Gen) : (s.setGen n g).edge = s.edge := rfl
@[simp] theorem State.setGen_flaws (n : Nat) (g : Gen) : (s.setGen n g).flaws = s.flaws := rfl

/-! ### `setMrg` -/

@[simp] theorem State.setMrg_pending (n : Nat) (m : Mrg) : (s.setMrg n m).pending = s.pending := rfl
@[simp] theorem State.setMrg_stamp (n : Nat) (m : Mrg) : (s.setMrg n m).stamp = s.stamp := rfl
@[simp] theorem State.setMrg_freeNext (n : Nat) (m : Mrg) : (s.setMrg n m).freeNext = s.freeNext := rfl
@[simp] theorem State.setMrg_regs (n : Nat) (m : Mrg) : (s.setMrg n m).regs = s.regs := rfl
@[simp] theorem State.setMrg_prims (n : Nat) (m : Mrg) : (s.setMrg n m).prims = s.prims := rfl
@[simp] theorem State.setMrg_flips (n : Nat) (m : Mrg) : (s.setMrg n m).flips = s.flips := rfl
@[simp] theorem State.setMrg_latches (n : Nat) (m : Mrg) : (s.setMrg n m).latches = s.latches := rfl
@[simp] theorem State.setMrg_txn (n : Nat) (m : Mrg) : (s.setMrg n m).txn = s.txn := rfl
@[simp] theorem State.setMrg_dir (n : Nat) (m : Mrg) : (s.setMrg n m).dir = s.dir := rfl
@[simp] theorem State.setMrg_fns (n : Nat) (m : Mrg) : (s.setMrg n m).fns = s.fns := rfl
@[simp] theorem State.setMrg_sqs (n : Nat) (m : Mrg) : (s.setMrg n m).sqs = s.sqs := rfl
@[simp] theorem State.setMrg_cqs (n : Nat) (m : Mrg) : (s.setMrg n m).cqs = s.cqs := rfl
@[simp] theorem State.setMrg_tally (n : Nat) (m : Mrg) : (s.setMrg n m).tally = s.tally := rfl
@[simp] theorem State.setMrg_host (n : Nat) (m : Mrg) : (s.setMrg n m).host = s.host := rfl
@[simp] theorem State.setMrg_hdf (n : Nat) (m : Mrg) : (s.setMrg n m).hdf = s.hdf := rfl
@[simp] theorem State.setMrg_cny (n : Nat) (m : Mrg) : (s.setMrg n m).cny = s.cny := rfl
@[simp] theorem State.setMrg_lode (n : Nat) (m : Mrg) : (s.setMrg n m).lode = s.lode := rfl
@[simp] theorem State.setMrg_ctxs (n : Nat) (m : Mrg) : (s.setMrg n m).ctxs = s.ctxs := rfl
@[simp] theorem State.setMrg_dgs (n : Nat) (m : Mrg) : (s.setMrg n m).dgs = s.dgs := rfl
@[simp] theorem State.setMrg_slc (n : Nat) (m : Mrg) : (s.setMrg n m).slc = s.slc := rfl
@[simp] theorem State.setMrg_shafts (n : Nat) (m : Mrg) : (s.setMrg n m).shafts = s.shafts := rfl
@[simp] theorem State.setMrg_stopes (n : Nat) (m : Mrg) : (s.setMrg n m).stopes = s.stopes := rfl
@[simp] theorem State.setMrg_engs (n : Nat) (m : Mrg) : (s.setMrg n m).engs = s.engs := rfl
@[simp] theorem State.setMrg_runs (n : Nat) (m : Mrg) : (s.setMrg n m).runs = s.runs := rfl
@[simp] theorem State.setMrg_kstQueue (n : Nat) (m : Mrg) : (s.setMrg n m).kstQueue = s.kstQueue := rfl
@[simp] theorem State.setMrg_samplers (n : Nat) (m : Mrg) : (s.setMrg n m).samplers = s.samplers := rfl
@[simp] theorem State.setMrg_lcc (n : Nat) (m : Mrg) : (s.setMrg n m).lcc = s.lcc := rfl
@[simp] theorem State.setMrg_zdp (n : Nat) (m : Mrg) : (s.setMrg n m).zdp = s.zdp := rfl
@[simp] theorem State.setMrg_rst (n : Nat) (m : Mrg) : (s.setMrg n m).rst = s.rst := rfl
@[simp] theorem State.setMrg_spdms (n : Nat) (m : Mrg) : (s.setMrg n m).spdms = s.spdms := rfl
@[simp] theorem State.setMrg_avs (n : Nat) (m : Mrg) : (s.setMrg n m).avs = s.avs := rfl
@[simp] theorem State.setMrg_bwNext (n : Nat) (m : Mrg) : (s.setMrg n m).bwNext = s.bwNext := rfl
@[simp] theorem State.setMrg_edge (n : Nat) (m : Mrg) : (s.setMrg n m).edge = s.edge := rfl
@[simp] theorem State.setMrg_flaws (n : Nat) (m : Mrg) : (s.setMrg n m).flaws = s.flaws := rfl

/-! ### `setCell` -/

@[simp] theorem State.setCell_pending (c : Nat) (x : Cell) : (s.setCell c x).pending = s.pending := rfl
@[simp] theorem State.setCell_stamp (c : Nat) (x : Cell) : (s.setCell c x).stamp = s.stamp := rfl
@[simp] theorem State.setCell_freeNext (c : Nat) (x : Cell) : (s.setCell c x).freeNext = s.freeNext := rfl
@[simp] theorem State.setCell_regs (c : Nat) (x : Cell) : (s.setCell c x).regs = s.regs := rfl
@[simp] theorem State.setCell_prims (c : Nat) (x : Cell) : (s.setCell c x).prims = s.prims := rfl
@[simp] theorem State.setCell_flips (c : Nat) (x : Cell) : (s.setCell c x).flips = s.flips := rfl
@[simp] theorem State.setCell_latches (c : Nat) (x : Cell) : (s.setCell c x).latches = s.latches := rfl
@[simp] theorem State.setCell_txn (c : Nat) (x : Cell) : (s.setCell c x).txn = s.txn := rfl
@[simp] theorem State.setCell_dir (c : Nat) (x : Cell) : (s.setCell c x).dir = s.dir := rfl
@[simp] theorem State.setCell_fns (c : Nat) (x : Cell) : (s.setCell c x).fns = s.fns := rfl
@[simp] theorem State.setCell_sqs (c : Nat) (x : Cell) : (s.setCell c x).sqs = s.sqs := rfl
@[simp] theorem State.setCell_cqs (c : Nat) (x : Cell) : (s.setCell c x).cqs = s.cqs := rfl
@[simp] theorem State.setCell_tally (c : Nat) (x : Cell) : (s.setCell c x).tally = s.tally := rfl
@[simp] theorem State.setCell_host (c : Nat) (x : Cell) : (s.setCell c x).host = s.host := rfl
@[simp] theorem State.setCell_hdf (c : Nat) (x : Cell) : (s.setCell c x).hdf = s.hdf := rfl
@[simp] theorem State.setCell_cny (c : Nat) (x : Cell) : (s.setCell c x).cny = s.cny := rfl
@[simp] theorem State.setCell_lode (c : Nat) (x : Cell) : (s.setCell c x).lode = s.lode := rfl
@[simp] theorem State.setCell_ctxs (c : Nat) (x : Cell) : (s.setCell c x).ctxs = s.ctxs := rfl
@[simp] theorem State.setCell_dgs (c : Nat) (x : Cell) : (s.setCell c x).dgs = s.dgs := rfl
@[simp] theorem State.setCell_slc (c : Nat) (x : Cell) : (s.setCell c x).slc = s.slc := rfl
@[simp] theorem State.setCell_shafts (c : Nat) (x : Cell) : (s.setCell c x).shafts = s.shafts := rfl
@[simp] theorem State.setCell_stopes (c : Nat) (x : Cell) : (s.setCell c x).stopes = s.stopes := rfl
@[simp] theorem State.setCell_engs (c : Nat) (x : Cell) : (s.setCell c x).engs = s.engs := rfl
@[simp] theorem State.setCell_runs (c : Nat) (x : Cell) : (s.setCell c x).runs = s.runs := rfl
@[simp] theorem State.setCell_kstQueue (c : Nat) (x : Cell) : (s.setCell c x).kstQueue = s.kstQueue := rfl
@[simp] theorem State.setCell_samplers (c : Nat) (x : Cell) : (s.setCell c x).samplers = s.samplers := rfl
@[simp] theorem State.setCell_lcc (c : Nat) (x : Cell) : (s.setCell c x).lcc = s.lcc := rfl
@[simp] theorem State.setCell_zdp (c : Nat) (x : Cell) : (s.setCell c x).zdp = s.zdp := rfl
@[simp] theorem State.setCell_rst (c : Nat) (x : Cell) : (s.setCell c x).rst = s.rst := rfl
@[simp] theorem State.setCell_spdms (c : Nat) (x : Cell) : (s.setCell c x).spdms = s.spdms := rfl
@[simp] theorem State.setCell_avs (c : Nat) (x : Cell) : (s.setCell c x).avs = s.avs := rfl
@[simp] theorem State.setCell_bwNext (c : Nat) (x : Cell) : (s.setCell c x).bwNext = s.bwNext := rfl
@[simp] theorem State.setCell_edge (c : Nat) (x : Cell) : (s.setCell c x).edge = s.edge := rfl
@[simp] theorem State.setCell_flaws (c : Nat) (x : Cell) : (s.setCell c x).flaws = s.flaws := rfl

/-! ### `setShaft` -/

@[simp] theorem State.setShaft_pending (n : Nat) (x : Shaft) : (s.setShaft n x).pending = s.pending := rfl
@[simp] theorem State.setShaft_stamp (n : Nat) (x : Shaft) : (s.setShaft n x).stamp = s.stamp := rfl
@[simp] theorem State.setShaft_freeNext (n : Nat) (x : Shaft) : (s.setShaft n x).freeNext = s.freeNext := rfl
@[simp] theorem State.setShaft_regs (n : Nat) (x : Shaft) : (s.setShaft n x).regs = s.regs := rfl
@[simp] theorem State.setShaft_prims (n : Nat) (x : Shaft) : (s.setShaft n x).prims = s.prims := rfl
@[simp] theorem State.setShaft_flips (n : Nat) (x : Shaft) : (s.setShaft n x).flips = s.flips := rfl
@[simp] theorem State.setShaft_latches (n : Nat) (x : Shaft) : (s.setShaft n x).latches = s.latches := rfl
@[simp] theorem State.setShaft_txn (n : Nat) (x : Shaft) : (s.setShaft n x).txn = s.txn := rfl
@[simp] theorem State.setShaft_dir (n : Nat) (x : Shaft) : (s.setShaft n x).dir = s.dir := rfl
@[simp] theorem State.setShaft_fns (n : Nat) (x : Shaft) : (s.setShaft n x).fns = s.fns := rfl
@[simp] theorem State.setShaft_sqs (n : Nat) (x : Shaft) : (s.setShaft n x).sqs = s.sqs := rfl
@[simp] theorem State.setShaft_cqs (n : Nat) (x : Shaft) : (s.setShaft n x).cqs = s.cqs := rfl
@[simp] theorem State.setShaft_tally (n : Nat) (x : Shaft) : (s.setShaft n x).tally = s.tally := rfl
@[simp] theorem State.setShaft_host (n : Nat) (x : Shaft) : (s.setShaft n x).host = s.host := rfl
@[simp] theorem State.setShaft_hdf (n : Nat) (x : Shaft) : (s.setShaft n x).hdf = s.hdf := rfl
@[simp] theorem State.setShaft_cny (n : Nat) (x : Shaft) : (s.setShaft n x).cny = s.cny := rfl
@[simp] theorem State.setShaft_lode (n : Nat) (x : Shaft) : (s.setShaft n x).lode = s.lode := rfl
@[simp] theorem State.setShaft_ent (n : Nat) (x : Shaft) : (s.setShaft n x).ent = s.ent := rfl
@[simp] theorem State.setShaft_ctxs (n : Nat) (x : Shaft) : (s.setShaft n x).ctxs = s.ctxs := rfl
@[simp] theorem State.setShaft_dgs (n : Nat) (x : Shaft) : (s.setShaft n x).dgs = s.dgs := rfl
@[simp] theorem State.setShaft_slc (n : Nat) (x : Shaft) : (s.setShaft n x).slc = s.slc := rfl
@[simp] theorem State.setShaft_stopes (n : Nat) (x : Shaft) : (s.setShaft n x).stopes = s.stopes := rfl
@[simp] theorem State.setShaft_engs (n : Nat) (x : Shaft) : (s.setShaft n x).engs = s.engs := rfl
@[simp] theorem State.setShaft_runs (n : Nat) (x : Shaft) : (s.setShaft n x).runs = s.runs := rfl
@[simp] theorem State.setShaft_kstQueue (n : Nat) (x : Shaft) : (s.setShaft n x).kstQueue = s.kstQueue := rfl
@[simp] theorem State.setShaft_samplers (n : Nat) (x : Shaft) : (s.setShaft n x).samplers = s.samplers := rfl
@[simp] theorem State.setShaft_lcc (n : Nat) (x : Shaft) : (s.setShaft n x).lcc = s.lcc := rfl
@[simp] theorem State.setShaft_zdp (n : Nat) (x : Shaft) : (s.setShaft n x).zdp = s.zdp := rfl
@[simp] theorem State.setShaft_rst (n : Nat) (x : Shaft) : (s.setShaft n x).rst = s.rst := rfl
@[simp] theorem State.setShaft_spdms (n : Nat) (x : Shaft) : (s.setShaft n x).spdms = s.spdms := rfl
@[simp] theorem State.setShaft_avs (n : Nat) (x : Shaft) : (s.setShaft n x).avs = s.avs := rfl
@[simp] theorem State.setShaft_bwNext (n : Nat) (x : Shaft) : (s.setShaft n x).bwNext = s.bwNext := rfl
@[simp] theorem State.setShaft_edge (n : Nat) (x : Shaft) : (s.setShaft n x).edge = s.edge := rfl
@[simp] theorem State.setShaft_flaws (n : Nat) (x : Shaft) : (s.setShaft n x).flaws = s.flaws := rfl

/-! ### `setStope` -/

@[simp] theorem State.setStope_pending (n : Nat) (x : Stope) : (s.setStope n x).pending = s.pending := rfl
@[simp] theorem State.setStope_stamp (n : Nat) (x : Stope) : (s.setStope n x).stamp = s.stamp := rfl
@[simp] theorem State.setStope_freeNext (n : Nat) (x : Stope) : (s.setStope n x).freeNext = s.freeNext := rfl
@[simp] theorem State.setStope_regs (n : Nat) (x : Stope) : (s.setStope n x).regs = s.regs := rfl
@[simp] theorem State.setStope_prims (n : Nat) (x : Stope) : (s.setStope n x).prims = s.prims := rfl
@[simp] theorem State.setStope_flips (n : Nat) (x : Stope) : (s.setStope n x).flips = s.flips := rfl
@[simp] theorem State.setStope_latches (n : Nat) (x : Stope) : (s.setStope n x).latches = s.latches := rfl
@[simp] theorem State.setStope_txn (n : Nat) (x : Stope) : (s.setStope n x).txn = s.txn := rfl
@[simp] theorem State.setStope_dir (n : Nat) (x : Stope) : (s.setStope n x).dir = s.dir := rfl
@[simp] theorem State.setStope_fns (n : Nat) (x : Stope) : (s.setStope n x).fns = s.fns := rfl
@[simp] theorem State.setStope_sqs (n : Nat) (x : Stope) : (s.setStope n x).sqs = s.sqs := rfl
@[simp] theorem State.setStope_cqs (n : Nat) (x : Stope) : (s.setStope n x).cqs = s.cqs := rfl
@[simp] theorem State.setStope_tally (n : Nat) (x : Stope) : (s.setStope n x).tally = s.tally := rfl
@[simp] theorem State.setStope_host (n : Nat) (x : Stope) : (s.setStope n x).host = s.host := rfl
@[simp] theorem State.setStope_hdf (n : Nat) (x : Stope) : (s.setStope n x).hdf = s.hdf := rfl
@[simp] theorem State.setStope_cny (n : Nat) (x : Stope) : (s.setStope n x).cny = s.cny := rfl
@[simp] theorem State.setStope_lode (n : Nat) (x : Stope) : (s.setStope n x).lode = s.lode := rfl
@[simp] theorem State.setStope_ent (n : Nat) (x : Stope) : (s.setStope n x).ent = s.ent := rfl
@[simp] theorem State.setStope_ctxs (n : Nat) (x : Stope) : (s.setStope n x).ctxs = s.ctxs := rfl
@[simp] theorem State.setStope_dgs (n : Nat) (x : Stope) : (s.setStope n x).dgs = s.dgs := rfl
@[simp] theorem State.setStope_slc (n : Nat) (x : Stope) : (s.setStope n x).slc = s.slc := rfl
@[simp] theorem State.setStope_shafts (n : Nat) (x : Stope) : (s.setStope n x).shafts = s.shafts := rfl
@[simp] theorem State.setStope_engs (n : Nat) (x : Stope) : (s.setStope n x).engs = s.engs := rfl
@[simp] theorem State.setStope_runs (n : Nat) (x : Stope) : (s.setStope n x).runs = s.runs := rfl
@[simp] theorem State.setStope_kstQueue (n : Nat) (x : Stope) : (s.setStope n x).kstQueue = s.kstQueue := rfl
@[simp] theorem State.setStope_samplers (n : Nat) (x : Stope) : (s.setStope n x).samplers = s.samplers := rfl
@[simp] theorem State.setStope_lcc (n : Nat) (x : Stope) : (s.setStope n x).lcc = s.lcc := rfl
@[simp] theorem State.setStope_zdp (n : Nat) (x : Stope) : (s.setStope n x).zdp = s.zdp := rfl
@[simp] theorem State.setStope_rst (n : Nat) (x : Stope) : (s.setStope n x).rst = s.rst := rfl
@[simp] theorem State.setStope_spdms (n : Nat) (x : Stope) : (s.setStope n x).spdms = s.spdms := rfl
@[simp] theorem State.setStope_avs (n : Nat) (x : Stope) : (s.setStope n x).avs = s.avs := rfl
@[simp] theorem State.setStope_bwNext (n : Nat) (x : Stope) : (s.setStope n x).bwNext = s.bwNext := rfl
@[simp] theorem State.setStope_edge (n : Nat) (x : Stope) : (s.setStope n x).edge = s.edge := rfl
@[simp] theorem State.setStope_flaws (n : Nat) (x : Stope) : (s.setStope n x).flaws = s.flaws := rfl

/-! ### `setEng` -/

@[simp] theorem State.setEng_pending (n i : Nat) (x : Eng) : (s.setEng n i x).pending = s.pending := rfl
@[simp] theorem State.setEng_stamp (n i : Nat) (x : Eng) : (s.setEng n i x).stamp = s.stamp := rfl
@[simp] theorem State.setEng_freeNext (n i : Nat) (x : Eng) : (s.setEng n i x).freeNext = s.freeNext := rfl
@[simp] theorem State.setEng_regs (n i : Nat) (x : Eng) : (s.setEng n i x).regs = s.regs := rfl
@[simp] theorem State.setEng_prims (n i : Nat) (x : Eng) : (s.setEng n i x).prims = s.prims := rfl
@[simp] theorem State.setEng_flips (n i : Nat) (x : Eng) : (s.setEng n i x).flips = s.flips := rfl
@[simp] theorem State.setEng_latches (n i : Nat) (x : Eng) : (s.setEng n i x).latches = s.latches := rfl
@[simp] theorem State.setEng_txn (n i : Nat) (x : Eng) : (s.setEng n i x).txn = s.txn := rfl
@[simp] theorem State.setEng_dir (n i : Nat) (x : Eng) : (s.setEng n i x).dir = s.dir := rfl
@[simp] theorem State.setEng_fns (n i : Nat) (x : Eng) : (s.setEng n i x).fns = s.fns := rfl
@[simp] theorem State.setEng_sqs (n i : Nat) (x : Eng) : (s.setEng n i x).sqs = s.sqs := rfl
@[simp] theorem State.setEng_cqs (n i : Nat) (x : Eng) : (s.setEng n i x).cqs = s.cqs := rfl
@[simp] theorem State.setEng_tally (n i : Nat) (x : Eng) : (s.setEng n i x).tally = s.tally := rfl
@[simp] theorem State.setEng_host (n i : Nat) (x : Eng) : (s.setEng n i x).host = s.host := rfl
@[simp] theorem State.setEng_hdf (n i : Nat) (x : Eng) : (s.setEng n i x).hdf = s.hdf := rfl
@[simp] theorem State.setEng_cny (n i : Nat) (x : Eng) : (s.setEng n i x).cny = s.cny := rfl
@[simp] theorem State.setEng_lode (n i : Nat) (x : Eng) : (s.setEng n i x).lode = s.lode := rfl
@[simp] theorem State.setEng_ent (n i : Nat) (x : Eng) : (s.setEng n i x).ent = s.ent := rfl
@[simp] theorem State.setEng_ctxs (n i : Nat) (x : Eng) : (s.setEng n i x).ctxs = s.ctxs := rfl
@[simp] theorem State.setEng_dgs (n i : Nat) (x : Eng) : (s.setEng n i x).dgs = s.dgs := rfl
@[simp] theorem State.setEng_slc (n i : Nat) (x : Eng) : (s.setEng n i x).slc = s.slc := rfl
@[simp] theorem State.setEng_shafts (n i : Nat) (x : Eng) : (s.setEng n i x).shafts = s.shafts := rfl
@[simp] theorem State.setEng_stopes (n i : Nat) (x : Eng) : (s.setEng n i x).stopes = s.stopes := rfl
@[simp] theorem State.setEng_runs (n i : Nat) (x : Eng) : (s.setEng n i x).runs = s.runs := rfl
@[simp] theorem State.setEng_kstQueue (n i : Nat) (x : Eng) : (s.setEng n i x).kstQueue = s.kstQueue := rfl
@[simp] theorem State.setEng_samplers (n i : Nat) (x : Eng) : (s.setEng n i x).samplers = s.samplers := rfl
@[simp] theorem State.setEng_lcc (n i : Nat) (x : Eng) : (s.setEng n i x).lcc = s.lcc := rfl
@[simp] theorem State.setEng_zdp (n i : Nat) (x : Eng) : (s.setEng n i x).zdp = s.zdp := rfl
@[simp] theorem State.setEng_rst (n i : Nat) (x : Eng) : (s.setEng n i x).rst = s.rst := rfl
@[simp] theorem State.setEng_spdms (n i : Nat) (x : Eng) : (s.setEng n i x).spdms = s.spdms := rfl
@[simp] theorem State.setEng_avs (n i : Nat) (x : Eng) : (s.setEng n i x).avs = s.avs := rfl
@[simp] theorem State.setEng_bwNext (n i : Nat) (x : Eng) : (s.setEng n i x).bwNext = s.bwNext := rfl
@[simp] theorem State.setEng_edge (n i : Nat) (x : Eng) : (s.setEng n i x).edge = s.edge := rfl
@[simp] theorem State.setEng_flaws (n i : Nat) (x : Eng) : (s.setEng n i x).flaws = s.flaws := rfl

/-! ### `setRun` -/

@[simp] theorem State.setRun_pending (e : Nat) (r : Run) : (s.setRun e r).pending = s.pending := rfl
@[simp] theorem State.setRun_stamp (e : Nat) (r : Run) : (s.setRun e r).stamp = s.stamp := rfl
@[simp] theorem State.setRun_freeNext (e : Nat) (r : Run) : (s.setRun e r).freeNext = s.freeNext := rfl
@[simp] theorem State.setRun_regs (e : Nat) (r : Run) : (s.setRun e r).regs = s.regs := rfl
@[simp] theorem State.setRun_prims (e : Nat) (r : Run) : (s.setRun e r).prims = s.prims := rfl
@[simp] theorem State.setRun_flips (e : Nat) (r : Run) : (s.setRun e r).flips = s.flips := rfl
@[simp] theorem State.setRun_latches (e : Nat) (r : Run) : (s.setRun e r).latches = s.latches := rfl
@[simp] theorem State.setRun_txn (e : Nat) (r : Run) : (s.setRun e r).txn = s.txn := rfl
@[simp] theorem State.setRun_dir (e : Nat) (r : Run) : (s.setRun e r).dir = s.dir := rfl
@[simp] theorem State.setRun_fns (e : Nat) (r : Run) : (s.setRun e r).fns = s.fns := rfl
@[simp] theorem State.setRun_sqs (e : Nat) (r : Run) : (s.setRun e r).sqs = s.sqs := rfl
@[simp] theorem State.setRun_cqs (e : Nat) (r : Run) : (s.setRun e r).cqs = s.cqs := rfl
@[simp] theorem State.setRun_tally (e : Nat) (r : Run) : (s.setRun e r).tally = s.tally := rfl
@[simp] theorem State.setRun_host (e : Nat) (r : Run) : (s.setRun e r).host = s.host := rfl
@[simp] theorem State.setRun_hdf (e : Nat) (r : Run) : (s.setRun e r).hdf = s.hdf := rfl
@[simp] theorem State.setRun_cny (e : Nat) (r : Run) : (s.setRun e r).cny = s.cny := rfl
@[simp] theorem State.setRun_lode (e : Nat) (r : Run) : (s.setRun e r).lode = s.lode := rfl
@[simp] theorem State.setRun_ent (e : Nat) (r : Run) : (s.setRun e r).ent = s.ent := rfl
@[simp] theorem State.setRun_ctxs (e : Nat) (r : Run) : (s.setRun e r).ctxs = s.ctxs := rfl
@[simp] theorem State.setRun_dgs (e : Nat) (r : Run) : (s.setRun e r).dgs = s.dgs := rfl
@[simp] theorem State.setRun_slc (e : Nat) (r : Run) : (s.setRun e r).slc = s.slc := rfl
@[simp] theorem State.setRun_shafts (e : Nat) (r : Run) : (s.setRun e r).shafts = s.shafts := rfl
@[simp] theorem State.setRun_stopes (e : Nat) (r : Run) : (s.setRun e r).stopes = s.stopes := rfl
@[simp] theorem State.setRun_engs (e : Nat) (r : Run) : (s.setRun e r).engs = s.engs := rfl
@[simp] theorem State.setRun_kstQueue (e : Nat) (r : Run) : (s.setRun e r).kstQueue = s.kstQueue := rfl
@[simp] theorem State.setRun_samplers (e : Nat) (r : Run) : (s.setRun e r).samplers = s.samplers := rfl
@[simp] theorem State.setRun_lcc (e : Nat) (r : Run) : (s.setRun e r).lcc = s.lcc := rfl
@[simp] theorem State.setRun_zdp (e : Nat) (r : Run) : (s.setRun e r).zdp = s.zdp := rfl
@[simp] theorem State.setRun_rst (e : Nat) (r : Run) : (s.setRun e r).rst = s.rst := rfl
@[simp] theorem State.setRun_spdms (e : Nat) (r : Run) : (s.setRun e r).spdms = s.spdms := rfl
@[simp] theorem State.setRun_avs (e : Nat) (r : Run) : (s.setRun e r).avs = s.avs := rfl
@[simp] theorem State.setRun_bwNext (e : Nat) (r : Run) : (s.setRun e r).bwNext = s.bwNext := rfl
@[simp] theorem State.setRun_edge (e : Nat) (r : Run) : (s.setRun e r).edge = s.edge := rfl
@[simp] theorem State.setRun_flaws (e : Nat) (r : Run) : (s.setRun e r).flaws = s.flaws := rfl

/-! ### `setKstFront` -/

@[simp] theorem State.setKstFront_pending (r : KstReq) : (s.setKstFront r).pending = s.pending := rfl
@[simp] theorem State.setKstFront_stamp (r : KstReq) : (s.setKstFront r).stamp = s.stamp := rfl
@[simp] theorem State.setKstFront_freeNext (r : KstReq) : (s.setKstFront r).freeNext = s.freeNext := rfl
@[simp] theorem State.setKstFront_regs (r : KstReq) : (s.setKstFront r).regs = s.regs := rfl
@[simp] theorem State.setKstFront_prims (r : KstReq) : (s.setKstFront r).prims = s.prims := rfl
@[simp] theorem State.setKstFront_flips (r : KstReq) : (s.setKstFront r).flips = s.flips := rfl
@[simp] theorem State.setKstFront_latches (r : KstReq) : (s.setKstFront r).latches = s.latches := rfl
@[simp] theorem State.setKstFront_txn (r : KstReq) : (s.setKstFront r).txn = s.txn := rfl
@[simp] theorem State.setKstFront_dir (r : KstReq) : (s.setKstFront r).dir = s.dir := rfl
@[simp] theorem State.setKstFront_fns (r : KstReq) : (s.setKstFront r).fns = s.fns := rfl
@[simp] theorem State.setKstFront_sqs (r : KstReq) : (s.setKstFront r).sqs = s.sqs := rfl
@[simp] theorem State.setKstFront_cqs (r : KstReq) : (s.setKstFront r).cqs = s.cqs := rfl
@[simp] theorem State.setKstFront_tally (r : KstReq) : (s.setKstFront r).tally = s.tally := rfl
@[simp] theorem State.setKstFront_host (r : KstReq) : (s.setKstFront r).host = s.host := rfl
@[simp] theorem State.setKstFront_hdf (r : KstReq) : (s.setKstFront r).hdf = s.hdf := rfl
@[simp] theorem State.setKstFront_cny (r : KstReq) : (s.setKstFront r).cny = s.cny := rfl
@[simp] theorem State.setKstFront_lode (r : KstReq) : (s.setKstFront r).lode = s.lode := rfl
@[simp] theorem State.setKstFront_ent (r : KstReq) : (s.setKstFront r).ent = s.ent := rfl
@[simp] theorem State.setKstFront_ctxs (r : KstReq) : (s.setKstFront r).ctxs = s.ctxs := rfl
@[simp] theorem State.setKstFront_dgs (r : KstReq) : (s.setKstFront r).dgs = s.dgs := rfl
@[simp] theorem State.setKstFront_slc (r : KstReq) : (s.setKstFront r).slc = s.slc := rfl
@[simp] theorem State.setKstFront_shafts (r : KstReq) : (s.setKstFront r).shafts = s.shafts := rfl
@[simp] theorem State.setKstFront_stopes (r : KstReq) : (s.setKstFront r).stopes = s.stopes := rfl
@[simp] theorem State.setKstFront_engs (r : KstReq) : (s.setKstFront r).engs = s.engs := rfl
@[simp] theorem State.setKstFront_runs (r : KstReq) : (s.setKstFront r).runs = s.runs := rfl
@[simp] theorem State.setKstFront_samplers (r : KstReq) : (s.setKstFront r).samplers = s.samplers := rfl
@[simp] theorem State.setKstFront_lcc (r : KstReq) : (s.setKstFront r).lcc = s.lcc := rfl
@[simp] theorem State.setKstFront_zdp (r : KstReq) : (s.setKstFront r).zdp = s.zdp := rfl
@[simp] theorem State.setKstFront_rst (r : KstReq) : (s.setKstFront r).rst = s.rst := rfl
@[simp] theorem State.setKstFront_spdms (r : KstReq) : (s.setKstFront r).spdms = s.spdms := rfl
@[simp] theorem State.setKstFront_avs (r : KstReq) : (s.setKstFront r).avs = s.avs := rfl
@[simp] theorem State.setKstFront_bwNext (r : KstReq) : (s.setKstFront r).bwNext = s.bwNext := rfl
@[simp] theorem State.setKstFront_edge (r : KstReq) : (s.setKstFront r).edge = s.edge := rfl
@[simp] theorem State.setKstFront_flaws (r : KstReq) : (s.setKstFront r).flaws = s.flaws := rfl

/-! ### `setSampler` -/

@[simp] theorem State.setSampler_pending (n : Nat) (x : Sampler) : (s.setSampler n x).pending = s.pending := rfl
@[simp] theorem State.setSampler_stamp (n : Nat) (x : Sampler) : (s.setSampler n x).stamp = s.stamp := rfl
@[simp] theorem State.setSampler_freeNext (n : Nat) (x : Sampler) : (s.setSampler n x).freeNext = s.freeNext := rfl
@[simp] theorem State.setSampler_regs (n : Nat) (x : Sampler) : (s.setSampler n x).regs = s.regs := rfl
@[simp] theorem State.setSampler_prims (n : Nat) (x : Sampler) : (s.setSampler n x).prims = s.prims := rfl
@[simp] theorem State.setSampler_flips (n : Nat) (x : Sampler) : (s.setSampler n x).flips = s.flips := rfl
@[simp] theorem State.setSampler_latches (n : Nat) (x : Sampler) : (s.setSampler n x).latches = s.latches := rfl
@[simp] theorem State.setSampler_txn (n : Nat) (x : Sampler) : (s.setSampler n x).txn = s.txn := rfl
@[simp] theorem State.setSampler_dir (n : Nat) (x : Sampler) : (s.setSampler n x).dir = s.dir := rfl
@[simp] theorem State.setSampler_fns (n : Nat) (x : Sampler) : (s.setSampler n x).fns = s.fns := rfl
@[simp] theorem State.setSampler_sqs (n : Nat) (x : Sampler) : (s.setSampler n x).sqs = s.sqs := rfl
@[simp] theorem State.setSampler_cqs (n : Nat) (x : Sampler) : (s.setSampler n x).cqs = s.cqs := rfl
@[simp] theorem State.setSampler_tally (n : Nat) (x : Sampler) : (s.setSampler n x).tally = s.tally := rfl
@[simp] theorem State.setSampler_host (n : Nat) (x : Sampler) : (s.setSampler n x).host = s.host := rfl
@[simp] theorem State.setSampler_hdf (n : Nat) (x : Sampler) : (s.setSampler n x).hdf = s.hdf := rfl
@[simp] theorem State.setSampler_cny (n : Nat) (x : Sampler) : (s.setSampler n x).cny = s.cny := rfl
@[simp] theorem State.setSampler_lode (n : Nat) (x : Sampler) : (s.setSampler n x).lode = s.lode := rfl
@[simp] theorem State.setSampler_ent (n : Nat) (x : Sampler) : (s.setSampler n x).ent = s.ent := rfl
@[simp] theorem State.setSampler_ctxs (n : Nat) (x : Sampler) : (s.setSampler n x).ctxs = s.ctxs := rfl
@[simp] theorem State.setSampler_dgs (n : Nat) (x : Sampler) : (s.setSampler n x).dgs = s.dgs := rfl
@[simp] theorem State.setSampler_slc (n : Nat) (x : Sampler) : (s.setSampler n x).slc = s.slc := rfl
@[simp] theorem State.setSampler_shafts (n : Nat) (x : Sampler) : (s.setSampler n x).shafts = s.shafts := rfl
@[simp] theorem State.setSampler_stopes (n : Nat) (x : Sampler) : (s.setSampler n x).stopes = s.stopes := rfl
@[simp] theorem State.setSampler_engs (n : Nat) (x : Sampler) : (s.setSampler n x).engs = s.engs := rfl
@[simp] theorem State.setSampler_runs (n : Nat) (x : Sampler) : (s.setSampler n x).runs = s.runs := rfl
@[simp] theorem State.setSampler_kstQueue (n : Nat) (x : Sampler) : (s.setSampler n x).kstQueue = s.kstQueue := rfl
@[simp] theorem State.setSampler_lcc (n : Nat) (x : Sampler) : (s.setSampler n x).lcc = s.lcc := rfl
@[simp] theorem State.setSampler_zdp (n : Nat) (x : Sampler) : (s.setSampler n x).zdp = s.zdp := rfl
@[simp] theorem State.setSampler_rst (n : Nat) (x : Sampler) : (s.setSampler n x).rst = s.rst := rfl
@[simp] theorem State.setSampler_spdms (n : Nat) (x : Sampler) : (s.setSampler n x).spdms = s.spdms := rfl
@[simp] theorem State.setSampler_avs (n : Nat) (x : Sampler) : (s.setSampler n x).avs = s.avs := rfl
@[simp] theorem State.setSampler_bwNext (n : Nat) (x : Sampler) : (s.setSampler n x).bwNext = s.bwNext := rfl
@[simp] theorem State.setSampler_edge (n : Nat) (x : Sampler) : (s.setSampler n x).edge = s.edge := rfl
@[simp] theorem State.setSampler_flaws (n : Nat) (x : Sampler) : (s.setSampler n x).flaws = s.flaws := rfl

/-! ### `setLink` -/

@[simp] theorem State.setLink_pending (l : Nat) (x : Link) : (s.setLink l x).pending = s.pending := rfl
@[simp] theorem State.setLink_stamp (l : Nat) (x : Link) : (s.setLink l x).stamp = s.stamp := rfl
@[simp] theorem State.setLink_freeNext (l : Nat) (x : Link) : (s.setLink l x).freeNext = s.freeNext := rfl
@[simp] theorem State.setLink_regs (l : Nat) (x : Link) : (s.setLink l x).regs = s.regs := rfl
@[simp] theorem State.setLink_prims (l : Nat) (x : Link) : (s.setLink l x).prims = s.prims := rfl
@[simp] theorem State.setLink_flips (l : Nat) (x : Link) : (s.setLink l x).flips = s.flips := rfl
@[simp] theorem State.setLink_latches (l : Nat) (x : Link) : (s.setLink l x).latches = s.latches := rfl
@[simp] theorem State.setLink_txn (l : Nat) (x : Link) : (s.setLink l x).txn = s.txn := rfl
@[simp] theorem State.setLink_dir (l : Nat) (x : Link) : (s.setLink l x).dir = s.dir := rfl
@[simp] theorem State.setLink_fns (l : Nat) (x : Link) : (s.setLink l x).fns = s.fns := rfl
@[simp] theorem State.setLink_sqs (l : Nat) (x : Link) : (s.setLink l x).sqs = s.sqs := rfl
@[simp] theorem State.setLink_cqs (l : Nat) (x : Link) : (s.setLink l x).cqs = s.cqs := rfl
@[simp] theorem State.setLink_tally (l : Nat) (x : Link) : (s.setLink l x).tally = s.tally := rfl
@[simp] theorem State.setLink_host (l : Nat) (x : Link) : (s.setLink l x).host = s.host := rfl
@[simp] theorem State.setLink_hdf (l : Nat) (x : Link) : (s.setLink l x).hdf = s.hdf := rfl
@[simp] theorem State.setLink_cny (l : Nat) (x : Link) : (s.setLink l x).cny = s.cny := rfl
@[simp] theorem State.setLink_lode (l : Nat) (x : Link) : (s.setLink l x).lode = s.lode := rfl
@[simp] theorem State.setLink_ent (l : Nat) (x : Link) : (s.setLink l x).ent = s.ent := rfl
@[simp] theorem State.setLink_ctxs (l : Nat) (x : Link) : (s.setLink l x).ctxs = s.ctxs := rfl
@[simp] theorem State.setLink_dgs (l : Nat) (x : Link) : (s.setLink l x).dgs = s.dgs := rfl
@[simp] theorem State.setLink_slc (l : Nat) (x : Link) : (s.setLink l x).slc = s.slc := rfl
@[simp] theorem State.setLink_shafts (l : Nat) (x : Link) : (s.setLink l x).shafts = s.shafts := rfl
@[simp] theorem State.setLink_stopes (l : Nat) (x : Link) : (s.setLink l x).stopes = s.stopes := rfl
@[simp] theorem State.setLink_engs (l : Nat) (x : Link) : (s.setLink l x).engs = s.engs := rfl
@[simp] theorem State.setLink_runs (l : Nat) (x : Link) : (s.setLink l x).runs = s.runs := rfl
@[simp] theorem State.setLink_kstQueue (l : Nat) (x : Link) : (s.setLink l x).kstQueue = s.kstQueue := rfl
@[simp] theorem State.setLink_samplers (l : Nat) (x : Link) : (s.setLink l x).samplers = s.samplers := rfl
@[simp] theorem State.setLink_lcc (l : Nat) (x : Link) : (s.setLink l x).lcc = s.lcc := rfl
@[simp] theorem State.setLink_rst (l : Nat) (x : Link) : (s.setLink l x).rst = s.rst := rfl
@[simp] theorem State.setLink_spdms (l : Nat) (x : Link) : (s.setLink l x).spdms = s.spdms := rfl
@[simp] theorem State.setLink_avs (l : Nat) (x : Link) : (s.setLink l x).avs = s.avs := rfl
@[simp] theorem State.setLink_bwNext (l : Nat) (x : Link) : (s.setLink l x).bwNext = s.bwNext := rfl
@[simp] theorem State.setLink_edge (l : Nat) (x : Link) : (s.setLink l x).edge = s.edge := rfl
@[simp] theorem State.setLink_flaws (l : Nat) (x : Link) : (s.setLink l x).flaws = s.flaws := rfl

/-! ### `setMember` -/

@[simp] theorem State.setMember_pending (d : Nat) (x : Member) : (s.setMember d x).pending = s.pending := rfl
@[simp] theorem State.setMember_stamp (d : Nat) (x : Member) : (s.setMember d x).stamp = s.stamp := rfl
@[simp] theorem State.setMember_freeNext (d : Nat) (x : Member) : (s.setMember d x).freeNext = s.freeNext := rfl
@[simp] theorem State.setMember_regs (d : Nat) (x : Member) : (s.setMember d x).regs = s.regs := rfl
@[simp] theorem State.setMember_prims (d : Nat) (x : Member) : (s.setMember d x).prims = s.prims := rfl
@[simp] theorem State.setMember_flips (d : Nat) (x : Member) : (s.setMember d x).flips = s.flips := rfl
@[simp] theorem State.setMember_latches (d : Nat) (x : Member) : (s.setMember d x).latches = s.latches := rfl
@[simp] theorem State.setMember_txn (d : Nat) (x : Member) : (s.setMember d x).txn = s.txn := rfl
@[simp] theorem State.setMember_dir (d : Nat) (x : Member) : (s.setMember d x).dir = s.dir := rfl
@[simp] theorem State.setMember_fns (d : Nat) (x : Member) : (s.setMember d x).fns = s.fns := rfl
@[simp] theorem State.setMember_sqs (d : Nat) (x : Member) : (s.setMember d x).sqs = s.sqs := rfl
@[simp] theorem State.setMember_cqs (d : Nat) (x : Member) : (s.setMember d x).cqs = s.cqs := rfl
@[simp] theorem State.setMember_tally (d : Nat) (x : Member) : (s.setMember d x).tally = s.tally := rfl
@[simp] theorem State.setMember_host (d : Nat) (x : Member) : (s.setMember d x).host = s.host := rfl
@[simp] theorem State.setMember_hdf (d : Nat) (x : Member) : (s.setMember d x).hdf = s.hdf := rfl
@[simp] theorem State.setMember_cny (d : Nat) (x : Member) : (s.setMember d x).cny = s.cny := rfl
@[simp] theorem State.setMember_lode (d : Nat) (x : Member) : (s.setMember d x).lode = s.lode := rfl
@[simp] theorem State.setMember_ent (d : Nat) (x : Member) : (s.setMember d x).ent = s.ent := rfl
@[simp] theorem State.setMember_ctxs (d : Nat) (x : Member) : (s.setMember d x).ctxs = s.ctxs := rfl
@[simp] theorem State.setMember_dgs (d : Nat) (x : Member) : (s.setMember d x).dgs = s.dgs := rfl
@[simp] theorem State.setMember_slc (d : Nat) (x : Member) : (s.setMember d x).slc = s.slc := rfl
@[simp] theorem State.setMember_shafts (d : Nat) (x : Member) : (s.setMember d x).shafts = s.shafts := rfl
@[simp] theorem State.setMember_stopes (d : Nat) (x : Member) : (s.setMember d x).stopes = s.stopes := rfl
@[simp] theorem State.setMember_engs (d : Nat) (x : Member) : (s.setMember d x).engs = s.engs := rfl
@[simp] theorem State.setMember_runs (d : Nat) (x : Member) : (s.setMember d x).runs = s.runs := rfl
@[simp] theorem State.setMember_kstQueue (d : Nat) (x : Member) : (s.setMember d x).kstQueue = s.kstQueue := rfl
@[simp] theorem State.setMember_samplers (d : Nat) (x : Member) : (s.setMember d x).samplers = s.samplers := rfl
@[simp] theorem State.setMember_lcc (d : Nat) (x : Member) : (s.setMember d x).lcc = s.lcc := rfl
@[simp] theorem State.setMember_rst (d : Nat) (x : Member) : (s.setMember d x).rst = s.rst := rfl
@[simp] theorem State.setMember_spdms (d : Nat) (x : Member) : (s.setMember d x).spdms = s.spdms := rfl
@[simp] theorem State.setMember_avs (d : Nat) (x : Member) : (s.setMember d x).avs = s.avs := rfl
@[simp] theorem State.setMember_bwNext (d : Nat) (x : Member) : (s.setMember d x).bwNext = s.bwNext := rfl
@[simp] theorem State.setMember_edge (d : Nat) (x : Member) : (s.setMember d x).edge = s.edge := rfl
@[simp] theorem State.setMember_flaws (d : Nat) (x : Member) : (s.setMember d x).flaws = s.flaws := rfl

/-! ### `setLoop` -/

@[simp] theorem State.setLoop_pending (n : Nat) (x : Loop) : (s.setLoop n x).pending = s.pending := rfl
@[simp] theorem State.setLoop_stamp (n : Nat) (x : Loop) : (s.setLoop n x).stamp = s.stamp := rfl
@[simp] theorem State.setLoop_freeNext (n : Nat) (x : Loop) : (s.setLoop n x).freeNext = s.freeNext := rfl
@[simp] theorem State.setLoop_regs (n : Nat) (x : Loop) : (s.setLoop n x).regs = s.regs := rfl
@[simp] theorem State.setLoop_prims (n : Nat) (x : Loop) : (s.setLoop n x).prims = s.prims := rfl
@[simp] theorem State.setLoop_flips (n : Nat) (x : Loop) : (s.setLoop n x).flips = s.flips := rfl
@[simp] theorem State.setLoop_latches (n : Nat) (x : Loop) : (s.setLoop n x).latches = s.latches := rfl
@[simp] theorem State.setLoop_txn (n : Nat) (x : Loop) : (s.setLoop n x).txn = s.txn := rfl
@[simp] theorem State.setLoop_dir (n : Nat) (x : Loop) : (s.setLoop n x).dir = s.dir := rfl
@[simp] theorem State.setLoop_fns (n : Nat) (x : Loop) : (s.setLoop n x).fns = s.fns := rfl
@[simp] theorem State.setLoop_sqs (n : Nat) (x : Loop) : (s.setLoop n x).sqs = s.sqs := rfl
@[simp] theorem State.setLoop_cqs (n : Nat) (x : Loop) : (s.setLoop n x).cqs = s.cqs := rfl
@[simp] theorem State.setLoop_tally (n : Nat) (x : Loop) : (s.setLoop n x).tally = s.tally := rfl
@[simp] theorem State.setLoop_host (n : Nat) (x : Loop) : (s.setLoop n x).host = s.host := rfl
@[simp] theorem State.setLoop_hdf (n : Nat) (x : Loop) : (s.setLoop n x).hdf = s.hdf := rfl
@[simp] theorem State.setLoop_lode (n : Nat) (x : Loop) : (s.setLoop n x).lode = s.lode := rfl
@[simp] theorem State.setLoop_ent (n : Nat) (x : Loop) : (s.setLoop n x).ent = s.ent := rfl
@[simp] theorem State.setLoop_ctxs (n : Nat) (x : Loop) : (s.setLoop n x).ctxs = s.ctxs := rfl
@[simp] theorem State.setLoop_dgs (n : Nat) (x : Loop) : (s.setLoop n x).dgs = s.dgs := rfl
@[simp] theorem State.setLoop_slc (n : Nat) (x : Loop) : (s.setLoop n x).slc = s.slc := rfl
@[simp] theorem State.setLoop_shafts (n : Nat) (x : Loop) : (s.setLoop n x).shafts = s.shafts := rfl
@[simp] theorem State.setLoop_stopes (n : Nat) (x : Loop) : (s.setLoop n x).stopes = s.stopes := rfl
@[simp] theorem State.setLoop_engs (n : Nat) (x : Loop) : (s.setLoop n x).engs = s.engs := rfl
@[simp] theorem State.setLoop_runs (n : Nat) (x : Loop) : (s.setLoop n x).runs = s.runs := rfl
@[simp] theorem State.setLoop_kstQueue (n : Nat) (x : Loop) : (s.setLoop n x).kstQueue = s.kstQueue := rfl
@[simp] theorem State.setLoop_samplers (n : Nat) (x : Loop) : (s.setLoop n x).samplers = s.samplers := rfl
@[simp] theorem State.setLoop_lcc (n : Nat) (x : Loop) : (s.setLoop n x).lcc = s.lcc := rfl
@[simp] theorem State.setLoop_zdp (n : Nat) (x : Loop) : (s.setLoop n x).zdp = s.zdp := rfl
@[simp] theorem State.setLoop_rst (n : Nat) (x : Loop) : (s.setLoop n x).rst = s.rst := rfl
@[simp] theorem State.setLoop_spdms (n : Nat) (x : Loop) : (s.setLoop n x).spdms = s.spdms := rfl
@[simp] theorem State.setLoop_avs (n : Nat) (x : Loop) : (s.setLoop n x).avs = s.avs := rfl
@[simp] theorem State.setLoop_bwNext (n : Nat) (x : Loop) : (s.setLoop n x).bwNext = s.bwNext := rfl
@[simp] theorem State.setLoop_edge (n : Nat) (x : Loop) : (s.setLoop n x).edge = s.edge := rfl
@[simp] theorem State.setLoop_flaws (n : Nat) (x : Loop) : (s.setLoop n x).flaws = s.flaws := rfl

/-! ### `setSpdm` -/

@[simp] theorem State.setSpdm_pending (c : Nat) (x : Spdm) : (s.setSpdm c x).pending = s.pending := rfl
@[simp] theorem State.setSpdm_stamp (c : Nat) (x : Spdm) : (s.setSpdm c x).stamp = s.stamp := rfl
@[simp] theorem State.setSpdm_freeNext (c : Nat) (x : Spdm) : (s.setSpdm c x).freeNext = s.freeNext := rfl
@[simp] theorem State.setSpdm_regs (c : Nat) (x : Spdm) : (s.setSpdm c x).regs = s.regs := rfl
@[simp] theorem State.setSpdm_prims (c : Nat) (x : Spdm) : (s.setSpdm c x).prims = s.prims := rfl
@[simp] theorem State.setSpdm_flips (c : Nat) (x : Spdm) : (s.setSpdm c x).flips = s.flips := rfl
@[simp] theorem State.setSpdm_latches (c : Nat) (x : Spdm) : (s.setSpdm c x).latches = s.latches := rfl
@[simp] theorem State.setSpdm_txn (c : Nat) (x : Spdm) : (s.setSpdm c x).txn = s.txn := rfl
@[simp] theorem State.setSpdm_dir (c : Nat) (x : Spdm) : (s.setSpdm c x).dir = s.dir := rfl
@[simp] theorem State.setSpdm_fns (c : Nat) (x : Spdm) : (s.setSpdm c x).fns = s.fns := rfl
@[simp] theorem State.setSpdm_sqs (c : Nat) (x : Spdm) : (s.setSpdm c x).sqs = s.sqs := rfl
@[simp] theorem State.setSpdm_cqs (c : Nat) (x : Spdm) : (s.setSpdm c x).cqs = s.cqs := rfl
@[simp] theorem State.setSpdm_tally (c : Nat) (x : Spdm) : (s.setSpdm c x).tally = s.tally := rfl
@[simp] theorem State.setSpdm_host (c : Nat) (x : Spdm) : (s.setSpdm c x).host = s.host := rfl
@[simp] theorem State.setSpdm_hdf (c : Nat) (x : Spdm) : (s.setSpdm c x).hdf = s.hdf := rfl
@[simp] theorem State.setSpdm_cny (c : Nat) (x : Spdm) : (s.setSpdm c x).cny = s.cny := rfl
@[simp] theorem State.setSpdm_lode (c : Nat) (x : Spdm) : (s.setSpdm c x).lode = s.lode := rfl
@[simp] theorem State.setSpdm_ent (c : Nat) (x : Spdm) : (s.setSpdm c x).ent = s.ent := rfl
@[simp] theorem State.setSpdm_ctxs (c : Nat) (x : Spdm) : (s.setSpdm c x).ctxs = s.ctxs := rfl
@[simp] theorem State.setSpdm_dgs (c : Nat) (x : Spdm) : (s.setSpdm c x).dgs = s.dgs := rfl
@[simp] theorem State.setSpdm_slc (c : Nat) (x : Spdm) : (s.setSpdm c x).slc = s.slc := rfl
@[simp] theorem State.setSpdm_shafts (c : Nat) (x : Spdm) : (s.setSpdm c x).shafts = s.shafts := rfl
@[simp] theorem State.setSpdm_stopes (c : Nat) (x : Spdm) : (s.setSpdm c x).stopes = s.stopes := rfl
@[simp] theorem State.setSpdm_engs (c : Nat) (x : Spdm) : (s.setSpdm c x).engs = s.engs := rfl
@[simp] theorem State.setSpdm_runs (c : Nat) (x : Spdm) : (s.setSpdm c x).runs = s.runs := rfl
@[simp] theorem State.setSpdm_kstQueue (c : Nat) (x : Spdm) : (s.setSpdm c x).kstQueue = s.kstQueue := rfl
@[simp] theorem State.setSpdm_samplers (c : Nat) (x : Spdm) : (s.setSpdm c x).samplers = s.samplers := rfl
@[simp] theorem State.setSpdm_lcc (c : Nat) (x : Spdm) : (s.setSpdm c x).lcc = s.lcc := rfl
@[simp] theorem State.setSpdm_zdp (c : Nat) (x : Spdm) : (s.setSpdm c x).zdp = s.zdp := rfl
@[simp] theorem State.setSpdm_rst (c : Nat) (x : Spdm) : (s.setSpdm c x).rst = s.rst := rfl
@[simp] theorem State.setSpdm_avs (c : Nat) (x : Spdm) : (s.setSpdm c x).avs = s.avs := rfl
@[simp] theorem State.setSpdm_bwNext (c : Nat) (x : Spdm) : (s.setSpdm c x).bwNext = s.bwNext := rfl
@[simp] theorem State.setSpdm_edge (c : Nat) (x : Spdm) : (s.setSpdm c x).edge = s.edge := rfl
@[simp] theorem State.setSpdm_flaws (c : Nat) (x : Spdm) : (s.setSpdm c x).flaws = s.flaws := rfl

/-! ### A read after a write -/

@[simp] theorem State.reg_setReg (p : Page) (off : Nat) (v : Word) : (s.setReg p off v).reg p off = v := Cells.get_set_same ..
@[simp] theorem State.fn_setFn (t : Nat) (f : Fn) : (s.setFn t f).fn t = f := Cells.get_set_same ..
@[simp] theorem State.sq_setSq (t q : Nat) (x : Sq) : (s.setSq t q x).sq t q = x := Cells.get_set_same ..
@[simp] theorem State.cq_setCq (t q : Nat) (x : Cq) : (s.setCq t q x).cq t q = x := Cells.get_set_same ..
@[simp] theorem State.txnOf_setTxn (sc : Scope) (x : Txn) : (s.setTxn sc x).txnOf sc = x := Cells.get_set_same ..
@[simp] theorem State.obj_setObj (i : Nat) (o : Obj) : (s.setObj i o).obj i = o := Cells.get_set_same ..
@[simp] theorem State.ctx_setCtx (t c : Nat) (x : Ctx) : (s.setCtx t c x).ctx t c = x := Cells.get_set_same ..
@[simp] theorem State.cell_setCell (c : Nat) (x : Cell) : (s.setCell c x).cell c = x := Cells.get_set_same ..
@[simp] theorem State.shaft_setShaft (n : Nat) (x : Shaft) : (s.setShaft n x).shaft n = x := Cells.get_set_same ..
@[simp] theorem State.stope_setStope (n : Nat) (x : Stope) : (s.setStope n x).stope n = x := Cells.get_set_same ..
@[simp] theorem State.eng_setEng (n i : Nat) (x : Eng) : (s.setEng n i x).eng n i = x := Cells.get_set_same ..
@[simp] theorem State.sampler_setSampler (n : Nat) (x : Sampler) : (s.setSampler n x).sampler n = x := Cells.get_set_same ..
@[simp] theorem State.link_setLink (l : Nat) (x : Link) : (s.setLink l x).link l = x := Cells.get_set_same ..
@[simp] theorem State.member_setMember (d : Nat) (x : Member) : (s.setMember d x).member d = x := Cells.get_set_same ..
@[simp] theorem State.loop_setLoop (n : Nat) (x : Loop) : (s.setLoop n x).loop n = x := Cells.get_set_same ..
@[simp] theorem State.spdm_setSpdm (c : Nat) (x : Spdm) : (s.setSpdm c x).spdm c = x := Cells.get_set_same ..

/-! ### A write elsewhere -/

theorem State.reg_setReg_other {p q : Page} {off w : Nat} (v : Word) (h : q.key w ≠ p.key off) :
    (s.setReg p off v).reg q w = s.reg q w := Cells.get_set_other _ _ _ h
theorem State.fn_setFn_other {t u : Nat} (f : Fn) (h : u ≠ t) : (s.setFn t f).fn u = s.fn u := Cells.get_set_other _ _ _ h
theorem State.obj_setObj_other {i j : Nat} (o : Obj) (h : j ≠ i) : (s.setObj i o).obj j = s.obj j := Cells.get_set_other _ _ _ h
theorem State.shaft_setShaft_other {n k : Nat} (x : Shaft) (h : k ≠ n) : (s.setShaft n x).shaft k = s.shaft k :=
  Cells.get_set_other _ _ _ h
theorem State.stope_setStope_other {n k : Nat} (x : Stope) (h : k ≠ n) : (s.setStope n x).stope k = s.stope k :=
  Cells.get_set_other _ _ _ h
theorem State.link_setLink_other {l k : Nat} (x : Link) (h : k ≠ l) : (s.setLink l x).link k = s.link k :=
  Cells.get_set_other _ _ _ h
theorem State.member_setMember_other {d k : Nat} (x : Member) (h : k ≠ d) : (s.setMember d x).member k = s.member k :=
  Cells.get_set_other _ _ _ h
theorem State.spdm_setSpdm_other {c k : Nat} (x : Spdm) (h : k ≠ c) : (s.setSpdm c x).spdm k = s.spdm k :=
  Cells.get_set_other _ _ _ h

/-! ### The records found by key in a table that need not list them -/

theorem lookup_put {α : Type} (m : List (Nat × α)) (k j : Nat) (v : α) :
    lookup (Cells.put m k v) j = if j = k then some v else lookup m j := by
  induction m with
  | nil =>
    by_cases h : j = k
    · simp [lookup, Cells.put, h]
    · simp [lookup, Cells.put, h, Ne.symm h]
  | cons p r ih =>
    obtain ⟨a, w⟩ := p
    have step (b : Nat) (x : α) (l : List (Nat × α)) : lookup ((b, x) :: l) j = if j = b then some x else lookup l j := by
      by_cases h : j = b
      · simp [lookup, h]
      · simp [lookup, List.find?_cons, h, Ne.symm h]
    simp only [Cells.put]
    split
    · rw [step]
    · split
      · subst a
        rw [step, step]
        split <;> rfl
      · rw [step, step, ih]
        split
        · rename_i h
          subst h
          rw [if_neg (Ne.symm ‹k ≠ j›)]
        · rfl

@[simp] theorem State.entry_setEntry (e : Nat) (x : Entry) : (s.setEntry e x).entry e = some x := by
  simp [State.entry, State.setEntry, lookup_put]
theorem State.entry_setEntry_other {e k : Nat} (x : Entry) (h : k ≠ e) : (s.setEntry e x).entry k = s.entry k := by
  simp [State.entry, State.setEntry, lookup_put, h]
@[simp] theorem State.run_setRun (e : Nat) (r : Run) : (s.setRun e r).run e = some r := by
  simp [State.run, State.setRun, lookup_put]
theorem State.run_setRun_other {e k : Nat} (r : Run) (h : k ≠ e) : (s.setRun e r).run k = s.run k := by
  simp [State.run, State.setRun, lookup_put, h]

/-! ### The canonical form -/

/-- A register write keeps the registers' canonical form. -/
theorem State.canonical_setReg {s : State} (p : Page) (off : Nat) (v : Word) (h : Cells.wf regDefault s.regs = true) :
    Cells.wf regDefault (s.setReg p off v).regs = true := Cells.wf_set _ _ h

/-- A write of host memory keeps its canonical form. -/
theorem State.canonical_hostWrite {s : State} (a : Nat) (bs : Bytes) (h : Cells.wf byte0 s.host = true) :
    Cells.wf byte0 (s.hostWrite a bs).host = true := Cells.wf_writeBytes _ _ _ h

/-- A byte of host memory after a write. -/
theorem State.host_hostWrite (a k : Nat) (bs : Bytes) : Cells.get byte0 (s.hostWrite a bs).host k =
    if a ≤ k ∧ k < a + bs.length then bs.getD (k - a) 0 else Cells.get byte0 s.host k := Cells.get_writeBytes ..

/-- What was written is read. -/
@[simp] theorem State.hostRead_hostWrite (a : Nat) (bs : Bytes) : (s.hostWrite a bs).hostRead a bs.length = bs :=
  Cells.readBytes_writeBytes ..

end Sys2Proof.Machine
end

