-- ==== Sys2Proof/Machine/Balls.lean ====
section
/-! DEFINITION. What each ball does in each phase (R440, R501, R534, R535, R549): functions of the state, which has no
pin of its own to remember. -/
namespace Sys2Proof.Machine

/-- What a ball does. `owned` is driven by its owning block as its interface has it, `rest` is no pull at all. -/
inductive Ball where
  | weakUp | weakDown | rest | input | low | high | released | idle | highZ | owned | toggling
deriving DecidableEq, Repr

/-- The groups of balls of R535. -/
inductive BallGroup where
  | lanes (zedaup : Bool) | clocks | perst | wake | clkreq | management
  | qspiClk | qspiCs | qspiData | protect (flashB : Bool) | gpio | tckTrst | tmsTdi | tdo
  | avsClk | avsMdata | avsSdata | resetN | pwrgood | alive | alarm (n : Nat) | thermtrip | straps | testEn | backup | analog
deriving DecidableEq, Repr

/-- The domain that a group follows; none where no reset changes it. -/
def BallGroup.follows : BallGroup → Option Nat
  | .lanes z => some (if z then 8 else 7)
  | .wake | .clkreq => some 7
  | .management | .qspiClk | .qspiCs | .qspiData | .protect _ | .tckTrst | .tmsTdi | .tdo | .avsClk | .avsMdata | .avsSdata
  | .alive | .alarm _ => some 2
  | _ => none

/-- The default weak pull, which lasts from power-on until the fuse row is latched. -/
def BallGroup.pull : BallGroup → Ball
  | .qspiClk | .protect _ | .gpio | .tckTrst | .avsClk | .alive | .straps => .weakDown
  | .qspiCs | .qspiData | .tmsTdi | .avsMdata | .avsSdata | .resetN | .alarm _ | .testEn => .weakUp
  | _ => .rest

/-- The fuse-map reset state. -/
def BallGroup.inReset : BallGroup → Ball
  | .lanes _ => .idle
  | .clkreq | .qspiClk | .protect _ | .avsClk | .alive => .low
  | .qspiCs | .avsMdata => .high
  | .wake | .management | .alarm _ | .thermtrip => .released
  | .tdo => .highZ
  | .backup => .owned
  | .analog => .rest
  | _ => .input

/-- The fuse-map safe state. -/
def BallGroup.safe : BallGroup → Ball
  | .clkreq => .released
  | .management => .owned
  | .alive => .toggling
  | .alarm _ => .low
  | g => g.inReset

/-- Is the device in the state that an A5 alarm leaves until POR (R440, R490)? -/
def State.safed (s : State) : Bool := s.rst.asserted.any fun x => x.1 == 7

/-- The alarm outputs: low while a pending source's class reaches THR0, an event in force reaches THR1 (R501). -/
def State.alarmLow (s : State) (n : Nat) : Bool :=
  let cfg := s.regAtE .cny 0x144
  if n = 0 then (List.range 32).any fun k => bit (s.reg .cny 0x104) k && decide (field cfg 2 0 ≤ countAt s.cny.pendCls k)
  else s.cny.inForce.any fun q => decide (field cfg 6 4 ≤ q.2)

/-- Does Headframe program or erase a flash (R534)? -/
def State.flashBusy (s : State) (b : Bool) : Bool :=
  s.lode.leaseActive.isSome || !s.lode.writes.isEmpty ||
    (if b then s.lode.sectorsB else s.lode.sectorsA).any fun q => q.2.erasing

/-- What the owning block of a released domain drives. -/
def State.driven (s : State) : BallGroup → Ball
  | .alarm n => if s.alarmLow n then .low else .released
  | .protect b => if s.flashBusy b then .high else .low
  | .alive => .toggling
  | .qspiData | .tckTrst | .tmsTdi | .avsSdata => .input
  | .tdo => .highZ
  | _ => .owned

/-- What a group of balls does now. On backup power the balls of D2 and above are undriven, at their weak pulls (R501);
THERMTRIP_N is low once the trip sensor has tripped (R549). -/
def State.ball (s : State) (g : BallGroup) : Ball :=
  if g = .thermtrip then (if s.avs.tripped then .low else .released)
  else if s.cny.onBackup && g != .backup then g.pull
  else if s.safed then g.safe
  else match g.follows with
    | some d => if s.released d then s.driven g else g.inReset
    | none => g.inReset

end Sys2Proof.Machine
end

