-- ==== Sys2Proof/Machine/Package.lean ====
section
/-! DEFINITION. The ball map (R530 to R533): rows and columns are counted from 1 at the A1 corner, and what stands at each
place of the 46 × 46 array. -/
namespace Sys2Proof.Machine

/-- The letters of a row's name (R530). -/
def rowLetters : List String :=
  ["A", "B", "C", "D", "E", "F", "G", "H", "J", "K", "L", "M", "N", "P", "T", "U", "V", "W", "Y"]

/-- The name of a row: the 19 letters, then AA to AY over them, then BA to BH (R530). -/
def rowName (row : Nat) : String :=
  let k := row - 1
  let l := nthD rowLetters (k % 19) ""
  if k < 19 then l else if k < 38 then "A" ++ l else "B" ++ l

/-- The low-speed field's rows E to AP, each with columns 44 to 46 (R532). -/
def lowSpeedRows : List (List String) :=
  [["SYS_CLK", "FV_PWRGOOD", "FV_RESET_N"], ["FV_ALIVE", "FV_ALARM0_N", "FV_ALARM1_N"],
   ["THERMTRIP_N", "THERM_DA", "THERM_DC"], ["PERST_N", "WAKE_N", "CLKREQ_N"], ["AVS_CLK", "AVS_MDATA", "AVS_SDATA"],
   ["VDD_CORE_SENSE_P", "VDD_CORE_SENSE_N", "PCIE_RCAL"], ["ZDP_RCAL", "RSVD0", "RSVD1"],
   ["I3C_SCL", "I3C_SDA", "SMB_ALERT_N"], ["SMB_SCL", "SMB_SDA", "RSVD2"], ["QSPI0_CLK", "QSPI0_CS_N", "QSPI0_D0"],
   ["QSPI0_D1", "QSPI0_D2", "QSPI0_D3"], ["QSPI1_CLK", "QSPI1_CS_N", "QSPI1_D0"], ["QSPI1_D1", "QSPI1_D2", "QSPI1_D3"],
   ["TCK", "TMS", "TDI"]] ++
  [["TDO", "TRST_N", "RSVD3"], ["BOOT_SEL0", "BOOT_SEL1", "ZDP_ROLE"], ["TEST_EN_N", "XTAL32_IN", "XTAL32_OUT"],
   ["TMP_OUT0", "TMP_IN0", "CASE0"], ["TMP_OUT1", "TMP_IN1", "CASE1"], ["TMP_OUT2", "TMP_IN2", "CASE2"],
   ["TMP_OUT3", "TMP_IN3", "CASE3"], ["TMP_OUT4", "TMP_IN4", "GPIO0"], ["TMP_OUT5", "TMP_IN5", "GPIO1"],
   ["TMP_OUT6", "TMP_IN6", "GPIO2"], ["TMP_OUT7", "TMP_IN7", "GPIO3"], ["GPIO4", "GPIO5", "GPIO6"],
   ["GPIO7", "GPIO8", "GPIO9"], ["GPIO10", "GPIO11", "GPIO12"], ["GPIO13", "GPIO14", "GPIO15"]]

/-- What a ball is connected to: a lane of a port, with its direction and polarity, a reference clock, a low-speed signal
of a row and column of that field, or a rail. -/
inductive BallUse where
  | lane (zedaup transmit : Bool) (n : Nat) (negative : Bool)
  | refclk (zedaup negative : Bool)
  | lowSpeed (row col : Nat)
  | vddCore | vddSram | serdes09 | serdes12 | vddIo | vddOtp | vbat | vss
deriving DecidableEq, Repr

/-- The fields of the two ports, rows counted from the edge of the body (R531, R533). -/
def portBall (zedaup : Bool) (row col : Nat) : BallUse :=
  match row with
  | 1 => .lane zedaup true ((col - 1) / 2) (col % 2 == 0)
  | 3 => .lane zedaup false ((col - 1) / 2) (col % 2 == 0)
  | 5 => .serdes09
  | 6 => if col ≤ 16 then .serdes12 else .vss
  | _ => .vss

/-- The clock corners, rows counted from the edge. -/
def cornerBall (zedaup : Bool) (row col : Nat) : BallUse :=
  if row = 1 ∧ col = 34 then .refclk zedaup false else if row = 1 ∧ col = 35 then .refclk zedaup true else .vss

/-- The use of the ball at a row and column, each 1 to 46 (R531). -/
def ballUse (row col : Nat) : BallUse :=
  let fromEdge := if row ≤ 6 then row else 47 - row
  let zedaup := decide (6 < row)
  let even := (row + col) % 2 == 0
  if fromEdge ≤ 6 ∧ col ≤ 32 then portBall zedaup fromEdge col
  else if fromEdge ≤ 4 then cornerBall zedaup fromEdge col
  else if 44 ≤ col then
    if row ≤ 33 then .lowSpeed (row - 5) (col - 44)
    else if row = 34 then (if col = 46 then .vbat else .vddOtp)
    else .vss
  else if col = 43 then (if row ≤ 28 then .vddIo else .vss)
  else if fromEdge ≤ 6 ∨ col ≤ 4 then .vss
  else if col ≤ 8 ∨ 39 ≤ col then (if even then .vddSram else .vss)
  else if even then .vddCore else .vss

/-- The name of a signal. -/
def BallUse.name : BallUse → Option String
  | .lane z t n neg =>
    some ((if z then "ZDP_" else "PCIE_") ++ (if t then "TX" else "RX") ++ toString n ++ (if neg then "N" else "P"))
  | .refclk z neg => some ((if z then "ZDP_REFCLK_" else "PCIE_REFCLK_") ++ (if neg then "N" else "P"))
  | .lowSpeed r c => some (nthD (nthD lowSpeedRows r []) c "")
  | _ => none

end Sys2Proof.Machine
end

