-- ==== Sys2Proof/WellFormed.lean ====
section
/-! DEFINITION. Which commands are well formed: every number names a unit, a function, a queue, an entry, a page or a
source that the device has (R8, R9, R27 to R30, R40, R59, R62, R266, R268, R409, R437). The meanings do not rest on it: a
command that names nothing the device has finds no record and changes none, and an engine command stops by name. -/
namespace Sys2Proof
open Sys2Proof.Machine

/-- A requester: one of the 256 functions, or Headframe (R40, R59). -/
def Machine.Requester.wf : Requester → Bool
  | .tenant t => decide (t < 256)
  | .headframe => true

/-- A transaction scope: the device's, or that of one of the 256 tenants (R46). -/
def Machine.Scope.wf : Scope → Bool
  | .device => true
  | .tenant t => decide (t < 256)

/-- A dispatch target: an aligned set of engines, a Shaft, a worker, or no unit (R10, R11, R421). -/
def Machine.Target.wf : Target → Bool
  | .stope n first wlog2 => decide (n < 64) && decide (wlog2 ≤ 4) && first % 2 ^ wlog2 == 0 && decide (first + 2 ^ wlog2 ≤ 16)
  | .shaft n => decide (n < 8)
  | .worker id => decide (id < 256)
  | .none => true

/-- A unit of R513. -/
def Machine.EccUnit.wf : EccUnit → Bool
  | .stope n => decide (n < 64)
  | .shaft n => decide (n < 8)
  | .core n => decide (n < 16)

/-- A place in a memory of R512. -/
def Machine.FlawAt.wf : FlawAt → Bool
  | .loc n i a => decide (n < 64) && decide (i < 16) && decide (a < 0x8000)
  | .region e _ | .tally e _ | .buffer e => decide (e < 262144)
  | .word n pc => decide (n < 64) && decide (pc < 4096)
  | .object i | .expansion i | .pinned i | .cache i => decide (i < 65536)
  | .shaft n _ => decide (n < 8)
  | .context t c => decide (t < 256) && decide (c < 1024)
  | .headframe a => decide (a < 0x100000)
  | .retained a => decide (a < 4096)

/-- What a host read was for (R511). -/
def Machine.DmaRead.wf : DmaRead → Bool
  | .memory f => f.place.wf
  | .descriptor t q => decide (t < 256) && decide (q < 64)
  | .entry e => decide (e < 262144)
  | .pack n => decide (n < 64)
  | .ownerBlob _ => true

/-- Which keys a handshake sets up (R413). -/
def Machine.HandshakeOf.wf : HandshakeOf → Bool
  | .link l => decide (l < 4)
  | .session d => decide (d < 256)

/-- Does a command name only what the device has? -/
def Instr.wf : Instr → Bool
  | .registerWrite req fn addr size _ => req.wf && decide (fn < 256) && decide (addr < 0x1000000) && (size == 4 || size == 8)
  | .rwsWrite req page off _ => req.wf && page.exists && decide (off < 4096) && off % 4 == 0
  | .ctlFreeze req page _ _ => req.wf && page.exists
  | .ctlDrain req page _ _ => req.wf && page.exists
  | .ctlBrst req page _ _ => req.wf && page.exists
  | .ctlEn req page _ _ => req.wf && page.exists
  | .errinjWrite req page _ => req.wf && page.exists
  | .intenWrite req page _ => req.wf && page.exists
  | .shadowComplement req page off _ => req.wf && page.exists && decide (off < 4096) && off % 4 == 0
  | .shadowTimeout req page => req.wf && page.exists
  | .shadowCopyMismatch page off _ => page.exists && decide (off < 4096) && off % 4 == 0
  | .txnBegin req scope _ => req.wf && scope.wf
  | .txnCommit req scope _ => req.wf && scope.wf
  | .txnAbort req scope _ => req.wf && scope.wf
  | .txnTimeout scope => scope.wf
  | .txnEpochRead req scope => req.wf && scope.wf
  | .commitValidationDone scope => scope.wf
  | .commitQuiesce => true
  | .pageApply page => page.exists
  | .commitLastAck => true
  | .digestPublish => true
  | .headframeCommit => true
  | .busMasterEnableClear t => decide (t < 256)
  | .busMasterEnableSet t => decide (t < 256)
  | .msixUnmask t v => decide (t < 256) && decide (v < 65)
  | .sqEnable req t => req.wf && decide (t < 256)
  | .sqDisable req t => req.wf && decide (t < 256)
  | .sqAbort req t => req.wf && decide (t < 256)
  | .cqEnable req t => req.wf && decide (t < 256)
  | .cqDisable req t => req.wf && decide (t < 256)
  | .sqTailDoorbell t q _ => decide (t < 256) && decide (q < 64)
  | .cqHeadDoorbell t q _ => decide (t < 256) && decide (q < 64)
  | .descriptorFetch t q => decide (t < 256) && decide (q < 64)
  | .sglFetch e => decide (e < 262144)
  | .dmaReadFailure what => what.wf
  | .admissionResume t => decide (t < 256)
  | .dispatch e target => decide (e < 262144) && target.wf
  | .kernelStart e => decide (e < 262144)
  | .entropyWaitTimeout e => decide (e < 262144)
  | .holdReleaseTime e => decide (e < 262144)
  | .eqtRelease e => decide (e < 262144)
  | .deadlineExpiry e => decide (e < 262144)
  | .engineStopAck e => decide (e < 262144)
  | .engineStopTimeout n j => decide (n < 64) && decide (j < 16)
  | .engineSelftestDone n j _ => decide (n < 64) && decide (j < 16)
  | .cqIrqTimer t q => decide (t < 256) && decide (q < 64)
  | .nopOpcode e => decide (e < 262144)
  | .fence e => decide (e < 262144)
  | .abortTag e => decide (e < 262144)
  | .kemKeygen e => decide (e < 262144)
  | .kemEncaps e => decide (e < 262144)
  | .kemDecaps e => decide (e < 262144)
  | .kemEkcheck e => decide (e < 262144)
  | .kemExpand e => decide (e < 262144)
  | .kemEvict e => decide (e < 262144)
  | .dsaKeygen e => decide (e < 262144)
  | .dsaSign e => decide (e < 262144)
  | .dsaVerify e => decide (e < 262144)
  | .dsaExpand e => decide (e < 262144)
  | .dsaEvict e => decide (e < 262144)
  | .compositeEncaps e => decide (e < 262144)
  | .compositeDecaps e => decide (e < 262144)
  | .compositeSign e => decide (e < 262144)
  | .compositeVerify e => decide (e < 262144)
  | .sluiceHashDone e => decide (e < 262144)
  | .sluiceChannelGrant => true
  | .slcResvWrite req _ => req.wf
  | .slhKeygen e => decide (e < 262144)
  | .slhSign e => decide (e < 262144)
  | .slhVerify e => decide (e < 262144)
  | .mceKeygen e => decide (e < 262144)
  | .mceEncaps e => decide (e < 262144)
  | .mceDecaps e => decide (e < 262144)
  | .hqcKeygen e => decide (e < 262144)
  | .hqcEncaps e => decide (e < 262144)
  | .hqcDecaps e => decide (e < 262144)
  | .ecKeygen e => decide (e < 262144)
  | .ecSign e => decide (e < 262144)
  | .ecVerify e => decide (e < 262144)
  | .ecAgree e => decide (e < 262144)
  | .ecPkcheck e => decide (e < 262144)
  | .rsaKeygen e => decide (e < 262144)
  | .rsaSign e => decide (e < 262144)
  | .rsaVerify e => decide (e < 262144)
  | .rsaEncrypt e => decide (e < 262144)
  | .rsaDecrypt e => decide (e < 262144)
  | .hashOp e => decide (e < 262144)
  | .hmac e => decide (e < 262144)
  | .hmacVerify e => decide (e < 262144)
  | .kmac e => decide (e < 262144)
  | .kmacVerify e => decide (e < 262144)
  | .kdf e => decide (e < 262144)
  | .gcmSeal e => decide (e < 262144)
  | .gcmOpen e => decide (e < 262144)
  | .randomOp e => decide (e < 262144)
  | .stfKeygen e => decide (e < 262144)
  | .keygenChunkDone k => decide (k < 262144)
  | .stfSign e => decide (e < 262144)
  | .stfVerify e => decide (e < 262144)
  | .stfQuery e => decide (e < 262144)
  | .stfSetfloor e => decide (e < 262144)
  | .stfCache e => decide (e < 262144)
  | .cacheBuildDone j => decide (j < 65536)
  | .subrangeGrant handle lo hi _ => decide (handle < 2 ^ 32) && decide (lo < 2 ^ 64) && decide (hi < 2 ^ 64)
  | .leaseWriteStart => true
  | .leaseWriteDone _ => true
  | .leaseWriteRetry => true
  | .sectorEraseDone _ n => decide (n < 1024)
  | .leasePowerup => true
  | .keyInfo e => decide (e < 262144)
  | .pubImport e => decide (e < 262144)
  | .symGen e => decide (e < 262144)
  | .keyWrap e => decide (e < 262144)
  | .keyUnwrap e => decide (e < 262144)
  | .keyReplace e => decide (e < 262144)
  | .keySwap e => decide (e < 262144)
  | .keyDestroy e => decide (e < 262144)
  | .destroyComplete e => decide (e < 262144)
  | .treeDerive e => decide (e < 262144)
  | .pubExport e => decide (e < 262144)
  | .usageClear e => decide (e < 262144)
  | .keyRecordWriteDone handle _ => decide (handle < 2 ^ 32)
  | .storeWriteRetry => true
  | .persistRestore => true
  | .unitHandover page => page.exists
  | .entSettleDone _ => true
  | .entStartupTestDone failed => failed.all fun v => decide (v.cell < 8) && v.samples.length == 1024
  | .entStartupRetry => true
  | .cellTestFail c _ => decide (c < 8)
  | .entRestart req _ _ => req.wf
  | .centralDrbgReseed => true
  | .stopeDrbgReseed n => decide (n < 64)
  | .mrgReseed n => decide (n < 64)
  | .lodeMaskReseed => true
  | .drbgRequestServed g => decide (g < 65)
  | .entDataRead req t => req.wf && decide (t < 256)
  | .entRefill t => decide (t < 256)
  | .dgsOpen req t => req.wf && decide (t < 256)
  | .dgsFinal req t => req.wf && decide (t < 256)
  | .dgsNext req t => req.wf && decide (t < 256)
  | .dgsCompare req t => req.wf && decide (t < 256)
  | .dgsCompareDone t c => decide (t < 256) && decide (c < 1024)
  | .dgsReset req t => req.wf && decide (t < 256)
  | .dgsClose req t => req.wf && decide (t < 256)
  | .dgsDinWrite req t _ _ => req.wf && decide (t < 256)
  | .dgsDlastWrite req t _ _ => req.wf && decide (t < 256)
  | .dgsBlockDone core => decide (core < 16)
  | .dgsResultRead req t j => req.wf && decide (t < 256) && decide (j < 16)
  | .shaftCheckpoint n => decide (n < 8)
  | .shaftCommit n _ _ => decide (n < 8)
  | .shaftWipeDone n _ => decide (n < 8)
  | .shaftStopAck e => decide (e < 262144)
  | .shaftStopTimeout e => decide (e < 262144)
  | .shaftSelftestDone n _ => decide (n < 8)
  | .unitUnresponsive page => page.exists
  | .eccThreshold u => u.wf
  | .trapEntry e => decide (e < 262144)
  | .trapHandlerOverrun e => decide (e < 262144)
  | .stepWatchdogExpiry e => decide (e < 262144)
  | .msetBuildDone n j k => decide (n < 64) && decide (j < 16) && decide (k < 4)
  | .stopeClockChange n _ => decide (n < 64)
  | .nopS n j => decide (n < 64) && decide (j < 16)
  | .addS n j => decide (n < 64) && decide (j < 16)
  | .subS n j => decide (n < 64) && decide (j < 16)
  | .andS n j => decide (n < 64) && decide (j < 16)
  | .orS n j => decide (n < 64) && decide (j < 16)
  | .xorS n j => decide (n < 64) && decide (j < 16)
  | .sll n j => decide (n < 64) && decide (j < 16)
  | .srl n j => decide (n < 64) && decide (j < 16)
  | .sra n j => decide (n < 64) && decide (j < 16)
  | .slt n j => decide (n < 64) && decide (j < 16)
  | .sltu n j => decide (n < 64) && decide (j < 16)
  | .mulS n j => decide (n < 64) && decide (j < 16)
  | .mulhu n j => decide (n < 64) && decide (j < 16)
  | .divu n j => decide (n < 64) && decide (j < 16)
  | .remu n j => decide (n < 64) && decide (j < 16)
  | .addi n j => decide (n < 64) && decide (j < 16)
  | .andi n j => decide (n < 64) && decide (j < 16)
  | .ori n j => decide (n < 64) && decide (j < 16)
  | .xori n j => decide (n < 64) && decide (j < 16)
  | .slli n j => decide (n < 64) && decide (j < 16)
  | .srli n j => decide (n < 64) && decide (j < 16)
  | .srai n j => decide (n < 64) && decide (j < 16)
  | .slti n j => decide (n < 64) && decide (j < 16)
  | .ld32 n j => decide (n < 64) && decide (j < 16)
  | .ld64 n j => decide (n < 64) && decide (j < 16)
  | .st32 n j => decide (n < 64) && decide (j < 16)
  | .st64 n j => decide (n < 64) && decide (j < 16)
  | .beq n j => decide (n < 64) && decide (j < 16)
  | .bne n j => decide (n < 64) && decide (j < 16)
  | .blt n j => decide (n < 64) && decide (j < 16)
  | .bge n j => decide (n < 64) && decide (j < 16)
  | .bltu n j => decide (n < 64) && decide (j < 16)
  | .bgeu n j => decide (n < 64) && decide (j < 16)
  | .bp n j => decide (n < 64) && decide (j < 16)
  | .jal n j => decide (n < 64) && decide (j < 16)
  | .jr n j => decide (n < 64) && decide (j < 16)
  | .getc n j => decide (n < 64) && decide (j < 16)
  | .setc n j => decide (n < 64) && decide (j < 16)
  | .mset n j => decide (n < 64) && decide (j < 16)
  | .popen n j => decide (n < 64) && decide (j < 16)
  | .pclose n j => decide (n < 64) && decide (j < 16)
  | .barS n j => decide (n < 64) && decide (j < 16)
  | .final n j => decide (n < 64) && decide (j < 16)
  | .reserve n j => decide (n < 64) && decide (j < 16)
  | .finalLode n j => decide (n < 64) && decide (j < 16)
  | .unit n j => decide (n < 64) && decide (j < 16)
  | .failS n j => decide (n < 64) && decide (j < 16)
  | .breakS n j => decide (n < 64) && decide (j < 16)
  | .limm n j => decide (n < 64) && decide (j < 16)
  | .jfar n j => decide (n < 64) && decide (j < 16)
  | .vadd n j => decide (n < 64) && decide (j < 16)
  | .vsub n j => decide (n < 64) && decide (j < 16)
  | .vand n j => decide (n < 64) && decide (j < 16)
  | .vor n j => decide (n < 64) && decide (j < 16)
  | .vxor n j => decide (n < 64) && decide (j < 16)
  | .vsll n j => decide (n < 64) && decide (j < 16)
  | .vsrl n j => decide (n < 64) && decide (j < 16)
  | .vsra n j => decide (n < 64) && decide (j < 16)
  | .vslli n j => decide (n < 64) && decide (j < 16)
  | .vsrli n j => decide (n < 64) && decide (j < 16)
  | .vsrai n j => decide (n < 64) && decide (j < 16)
  | .vrotli n j => decide (n < 64) && decide (j < 16)
  | .vmul n j => decide (n < 64) && decide (j < 16)
  | .vmulw n j => decide (n < 64) && decide (j < 16)
  | .vdot n j => decide (n < 64) && decide (j < 16)
  | .vdotz n j => decide (n < 64) && decide (j < 16)
  | .vamov n j => decide (n < 64) && decide (j < 16)
  | .vamovi n j => decide (n < 64) && decide (j < 16)
  | .vaddc n j => decide (n < 64) && decide (j < 16)
  | .vsubb n j => decide (n < 64) && decide (j < 16)
  | .vmadd n j => decide (n < 64) && decide (j < 16)
  | .vmsub n j => decide (n < 64) && decide (j < 16)
  | .vmmul n j => decide (n < 64) && decide (j < 16)
  | .vmred n j => decide (n < 64) && decide (j < 16)
  | .vcmpeq n j => decide (n < 64) && decide (j < 16)
  | .vcmpltu n j => decide (n < 64) && decide (j < 16)
  | .vcmplt n j => decide (n < 64) && decide (j < 16)
  | .vsel n j => decide (n < 64) && decide (j < 16)
  | .vbcast n j => decide (n < 64) && decide (j < 16)
  | .vins n j => decide (n < 64) && decide (j < 16)
  | .vext n j => decide (n < 64) && decide (j < 16)
  | .vperm n j => decide (n < 64) && decide (j < 16)
  | .vmov n j => decide (n < 64) && decide (j < 16)
  | .pand n j => decide (n < 64) && decide (j < 16)
  | .por n j => decide (n < 64) && decide (j < 16)
  | .pxor n j => decide (n < 64) && decide (j < 16)
  | .pnot n j => decide (n < 64) && decide (j < 16)
  | .vptail n j => decide (n < 64) && decide (j < 16)
  | .pset n j => decide (n < 64) && decide (j < 16)
  | .preduce n j => decide (n < 64) && decide (j < 16)
  | .va2b n j => decide (n < 64) && decide (j < 16)
  | .vb2a n j => decide (n < 64) && decide (j < 16)
  | .vrefr n j => decide (n < 64) && decide (j < 16)
  | .vld n j => decide (n < 64) && decide (j < 16)
  | .vst n j => decide (n < 64) && decide (j < 16)
  | .vgath n j => decide (n < 64) && decide (j < 16)
  | .vscat n j => decide (n < 64) && decide (j < 16)
  | .vust n j => decide (n < 64) && decide (j < 16)
  | .vkabs n j => decide (n < 64) && decide (j < 16)
  | .vkfin n j => decide (n < 64) && decide (j < 16)
  | .vksqz n j => decide (n < 64) && decide (j < 16)
  | .vhblk n j => decide (n < 64) && decide (j < 16)
  | .vhrd n j => decide (n < 64) && decide (j < 16)
  | .vakey n j => decide (n < 64) && decide (j < 16)
  | .vaes n j => decide (n < 64) && decide (j < 16)
  | .vlstr n j => decide (n < 64) && decide (j < 16)
  | .vistr n j => decide (n < 64) && decide (j < 16)
  | .vslh n j => decide (n < 64) && decide (j < 16)
  | .vsldg n j => decide (n < 64) && decide (j < 16)
  | .vrnd n j => decide (n < 64) && decide (j < 16)
  | .vmrg n j => decide (n < 64) && decide (j < 16)
  | .wadd n j => decide (n < 64) && decide (j < 16)
  | .wsub n j => decide (n < 64) && decide (j < 16)
  | .wxor n j => decide (n < 64) && decide (j < 16)
  | .wand n j => decide (n < 64) && decide (j < 16)
  | .wpmul n j => decide (n < 64) && decide (j < 16)
  | .wbmul n j => decide (n < 64) && decide (j < 16)
  | .wsmul n j => decide (n < 64) && decide (j < 16)
  | .wclmul n j => decide (n < 64) && decide (j < 16)
  | .wntt n j => decide (n < 64) && decide (j < 16)
  | .wintt n j => decide (n < 64) && decide (j < 16)
  | .wrot n j => decide (n < 64) && decide (j < 16)
  | .wdecomp n j => decide (n < 64) && decide (j < 16)
  | .whint n j => decide (n < 64) && decide (j < 16)
  | .wnorm n j => decide (n < 64) && decide (j < 16)
  | .wcmpeq n j => decide (n < 64) && decide (j < 16)
  | .wsel n j => decide (n < 64) && decide (j < 16)
  | .wcomp n j => decide (n < 64) && decide (j < 16)
  | .wdcmp n j => decide (n < 64) && decide (j < 16)
  | .wpack n j => decide (n < 64) && decide (j < 16)
  | .wunp n j => decide (n < 64) && decide (j < 16)
  | .wmov n j => decide (n < 64) && decide (j < 16)
  | .wbcast n j => decide (n < 64) && decide (j < 16)
  | .winsv n j => decide (n < 64) && decide (j < 16)
  | .wextv n j => decide (n < 64) && decide (j < 16)
  | .wktail n j => decide (n < 64) && decide (j < 16)
  | .wkop n j => decide (n < 64) && decide (j < 16)
  | .wa2b n j => decide (n < 64) && decide (j < 16)
  | .wb2a n j => decide (n < 64) && decide (j < 16)
  | .wrefr n j => decide (n < 64) && decide (j < 16)
  | .wld n j => decide (n < 64) && decide (j < 16)
  | .wst n j => decide (n < 64) && decide (j < 16)
  | .wust n j => decide (n < 64) && decide (j < 16)
  | .wsamu n j => decide (n < 64) && decide (j < 16)
  | .wsamb n j => decide (n < 64) && decide (j < 16)
  | .wsamr n j => decide (n < 64) && decide (j < 16)
  | .wsamy n j => decide (n < 64) && decide (j < 16)
  | .wsamc n j => decide (n < 64) && decide (j < 16)
  | .kstLoad req n _ => req.wf && decide (n < 64)
  | .kstUnload req n _ => req.wf && decide (n < 64)
  | .kstReload req n _ => req.wf && decide (n < 64)
  | .packFetchDone n => decide (n < 64)
  | .loadDrained n => decide (n < 64)
  | .katDone n _ => decide (n < 64)
  | .loadDrainTimeout n => decide (n < 64)
  | .kstScrub n _ _ => decide (n < 64)
  | .flr t => decide (t < 256)
  | .flrComplete t => decide (t < 256)
  | .tntRemove req t _ _ => req.wf && decide (t < 256)
  | .vfEnable num => decide (num < 256)
  | .vfDisable => true
  | .linkSignalDetect l _ => decide (l < 4)
  | .linkEqualiseDone l => decide (l < 4)
  | .linkAlignDone l => decide (l < 4)
  | .linkStateTimeout l => decide (l < 4)
  | .handshake of_ _ _ _ => of_.wf
  | .handshakeRetry l => decide (l < 4)
  | .linkRekey l _ => decide (l < 4)
  | .fecBlock l _ _ _ => decide (l < 4)
  | .replayTimeout l => decide (l < 4)
  | .retrainTimeout l => decide (l < 4)
  | .zdpCredit l vc n => decide (l < 4) && decide (vc < 3) && decide (n < 65536)
  | .heartbeat l _ => decide (l < 4)
  | .heartbeatTimeout l => decide (l < 4)
  | .syncHoldoff => true
  | .joinAttestation l _ => decide (l < 4)
  | .transportKey _ devid _ => decide (devid < 256)
  | .joinStepTimeout d => decide (d < 256)
  | .joinRetry => true
  | .zdpAdmit req d => req.wf && decide (d < 256)
  | .zdpRefuse req d => req.wf && decide (d < 256)
  | .quarantine req d => req.wf && decide (d < 256)
  | .resync req d => req.wf && decide (d < 256)
  | .zdpEvict req d => req.wf && decide (d < 256)
  | .mcmdReset req d => req.wf && decide (d < 256)
  | .zdpReset => true
  | .zdpLeave req _ _ => req.wf
  | .roleWrite req _ _ => req.wf
  | .rcfgDataWrite req _ => req.wf
  | .zdpWork _ => true
  | .zdpResult d _ => decide (d < 256)
  | .keyMessage handle _ => decide (handle < 2 ^ 32)
  | .cacheEvictionReport d handle => decide (d < 256) && decide (handle < 2 ^ 32)
  | .zdpStop token => decide (token < 262144)
  | .zdpPurge handle _ => decide (handle < 2 ^ 32)
  | .purgeAck d handle => decide (d < 256) && decide (handle < 2 ^ 32)
  | .dissolve => true
  | .zdpResume d l => decide (d < 256) && decide (l < 4)
  | .commitRequest d => decide (d < 256)
  | .zdpPrepare _ _ => true
  | .prepareReply d _ epoch _ _ => decide (d < 256) && decide (epoch < 2 ^ 64)
  | .zdpCommit epoch => decide (epoch < 2 ^ 64)
  | .finalDigestReply d epoch _ => decide (d < 256) && decide (epoch < 2 ^ 64)
  | .zdpAbort => true
  | .prepTimeout => true
  | .pollTimer => true
  | .pollReply d epoch _ _ _ _ _ => decide (d < 256) && decide (epoch < 2 ^ 64)
  | .holdTimeout d => decide (d < 256)
  | .powerOnReset _ => true
  | .pinReset => true
  | .perst => true
  | .hotReset => true
  | .linkDown => true
  | .headframeWatchdogExpiry => true
  | .rstSoft req _ _ => req.wf
  | .mctpDeviceReset => true
  | .resetDeassert source _ => decide (source < 16)
  | .domainRelease d => decide (d < 9)
  | .rstRelWrite req _ => req.wf
  | .optionLoadDone _ => true
  | .bistDone pages _ _ _ => (pages.all fun p => p.exists)
  | .bootHeaderRead _ _ _ => true
  | .firmwareLoadDone _ => true
  | .keyDerivationDone => true
  | .configReady => true
  | .bootPackLoaded k => decide (k < 65536)
  | .fullReadiness => true
  | .ownerConfigRecordWrite => true
  | .recoveryImage _ _ _ => true
  | .dcoreDrain req _ _ => req.wf
  | .dcoreReset req _ _ => req.wf
  | .toTest req _ _ => req.wf
  | .toProduction req _ _ => req.wf
  | .toEndOfLife req _ _ => req.wf
  | .setTok3 req _ _ => req.wf
  | .lcCopyProgrammed _ => true
  | .tokenLockoutExpiry => true
  | .ownEnroll req _ _ => req.wf
  | .ownTransfer req _ _ => req.wf
  | .ownRelease req _ _ => req.wf
  | .ownRestore req _ _ => req.wf
  | .newchal via => (via.all fun r => r.wf)
  | .dbgauth _ => true
  | .dbgEnd req => req.wf
  | .challengeExpiry => true
  | .debugExpiry => true
  | .bypass => true
  | .idcode => true
  | .ident => true
  | .dbgsts => true
  | .samplePreload _ _ => true
  | .extest => true
  | .getVersion c => decide (c < 258)
  | .getCapabilities c => decide (c < 258)
  | .negotiateAlgorithms c => decide (c < 258)
  | .getDigests c => decide (c < 258)
  | .getCertificate c _ _ _ => decide (c < 258)
  | .spdmChallenge c _ => decide (c < 258)
  | .getMeasurements c _ _ => decide (c < 258)
  | .keyExchange c _ => decide (c < 258)
  | .spdmFinish c _ => decide (c < 258)
  | .keyUpdate c => decide (c < 258)
  | .spdmHeartbeat c => decide (c < 258)
  | .endSession c => decide (c < 258)
  | .vendorDefinedRequest c _ _ => decide (c < 258)
  | .loopPulse _ _ _ _ => true
  | .loopEvent n => decide (n < 8)
  | .caseEvent n => decide (n < 4)
  | .monitorEvent src _ _ _ => decide (src < 32)
  | .vbatRemoved _ => true
  | .sourceClear n => decide (n < 32)
  | .alarmCutoff => true
  | .scrubDone => true
  | .zeroiseDone => true
  | .alarmRelease _ req _ _ => req.wf
  | .cnyLock req _ _ => req.wf
  | .eventLogProcess => true
  | .rmdataAccess req _ _ => req.wf
  | .pldmEventAck seq => decide (seq < 2 ^ 16)
  | .eventResendTimeout => true
  | .eventPoll _ fromSeq => decide (fromSeq < 2 ^ 16)
  | .logdataRead req => req.wf
  | .pmuFreeze req t _ => req.wf && (t.all fun k => decide (k < 256))
  | .pmuClear req t _ => req.wf && (t.all fun k => decide (k < 256))
  | .pmuEvselWrite req t n _ => req.wf && (t.all fun k => decide (k < 256)) && decide (n < 16)
  | .pmuCntWrite req t n _ _ => req.wf && (t.all fun k => decide (k < 256)) && decide (n < 16)
  | .pmuSselWrite req t _ => req.wf && (t.all fun k => decide (k < 256))
  | .pmuSampleEnable req t _ => req.wf && (t.all fun k => decide (k < 256))
  | .sampleTag n j _ _ => decide (n < 64) && decide (j < 16)
  | .sampleEntryWrite n _ _ _ => decide (n < 64)
  | .pmuBwSelect req _ _ => req.wf
  | .bwWindowEnd _ _ => true
  | .bwpeakRead req => req.wf
  | .thermalPoll _ => true
  | .thermtrip _ => true
  | .avsLoopTick _ _ => true
  | .avsFault _ => true
  | .heartbeatSend l => decide (l < 4)
  | .subrangeRequestReceipt d handle => decide (d < 256) && decide (handle < 2 ^ 32)

end Sys2Proof
end

