-- ==== Sys2Proof/Tests/Slice0.lean ====
section
/-! SUPPORT. The model's own tests: ill-formed commands that the check refuses, values worked out by hand from the
spec, and for every statement with hypotheses a state and operands that meet them. -/
namespace Sys2Proof.Tests

-- Each test is elaborated in turn: many kernel evaluations side by side ask for a thread each.
set_option Elab.async false
open Sys2Proof.Machine

/-! ## Engines: a bench on which an instruction stands -/

/-- Registers that every instruction can use: q = 3329 in m0, a port of each unit open. -/
def benchRegs (x : List (Nat × Port)) : Regs :=
  { s := [(1, 0x400000), (2, 3)], m := [(0, { value := BitVec.ofNat 128 (3329 + 2 ^ 127), status := 2 })], x := x }

/-- Operation 0 running on engine 0 of Stope 0, with LOCAL, a 4 KiB OUTPUT window and streams of 64 bytes. -/
def benchRun : Run :=
  { stope := 0, first := 0, wlog2 := 0, lodeStream := List.replicate 64 1, inStream := List.replicate 64 2
    kernel := { winOut := 64, winWork := 64 }, work := [(0, 1), (4, 16), (8, 8)] }

/-- A state in which engine 0 of Stope 0 stands at slot `slot` of the word `w`. -/
def bench (slot : Nat) (x : List (Nat × Port)) (w : Nat) : State :=
  { State.reset with
    stopes := [(0, { store := { words := [(0, BitVec.ofNat 128 w)], packs := [(0, { words := 64, kernels := [{}] })] } })]
    engs := [(0, { mode := 1, run := some 0, slot := slot, regs := benchRegs x, old := benchRegs x })]
    runs := [(0, benchRun)]
    ent := { phase := 2, stopes := [(0, { live := true })], mrgs := [(0, { valid := true })] }
    tally := { entries := [(0, { state := .dispatched, started := true, target := .stope 0 0 0, sluice := .hashed })] } }

/-- One slot of a word: its low 32 bits, the bits of the word's head (2^126 a long immediate, 2^125 MASK), the ports. -/
structure Fields where
  low : Nat := 0
  top : Nat := 0
  x : List (Nat × Port) := []

/-- A word with one slot. -/
def wordWith (slot op : Nat) (f : Fields) : Nat := (op * 2 ^ 32 + f.low) * 2 ^ (80 - 40 * slot) + f.top

/-- Does a row of a table stand on the bench, in a legal word, with what it needs? -/
def stands (slot : Nat) (row : Claims.Row) (f : Fields) : Prop :=
  let s := bench slot f.x (wordWith slot row.op f)
  Claims.Stands s 0 0 slot row.op 0 benchRun ∧ illegalSlot (Claims.wordOf s 0 0) false = none ∧
    row.needs (Claims.issued s 0 0 slot 0) (Claims.place s 0 0 slot 0 benchRun) = true

/-- The same for each row of a table, with the fields that a list gives at its opcode, or none. -/
def allStand (slot : Nat) (rows : List Claims.Row) (fs : List (Nat × Fields)) : Prop :=
  ∀ row ∈ rows, stands slot row (((fs.find? fun f => f.1 == row.op).map (·.2)).getD {})

def mask : Nat := 2 ^ 125
def port (unit : Nat) (final : Bool) : List (Nat × Port) := [(0, { unit := unit, rate := 168, final := final })]

theorem witness_ScalarArithmetic : allStand 0 Claims.aluRows [(0xF0, { top := 2 ^ 126 })] := by
  unfold allStand stands Claims.Stands
  decide +kernel
theorem witness_ScalarArithmeticFrame : ((bench 0 [] 0).eng 0 0).trapped = false := by decide +kernel
theorem witness_ScalarMemoryAndControl : allStand 0 Claims.scalarRows
    [(0xF1, { top := 2 ^ 126 }), (0x41, { low := 0x0A * 2 ^ 14 })] := by
  unfold allStand stands Claims.Stands
  decide +kernel
theorem witness_VectorInstructions : allStand 1 Claims.vectorRows
    [(0x38, { low := 0x3000, top := mask }), (0x39, { low := 0x3000, top := mask }), (0x3A, { low := 0x3000, top := mask })] := by
  unfold allStand stands Claims.Stands
  decide +kernel
theorem witness_RingInstructions : allStand 2 Claims.ringRows
    [(0x20, { low := 1 }), (0x21, { low := 1 }), (0x22, { low := 1 }), (0x23, { low := 1 }),
     (0x30, { low := 0x1800, top := mask }), (0x31, { low := 0x1800, top := mask }), (0x32, { low := 0x1800, top := mask })] := by
  unfold allStand stands Claims.Stands
  decide +kernel
theorem witness_Samplers : allStand 2 Claims.samplerRows
    [(0x40, { x := port 0x10 true }), (0x41, { low := 2, x := port 0x10 true }), (0x42, { low := 2, x := port 0x10 true }),
     (0x43, { low := 18, x := port 0x10 true }), (0x44, { x := port 0x10 true })] := by
  unfold allStand stands Claims.Stands
  decide +kernel
theorem witness_VectorMemory : allStand 1 Claims.vectorMemoryRows
    [(0x44, { low := 0x00402000, top := mask })] := by
  unfold allStand stands Claims.Stands
  decide +kernel
theorem witness_RingMemory : allStand 2 Claims.ringMemoryRows
    [(0x3A, { low := 0x00081000, top := mask })] := by
  unfold allStand stands Claims.Stands
  decide +kernel
theorem witness_PortInstructions : allStand 1 Claims.portRows
    [(0x50, { x := port 0x10 false }), (0x51, { x := port 0x10 false }), (0x52, { x := port 0x10 true }),
     (0x53, { x := port 0x20 false }), (0x54, { x := port 0x20 false }), (0x55, { x := port 0x30 false }),
     (0x56, { x := port 0x30 false }), (0x58, { x := port 0x40 false }), (0x59, { x := port 0x41 false }),
     (0x5A, { x := port 0x42 false }), (0x5B, { x := port 0x42 false })] := by
  unfold allStand stands Claims.Stands
  decide +kernel
theorem witness_PortsAndCommitPoints : ∀ q ∈ Claims.commitRows.zip
    [({ low := 0x20 * 2 ^ 14 } : Fields), { x := port 0x10 true }, {}, { low := 1 }, { low := 2 }, { low := 3 }, {}],
    stands 0 q.1 q.2 := by
  unfold stands Claims.Stands
  decide +kernel
/-- A NOP in each slot. -/
theorem witness_NopSlots : ∀ slot ∈ [0, 1, 2], stands slot ⟨.nopS, 0, fun _ _ => true, fun s _ => s⟩ {} := by
  unfold stands Claims.Stands
  decide +kernel
/-- Two engines of one operation, the first at the BAR word, the second with `n` arrivals at barrier 0. -/
def barBench (n : Nat) (at_ : Option Nat) : State :=
  { bench 0 [] (wordWith 0 0x60 {}) with
    engs := [(0, { mode := 1, run := some 0 }), (1, { mode := 3, run := some 0, idx := 1, bars := [(0, n)], atBar := at_ })]
    runs := [(0, { benchRun with wlog2 := 1 })] }
theorem witness_Barriers :
    (Claims.Stands (barBench 0 none) 0 0 0 0x60 0 { benchRun with wlog2 := 1 } ∧ countAt ((barBench 0 none).eng 0 1).bars 0 ≠ 1) ∧
    (Claims.Stands (barBench 1 (some 0)) 0 0 0 0x60 0 { benchRun with wlog2 := 1 } ∧
      countAt ((barBench 1 (some 0)).eng 0 1).bars 0 = 1 ∧ ((barBench 1 (some 0)).eng 0 1).atBar = some 0) ∧
    stands 0 ⟨.barS, 0x60, fun _ _ => true, fun s _ => s⟩ {} := by
  unfold stands Claims.Stands
  decide +kernel
theorem witness_Break : stands 0 ⟨.breakS, 0x63, fun _ _ => true, fun s _ => s⟩ {} ∧ (bench 0 [] 0).lcc.state ≤ 1 := by
  unfold stands Claims.Stands
  decide +kernel

/-- A run of entry 0 with a trap standing, with or without a handler. -/
def trapBench (r : Run) (g : Eng) : State :=
  { bench 0 [] 0 with runs := [(0, r)], engs := [(0, g)] }
theorem witness_TrapsAndBuilds :
    let h := trapBench { benchRun with trapped := some 0, kernel := { trap := 5 }, trapCause := 2 } { run := some 0 }
    let o := trapBench { benchRun with handler := true } { run := some 0, trapped := true, mode := 4 }
    let m := bench 0 [] 0
    let w : State := { m with engs := [(0, { mode := 1, run := some 0, regs := { m := [(3, { status := 1 })] } })] }
    (h.executing 0 = true ∧ ((h.run 0).getD benchRun).kernel.trap ≠ 0xFFFF ∧ ((h.run 0).getD benchRun).trapCause ∉ [8, 9, 10]) ∧
    (o.executing 0 = true ∧ (o.eng 0 0).trapped = true) ∧
    (m.executing 0 = true ∧ (m.eng 0 (m.oldestStep benchRun)).trapped = false ∧ (m.eng 0 (m.oldestStep benchRun)).mode ≠ 4) ∧
    ((w.eng 0 0).run.isSome = true ∧ ((w.eng 0 0).regs.getM 3).status = 1) := by
  decide +kernel

/-! ## Flash stores -/

def withLode (l : Lode) : State := { State.reset with lode := l }
def lease : LeaseWrite := { index := 0, slot := 3, entry := none, frontier := 8, retired := true }
def stored : StoreWrite := { entry := some 0, index := 0, handle := 1, marker := false, obj := {} }

theorem witness_LeaseEvents :
    let q := withLode { leaseQueue := [lease], leaseKey := some [1] }
    let a := withLode { leaseActive := some lease, leaseKey := some [1] }
    (q.lode.leaseQueue.find? (fun w => !w.waitRetry) = some lease ∧ (q.leaseFlash lease).isSome = true) ∧
    (a.lode.leaseActive = some lease ∧ lease.create = false ∧ lease.retired = true) ∧
    ((withLode { sectorsA := [(3, { erasing := true })] }).sector false 3).erasing = true := by
  decide +kernel

theorem witness_FlashStoreEvents :
    let k : State := { withLode { writes := [stored], storageKey := some [1] } with
      tally := { entries := [(0, { state := .dispatched, await := .keyRecord })] } }
    let g : Staged := { entry := 0, index := 0, obj := {}, replace := true, written := true }
    let d : State := { withLode { staged := [g] } with tally := { entries := [(0, { state := .dispatched, await := .holders })] } }
    let c : State := { State.reset with tally := { entries :=
      [(0, { state := .dispatched, await := .kids, part := 4, kids := 1, order := 7 }),
       (1, { state := .dispatched, started := true, parent := some 0, spillToken := 7 })] } }
    let b := withLode { objs := [(0, { stf := some { cache := 1 } })] }
    let p : State := { withLode { restoreDone := true } with regs := Cells.set regDefault [] (Page.rst.key 0x104) 0x1FF00 }
    (k.lode.writes.find? (fun w => w.handle == 1 && !w.failed) = some stored ∧ k.lode.storageKey.isSome = true ∧
      (k.entry 0).isSome = true) ∧
    (d.lode.staged.find? (fun g => g.entry == 0 && g.replace) = some g ∧ (d.entry 0).isSome = true) ∧
    ((∀ p ∈ d.lode.holders, p.1 = 0 → d.holding p.2 = false) ∧ (∀ w ∈ d.lode.writes, w.marker = true → w.entry ≠ some 0)) ∧
    (((c.freeEntry 1).entry 0).map (fun x => (x.order, x.part)) = some (7, 4)) ∧
    ((b.obj 0).stf = some { cache := 1 } ∧ b.entriesWhere (fun x => x.await == .cache 0) = []) ∧
    (p.lode.leaseReady = false ∧ p.released 4 = true ∧ p.restoring = false ∧ p.lode.leaseKey = none) := by
  decide +kernel
/-! ## Operations: an entry whose kernel runs -/

/-- Entry 0 running on Stope 0, with its masking and random bit generators alive and two objects to name. -/
def opBench (x : Entry) : State :=
  { State.reset with
    ent := { phase := 2, stopes := [(0, { live := true })], mrgs := [(0, { valid := true })], central := { live := true } }
    lode := { objs := [(0, { present := true, stf := some { total := 32, cache := 2 } })], leaseKey := some [] }
    tally := { entries := [(0, { x with state := .dispatched, started := true, target := .stope 0 0 0 })] } }

/-- A descriptor of an opcode, with options and lengths. -/
def descOf (opcode : Nat) (options : Nat := 0) (key : Nat := 1) (auxLen : Nat := 0) (key2 : Nat := 1) : Desc :=
  { opcode := opcode, options := options, key := key, key2 := key2, auxLen := auxLen }

/-- Does a row's operation run for this entry, with everything its outcome asks for? -/
def operates (row : Claims.OpRow) (x : Entry) : Prop :=
  let s := opBench x
  let y : Entry := { x with state := .dispatched, started := true, target := .stope 0 0 0 }
  s.avs.tripped = false ∧ s.running 0 row.kind = some y ∧ s.maskOk 0 y = true ∧ row.fits s 0 y = true

/-- A standard's check that a row waits for. -/
def operatesIf (row : Claims.OpRow) (x : Entry) : Prop := (∀ c l, Config.holds c l = true) → operates row x

theorem witness_LatticeOperations : ∀ q ∈ (Claims.latticeRows.eraseIdx 3).zip
    [({ desc := descOf 0x1001 } : Entry), { desc := descOf 0x1101 }, { desc := descOf 0x1201 }, { desc := descOf 0x1401 },
     { desc := descOf 0x1501 }, { desc := descOf 0x2001 }, { desc := descOf 0x2101 }, { desc := descOf 0x2101, lenFault := true },
     { desc := descOf 0x2201 },
     { desc := descOf 0x2401 }, { desc := descOf 0x2501 }, { desc := descOf 0xD101 }], operates q.1 q.2 := by
  unfold operates
  decide +kernel
theorem witness_CompositeSignatures : ∀ q ∈ (Claims.latticeRows.drop 14).zip
    [({ desc := descOf 0xD511 } : Entry), { desc := descOf 0xD611 }], operates q.1 q.2 := by
  unfold operates
  decide +kernel
/-- The u coordinate of X25519's base point. -/
def u9 : Bytes := 9 :: List.replicate 31 0
theorem witness_KemEkcheck : ∀ row ∈ (Claims.latticeRows.drop 3).take 1, operates row
    { desc := descOf 0x1301, aux := List.replicate 800 0 } := by
  unfold operates
  decide +kernel
theorem witness_CompositeDecaps : ∀ row ∈ (Claims.latticeRows.drop 13).take 1, operates row
    { desc := descOf 0xD201, aux := List.replicate 1088 0 ++ u9 } := by
  unfold operates
  decide +kernel

theorem witness_HashCodeAndCurveOperations : ∀ q ∈ (Claims.classicRows.take 12).zip
    [({ desc := descOf 0x3001 } : Entry), { desc := descOf 0x3101 (auxLen := 1) }, { desc := descOf 0x3201 (auxLen := 7857) },
     { desc := descOf 0x6001 }, { desc := descOf 0x6101 }, { desc := descOf 0x6201 }, { desc := descOf 0x7001 },
     { desc := descOf 0x7101 }, { desc := descOf 0x7201 }, { desc := descOf 0x8001 }, { desc := descOf 0x8101 },
     { desc := descOf 0x8201 }], operates q.1 q.2 := by
  unfold operates
  decide +kernel
theorem witness_PointChecks : ∀ q ∈ (Claims.classicRows.drop 12).zip
    [({ desc := descOf 0x8320, aux := u9 } : Entry), { desc := descOf 0x8420, aux := u9 }], operates q.1 q.2 := by
  unfold operates
  decide +kernel
theorem witness_EdwardsSignature : ∀ row ∈ (Claims.classicRows.drop 10).take 1, operates row { desc := descOf 0x8110 (auxLen := 1) } := by
  unfold operates
  decide +kernel

theorem witness_RsaAndSymmetricOperations : ∀ q ∈ (Claims.symmetricRows.eraseIdx 4).zip
    [({ desc := descOf 0x9008 } : Entry), { desc := descOf 0x9108 }, { desc := descOf 0x9208 },
     { desc := descOf 0x9308 (auxLen := 2) }, { desc := descOf 0xA001 }, { desc := descOf 0xA102 }, { desc := descOf 0xA202 },
     { desc := descOf 0xA301 (auxLen := 1) }, { desc := descOf 0xA401 }, { desc := descOf 0xA501 (auxLen := 35) },
     { desc := descOf 0xA801 }, { desc := descOf 0xA901 }, { desc := descOf 0xB000 }], operates q.1 q.2 := by
  unfold operates
  decide +kernel
theorem witness_RsaDecrypt : ∀ row ∈ (Claims.symmetricRows.drop 4).take 1, operatesIf row
    { desc := descOf 0x9408 (auxLen := 258), aux := List.replicate 255 0 ++ [2], bound1 := some { pub := List.replicate 260 0xFF } } := by
  simp only [Claims.symmetricRows, List.drop, List.take, List.mem_singleton, forall_eq]
  refine fun h => ⟨rfl, by decide +kernel, by decide +kernel, ?_⟩
  simp only [h, Bool.and_true]
  decide +kernel

/-- The attribute block of a 32-byte AES key, and a KEK. -/
def aesAttr : Bytes := [0x10, 0, 0x01, 0xA0, 0, 0, 0, 0, 32, 0] ++ List.replicate 22 0
def kek : Bound := { handle := 1, index := 1, secret := List.replicate 32 5, kind := 0x14, alg := 0xA001 }

theorem witness_KeyManagement : ∀ q ∈ (Claims.keyRows.eraseIdx 5).zip
    [({ desc := descOf 0xC000 } : Entry), { desc := descOf 0xC800 },
     { desc := descOf 0xC100 (auxLen := 32 + 1312), aux := [2, 0, 1, 0x20] }, { desc := descOf 0xC200, aux := aesAttr },
     { desc := descOf 0xC301, bound2 := some kek }, { desc := descOf 0xC500 }, { desc := descOf 0xC600 },
     { desc := descOf 0xC700, aux := aesAttr }, { desc := descOf 0xC900 }], operates q.1 q.2 := by
  unfold operates
  decide +kernel
/-- A wrapped AES key: "FVKW", version 1, format 1, its length, the KEK's identity, the attribute block, IV, key, tag. -/
def blob : Bytes := ascii "FVKW" ++ [1, 0, 1, 0, 32, 0, 0, 0] ++ [0, 0, 0, 0] ++ aesAttr ++ List.replicate 60 0
theorem witness_KeyUnwrap : kekIdOf 1 kek = [0, 0, 0, 0] → ∀ row ∈ (Claims.keyRows.drop 5).take 1, operatesIf row
    { desc := descOf 0xC401 (auxLen := 108), aux := blob, bound2 := some kek } := by
  simp only [Claims.keyRows, List.drop, List.take, List.mem_singleton, forall_eq]
  refine fun hk h => ⟨rfl, by decide +kernel, by decide +kernel, ?_⟩
  simp only [blobFails, h, if_true]
  simp only [show ∀ x : Entry, x.desc = descOf 0xC401 (auxLen := 108) → Claims.pp x = 1 from fun x hx => by simp [Claims.pp, hx, descOf, opParam], hk]
  decide +kernel

theorem witness_StatefulOperations : ∀ q ∈ Claims.statefulRows.zip
    [({ desc := descOf 0x4000 } : Entry), { desc := descOf 0x4100 (key := 0), index := some 3 }, { desc := descOf 0x4200 },
     { desc := descOf 0x4300 (key := 0) }, { desc := descOf 0x4400 (key := 0) }, { desc := descOf 0x4500 (key := 0) }],
    operates q.1 q.2 := by
  unfold operates
  decide +kernel
/-! ## Registers, transactions, queues -/

/-- Registers set over their reset values. -/
def put (l : List (Page × Nat × Word)) : List (Nat × Word) :=
  l.foldl (fun m q => Cells.set regDefault m (q.1.key q.2.1) q.2.2) []

/-- The device with every domain released and configuration ready, and further registers set. -/
def up (l : List (Page × Nat × Word)) : State :=
  { State.reset with regs := put ((.rst, 0x104, 0x4001FF08) :: l)
                     lode := { restoreDone := true }, rst := { asserted := [] }, ent := { phase := 2, central := { live := true } } }

theorem witness_Arrives : Claims.Writes (up []) (.tenant 0) (.stp 63) ∧ Claims.Writes State.reset .headframe .lod := by
  unfold Claims.Writes Claims.Arrives
  decide +kernel
theorem witness_ControlRegister :
    let d := up [(.stp 63, 0x008, 0x3)]
    let b : State := { d with runs := [(0, { benchRun with stope := 63 })], engs := [(63 * 16, { mode := 1, run := some 0 })] }
    Claims.Arrives d (.tenant 0) (.stp 63) ∧ (Page.stp 63).firstOfBlock = true ∧ Cells.wf regDefault d.regs = true ∧
    ((Page.lod).hasDrain = false ∧ (up []).pageIdle .lod = true) ∧
    ((up []).draining (.stp 63) = false ∧ b.pageIdle (.stp 63) = false) ∧
    (d.draining (.stp 63) = true ∧ d.pageIdle (.stp 63) = true ∧ d.resetPending = false) ∧
    Claims.Arrives b (.tenant 0) (.stp 63) := by
  unfold Claims.Arrives
  decide +kernel
theorem witness_ErrorInjection : (up []).injectAllowed = true ∧ ({ up [] with lcc := { state := 2 } } : State).injectAllowed = false ∧
    Claims.Writes { up [] with lcc := { state := 2 } } (.tenant 0) .hdf ∧ Page.hdf.firstOfBlock = true := by
  unfold Claims.Writes Claims.Arrives
  decide +kernel
theorem witness_ShadowRegisters :
    let x : Primary := { req := .tenant 0, page := .stp 0, off := 0x024, value := 7, since := 0 }
    let y : Primary := { x with off := 0x008 }
    let s (x : Primary) (t : Nat) : State := { up [] with prims := [x], stamp := t }
    (critReg (.stp 0) 0x024 = true ∧ rwsMask (.stp 0) 0x024 ≠ 0 ∧ (s x 100000).primary (.tenant 0) (.stp 0) = some x) ∧
    (critReg (.stp 0) 0x008 = true ∧ rwsMask (.stp 0) 0x008 = 0 ∧ (s y 100001).primary (.tenant 0) (.stp 0) = some y) ∧
    (s x 100000).onBus (.tenant 0) = true ∧ bit ((s x 100000).reg (.stp 0) 0x008) 3 = false := by
  decide +kernel
theorem witness_RegisterWrites :
    (barPlace 0 0x10020 = .page .hdf 0x020 ∧ barPlace 0 0x10014 = .page .hdf 0x014) ∧
    (∃ d ∈ regDef .hdf 0x014, d.crit = false ∧ d.rws = 0 ∧ d.writable (.tenant 0) ≠ 0 ∧ ownRule .hdf 0x014 = false) ∧
    (up []).gatedCommand (.tenant 0) .hdf 0x014 5 = none ∧ (∃ d ∈ regDef .hdf 0x000, d.writable (.tenant 0) = 0) ∧
    (barPlace 0 0x10000 = .page .hdf 0x000 ∧ (Requester.tenant 0).ofBar 0 = true) := by
  refine ⟨by decide, ?_, by decide +kernel, ?_, by decide⟩
  · exact ⟨_, rfl, by decide⟩
  · exact ⟨_, rfl, by decide⟩
theorem witness_FailedHostReads :
    let s : State := { up [] with
      sqs := [(0, { en := true, tail := 1 })], tally := { entries := [(0, {})] }, kstQueue := [{ stope := 0, cmd := 1, phase := 1 }] }
    ((s.sq 0 0).en = true ∧ (s.sq 0 0).error = false ∧ (s.sq 0 0).head ≠ (s.sq 0 0).tail) ∧
    (∃ x ∈ s.entry 0, x.decided = false ∧ x.sluice = .none) ∧ (s.kstFront 0 1).isSome = true := by
  refine ⟨by decide, ⟨_, rfl, by decide⟩, by decide⟩

/-- A transaction of tenant 0's scope in a phase, with values staged. -/
def inTxn (phase : TxnPhase) (n : Nat) (id : Nat) : State :=
  (up []).setTxn (.tenant 0) { phase := phase, id := id, staged := (List.range n).map fun k => (k, 1) }
theorem witness_StagedWrites :
    (rwsMask (.tnt 0) 0x180 ≠ 0 ∧ critReg (.tnt 0) 0x180 = false ∧ Claims.Writes (inTxn .opened 255 1) (.tenant 0) (.tnt 0)) ∧
    (((inTxn .opened 255 1).txnOf (Page.tnt 0).scope).phase = .opened ∧
      ((inTxn .opened 255 1).txnOf (Page.tnt 0).scope).staged.length < (Page.tnt 0).scope.limit) ∧
    ((Page.tnt 0).scope.limit ≤ ((inTxn .opened 256 1).txnOf (Page.tnt 0).scope).staged.length ∧
      ∀ q ∈ ((inTxn .opened 256 1).txnOf (Page.tnt 0).scope).staged, q.1 ≠ (Page.tnt 0).key 0x180) ∧
    ((inTxn .idle 0 0).txnOf (Page.tnt 0).scope).phase ≠ .opened := by
  unfold Claims.Writes Claims.Arrives
  decide +kernel
theorem witness_TransactionCommands :
    Claims.Writes (inTxn .opened 1 5) (.tenant 0) (Scope.tenant 0).page ∧
    (((inTxn .idle 0 0).txnOf (.tenant 0)).phase = .idle ∧ (inTxn .idle 0 0).zdp.prep = none) ∧
    (((inTxn .opened 1 5).txnOf (.tenant 0)).id = (5 : Word).toNat ∧ (inTxn .opened 1 5).isWorker = false) ∧
    ({ inTxn .opened 1 5 with zdp := { mstate := 4 } } : State).isWorker = true ∧ (up []).hfCommitting = false := by
  unfold Claims.Writes Claims.Arrives
  decide +kernel
theorem witness_CommitSteps :
    let v := (up []).setTxn .device { phase := .committing, staged := [(Page.tly.key 0x11C, 0)] }
    let bad := (up []).setTxn .device { phase := .committing, staged := [(Page.tly.key 0x118, 0)] }
    let c : Commit := { of := .scope .device, stage := .applying, staged := [], unacked := [.tly] }
    let k : State := { v with txn := { v.txn with active := some c } }
    let h : State := { up [] with txn := { hfQueue := [(.directory, [])] } }
    (v.txn.active = none ∧ v.txn.waiting = [] ∧ v.isManager = false ∧ v.invalidAt (v.txnOf .device).staged = none) ∧
    ((bad.invalidAt (bad.txnOf .device).staged).isSome = true ∧ bad.breaksLock (bad.txnOf .device).staged = false) ∧
    (k.txn.active = some c ∧ Page.tly ∈ c.unacked ∧ touchesOwners { c with unacked := [] } = false ∧ k.zdp.quarantined = false) ∧
    (h.txnOf .device).phase = .idle := by
  decide +kernel
theorem witness_Queues :
    let k : State := up [(.tnt 0, 0x100, 63)]
    let cq : Cq := { en := true, cfg := 1, baseWritten := true }
    let off : State := { k with sqs := [(63, { cfg := 0x180001 })], cqs := [(0, cq)] }
    let on : State := { k with sqs := [(63, { en := true, cfg := 0x180001 })], cqs := [(0, cq), (63, { cq with en := false })] }
    Claims.Serves off 0 63 ∧ Claims.Writes off (.tenant 0) (.tnt 0) ∧ off.qsel 0 = 63 ∧
    ((off.sq 0 63).en = false ∧ sizeOk (off.sq 0 63).cfg = true ∧ (off.cq 0 (field (off.sq 0 63).cfg 13 8)).en = true ∧
      off.sqActive 0 63 = 0) ∧
    sizeOk (k.sq 0 63).cfg = false ∧ ((on.sq 0 63).en = true ∧ (on.sq 0 63).error = false) ∧
    ((on.cq 0 63).en = false ∧ sizeOk (on.cq 0 63).cfg = true ∧ (on.cq 0 63).baseWritten = true ∧ (on.cq 0 63).waiting = []) ∧
    ((on.cq 0 0).en = true ∧ field (on.sq 0 63).cfg 13 8 = 0) ∧
    (∀ r < 64, (on.sq 0 r).en = true → field (on.sq 0 r).cfg 13 8 ≠ 63) := by
  unfold Claims.Writes Claims.Arrives Claims.Serves
  decide +kernel
theorem witness_Doorbells :
    let x : Sq := { en := true, cfg := 0x180001, head := 1, tail := 1 }
    let s : State := { up [] with sqs := [(0, x)], cqs := [(0, { en := true, cfg := 2, tail := 3 })] }
    Claims.Serves s 0 0 ∧ queueSize x.cfg = 2 ∧ field (0 : Word) 15 0 < queueSize x.cfg ∧ Claims.ahead x x.tail ≤ Claims.ahead x 0 ∧
    queueSize x.cfg ≤ field (2 : Word) 15 0 ∧ Claims.ahead { x with tail := 0 } 1 < Claims.ahead { x with tail := 0 } 0 ∧
    (s.cq 0 0).en = true ∧ (2 + queueSize (s.cq 0 0).cfg - (s.cq 0 0).hostHead) % queueSize (s.cq 0 0).cfg ≤ 3 := by
  unfold Claims.Serves
  decide +kernel
/-- A queue with one descriptor of an opcode in its slot 0. -/
def fetchable (op : Byte) (bound : Nat) : State :=
  { up [] with
    fns := [(0, { enabled := true, bme := true })]
    sqs := [(0, { en := true, cfg := 0x180001, tail := 1, abortTo := bound })], cqs := [(0, { en := true, cfg := 2 })]
    host := [(1, op)] }
theorem witness_DescriptorFetch :
    let s := fetchable 0xF0 0
    let u := Claims.fetched s 0 0
    Claims.Serves s 0 0 ∧ s.mayFetch 0 0 = true ∧ (fetchable 0xF0 1).mayFetch 0 0 = true ∧
    u.checksBefore 0 (Claims.headDesc s 0 0) (some 0) = .ok .nop ∧ (Claims.headDesc s 0 0).sgl = false ∧
    (Claims.fetched (fetchable 0xFF 0) 0 0).checksBefore 0 (Claims.headDesc (fetchable 0xFF 0) 0 0) (some 0) = .error .opcodeInvalid := by
  unfold Claims.Serves
  decide +kernel
theorem witness_BusMasteringAndVectors :
    let s : State := { up [] with fns := [(0, { enabled := true, bme := true, pba := [64], unmasked := [64] })] }
    s.cfgReady = true ∧ (s.fn 0).enabled = true ∧ (s.fn 0).fnMask = false ∧ (s.fn 0).bme = true ∧ s.tally.entries = [] := by
  decide +kernel
theorem witness_TimedEnds :
    let w : Entry := { state := .waitEntropy, waitAt := 5, deadline := 6 }
    let s : State := { up [] with tally := { entries := [(0, w), (1, { state := .hold }), (2, { state := .dispatched, await := .eqt }), (3, {})] }
                                  cqs := [(0, { irq := 0x10001, counted := 1 })] }
    (s.entry 0 = some w ∧ w.waitAt < w.deadline) ∧ (s.entry 1 = some { state := .hold }) ∧
    (s.entry 2 = some { state := .dispatched, await := .eqt }) ∧ (s.entry 3 = some {}) ∧
    (bit (s.cq 0 0).irq 0 = true ∧ field (s.cq 0 0).irq 31 16 ≠ 0 ∧ (s.cq 0 0).counted ≠ 0) := by
  decide +kernel
theorem witness_EngineStops :
    let x : Entry := { state := .dispatched, target := .stope 0 0 0, stopping := some .free }
    let s : State := { up [] with tally := { entries := [(0, x)] }, engs := [(0, { mode := 5, run := some 0 }), (1, { mode := 8 })] }
    (s.entry 0 = some x ∧ StopEnd.free ≠ .requeue) ∧ ((s.eng 0 0).mode = 5 ∧ (s.eng 0 0).run = some 0 ∧ s.draining (.stp 0) = false) ∧
    (s.eng 0 1).mode = 8 := by
  decide +kernel
theorem witness_QueueOperations :
    let q : Entry := { state := .queued, sglDone := true }
    let n : Entry := { desc := descOf 0xF000, state := .dispatched, started := true }
    let f : Entry := { q with desc := descOf 0xF100, covers := [(0, 1)], sub := 1, order := 1 }
    let a : Entry := { q with desc := descOf 0xF200 }
    let s : State := { up [] with sqs := [(0, { fetched := 1 })], tally := { entries := [(0, n), (1, f), (2, a)] } }
    s.running 0 .nop = some n ∧ (s.entry 1 = some f ∧ f.desc.kind = some .fence ∧ (∀ c ∈ f.covers, c.2 ≤ (s.sq 0 c.1).fetched)) ∧
    (s.entry 2 = some a ∧ a.desc.kind = some .abortTag) ∧
    ({ s with tally := { entries := [(1, f)] } } : State).fenceFree f = true := by
  decide +kernel
theorem witness_SluiceChannels :
    let w : Entry := { desc := descOf 0xA001, sluice := .waiting }
    let h : Entry := { desc := descOf 0xA001, sluice := .hashing 0 }
    let s : State := { up [] with tally := { entries := [(0, w), (1, h)] } }
    (s.freeChannel.isSome = true ∧ s.nextChannel = some 0) ∧
    (s.entry 1 = some h ∧ h.desc.kind = some .hash ∧ s.sluiceFinding .hash h (s.auxOf h) = none) ∧
    (s.sluiceFinding .dsaVerify { h with desc := descOf 0x2201 (auxLen := 5) } []).isSome = true ∧
    Claims.Writes s .headframe .slc ∧ Claims.Writes s (.tenant 0) .slc := by
  unfold Claims.Writes Claims.Arrives
  decide +kernel
theorem witness_RecordsAndOutput :
    let x : Entry := { state := .dispatched, desc := { descOf 0xA001 with outAddr := 0x1000, outCap := 32 } }
    let s : State := { up [] with fns := [(0, { enabled := true, bme := true })], cqs := [(0, { en := true, cfg := 2, tail := 1 })]
                                  tally := { entries := [(0, x)] } }
    s.entry 0 = some x ∧ (s.fn 0).bme = true ∧ (s.cq 0 0).waiting = [] ∧ (s.cq 0 0).open = true ∧ x.desc.sgl = false ∧
    (0 + 32 * (s.cq 0 0).tail + 32 ≤ x.desc.outAddr) ∧ ({ x.desc with flags := 16 } : Desc).sgl = true ∧
    ({ s with host := [(0x2008, 16), (0x200E, 1)] } : State).sgl 0x2000 = some [(0, 16)] := by
  decide +kernel
theorem witness_FunctionsAndTenants :
    let s : State := { up [] with fns := [(0, { enabled := true }), (255, { enabled := true }), (254, { enabled := true, phase := .flr })] }
    (s.cfgReady = true ∧ (s.fn 255).enabled = true ∧ (s.fn 255).phase = .active) ∧
    ((s.fn 254).phase = .flr ∧ (s.fn 254).removeNext = false) ∧ Claims.Writes s (.tenant 0) (.tntA 255) ∧
    Claims.Writes s (.tenant 0) (.tntA 254) ∧ 255 ≤ s.vfLimit ∧ s.tally.entries = [] := by
  unfold Claims.Writes Claims.Arrives
  decide +kernel

/-! ## Spilled work -/

/-- A worker that holds a stateful key for its manager's handle 9. -/
def worker : State :=
  { up [] with
    zdp := { mstate := 4, devid := 3, transportKey := some (List.replicate 32 1) }
    lode := { restoreDone := true, objs := [(0, { present := true, cacheOf := some 9, stf := some { sub := some (0, 8), total := 32 } })] }
    tally := { entries := [(0, { spilled := some 77 })] } }
/-- A manager with one member that holds its handle 0x00010000. -/
def manager : State :=
  { up [] with
    zdp := { mstate := 5, members := [(3, { mstate := 4, keys := [0x00010000] })] }
    lode := { restoreDone := true, objs := [(0, { present := true, stf := some {} })] }
    tally := { entries := [(0, { state := .dispatched, target := .worker 3, order := 5, desc := descOf 0x1101 })] } }
theorem witness_SpilledWork :
    (worker.isWorker = true ∧ worker.zdp.lostManager = none ∧ Cells.risingFrom 0 worker.tally.entries = true) ∧
    (worker.entriesWhere (fun y => y.spilled == some 77) = [0]) ∧ worker.cached 9 = some 0 ∧
    (∃ f ∈ (worker.obj 0).stf, f.withdrawn = false ∧ f.subLeft ≠ 0) ∧
    (worker.cached 8 = none ∧ worker.room 0 1 true false false = true ∧ worker.allocIndex.2.isSome = true) ∧
    (manager.isManager = true ∧ manager.resultFor 3 5 = some 0 ∧ statusOf 0x0000 = some .ok ∧ statusOf 0x0010 = some .verifyReject) ∧
    manager.onWorker 7 = [] ∧
    ((manager.member 3).admitted = true ∧ (manager.obj (handleIndex 0x00010000)).handle (handleIndex 0x00010000) = 0x00010000) := by
  refine ⟨by decide +kernel, by decide +kernel, by decide +kernel, ⟨_, rfl, by decide +kernel⟩, by decide +kernel, by decide +kernel,
    by decide +kernel, by decide +kernel⟩
/-! ## Dispatch, Shafts, entropy -/

/-- Stope 0 with a kernel for NOP-like hashing, function 0 able to send, an entry of an opcode waiting. -/
def ready0 (opcode : Nat) : State :=
  { up [] with
    fns := [(0, { enabled := true, bme := true })], sqs := [(0, { en := true })], cqs := [(0, { en := true, cfg := 2 })]
    stopes := [(0, { store := { packs := [(0, { words := 64, kernels := [{ opBase := opcode, katOk := true, cost := 3 }] })] } })]
    engs := [(0, {})]
    tally := { entries := [(0, { desc := descOf opcode (key := 0) (key2 := 0), sglDone := true, sluice := .none })] } }
theorem witness_Dispatch :
    let s := ready0 0x1301
    let b : State := { s with engs := (List.range 15).map fun i => (i, ({ mode := 1, run := some 7 } : Eng)) }
    let x : Entry := { desc := descOf 0x1301 (key := 0) (key2 := 0), sglDone := true }
    s.entry 0 = some x ∧ x.desc.kind = some .kemEkcheck ∧ s.ready x .kemEkcheck = true ∧ s.turnOf x (.stope 0 0 4) = true ∧
    s.targetOk .kemEkcheck x (.stope 0 0 4) = true ∧ b.turnOf x (.stope 0 15 0) = true ∧ b.targetOk .kemEkcheck x (.stope 0 15 0) = true ∧
    s.staleAtDispatch x .kemEkcheck = false ∧
    s.wantsEntropy .kemEkcheck x (.stope 0 0 4) = false ∧ (s.kernelAt 0 0x1301 0).isSome = true := by
  decide +kernel
theorem witness_DispatchEnds :
    let s : State := { ready0 0x1001 with ent := { phase := 4 } }
    let x : Entry := { desc := descOf 0x1001 (key := 0) (key2 := 0), sglDone := true }
    let k : State := { ready0 0x1201 with tally := { entries := [(0, { desc := descOf 0x1201 (key := 0x10000), sglDone := true })] } }
    let y : Entry := { desc := descOf 0x1201 (key := 0x10000), sglDone := true }
    (s.ready x .kemKeygen = true ∧ s.turnOf x (.stope 0 0 4) = true ∧ s.targetOk .kemKeygen x (.stope 0 0 4) = true ∧
      s.staleAtDispatch x .kemKeygen = false ∧ s.wantsEntropy .kemKeygen x (.stope 0 0 4) = true ∧ s.ent.phase = 4) ∧
    (k.ready y .kemDecaps = true ∧ k.turnOf y (.stope 0 0 4) = true ∧ k.targetOk .kemDecaps y (.stope 0 0 4) = true ∧
      k.staleAtDispatch y .kemDecaps = true) := by
  decide +kernel
theorem witness_ShaftDispatch :
    let x : Entry := { desc := descOf 0x9008 (key := 0) (key2 := 0), sglDone := true }
    let s : State := { ready0 0 with shafts := [(7, { test := 2 })], tally := { entries := [(0, x)] } }
    s.ready x .rsaKeygen = true ∧ s.turnOf x (.shaft 7) = true ∧ s.targetOk .rsaKeygen x (.shaft 7) = true ∧
    s.staleAtDispatch x .rsaKeygen = false ∧ (s.shaft 7).main = none ∧ (s.shaft 7).wipeMain = 0 ∧ s.ent.phase ≠ 4 ∧ s.entReady = true := by
  decide +kernel
theorem witness_KernelStart :
    let x : Entry := { state := .dispatched, target := .stope 0 0 0, bound1 := some { secret := [1, 2, 3] } }
    let s : State := { up [] with tally := { entries := [(0, x)] }, runs := [(0, { benchRun with kernel := { winSec := 1, winInput := 1 } })] }
    s.entry 0 = some x ∧ x.live = true ∧ x.started = false ∧ (s.run 0).isSome = true := by
  decide +kernel
theorem witness_ShaftJobs :
    let m : ShaftJob := { entry := 0, kind := 1 }
    let x : Entry := { state := .dispatched, target := .shaft 7, desc := descOf 0x9108 }
    let s (h : Shaft) : State := { up [] with shafts := [(7, h)], tally := { entries := [(0, x), (1, { x with stopping := some .free })] } }
    let h : Shaft := { main := some m, candidate := some 1, test := 2 }
    ((s h).shaft 7 = h ∧ ((s h).entry 1).isSome = true ∧ m.exclusive = false ∧ (s h).draining (.shf 7) = false) ∧
    ((s h).running 0 .rsaSign = some x) ∧ ((s { h with wipeYield := 3 }).shaft 7).wipeYield ≠ 0 ∧
    ((s { h with wipeMain := 3, candidate := none }).shaft 7).wipeMain ≠ 0 ∧
    ((s { test := 1 }).shaft 7).test = 1 ∧ (s h).hdf.eccPending.contains (64 + 7) = false := by
  decide +kernel
theorem witness_UnitsOutOfService :
    let r : Run := { benchRun with stope := 63 }
    let s : State := { up [] with runs := [(0, r)], engs := [(63 * 16, { mode := 1, run := some 0 })], hdf := { eccResets := [(62, 2)] } }
    let h : State := { up [(.stp 63, 0x008, 3)] with stopes := [(63, { handover := true })] }
    (s.outOfService (.stp 63) = false ∧ s.hdf.eccPending.contains 63 = false ∧ countAt s.hdf.eccResets 63 < 2 ∧ s.stopeIdle 63 = false) ∧
    2 ≤ countAt s.hdf.eccResets 62 ∧
    ((h.stope 63).handover = true ∧ h.draining (.stp 63) = true ∧ h.stopeIdle 63 = true ∧ h.stopeOwner 63 = (h.stope 63).handTo) := by
  decide +kernel
/-- Eight cells in a state. -/
def cells (k : Nat) : List (Nat × Cell) := (List.range 8).map fun c => (c, { cstate := k })
theorem witness_EntropySource :
    let st (e : Ent) : State := { up [] with ent := e }
    let r := st { phase := 2, cells := cells 2, central := { live := true } }
    let f := st { phase := 4 }
    (st { phase := 1, stage := 2 }).ent.stage = 2 ∧ ((r.cell 7).cstate = 2 ∧ (r.cell 7).excl = false ∧ 4 < r.healthyCells) ∧
    (Claims.Writes f (.tenant 0) .ent ∧ f.ent.phase = 4) := by
  unfold Claims.Writes Claims.Arrives
  decide +kernel
theorem witness_Generators :
    let m : DrbgReq := { gen := 63, cls := 1, use := .reseedMrg 63 }
    let r : DrbgReq := { gen := 64, cls := 5, use := .refill 255 }
    let s : State := { up [] with ent := { phase := 2, central := { live := true }, stopes := [(63, { live := true })], queue := [r, m] } }
    let d : State := { up [] with fns := [(0, { enabled := true, entBuf := [7] }), (255, { enabled := true })] }
    let q : State := { up [] with ent := { phase := 2, central := { live := true }, stopes := [(63, { live := true })], mrgs := [(63, { valid := true })] }
                                  lode := { maskGen := true } }
    (Claims.NextAt s 63 m ∧ (s.gen 63).live = true ∧ s.ent.phase ≠ 4) ∧ Claims.NextAt s 64 r ∧
    (d.onBus (.tenant 255) = true ∧ (d.fn 0).entBuf = [7] ∧ (d.fn 255).entBuf = []) ∧
    (q.ent.queue = [] ∧ (q.gen 63).live = true ∧ (q.mrg 63).valid = true ∧ q.lode.maskGen = true) := by
  unfold Claims.NextAt
  decide +kernel

/-! ## Kernel stores, clocks -/

/-- A vendor pack of one kernel (opcode 1301) and one word of NOPs, its signature block of zeros. -/
def packImage : Bytes :=
  let field (n v : Nat) : Bytes := leBytes n v
  ascii "FVKP" ++ field 2 1 ++ field 1 1 ++ field 1 1 ++ field 4 7 ++ field 4 1 ++ field 2 1 ++ field 2 0 ++ field 4 16 ++
    List.replicate 40 0 ++ List.replicate 192 0 ++
    (field 2 0x1301 ++ field 2 0xFFFF ++ field 2 0 ++ field 2 0xFFFF ++ field 1 1 ++ field 3 0 ++ field 4 100 ++ List.replicate 28 0 ++
      field 2 0 ++ field 2 1 ++ List.replicate 16 0) ++
    List.replicate 16 0 ++ List.replicate 16 0 ++ List.replicate 4723 0
theorem witness_KernelStoreFetch :
    let q : KstReq := { stope := 63, cmd := 1, phase := 1, src := 0x1000, len := 0x100 }
    let s : State := { up [] with kstQueue := [q], fns := [(0, { enabled := true, bme := true })] }
    (q.phase = 1 ∧ (s.fn 0).bme = true ∧ s.packResult 63 (s.hostRead q.src (Nat.min q.len 262145)) q.downgrade ≠ 0) ∧
    ((s.stope 63).store.install (packOf packImage 0)).isSome = true := by
  decide +kernel
theorem witness_packResult (h : (up []).packSignature packImage = true) : (up []).packResult 63 packImage false = 0 := by
  unfold State.packResult
  simp only [h]
  decide +kernel
theorem witness_KernelStoreRequests :
    let q (n phase : Nat) : KstReq := { stope := n, cmd := 1, phase := phase }
    let k (n phase : Nat) : State := { up [] with kstQueue := [q n phase] }
    let busy (s : State) : State := { s with runs := [(0, { benchRun with stope := 63 })], engs := [(63 * 16, { mode := 1, run := some 0 })] }
    let p : State := { k 3 1 with stopes := [(63, { store := { packs := [(2, { base := 10, words := 64 })] } })] }
    Claims.Writes (up []) (.tenant 0) (.kst 63) ∧ (up []).avs.tripped = false ∧ field (1 : Word) 3 0 = 1 ∧ (up []).kstQueue = [] ∧
    ((k 3 1).kstQueue = [q 3 1] ∧ ∀ x ∈ (k 3 1).kstQueue, x.stope ≠ 63) ∧ (∃ x ∈ (k 63 1).kstQueue, x.stope = 63) ∧
    (bit (2 : Word) 8 = false ∧ (busy (up [])).stopeIdle 63 = false ∧ (busy (k 63 3)).stopeIdle 63 = false) ∧
    ((k 63 3).stopeIdle 63 = true ∧ (((k 63 3).stope 63).store.install (q 63 3).pack).isSome = true) ∧
    (k 63 5).kstQueue = [q 63 5] ∧
    ((p.stope 63).store.packs.find? (fun x => decide (x.2.base ≤ 73) && decide (73 < x.2.base + x.2.words))).isSome = true := by
  unfold Claims.Writes Claims.Arrives
  decide +kernel
theorem witness_ClocksAndVoltage :
    let s (a : Avs) : State := { up [] with avs := a, stopes := [(0, { clockTarget := 2000 }), (63, { clockTarget := 1000 })] }
    ((s {}).released 2 = true ∧ ((s {}).stope 63).clockTarget ≠ 0 ∧ (s {}).avs.stopped = false) ∧
    (9 ≤ (s { hot := 9 }).avs.hot ∧ (s { hot := 8 }).avs.hot < 9) ∧ 99 ≤ (s { cool := 99 }).avs.cool ∧ (120 : Int) < 121 ∧
    (s { holdUntil := 1000000 }).avs.holdUntil ≤ Nat.max (s {}).stamp ((s {}).avs.loopAt + 1000000) ∧
    (s { unanswered := 1 }).avs.unanswered < 2 := by
  decide +kernel
theorem witness_throttle : throttleAt ≤ junction [105, 30] ∧ junction [20] ≤ throttleAt - 5 := by
  unfold throttleAt
  cases Config.gradeX <;> decide
theorem witness_DigestEngine :
    let o : Ctx := { state := 1, cfg := 0x10B00 }
    let d : Ctx := { state := 3, cfg := 0x10B00, outlen := 128, cmplen := 64, result := List.replicate 64 1 }
    let l : Ctx := { state := 1, cfg := 0xB00, lenLo := 5, lastvb := 4 }
    let f : Ctx := { state := 1, cfg := 0x10B00, waiting := 2 * 168 }
    let k : Ctx := { state := 3, cfg := 0x10102, usage := 2 ^ useMac }
    let c : Ctx := { d with cmpAt := some 40 }
    let s (x : Ctx) (cap : Word) : State :=
      { up [(.tntA 255, 0x160, cap), (.tdgs 255, 0x100, 1023)] with fns := [(255, { enabled := true })], ctxs := [(255 * 1024 + 1023, x)] }
    let n : Ctx := { cfg := 0x10B00 }
    Claims.Writes (s n 1) (.tenant 255) (.tdgs 255) ∧
    (((s n 1).dgsCur 255) = n ∧ n.valid = true ∧ (s n 1).slotUse 255 < (s n 1).regField (.tntA 255) 0x160 10 0 ∧
      (s n 1).slotUseAll < 1024 ∧ n.keyed = false ∧ n.lastword = true) ∧
    (s n 0).regField (.tntA 255) 0x160 10 0 ≤ (s n 0).slotUse 255 ∧
    ((s o 1).dgsCur 255 = o ∧ 0 < o.space ∧ o.lastword = true ∧ o.keyed = false) ∧ (l.lastword = false ∧ l.count < l.msgLen) ∧
    (d.xof = true ∧ d.window + 64 < d.resultLen ∧ d.keyed = false ∧ field d.cmplen 6 0 = 64) ∧ f.space = 0 ∧
    ((s c 1).ctx 255 1023).cmpAt = some 40 ∧ (k.keyed = true ∧ k.usage.testBit useMac = true ∧ k.spent = false ∧ 15 ∉ k.readWords) ∧
    f.block ≤ f.waiting := by
  unfold Claims.Writes Claims.Arrives
  decide +kernel

/-! ## Zedaup -/

/-- Link 3 in a state, its manager's or worker's other records as given. -/
def linked (x : Link) (z : Zdp) : State := { up [] with zdp := { z with links := [(3, x)] } }
theorem witness_LinkTraining :
    let s (x : Link) : State := linked x {}
    ((s {}).released 8 = true ∧ (s {}).zdp.deadLinks.contains 3 = false ∧ ((s { lstate := 1 }).link 3).lstate < 2) ∧
    ((s { lstate := 6 }).link 3).queue = [] ∧ ((s { lstate := 6 }).link 3).lstate = 6 ∧ ((s { lstate := 4 }).link 3).lstate = 4 ∧
    (((s { lstate := 4, failedAt := some 7 }).link 3).failedAt = some 7) ∧
    (let x : Link := { keyed := true, lrole := 2, sent := 2 ^ 31, received := 2 ^ 31 }
     ((s x).link 3).rekeyDown + 2 ^ 31 ≤ ((s x).link 3).sent ∧ ((s x).link 3).rekeyUp + 2 ^ 31 ≤ ((s x).link 3).received) ∧
    (∀ p ∈ [(1, 1000000), (2, 20000000), (3, 100000)], ((s { lstate := p.1 }).link 3).lstate = p.1) := by
  decide +kernel
theorem witness_LinksInUse :
    let m : Msg := { kind := .heartbeat }
    let x : Link := { lstate := 5, unacked := [m], tries := 6, beatAt := 5 }
    let manager : State := { linked { lstate := 5, beatAt := 9 } { mstate := 5, members := [(255, { mstate := 3, via := 3 })] } with
                             lode := { restoreDone := true } }
    let worker : State := { linked { lstate := 5 } { mstate := 4, uplink := 3 } with regs := put [(.rst, 0x104, 0x4001FF08)] }
    let b : Beat := { dev := 0, role := 2, mstate := 5, alarm := 0, mgrOk := false, free := 0, sync := true, tx := 0, echoTx := 0, echoRx := 0, offset := 0, credits := [] }
    ((linked x {}).link 3 = x ∧ x.tries + 1 < 8 ∧ 8 ≤ ({ x with tries := 7 } : Link).tries + 1) ∧
    ((linked x {}).isManager = false ∧ (linked x {}).zdp.uplink ≠ 3 ∧ (linked x {}).role = 0) ∧
    ((linked { lstate := 6 } {}).link 3).lost = false ∧
    (manager.isManager = true ∧ manager.zdp.prep = none ∧ (manager.link 3).beatAt ≠ 0 ∧ (manager.member 255).via = 3 ∧
      (manager.member 255).mstate = 3 ∧ manager.tally.entries = []) ∧
    (worker.isManager = false ∧ worker.zdp.mstate = mMember ∧ worker.zdp.lostManager = none ∧ worker.holdNs ≠ 0 ∧
      ({ b with role := 1 } : Beat).role ≠ 2) ∧
    (linked {} { overAt := some 4 }).zdp.overAt = some 4 ∧ nthD ((linked { lstate := 5 } {}).link 3).credit 0 0 ≠ 0 := by
  decide +kernel
theorem witness_ManagerCommands :
    let s (x : Member) (r : Word) : State :=
      { linked { lstate := 5, lrole := 2 } { mstate := 5, members := [(255, x)], transportKey := some (List.replicate 32 1) } with
        regs := put [(.rst, 0x104, 0x4001FF08), (.zdp, 0x104, r)], lcc := { ownKey := [1] } }
    let a : Attest := { signed := true, lifecycle := 2, ownerKey := [1], measurement := List.replicate 32 0, identity := [3], hops := 5, kernels := [] }
    ((s {} 2).isManager = true ∧ ((s {} 2).link 3).lstate = 5 ∧ ((s {} 2).link 3).lrole = 2 ∧ a.ownerKey = (s {} 2).lcc.ownKey ∧
      (s {} 2).allowedFirmware a.measurement = true ∧ ((s {} 2).idFor a.identity).isSome = true) ∧
    (((s { mstate := 1, step := 3 } 2).member 255).step = 3 ∧ bit ((s {} 2).reg .zdp 0x104) 2 = false ∧
      bit ((s {} 6).reg .zdp 0x104) 2 = true ∧ (s {} 2).zdp.prep = none ∧ (s {} 2).zdp.transportKey.isSome = true) ∧
    (Claims.Writes (s {} 2) (.tenant 0) .zdp ∧ ((s { mstate := 2, sync := true } 2).member 255).sync = true ∧
      ((s { mstate := 2 } 2).member 255).sync = false ∧ ((s { mstate := 3 } 2).member 255).admitted = true ∧
      (s { mstate := 3 } 2).tally.entries = []) ∧
    ((linked {} {}).isManager = false ∧ (linked {} { mstate := 4 }).isWorker = true) ∧
    ((s { mstate := 5, session := true } 2).member 255).session = true ∧
    ((s { mstate := 5, lostAt := some 8 } 2).member 255).lostAt = some 8 := by
  unfold Claims.Writes Claims.Arrives
  decide +kernel
theorem witness_WorkerMembership :
    let s (z : Zdp) (r : Word) : State :=
      { linked { lstate := 5 } z with regs := put [(.rst, 0x104, 0x4001FF08), (.zdp, 0x104, r)] }
    let free := s {} 0
    let joining := s { mstate := mJoining, session := true } 1
    let member := s { mstate := mMember } 1
    let lost := s { mstate := mMember, lostManager := some 3, session := true } 1
    (free.isManager = false ∧ Claims.Writes free (.tenant 0) .zdp ∧ free.role = 0 ∧ free.zdp.mstate = 0 ∧ free.ent.central.live = true ∧
      free.ent.phase ≠ 4) ∧
    (field (1 : Word) 1 0 = 1 ∧ bit (1 : Word) 3 = false ∧ field (2 : Word) 1 0 = 2 ∧ field (3 : Word) 1 0 = 3 ∧ bit (9 : Word) 3 = true ∧
      field (9 : Word) 1 0 = 1) ∧
    (joining.isManager = false ∧ joining.zdp.mstate = mJoining ∧ joining.zdp.session = true ∧ (s { mstate := mJoining } 1).zdp.session = false) ∧
    (s { refusedAt := some 6 } 1).zdp.refusedAt = some 6 ∧
    (member.isManager = false ∧ member.role = 1 ∧ member.zdp.mstate = mMember ∧ member.zdp.lostManager = none) ∧
    (lost.zdp.lostManager = some 3 ∧ (lost.link 3).lstate = 5 ∧ lost.zdp.session = true ∧ lost.zdp.results = []) := by
  unfold Claims.Writes Claims.Arrives
  decide +kernel
theorem witness_ConstellationCommits :
    let c : Commit := { of := .scope .device, stage := .preparing, staged := [] }
    let p : Prepare := { waiting := [3, 255] }
    let s (x : Member) (p : Prepare) : State :=
      { linked {} { mstate := 5, members := [(3, { mstate := 3 }), (255, x)], prep := some p } with txn := { active := some c } }
    let w : State := linked {} { mstate := 4 }
    let o : State := (up []).setTxn .device { phase := .opened, id := 1 }
    let q : State := (linked {} { mstate := 4 }).setTxn .device { phase := .prepared, staged := [(Page.tly.key 0x11C, 0)] }
    let m (x : Member) : State := linked {} { mstate := 5, members := [(255, x)] }
    (Claims.Writes o .headframe .zdp ∧ (o.txnOf .device).phase = .opened ∧ (up []).txn.active = none) ∧
    ((m { mstate := 3 }).isManager = true ∧ ((m { mstate := 3 }).member 255).admitted = true) ∧
    (w.isWorker = true ∧ w.zdp.lostManager = none ∧ w.prepareFault (numPairs []) = none ∧ (w.txnOf .device).phase = .idle ∧
      (w.prepareFault (numPairs [Page.tly.key 0x118, 0])).isSome = true) ∧
    ((q.txnOf .device).phase = .prepared ∧ q.txn.epoch < 1 ∧ q.txn.active = none ∧ q.txn.waiting = [] ∧ q.isManager = false) ∧
    ((s {} p).zdp.prep = some p ∧ (s {} p).txn.active = some c ∧ p.sentCommit = false ∧ 255 ∈ p.waiting ∧ without p.waiting 255 ≠ [] ∧
      without [255] 255 = [] ∧ (s {} p).txn.waiting = [] ∧ ∀ d ∈ p.waiting, ((s {} p).member d).step ≠ 6) ∧
    (((s { step := 6 } { p with sentCommit := true }).member 255).step = 6 ∧
      ((s { mstate := 3, prepared := [1] } { p with sentCommit := true }).member 255).mstate = 3 ∧
      ((s { mstate := 4, full := true } { p with sentCommit := true }).member 255).full = true) ∧
    (Cells.risingFrom 0 (m { mstate := 3, polls := 1 }).zdp.members = true ∧ (m { mstate := 3, polls := 2 }).zdp.prep = none ∧
      ((m { mstate := 3, polls := 3 }).member 255).polls = 3 ∧ (m { mstate := 3 }).tally.entries = [] ∧
      (m { mstate := 3 }).txn.active = none ∧ 0 = (m {}).txn.epoch) := by
  unfold Claims.Writes Claims.Arrives
  decide +kernel

/-! ## Resets and boot -/

/-- A state with nothing in reset, its domains and boot phase as a value of `RST_STS` says. -/
def booted (sts : Word) (r : Rst) (b : List (Page × Nat × Word)) : State :=
  { up [] with regs := put ((.rst, 0x104, sts) :: b), rst := r }
theorem witness_Resets :
    let s := booted 0x4001FF08 { asserted := [] } [(.rst, 0x124, 1)]
    let a := booted 0x100 { asserted := [(2, true)] } []
    (s.lcc.phase ≠ 3 ∧ s.lcc.completing = false ∧ s.rst.asserted = [] ∧ s.released 2 = true ∧ s.released 7 = true) ∧
    (Claims.Writes s (.tenant 0) .rst ∧ field (1 : Word) 3 0 = 1 ∧ field (2 : Word) 3 0 ≠ 1) ∧
    (linked {} { mstate := 4 }).isWorker = true ∧ (bit (s.reg .rst 0x104) 31 = false ∧ s.cfgReady = true) ∧
    (a.rst.asserted = [(2, true)] ∧ a.released 1 = false) ∧
    (booted 0 { asserted := [(2, true), (7, true)] } []).rst.asserted = [(2, true), (7, true)] ∧
    (booted 0x300 { loading := true, safeLoad := true } []).rst.loading = true := by
  unfold Claims.Writes Claims.Arrives
  decide +kernel
theorem witness_DomainRelease :
    let r : Rst := { asserted := [], optionsDone := true, logRead := true, bistOk := true, keysDone := true }
    let c : State := { up [] with dgs := { cores := [(15, 0)] } }
    (booted 0x300 r []).mayRelease 2 = true ∧ (booted 0x7F00 r [(.rst, 0x140, 8)]).mayRelease 7 = true ∧
    (booted 0xFF00 r [(.rst, 0x140, 8)]).mayRelease 8 = true ∧
    ((booted 0x1F00 r [(.rst, 0x140, 8)]).mayRelease 5 = true ∧ (booted 0x1F00 { r with groups := 3 } [(.rst, 0x140, 8)]).mayRelease 5 = true) ∧
    (booted 0x300 r []).mayRelease 3 = false ∧
    (Claims.Writes (booted 0x4001FF00 r []) .headframe .rst ∧ (booted 0x4001FF00 r []).mayRequest 8 = true) ∧
    Claims.Writes (up []) (.tenant 0) .rst ∧ (up []).resetPending = false ∧ field (0xFFFF : Word) 31 16 = 0 ∧
    (∀ p ∈ (up []).dgs.cores, p.1 ≠ 15) ∧ (∃ p ∈ c.dgs.cores, p.1 = 15) := by
  unfold Claims.Writes Claims.Arrives
  decide +kernel

/-- The first 48 bytes of a boot header of firmware version 1 for an empty image. -/
def headerStart : Bytes := ascii "FVBI" ++ leBytes 2 1 ++ leBytes 2 0 ++ leBytes 4 1 ++ leBytes 4 0 ++ leBytes 4 0 ++ List.replicate 28 0
/-- The header for an image of that digest, its signatures of zeros. -/
def bootHeader (digest : Bytes) : Bytes := headerStart ++ (digest ++ List.replicate 4755 0)
theorem witness_headerOk (h : Config.holds (.signed sigBoot) [(bootHeader (List.replicate 48 0)).take 128,
    (bootHeader (List.replicate 48 0)).drop 128] = true) : (booted 0xF00 {} []).headerOk (bootHeader (List.replicate 48 0)) = true := by
  unfold State.headerOk
  simp only [h]
  decide +kernel
theorem test_sha384_length (b : Bytes) : (sha384 b).length = 48 := by
  unfold sha384 hashOf fit slice
  simp only [List.length_append, List.length_replicate]
  have : ∀ l : Bytes, (l.take 48).length ≤ 48 := fun l => by simp only [List.length_take]; omega
  exact Nat.add_sub_of_le (this _)
theorem witness_firmware :
    let s := booted 0xF02 { header := bootHeader (sha384 []) } []
    s.rst.header ≠ [] ∧ s.rst.fwLoaded = false ∧ ([] : Bytes).length = leField s.rst.header 16 4 ∧
      sha384 [] = slice s.rst.header 48 48 := by
  refine ⟨List.cons_ne_nil _ _, rfl, rfl, ?_⟩
  show sha384 [] = slice (bootHeader (sha384 [])) 48 48
  have d : (bootHeader (sha384 [])).drop 48 = sha384 [] ++ List.replicate 4755 0 := rfl
  unfold slice
  rw [d, List.take_left' (test_sha384_length [])]
  simp only [test_sha384_length, Nat.sub_self, List.replicate_zero, List.append_nil]
theorem witness_Boot :
    let s := booted 0xF00 {} []
    let p : Pack := {}
    let k := booted 0x7F06 { packs := [(1, p), (2, p)] } []
    let f := booted 0x1FF07 { bootCommitted := true } []
    let d : State := { booted 0x1F00 { fwLoaded := true } [] with lcc := { secretA := .key [1], state := 2 } }
    (s.avs.tripped = false ∧ s.released 3 = true ∧ s.rst.bistDone = false ∧ s.rst.stopped = false ∧ s.rst.fwLoaded = false ∧
      s.rst.header = [] ∧ s.hdf.wdtRun < 3 ∧ (s.flashOrder.drop s.rst.tried).head? = some false) ∧
    (s.headerOk [] = false ∧ s.rst.tried + 1 < s.flashOrder.length ∧ s.flashOrder.length ≤ (booted 0xF00 { tried := 1 } []).rst.tried + 1) ∧
    ((booted 0xF00 { header := [1] } []).rst.header ≠ [] ∧ [0].length ≠ leField (booted 0xF00 { header := [1] } []).rst.header 16 4) ∧
    ((booted 0xF09 { stopped := true } []).released 2 = true ∧ (booted 0xF09 { stopped := true } []).lcc.state ≠ 3) ∧
    (d.lcc.secret = some [1] ∧ d.rst.fwLoaded = true ∧ d.released 4 = true ∧ d.rst.keysDone = false ∧ d.lcc.state = 2) ∧
    ((booted 0xFF05 {} []).released 7 = true ∧ (booted 0xFF05 {} []).cfgReady = false) ∧
    (k.rst.packs[0]? = some (1, p) ∧ k.bootPhase = 6 ∧ k.rst.packNext = 0 ∧ 0 + 1 < k.rst.packs.length ∧ k.outOfService (.stp 0) = false) ∧
    (f.bootPhase = 7 ∧ f.rst.bootCommitted = true) ∧
    ({ d with txn := { recordPending := true } } : State).txn.recordPending = true := by
  decide +kernel
theorem witness_ownerSlot : let r : OwnerRec := { epoch := 1, values := [] }
    (booted 0 { ownerA := some r } []).rst.ownerA = some r := rfl
theorem witness_PersistRestore :
    let key : Bytes := List.replicate 32 7
    let o : Obj := { present := true, attr := { kind := 1, alg := 0x1201, usage := 1, persist := true } }
    let r (ok : Bool) : KeyRecord := { handle := 0x00010000, seq := 1, marker := false, obj := o, under := key, tagOk := ok }
    let s (ok : Bool) : State := { booted 0x1F04 { fwLoaded := true } [] with
      lode := { storageKey := some key, maskKey := some key, records := [r ok] } }
    (s true).released 4 = true ∧ (s true).restoring = true ∧ (s true).lode.records = [r true] ∧ (r true).under = key ∧
    (s true).tally.entries = [] ∧ (r true).marker = false ∧ (r false).tagOk = false ∧ (s false).lode.records = [r false] ∧
    ({ booted 0x1F04 { fwLoaded := true } [] with lode := { maskKey := some key } } : State).restoring = true := by
  decide +kernel

/-! ## Life cycle, attestation -/

theorem test_sha3_length (b : Bytes) : (sha3 b).length = 32 := by
  unfold sha3 hashOf fit slice
  simp only [List.length_append, List.length_replicate]
  have : ∀ l : Bytes, (l.take 32).length ≤ 32 := fun l => by simp only [List.length_take]; omega
  exact Nat.add_sub_of_le (this _)
/-- The state with a life-cycle controller of its own. -/
def living (x : Lcc) : State := { up [] with lcc := x }
theorem witness_LifeCycleTokens :
    let tok := sha3 (List.replicate 32 0)
    let blank := living { tok1 := tok }
    let test := living { state := 1, tok2 := tok }
    let prod := living { state := 2, tok3a := tok, ownState := 1 }
    let wrong := living { state := 2, tok3a := [] }
    (sha3 (wrong.regBytes .lcc 0x104) ≠ [] ∧ wrong.lcc.tokenFor 3 = some []) ∧
    (blank.lcc.tokenFor 1 = some (sha3 (blank.regBytes .lcc 0x104)) ∧ test.lcc.tokenFor 2 = some (sha3 (test.regBytes .lcc 0x104)) ∧
      prod.lcc.tokenFor 3 = some (sha3 (prod.regBytes .lcc 0x104))) ∧
    (sha3 (prod.regBytes .lcc 0x104) = (if prod.lcc.tok3Flag then prod.lcc.tok3b else prod.lcc.tok3a)) := by
  have z : ∀ x : Lcc, (living x).regBytes .lcc 0x104 = List.replicate 32 0 := fun _ =>
    (show (up []).regBytes .lcc 0x104 = _ by decide +kernel)
  simp only [z]
  refine ⟨⟨fun h => ?_, rfl⟩, ⟨rfl, rfl, rfl⟩, rfl⟩
  have := congrArg List.length h
  rw [test_sha3_length] at this
  exact absurd this (by decide)
theorem witness_LifeCycleCommands :
    let p (w : Word) : LcCopy := { w1 := w }
    let run (n : Nat) (l : List LcCopy) : State := living { copies := l, cmd := 1, phase := 3, nextCopy := n }
    let two : List LcCopy := [p (lcPattern 1), p (lcPattern 1), {}, {}, {}]
    let four : List LcCopy := [p (lcPattern 1), p (lcPattern 1), p (lcPattern 1), p (lcPattern 1), {}]
    let locked := living { lockout := some 5 }
    (Claims.Writes (living {}) (.tenant 0) .lcc ∧ Claims.Idle (living {}) ∧ (living {}).copyFrom 0 1 false ≠ 5 ∧
      (living {}).lcc.secretA = .blank ∧ (living {}).ent.central.live = true ∧ (living {}).ent.phase ≠ 4) ∧
    ((living { state := 1 }).copyFrom 0 2 false ≠ 5 ∧ (living { state := 2 }).copyFrom 0 3 false ≠ 5 ∧
      (living { state := 3 }).lcc.tokenFor 1 = none ∧ (living { state := 2, ownState := 1 }).lcc.tok3Written = false) ∧
    ((run 2 two).lccBusy = true ∧ locked.lccBusy = false ∧ locked.lcc.lockout = some 5 ∧ locked.stamp < 5 + 1000000000) ∧
    ((run 2 two).lcc.completing = false ∧ (run 2 two).lcc.copies.length = 5 ∧
      (nthD ((run 2 two).programCopy 2 1 (lcPattern 1)).lcc.copies 2 {}).reads = some 1 ∧
      ((run 2 two).programCopy 2 1 (lcPattern 1)).copyFrom 3 1 false < 5) ∧
    ((nthD ((run 4 four).programCopy 4 1 (lcPattern 1)).lcc.copies 4 {}).reads = some 1 ∧
      ((run 4 four).programCopy 4 1 (lcPattern 1)).copyFrom 5 1 false = 5 ∧
      3 ≤ ((run 4 four).programCopy 4 1 (lcPattern 1)).copiesAt 1 ∧ ∀ q ∈ (run 4 four).rst.asserted, q.1 ≠ 8) := by
  unfold Claims.Writes Claims.Arrives Claims.Idle
  decide +kernel
/-- A PRODUCTION device of an ownership state, an ownership blob of `n` bytes in host memory at 1000h. -/
def owned (o : Nat) (n : Word) : State :=
  { up [(.lcc, 0x154, 0x1000), (.lcc, 0x15C, n)] with
    fns := [(0, { enabled := true, bme := true })], lcc := { state := 2, ownState := o, ownPub := [1], ownCount := 63, secretA := .key [1] } }
theorem witness_OwnOpen : Claims.OwnOpen (owned 0 2592) 1 ∧ Claims.OwnOpen (owned 1 7219) 2 ∧ Claims.OwnOpen (owned 1 4627) 3 ∧
    Claims.OwnOpen (owned 2 2672) 4 := by
  unfold Claims.OwnOpen Claims.Idle
  refine ⟨?_, ?_, ?_, ?_⟩ <;>
    exact ⟨by decide +kernel, by decide +kernel, by decide +kernel, by decide +kernel, by decide +kernel, by decide +kernel, by decide +kernel, nofun, nofun⟩
theorem witness_Ownership :
    Claims.Writes (owned 0 2592) (.tenant 0) .lcc ∧ (Claims.ownBlob (owned 0 2592)).length = 2592 ∧
    (Claims.ownBlob (owned 1 7219)).length = 2592 + 4627 ∧ (Claims.ownBlob (owned 1 4627)).length = 4627 ∧
    (Claims.ownBlob (owned 1 4627)).length ≠ 2592 ∧
    ((linked {} { mstate := 4 }).isWorker = true ∧ Claims.Idle (linked {} { mstate := 4 }) ∧ (living {}).lcc.state ≠ 2) := by
  unfold Claims.Writes Claims.Arrives Claims.Idle
  decide +kernel
/-- An ownership record of an owned device, its counter at 63, before its MAC. -/
def recordHead : Bytes := ascii "FVOW" ++ leBytes 2 1 ++ leBytes 2 1 ++ leBytes 8 63 ++ List.replicate 2624 0
theorem witness_ownRecord : let r := (owned 2 2672).ownRecOf (recordHead ++ ownerMac [1] recordHead)
    r.macOk = true ∧ r.count = (owned 2 2672).lcc.ownCount := by
  have l : recordHead.length = 2640 := by decide +kernel
  have m : (ownerMac [1] recordHead).length = 32 := by
    unfold ownerMac kmac32 fit slice
    simp only [List.length_append, List.length_replicate]
    have : ∀ l : Bytes, (l.take 32).length ≤ 32 := fun l => by simp only [List.length_take]; omega
    exact Nat.add_sub_of_le (this _)
  have k : (owned 2 2672).lcc.secret = some [1] := by decide +kernel
  have h : ∀ n w : Nat, n + w ≤ 2640 → slice (recordHead ++ ownerMac [1] recordHead) n w = slice recordHead n w := fun n w q => by
    unfold slice
    rw [List.drop_append_of_le_length (by omega), List.take_append_of_le_length (by rw [List.length_drop]; omega)]
  have t : slice (recordHead ++ ownerMac [1] recordHead) 2640 32 = ownerMac [1] recordHead := by
    unfold slice
    rw [List.drop_left' l, ← m, List.take_length]
    simp only [m, Nat.sub_self, List.replicate_zero, List.append_nil]
  have a : slice recordHead 0 4 = ascii "FVOW" ∧ ofLe (slice recordHead 4 2) = 1 ∧ ofLe (slice recordHead 8 8) = 63 := by decide +kernel
  refine ⟨?_, ?_⟩
  · simp only [State.ownRecOf, leField, k, t, h 0 4 (by decide), h 4 2 (by decide), a, List.take_left' l, List.length_append, l, m, beq_self_eq_true,
      Bool.and_true]
  · simp only [State.ownRecOf, leField, h 8 8 (by decide), a]
    decide
/-- A debug authorisation of a level for a challenge of zeros and the device identity of zeros, its signature of zeros. -/
def authBlob (level signer : Nat) : Bytes :=
  ascii "FVDA" ++ leBytes 2 1 ++ leBytes 1 level ++ leBytes 1 signer ++ List.replicate 32 0 ++ List.replicate 32 0 ++ leBytes 4 60 ++
    leBytes 4 0 ++ List.replicate 4627 0
theorem witness_DebugAndJtag :
    let c : Lcc := { state := 2, devid := List.replicate 32 0, challenge := some (List.replicate 32 0), ownState := 1 }
    let s := living c
    let g := living { c with grant := 2, validity := 60 }
    (s.released 2 = true ∧ Claims.Writes s (.tenant 0) .lcc ∧ s.lccBusy = false ∧ s.entReady = true ∧ s.ent.central.live = true) ∧
    (s.authFields (authBlob 1 1) = true ∧ s.authFields (authBlob 3 2) = true ∧ s.authFields [] = false ∧ leField (authBlob 2 1) 6 1 ≠ 3) ∧
    (g.lcc.grant ≠ 0 ∧ g.lcc.scanUsed = false ∧ (living { g.lcc with scanUsed := true }).lcc.scanUsed = true ∧
      ∀ q ∈ g.rst.asserted, q.1 ≠ 8) ∧
    s.lcc.challenge = some (List.replicate 32 0) ∧ 2 ≤ g.debugLevel ∧ s.debugLevel < 2 := by
  unfold Claims.Writes Claims.Arrives
  decide +kernel
theorem witness_Attestation :
    let x (n m : Nat) : Spdm := { step := n, session := m }
    let s (n m : Nat) : State := { living { state := 2, certA := [1], certDig := sha3 [1] } with
      fns := [(255, { enabled := true })], spdms := [(255, x n m)]
      lode := { restoreDone := true, identityKey := some [2], attestKey := some [3] } }
    ((up []).spdmOpen 0 = false ∧ (s 0 0).spdmOpen 255 = true) ∧ ((s 0 0).spdm 255).step = 0 ∧
    (1 ≤ ((s 1 0).spdm 255).step ∧ 2 ≤ ((s 2 0).spdm 255).step ∧ 3 ≤ ((s 3 0).spdm 255).step) ∧
    ((s 3 0).lode.attestKey = some [3] ∧ (s 3 0).ent.central.live = true ∧ (s 3 0).ent.phase ≠ 4) ∧
    (((s 3 1).spdm 255).session = 1 ∧ ((s 3 0).spdm 255).session ≠ 1 ∧ ((s 3 2).spdm 255).session = 2) ∧ (living {}).certChain.isNone = true := by
  refine ⟨by decide +kernel, by decide +kernel, by decide +kernel, by decide +kernel, by decide +kernel, ?_⟩
  simp [State.certChain, living, up]
theorem witness_certChain :
    ({ living { state := 2, certA := [1], certDig := sha3 [1] } with
       lode := { restoreDone := true, identityKey := some [2], attestKey := some [3] } } : State).certChain.isSome = true := by
  simp [State.certChain, living, Lcc.certificate]

/-! ## Canary, events, the monitor -/

/-- The state with a Canary of its own. -/
def guarded (c : Canary) : State := { up [] with cny := c }
theorem witness_TamperDetection :
    let e (cls : Nat) : CnyEntry := { bclk := 1, src := 0, cls := cls, backup := true, processed := false, counted := false, cause := 0, seq := 0, detail := 0 }
    let s (x : Loop) (n : Nat) : State := { up [(.cny, 0x134, 0x100FF), (.cny, 0x138, 0xF)] with cny := { loops := [(n, x)] } }
    let bad : Loop := { recent := [true, false, false, false], cause := 1 }
    let at_ (a : Word) : State := up [(.cny, 0x150, a)]
    let p (c : Nat) : State := guarded { sealed := true, log := [e c] }
    ((up []).cnyMain = true ∧ (up []).cny.batLow = false ∧ (2399 : Nat) < 2400) ∧
    ((s bad 7).loopBad 7 = true ∧ ((s bad 7).loop 7).raised = false ∧ (s bad 11).loopBad 11 = true ∧
      ((s { raised := true } 7).loop 7).raised = true) ∧
    (bit (up []).cny.srcAct 0x0C = false ∧ bit (up []).cny.srcAct 0x14 = false ∧ (up []).cny.vbatGone = false) ∧
    (bit (guarded { srcAct := 0x80001000 }).cny.srcAct 12 = true ∧ bit (guarded { srcAct := 0x80001000 }).cny.srcAct 31 = true ∧
      bit ((guarded {}).reg .cny 0x144) 8 = false ∧ ((guarded {}).loop 31).raised = false) ∧
    (Claims.Writes (at_ 0x400) (.tenant 0) .cny ∧ bit (1 : Word) 0 = true ∧ (living { state := 2 }).lcc.state = 2 ∧
      (up []).lcc.state ≠ 2) ∧
    ((at_ 0x400).regField .cny 0x150 11 2 * 4 = 0x400 ∧ (at_ 0x7FC).regField .cny 0x150 11 2 * 4 < 0x800 ∧
      (at_ 0x3FC).regField .cny 0x150 11 2 * 4 < 0x400 ∧ 0x800 ≤ (at_ 0x800).regField .cny 0x150 11 2 * 4 ∧
      (at_ 0xBFC).regField .cny 0x150 11 2 * 4 < 0xC00 ∧ 0xC00 ≤ (at_ 0xC00).regField .cny 0x150 11 2 * 4) ∧
    (∀ c < 6, (p c).rst.logRead = false ∧ (p c).cny.sealed = true ∧ (p c).cny.detected = [] ∧ (p c).cny.logLost = (p c).cny.lostCounted ∧
      (p c).cny.log = [e c] ∧ (p c).cny.tctr < 2048) ∧
    (∀ e ∈ (up []).cny.log, e.processed = true) ∧ (booted 0 { logRead := true } []).rst.logRead = true := by
  unfold Claims.Writes Claims.Arrives
  decide +kernel
theorem witness_AlarmSequence :
    let a (cls : Nat) : AlarmEvent := { src := 5, cls := cls, detected := 0, cause := 0 }
    let s (cls : Nat) (phase : Nat) (scrubbed : Bool) : State :=
      guarded { held := true, phase := phase, scrubbed := scrubbed, inForce := [(5, cls)] }
    (∀ c < 6, (guarded { detected := [a c] }).cny.detected = [a c] ∧ (guarded { detected := [a c] }).lcc.phase ≠ 3 ∧
      (guarded { detected := [a c] }).cny.phase = 0 ∧ (guarded { detected := [a c] }).cny.inForce = []) ∧
    ((s 3 2 false).cny.phase = 2 ∧ (∀ q ∈ (s 3 2 false).tally.entries, q.2.state ≠ .dispatched) ∧ (s 3 2 false).alarmClass = 3 ∧
      4 ≤ (s 4 2 false).alarmClass ∧ (s 4 2 false).cny.zeroised = false) ∧
    ((s 4 3 true).cny.phase = 3 ∧ (s 4 3 true).cny.scrubbed = true ∧ (s 4 3 true).cny.shut = false ∧ (s 4 3 true).isManager = false ∧
      (s 4 3 true).isWorker = false ∧ (s 4 3 true).zdp.mstate = 0 ∧ (s 4 3 true).alarmClass = 4 ∧ 5 ≤ (s 5 3 true).alarmClass) ∧
    ((s 2 5 false).mayReleaseHold = true ∧ (s 2 5 false).alarmClass < 4 ∧ (s 3 2 false).mayReleaseHold = false ∧
      Claims.Writes (s 2 5 false) (.tenant 0) .cny ∧ (up []).cny.held = false ∧ (up []).cny.phase = 0 ∧ (up []).cny.inForce = [] ∧
      (guarded { inForce := [(0x19, 1)] }).cny.inForce ≠ [] ∧ (guarded { inForce := [(0x19, 1)] }).alarmClass < 4) ∧
    (let d : State := { s 4 3 true with lcc := { waiting := some (2, 60) } }; d.lcc.waiting = some (2, 60) ∧ d.cny.held = true) := by
  unfold Claims.Writes Claims.Arrives
  decide +kernel
theorem witness_EventDelivery :
    let r : EventRec := { kind := 1, cls := 0, tenant := 0xFF, block := 0, unit := 0, seq := 9, detail0 := 0, stamp := 0, detail1 := 0 }
    let s (h : Hdf) : State := { up [(.hdf, 0x108, 9)] with hdf := h }
    ((s { offered := [9], inFlight := some 9, mctpOn := false }).released 2 = true ∧ 9 ∈ (s { offered := [9] }).hdf.offered ∧
      8 ∉ (s { offered := [9] }).hdf.offered) ∧
    ((s { inFlight := some 9, tries := 2 }).hdf.tries < 3 ∧ 3 ≤ (s { inFlight := some 9, tries := 3 }).hdf.tries ∧
      (∀ r ∈ (s {}).hdf.log, r.seq < (s {}).hdf.nextSend) ∧ (s {}).hdf.inFlight = none) ∧
    ((s {}).onBus (.tenant 0) = true ∧ (Requester.tenant 0).reaches .hdf = true ∧ (s {}).dir.published.contains .hdf = false) ∧
    (s { log := [r], nextSeq := 10 }).hdf.record ((s {}).reg .hdf 0x108).toNat = some r ∧
    (s {}).hdf.record ((s {}).reg .hdf 0x108).toNat = none := by
  decide +kernel
theorem witness_PerformanceMonitor :
    let y : Entry := { state := .dispatched, desc := descOf 0x1301 }
    let r : Run := { benchRun with stope := 63 }
    let s (x : Sampler) : State := { up [] with
      engs := [(63 * 16 + 15, { mode := 1, run := some 0 })], runs := [(0, r)], tally := { entries := [(0, y)] }, samplers := [(63, x)] }
    let b : Bytes := List.replicate 32 0
    (monitorExists none = true ∧ monitorExists (some 0) = true ∧ Claims.Writes (up []) (.tenant 0) (monitorPage (some 0)) ∧
      Claims.Writes (up []) (.tenant 0) .pmu) ∧
    (bit (1 : Word) 0 = true ∧ bit ((up []).reg (monitorPage none) 0x104) 0 = false ∧ bit (0 : Word) 0 = false) ∧
    (field (0x80001 : Word) 20 19 ∈ eventScopes 1 ∧ field (0x1 : Word) 20 19 ∉ eventScopes 1 ∧
      bit ((up []).reg (monitorPage none) 0x140) 31 = false ∧ bit ((up [(.pmu, 0x140, 0x80000000)]).reg .pmu 0x140) 31 = true) ∧
    ((up []).maySample (monitorPage none) 63 = true ∧ (up []).maySample (monitorPage (some 0)) 63 = false) ∧
    (let x : Sampler := { active := true, interval := 4, words := 4 }
     ((s x).eng 63 15).run = some 0 ∧ (s x).entry 0 = some y ∧ (s x).run 0 = some r ∧ ((s x).eng 63 15).slot = 0 ∧
      ((s x).eng 63 15).mode = 1 ∧ ((s x).sampler 63) = x ∧ x.tagged = none ∧ x.stoppedFull = false) ∧
    (((s { tagged := some b }).sampler 63).tagged = some b ∧ ((s { tagged := some b }).sampler 63).entries.length < 128 ∧
      128 ≤ ((s { tagged := some b, entries := List.replicate 128 b }).sampler 63).entries.length) ∧
    ((1 : Word) &&& 0xFFFFF#32 ≠ (up []).reg .pmu 0x244 ∧ (1 : Word) &&& 0xFF#32 ≠ (up []).reg .pmu 0x240 ∧
      (0 : Word) &&& 0xFF#32 = (up []).reg .pmu 0x240) ∧
    ((up []).onBus (.tenant 0) = true ∧ (Requester.tenant 0).reaches .pmu = true ∧ (up []).dir.published.contains .pmu = false) := by
  unfold Claims.Writes Claims.Arrives
  decide +kernel
theorem witness_LifeCycleVote :
    let c (w : Word) : LcCopy := { w1 := w }
    let t := lcPattern 1
    let s (l : List LcCopy) : State := { booted 0x300 { loading := true } [] with lcc := { copies := l } }
    ((s []).rst.loading = true ∧ (s [c t, c t, c t, {}, {}]).lcc.copies.length = 5 ∧ Claims.majority [c t, c t, c t, {}, {}] 1) ∧
    (∀ n < 4, ¬Claims.majority [c t, c t, {}, {}, c 2] n) ∧
    [c 2, c 2, c 2, c 2, c 2].filterMap LcCopy.reads = [] := by
  unfold Claims.majority
  decide +kernel
theorem witness_EpochReads : (up []).mayRead (.tenant 0) (Scope.tenant 0).page = true ∧ (Scope.tenant 0).page.exists = true ∧
    (up []).mayRead (.tenant 0) Scope.device.page = true ∧ (up []).latches = [] ∧
    ∃ u : State, u.latches = (up []).latches ∧ u.txn.epoch = 9 ∧ u.mayRead (.tenant 0) (Scope.tenant 0).page = true :=
  ⟨by decide +kernel, by decide +kernel, by decide +kernel, rfl, { up [] with txn := { epoch := 9 } }, rfl, rfl, by decide +kernel⟩
theorem witness_RecordsWaitForASlot :
    let x : Entry := {}
    let s (h : Nat) : State := { up [] with
      fns := [(0, { enabled := true, bme := true })], cqs := [(0, { en := true, cfg := 2, tail := 3, hostHead := h })], tally := { entries := [(0, x)] } }
    ((s 0).entry 0 = some x ∧ x.state = .queued ∧ x.parent = none ∧ x.spilled = none ∧ x.resv = none ∧ x.index = none ∧
      ((s 0).fn 0).bme = true ∧ (s 0).cq 0 0 = { en := true, cfg := 2, tail := 3, hostHead := 0 }) ∧
    (((s 0).cq 0 0).tail + 1) % queueSize 2 ≠ ((s 1).cq 0 0).hostHead % queueSize 2 ∧
    (((s 0).cq 0 0).tail + 1) % queueSize 2 = ((s 0).cq 0 0).hostHead % queueSize 2 := by
  decide +kernel
theorem witness_Canonical : (up []).Canonical ∧ ∃ t, step (up []) = .next t := ⟨by unfold State.Canonical; decide +kernel, _, rfl⟩

/-! ## Values worked out by hand from the spec -/

/-- The next state, if there is one. -/
def after (i : Instr) (s : State) : State := match exec i s with | .next t => t | _ => {}
/-- Engine 0 of Stope 0 at a slot of a whole issue word, written out, with registers of its own. -/
def atWord (slot : Nat) (w : Nat) (r : Regs) : State :=
  { bench slot [] w with engs := [(0, { mode := 1, run := some 0, slot := slot, regs := r, old := r })] }
/-- A word with DIVU s5, s2, s3 in its S slot (R321, R345): opcode 0D at [119:112], sd 5 at [111:107], sa 2, sb 3; the divisor is 0 (R326). -/
theorem test_divu_by_zero : ((after (.divu 0 0) (atWord 0 0x000D2886000000000000000000000000 { s := [(2, 7)] })).eng 0 0).regs.getS 5 =
    0xFFFFFFFFFFFFFFFF := by decide +kernel
/-- REMU, opcode 0E, by 0: the dividend (R326). -/
theorem test_remu_by_zero : ((after (.remu 0 0) (atWord 0 0x000E2886000000000000000000000000 { s := [(2, 7)] })).eng 0 0).regs.getS 5 = 7 := by
  decide +kernel
/-- ADDI s5, s2, −1: IMM22 is 3FFFFF, two's complement (R345). -/
theorem test_addi_negative : ((after (.addi 0 0) (atWord 0 0x001028BFFFFF00000000000000000000 { s := [(2, 3)] })).eng 0 0).regs.getS 5 = 2 := by
  decide +kernel
/-- SRA s2, s2, s3: the source is also the destination, the sign is kept. -/
theorem test_sra_sign : ((after (.sra 0 0) (atWord 0 0x00081086000000000000000000000000 { s := [(2, 0xFFFFFFFFFFFFFF00), (3, 68)] })).eng 0 0).regs.getS 2 =
    0xFFFFFFFFFFFFFFF0 := by decide +kernel
/-- BLT s2, s3, +2 (R345, R349): with s2 = −1 and s3 = 0 the relation is signed, and the next word is PC + 2. -/
theorem test_blt_signed : ((after (.blt 0 0) (atWord 0 0x003210C0000200000000000000000000 { s := [(2, 0xFFFFFFFFFFFFFFFF)] })).eng 0 0).npc = 2 := by
  decide +kernel
/-- VADD v1, v2, v3 in the V slot, bits [79:40]: lane 0 wraps (R352). -/
theorem test_vadd_wraps : (((after (.vadd 0 0) (atWord 1 0x00000000000001088600000000000000
    { v := [(2, 0x00000005FFFFFFFF), (3, 0x0000000600000002)] })).eng 0 0).regs.getV 1).take 3 = [1, 11, 0] := by decide +kernel
/-- The 64 bytes of a descriptor (R71), each byte its own number: a field starts with its offset. -/
theorem test_descriptor_fields : let d := Machine.descOf ((List.range 64).map fun k => BitVec.ofNat 8 k)
    d.opcode = 0x0100 ∧ d.options = 2 ∧ d.flags = 3 ∧ d.key = 0x07060504 ∧ d.key2 = 0x0B0A0908 ∧ d.qseq = 0x0F0E0D0C ∧
    d.tag = 0x1716151413121110 ∧ d.inAddr = 0x1F1E1D1C1B1A1918 ∧ d.inLen = 0x23222120 ∧ d.auxLen = 0x27262524 ∧
    d.outAddr = 0x2F2E2D2C2B2A2928 ∧ d.outCap = 0x33323130 ∧ d.deadline = 0x37363534 ∧ d.auxAddr = 0x3F3E3D3C3B3A3938 := by decide +kernel
/-- A completion record (R79): VERIFY_REJECT, SQ 3, stamp 0102h, SQ_HEAD 5, PHASE 1. -/
theorem test_record_layout : let x : Entry := { desc := { tag := 0x1122 }, sq := 3, status := .verifyReject, stamp := 0x0102 }
    x.record 5 true = [0x22, 0x11, 0, 0, 0, 0, 0, 0, 0x10, 0, 3, 0, 0, 0, 0, 0, 2, 1, 0, 0, 0, 0, 0, 0, 0, 0, 0, 0, 5, 0, 1, 0] := by decide +kernel
/-- A cycle of SYS_CLK is 40 ns (R18). -/
theorem test_tick : State.reset.tick.stamp = 40 := by decide +kernel
/-- The vote over the five copies (R460): three of PRODUCTION against two of TEST. -/
theorem test_vote : lcVote [{ w1 := 0x5A5AA5A5, w2 := 0x3C3CC3C3 }, { w1 := 0x5A5AA5A5 }, { w2 := 0x3C3CC3C3 }, { w2 := 0x3C3CC3C3 },
    { w1 := 0x5A5AA5A5 }] = some 2 := by decide +kernel
/-- A power-on reset is the cause 1, and the only one of the log (R436). -/
theorem test_reset_cause : State.reset.regField .rst 0x100 3 0 = 1 ∧ State.reset.regField .rst 0x100 31 16 = 2 := by decide +kernel
/-- No opcode-table row has bits: no word spells a command. -/
theorem test_decode_none : decodeTableWord 32 0 = none := rfl
/-- The front command runs, the rest waits. -/
theorem test_step_front : step { State.reset with pending := [.idcode, .bypass] } =
    exec .idcode { State.reset with pending := [.bypass] } := rfl

/-! ## Ill-formed commands are refused -/

theorem test_illformed :
    (Instr.registerWrite (.tenant 256) 0 0 4 0).wf = false ∧ (Instr.registerWrite (.tenant 0) 0 0 3 0).wf = false ∧
    (Instr.registerWrite (.tenant 0) 0 0x1000000 4 0).wf = false ∧ (Instr.rwsWrite (.tenant 0) (.stp 64) 0 0).wf = false ∧
    (Instr.rwsWrite (.tenant 0) .hdf 2 0).wf = false ∧ (Instr.txnTimeout (.tenant 256)).wf = false ∧ (Instr.pageApply (.shf 8)).wf = false ∧
    (Instr.dispatch 262144 .none).wf = false ∧ (Instr.dispatch 0 (.stope 0 2 2)).wf = false ∧ (Instr.dispatch 0 (.stope 64 0 0)).wf = false ∧
    (Instr.dispatch 0 (.shaft 8)).wf = false ∧ (Instr.eccThreshold (.core 16)).wf = false ∧
    (Instr.dmaReadFailure (.descriptor 0 64)).wf = false ∧ (Instr.handshake (.link 4) true [] []).wf = false ∧
    (Instr.addS 64 0).wf = false ∧ (Instr.vadd 0 16).wf = false ∧ (Instr.caseEvent 4).wf = false ∧ (Instr.loopEvent 8).wf = false ∧
    (Instr.getVersion 258).wf = false ∧ (Instr.zdpCredit 0 3 0).wf = false ∧ (Instr.drbgRequestServed 65).wf = false ∧
    (Instr.zdpCommit (2 ^ 64)).wf = false ∧ (Instr.dgsDinWrite (.tenant 0) 256 0 true).wf = false ∧ (Instr.domainRelease 9).wf = false ∧
    (Instr.pmuFreeze .headframe (some 256) 0).wf = false ∧ (Instr.newchal (some (.tenant 256))).wf = false ∧
    (Instr.bistDone [.stp 64] [] [] false).wf = false ∧ (Instr.msixUnmask 0 65).wf = false ∧ (Instr.keyMessage (2 ^ 32) []).wf = false := by
  decide +kernel
theorem test_wellformed : (Instr.dispatch 262143 (.stope 63 8 3)).wf = true ∧ (Instr.registerWrite .headframe 255 0xFFFFFC 8 0).wf = true ∧
    (Instr.caseEvent 3).wf = true ∧ (Instr.barS 63 15).wf = true := by decide +kernel

/-! ## Further premises -/

theorem witness_FlashStoreClauses :
    let key : Bytes := List.replicate 32 1
    let m : StoreWrite := { stored with entry := none, marker := true }
    let u : State := { up [] with lode := { writes := [stored, { m with handle := 2 }], storageKey := some key },
                                  tally := { entries := [(0, { state := .dispatched, await := .keyRecord })] } }
    let c : State := { State.reset with tally := { entries :=
      [(0, { state := .dispatched, await := .kids, kids := 1, order := 7 }),
       (1, { state := .dispatched, started := true, parent := some 0, spillToken := 7, leaves := [3] })] } }
    let b := withLode { objs := [(0, { stf := some { cache := 1, cacheBy := some 7 } })] }
    (u.lode.writes.find? (fun w => w.handle == 2 && !w.failed)).map (fun w => w.marker) = some true ∧
    (u.drawCentral 3 12).2.isSome = true ∧ u.lode.staged.any (fun g => g.entry == 0) = false ∧
    (((c.entry 1).map fun x => x.leaves) = some [3] ∧ ((c.freeEntry 1).entry 0).map (fun x => x.order) = some 7) ∧
    ((b.obj 0).stf = some { cache := 1, cacheBy := some 7 } ∧ b.entriesWhere (fun x => x.await == .cache 0) = []) ∧
    (∀ n ∈ List.range 1024, (up []).slotOwner n = none → (up []).inForce n = none) ∧
    (withLode { leaseActive := some lease }).lode.leaseActive = some lease ∧ lease.tries < 2 ∧
    (∀ q ∈ (up []).zdp.purges, q.2.2 ≠ some 0) := by
  decide +kernel

/-- Errors in memories that are in use. -/
theorem witness_MemoryErrors :
    let s : State := { bench 0 [] 0 with
      lode := { objs := [(0, { present := true, pinGran := 1 })] }, fns := [(0, { enabled := true })], ctxs := [(0, { state := 1 })] }
    (s.eng 0 0).run.isSome = true ∧ (s.run 0).isSome = true ∧ (s.obj 0).present = true ∧ (s.obj 0).pinGran ≠ 0 ∧
    (s.entry 0).isSome = true ∧ (s.ctx 0 0).working = true := by
  decide +kernel

theorem witness_TransactionClauses :
    let s := inTxn .opened 1 5
    let x := s.txnOf (.tenant 0)
    let expiry (s : State) : Nat := x.openedAt + Nat.max 100 (s.regField (Scope.tenant 0).page 0x114 23 0) * 1000
    s.stamp < expiry s ∧ expiry { s with stamp := 2 ^ 40 } ≤ ({ s with stamp := 2 ^ 40 } : State).stamp ∧
    ({ s with zdp := { mstate := 4 } } : State).isWorker = true ∧ x.overflow = false ∧ (6 : Word).toNat ≠ x.id ∧
    ({ of := .scope .device, stage := .awaitDigest, staged := [] } : Commit).supplied = false ∧ s.zdp.quarantined = false := by
  decide +kernel

theorem witness_ListsOfADescriptor :
    let s : State := { fetchable 0xF0 0 with host := [(1, 0xF0), (3, 16), (0x20, 8)] }
    let w : Entry := { desc := { descOf 0xA001 with flags := 16, inLen := 8 } }
    let v : State := { up [] with fns := [(0, { enabled := true, bme := true })], tally := { entries := [(0, w), (1, { w with tenant := 1 })] } }
    ((Claims.headDesc s 0 0).sgl = true ∧ (Claims.headDesc s 0 0).inLen ≠ 0) ∧
    (v.entry 0 = some w ∧ w.sglDone = false ∧ (v.fn 0).bme = true ∧ (v.fn 1).bme = false) := by
  decide +kernel

theorem witness_FenceAndDispatchHeld :
    let f : Entry := { state := .queued, sglDone := true, desc := descOf 0xF100, covers := [(0, 1)], sub := 1, order := 1 }
    let s : State := { up [] with sqs := [(0, { fetched := 1 })], tally := { entries := [(1, f)] } }
    s.dispatchHeld = false ∧ (∀ c ∈ f.covers, ∀ p ∈ s.tally.entries, p.2.sq = c.1 → p.2.sub < c.2 → p.2.order = f.order) := by
  decide +kernel

theorem witness_SluiceData :
    let w : Entry := { desc := { descOf 0xA001 with auxLen := 4, inLen := 4 }, sluice := .waiting }
    let h : Entry := { w with state := .dispatched, sluice := .hashing 0 }
    let r : Run := { benchRun with handed := [1] }
    let s : State := { up [] with fns := [(0, { enabled := true, bme := true })], tally := { entries := [(0, w), (1, h)] }, runs := [(1, r)] }
    (s.dmaOk w = true ∧ w.state ≠ .dispatched) ∧ (s.run 1 = some r ∧ r.handed ≠ [] ∧ s.dmaOk h = true) ∧ s.run 0 = none ∧
    (s.sluiceFinding .dsaSign { w with desc := descOf 0x2101 (auxLen := 300) } []).isSome = true := by
  decide +kernel

/-- A blob of a key for a worker. -/
def keyBlob : Bytes := ascii "FVKW" ++ [1, 0, 0x81, 0, 32, 0, 0, 0] ++ [0, 0, 0, 0] ++ aesAttr ++ List.replicate 60 0
theorem witness_KeyMessage (tk : Bytes) (ht : kekIdOf 1 { secret := tk } = [0, 0, 0, 0]) :
    let b := blobOf 0x81 keyBlob
    let a := attrOf b.attrBytes
    b.headOk = true ∧ b.format = 0x81 ∧ attrValid b.attrBytes = true ∧ b.matLen = materialLen a.kind a.alg a.keyLen ∧
    b.kekId = kekIdOf 1 { secret := tk } := by
  simp only [ht]
  decide +kernel
theorem witness_ManagerMember : (manager.member 3).keys.contains 0x00010000 = true ∧ (manager.obj (handleIndex 0x00010000)).present = true ∧
    opKind 0x1101 ≠ some .stfSign := by decide +kernel

theorem witness_DispatchableKeys :
    let x : Entry := { desc := descOf 0x1201 (key := 0x10000) (key2 := 0), sglDone := true, sluice := .none }
    let s (f : List Flaw) (m : List (Nat × Mrg)) : State := { ready0 0x1201 with
      lode := { restoreDone := true, objs := [(0, { present := true, gen := 1, attr := { kind := 2, alg := 0x1001, usage := 0xFFFF } })] }
      flaws := f, ent := { phase := 2, central := { live := true }, stopes := [(0, { live := true })], mrgs := m }
      tally := { entries := [(0, x)] } }
    let y : Entry := x
    takesKey .kemDecaps = true ∧ (s [] []).flawedKeys y = [] ∧ (s [{ place := .object 0, uncorr := true }] []).flawedKeys y ≠ [] ∧
    (s [] [(0, { valid := true })]).wantsEntropy .kemDecaps y (.stope 0 0 4) = true ∧
    (s [] [(0, { valid := true })]).randomAt (.stope 0 0 4) = true ∧ (s [] []).randomAt (.stope 0 0 4) = false ∧
    (s [] []).ent.phase ≠ 4 := by
  decide +kernel

theorem witness_KernelStartMasked :
    let x : Entry := { state := .dispatched, target := .stope 0 0 0, bound1 := some { secret := [1, 2, 3] } }
    let r : Run := { benchRun with kernel := { winSec := 1, winInput := 1 } }
    let s (g : Bool) : State := { up [] with tally := { entries := [(0, x)] }, runs := [(0, r)], lode := { restoreDone := true, maskGen := g } }
    Claims.secretOf x r.kernel ≠ [] ∧ (s true).maskFresh.lode.maskGen = true ∧ (s false).maskFresh.lode.maskGen = false ∧
    Claims.InputsReadable (s true) x := by
  unfold Claims.InputsReadable
  decide +kernel

theorem witness_ExceededThresholds :
    let s : State := { up [] with hdf := { eccCount := [(63, 0, 5000), (128 + 15, 0, 5000)], eccResets := [(62, 2)] } }
    let t : State := { up [] with hdf := { eccCount := [(62, 0, 5000)], eccResets := [(62, 2)] } }
    s.eccExceeded (.stope 63) = true ∧ s.eccExceeded (.core 15) = true ∧ s.outOfService .dgs = false ∧
    s.hdf.eccPending.contains (128 + 15) = false ∧ t.eccExceeded (.stope 62) = true ∧ t.outOfService (.stp 62) = false ∧
    s.eccExceeded (.shaft 0) = false := by
  decide +kernel

theorem witness_CellTests :
    let t : State := { up [] with ent := { phase := 1, stage := 1, cells := cells 1 } }
    let bad (c : Nat) : CellTest := { cell := c, samples := [], katOk := false }
    let passes (v : Verdicts) (c : Nat) : Bool := (t.cell c).cstate == 2 || ((t.cell c).cstate == 1 &&
      (match v.find? fun p => p.cell == c with | some p => p.verdict.2.2.isNone | none => true))
    let good (v : Verdicts) : Nat := ((List.range 8).filter (passes v)).length
    4 ≤ good [bad 0, bad 1, bad 2, bad 3] ∧ good [bad 0, bad 1, bad 2, bad 3, bad 4] < 4 ∧ t.ent.attempt < 2 ∧
    (healthRun {} 0 [1, 2]).2.2.2 = none ∧ (healthRun {} 0 (List.replicate 23 7)).2.2.2 = some 1 := by
  decide +kernel
/-- A window whose first sample comes 156 times, never 23 in a row, fails the second test (R249). -/
theorem witness_AdaptiveProportion : (healthRun {} 0 ((List.replicate 156 [7, 8]).flatten)).2.2.2 = some 2 := by decide +kernel

theorem witness_KeyedContexts :
    let o : Obj := { present := true, attr := { kind := kindKmac, alg := 0xA002, usage := 2 ^ useMac } }
    let x : Ctx := { state := 0, cfg := 0x10202, key := BitVec.ofNat 32 (o.handle 0) }
    let s (ph : Nat) (state : Nat) : State := { up [(.tntA 0, 0x160, 1)] with
      fns := [(0, { enabled := true })], ctxs := [(0, { x with state := state })], ent := { phase := ph, central := { live := true } }
      lode := { restoreDone := true, maskGen := true, objs := [(0, o)] } }
    (x.keyed = true ∧ x.valid = true ∧ (s 2 0).dgsKeyOk 0 x = true ∧ (s 2 0).entReady = true ∧ (s 1 0).entReady = false ∧
      x.lastword = true) ∧ ((s 2 1).lode.maskGen = true ∧ ((s 2 1).dgsCur 0).state ≠ 0) ∧
    (s 2 0).dgsKeyOk 0 { x with key := 0 } = false ∧ (s 2 0).slotUse 0 < (s 2 0).regField (.tntA 0) 0x160 10 0 := by
  decide +kernel

theorem witness_SourceTrips : trips 0x0C 1 500 = true ∧ (up []).monitorOn 0x0C = true ∧ trips 0x0C 1 700 = false ∧
    (State.reset).monitorOn 0x0C = false ∧ bit ((up []).regAtE .cny 0x144) 8 = false ∧ (up []).entReady = true := by decide +kernel

theorem witness_StoreScrub :
    let s (u : Bool) : State := { up [] with flaws := [{ place := .word 3 5, uncorr := u }] }
    0 < 0 + ((s false).storeFlaws 3).1 ∧ ((s false).storeFlaws 3).2 = [] ∧ ((s true).storeFlaws 3).2 ≠ [] := by decide +kernel

theorem witness_ExclusiveShaftJob :
    let m : ShaftJob := { entry := 0, kind := 0, exclusive := true }
    let s : State := { up [(.shf 7, 0x008, 3)] with shafts := [(7, { main := some m, candidate := some 1, test := 2 })] }
    ((s.shaft 7).main = some m ∧ (s.shaft 7).inner = none ∧ (s.shaft 7).wipeYield = 0 ∧ m.exclusive = true) ∧ s.draining (.shf 7) = true := by
  decide +kernel

end Sys2Proof.Tests
end

section
/-! PROOF. Register writes (R6, R7, R30, R33, R38 to R40): the addresses that lead to a page, the gate of a write that
arrives, the registers that the error and alarm latches leave as they were, and what a plain and a read-only register
make of a write. -/
namespace Sys2Proof.Machine

/-! ## Addresses (R27, R29) -/

theorem tenantWindow_page {t a off : Nat} {p : Page} (h : tenantWindow t a = .page p off) :
    off = a % 0x1000 ∧ a < 0x8000 := by
  dsimp only [tenantWindow] at h
  split at h
  case h_3 | h_4 => split at h <;> cases h
  all_goals cases h
  all_goals exact ⟨rfl, by omega⟩

theorem stopeWindow_page {n a off : Nat} {p : Page} (h : stopeWindow n a = .page p off) : off = a % 0x1000 := by
  unfold stopeWindow at h
  split at h
  case h_3 => split at h <;> cases h; rfl
  all_goals cases h; rfl

theorem pfPlace_page {a off : Nat} {p : Page} (h : pfPlace a = .page p off) : off = a % 0x1000 ∧ a < 0x1000000 := by
  unfold pfPlace at h
  split at h
  · cases h
  split at h
  · split at h <;> cases h
    exact ⟨rfl, by omega⟩
  split at h
  · have := stopeWindow_page h
    omega
  split at h
  · have := tenantWindow_page h
    omega
  split at h
  · cases h
    exact ⟨rfl, by omega⟩
  split at h <;> cases h
  all_goals exact ⟨rfl, by omega⟩

/-- An address that reaches a page lies in BAR0, below the configuration space, and carries the page's offset. -/
theorem barPlace_page {fn a off : Nat} {p : Page} (h : barPlace fn a = .page p off) :
    off = a % 0x1000 ∧ a < configSpace := by
  unfold barPlace at h
  unfold configSpace
  split at h
  · have := pfPlace_page h
    omega
  split at h
  · have := tenantWindow_page h
    omega
  · cases h

/-! ## The gate (R38 to R43) -/

/-- A write that arrives at a page that is not frozen goes through the gate with nothing changed. -/
theorem State.gated_of_writes {s : State} {req : Requester} {p : Page} (h : Claims.Writes s req p) (off : Nat)
    (f : State → State) : s.gated req p off f = f s := by
  obtain ⟨⟨hbus, hreach, hexists, hshown, hprimary⟩, hfrozen⟩ := h
  have hgate : s.writeGate req p off = (s, true) := by
    simp only [State.writeGate, hbus, hreach, hexists, hshown, hprimary, hfrozen]
    rfl
  rw [State.gated, hgate]

/-! ## A write by size and alignment (R30) -/

section
variable {s : State} {req : Requester} {fn addr off : Nat} {p : Page}

theorem State.busWrite_foreign (size : Nat) (v : BitVec 64) (h : req.ofBar fn = false) :
    s.busWrite req fn addr size v = s := by
  simp [State.busWrite, h]

variable (hown : req.ofBar fn = true) (hfn : fn < 256) (hplace : barPlace fn addr = .page p off)
include hown hfn hplace

theorem State.busWrite_word (v : BitVec 64) (h4 : addr % 4 = 0) :
    s.busWrite req fn addr 4 v = s.pageWrite req p off (v.truncate 32) := by
  have hbar := (barPlace_page hplace).2
  simp [State.busWrite, State.wordWrite, hown, hfn, hbar, h4, hplace]

theorem State.busWrite_double (v : BitVec 64) (h8 : addr % 8 = 0) : s.busWrite req fn addr 8 v =
    (s.wordWrite req fn addr (v.truncate 32)).wordWrite req fn (addr + 4) ((v >>> 32).truncate 32) := by
  have hbar := (barPlace_page hplace).2
  simp [State.busWrite, hown, hfn, hbar, h8]

theorem State.busWrite_unaligned (v : BitVec 64) (h4 : addr % 4 ≠ 0) :
    s.busWrite req fn addr 4 v = s.gated req p (off % 0x800) fun s => s.accessErr p := by
  have hbar := (barPlace_page hplace).2
  simp [State.busWrite, State.badWrite, hown, hfn, hbar, h4, hplace]

end

/-! ## A write by the kind of register (R6, R7) -/

section
variable {s : State} {req : Requester} {p : Page} {off : Nat} {d : RegDef}

theorem State.pageWrite_readOnly (v : Word) (hoff : off < 0x400) (hd : regDef p off = some d)
    (hro : d.writable req = 0) : s.pageWrite req p off v = s.gated req p off fun s => s.accessErr p := by
  simp [State.pageWrite, State.directWrite, hoff, hd, hro]

/-- A plain register: neither staged nor shadowed, with no command behind it and no rule of its own. -/
theorem State.pageWrite_plain {v : Word} (hoff : off < 0x400) (hd : regDef p off = some d) (hcrit : d.crit = false)
    (hrws : d.rws = 0) (hwr : d.writable req ≠ 0) (hinj : off ≠ 0x018) (hen : off ≠ 0x020)
    (hrule : ownRule p off = false) (hcmd : s.gatedCommand req p off v = none) :
    s.pageWrite req p off v =
      s.gated req p off fun s => s.setReg p off (d.after req (s.reg p off) v) := by
  simp [State.pageWrite, State.directWrite, State.putReg, hoff, hd, hwr, hrws, hcrit, hcmd, hrule, hinj, hen]

end

/-! ## What the latches leave as it was -/

/-- The offsets that an error, interrupt or alarm event writes: `ERR`, `INTSTS`, `SHDSTS` (R41) and `CNY_PEND` (R502). -/
def statusLatches : List Nat := [0x010, 0x01C, 0x028, 0x104]

theorem mod_of_mem_statusLatches : ∀ off ∈ statusLatches, off % 0x1000 = off := by decide

/-- Pages start at multiples of 4 KiB (R27, R29), so a register's key tells its offset. -/
theorem Page.key_mod (p : Page) (off : Nat) : p.key off % 0x1000 = off % 0x1000 := by
  have hbase : p.base % 0x1000 = 0 := by
    cases p <;> simp only [Page.base] <;> omega
  simp only [Page.key]
  omega

theorem State.reg_setReg_offset (s : State) {p q : Page} {off i : Nat} (v : Word) (h : i % 0x1000 ≠ off % 0x1000) :
    (s.setReg p off v).reg q i = s.reg q i := by
  refine State.reg_setReg_other s v fun hkey => h ?_
  rw [← q.key_mod i, ← p.key_mod off, hkey]

theorem State.reg_congr {s t : State} (h : t.regs = s.regs) (q : Page) (i : Nat) : t.reg q i = s.reg q i := by
  rw [State.reg, State.reg, h]

@[simp] theorem State.raiseVector_regs (s : State) (t v : Nat) : (s.raiseVector t v).regs = s.regs := by
  unfold State.raiseVector
  dsimp only
  split <;> rfl

section
variable {q : Page} {i : Nat} (hi : i % 0x1000 ∉ statusLatches) (s : State)
include hi

theorem State.reg_setReg_latch (p : Page) {off : Nat} (hoff : off ∈ statusLatches) (v : Word) :
    (s.setReg p off v).reg q i = s.reg q i := by
  refine s.reg_setReg_offset v fun h => hi ?_
  rwa [h, mod_of_mem_statusLatches off hoff]

theorem State.reg_setInt (p : Page) (n : Nat) : (s.setInt p n).reg q i = s.reg q i := by
  unfold State.setInt
  dsimp only
  split
  · rfl
  have hput (v : Word) := s.reg_setReg_latch (q := q) hi p (off := 0x01C) (by decide) v
  split
  · rw [State.reg_congr (State.raiseVector_regs ..), hput]
  · rw [hput]

theorem State.reg_setErrBits (p : Page) (bits : Word) : (s.setErrBits p bits).reg q i = s.reg q i := by
  unfold State.setErrBits
  dsimp only
  have hput (v : Word) := s.reg_setReg_latch (q := q) hi p.first (off := 0x010) (by decide) v
  split
  · rw [hput]
  · rw [State.reg_setInt hi, hput]

theorem State.reg_setErr (p : Page) (n : Nat) : (s.setErr p n).reg q i = s.reg q i := s.reg_setErrBits hi p _

theorem State.reg_logEvent (kind cls tenant block unit d0 st d1 : Nat) :
    (s.logEvent kind cls tenant block unit d0 st d1).reg q i = s.reg q i := by
  unfold State.logEvent
  dsimp only
  split
  · exact State.reg_setInt hi _ _ _
  · rfl

theorem State.reg_countTamper : s.countTamper.1.reg q i = s.reg q i := by
  unfold State.countTamper
  split
  · rfl
  · exact s.reg_setErr hi _ _

theorem State.reg_cnyLog (e : CnyEntry) : (s.cnyLog e).reg q i = s.reg q i := by
  unfold State.cnyLog
  dsimp only
  split
  · rfl
  split
  · rfl
  · exact State.reg_setErr hi _ _ _

theorem State.reg_pendSource (src cls : Nat) : (s.pendSource src cls).reg q i = s.reg q i := by
  have hpend (v : Word) := s.reg_setReg_latch (q := q) hi .cny (off := 0x104) (by decide) v
  exact (State.reg_setInt hi _ _ _).trans (hpend _)

theorem State.reg_raiseAlarm (src cause detail : Nat) (lasting : Bool) :
    (s.raiseAlarm src cause detail lasting).reg q i = s.reg q i := by
  delta State.raiseAlarm
  extract_lets cls counted logged pending
  calc pending.reg q i = logged.reg q i := State.reg_pendSource hi _ _ _
    _ = counted.1.reg q i := State.reg_cnyLog hi _ _
    _ = s.reg q i := by
      dsimp only [counted]
      split
      · exact s.reg_countTamper hi
      · rfl

theorem State.reg_shadowMismatch (p : Page) (off cause : Nat) :
    (s.shadowMismatch p off cause).reg q i = s.reg q i := by
  unfold State.shadowMismatch
  dsimp only
  rw [State.reg_raiseAlarm hi, State.reg_logEvent hi, State.reg_setErr hi, State.reg_setReg_latch hi _ _ (by decide)]

theorem State.reg_breakPrimary (req : Requester) (p : Page) : (s.breakPrimary req p).reg q i = s.reg q i := by
  unfold State.breakPrimary
  split
  · exact State.reg_shadowMismatch hi _ _ _ _
  · rfl

/-- The last stage of the gate, whether the page is frozen or not. -/
theorem State.reg_frozenStage {u : State} (hu : u.reg q i = s.reg q i) (p : Page) (frozen : Prop) [Decidable frozen] :
    (if frozen then (u.accessErr p, false) else (u, true)).1.reg q i = s.reg q i := by
  split
  · exact (u.reg_setErr hi p 0).trans hu
  · exact hu

theorem State.reg_writeGate (req : Requester) (p : Page) (off : Nat) :
    (s.writeGate req p off).1.reg q i = s.reg q i := by
  unfold State.writeGate
  split
  · rfl
  refine s.reg_frozenStage hi ?_ p _
  split
  · split
    · rfl
    · exact s.reg_breakPrimary hi req p
  · rfl

/-- A write that the page ignores with `ERR.ACCESS` (R7), or that does not arrive, changes latches only. -/
theorem State.reg_gated_accessErr (req : Requester) (p : Page) (off : Nat) :
    (s.gated req p off fun s => s.accessErr p).reg q i = s.reg q i := by
  have hgate := s.reg_writeGate (q := q) hi req p off
  unfold State.gated
  split
  case h_1 hs => exact (State.reg_setErr hi _ _ _).trans (by rwa [hs] at hgate)
  case h_2 hs => rwa [hs] at hgate

end

/-! ## The identity registers (R33, R39) -/

/-- Every page has ID and VER, and no requester may write a bit of either. -/
theorem regDef_identity (p : Page) {off : Nat} (hoff : off = 0 ∨ off = 4) :
    ∃ d, regDef p off = some d ∧ ∀ req, d.writable req = 0 := by
  refine ⟨{ first := off, last := off }, ?_, fun req => by simp [RegDef.writable]⟩
  obtain rfl | rfl := hoff <;> simp [regDef, RegDef.find, hdrMap]

/-- However a 32-bit write of ID or VER ends, only latches change. -/
theorem State.reg_busWrite_identity {req : Requester} {fn addr off : Nat} {p q : Page} {i : Nat}
    (hi : i % 0x1000 ∉ statusLatches) (s : State) (v : BitVec 64) (hoff : off = 0 ∨ off = 4)
    (hplace : barPlace fn addr = .page p off) : (s.busWrite req fn addr 4 v).reg q i = s.reg q i := by
  by_cases hreach : req.ofBar fn = true ∧ fn < 256
  · obtain ⟨hown, hfn⟩ := hreach
    obtain ⟨d, hd, hro⟩ := regDef_identity p hoff
    have haddr := (barPlace_page hplace).1
    rw [State.busWrite_word hown hfn hplace v (by omega), State.pageWrite_readOnly _ (by omega) hd (hro req)]
    exact s.reg_gated_accessErr hi req p off
  · have hignored : s.busWrite req fn addr 4 v = s := by
      simpa [State.busWrite] using fun hown hfn => absurd ⟨hown, hfn⟩ hreach
    rw [hignored]

/-! ## The claims -/

theorem exec_registerWrite (s : State) (req : Requester) (fn addr size : Nat) (v : BitVec 64) :
    exec (.registerWrite req fn addr size v) s = .next (s.busWrite req fn addr size v) := rfl

theorem registerWrites : Claims.RegisterWrites := by
  intro s req fn addr v p off hown hfn hplace hoff hwrites
  simp only [exec_registerWrite, Host.Outcome.next.injEq]
  refine ⟨fun d h4 hd hcrit hrws hwr hinj hen hrule hcmd => ?plain, fun d h4 hd hro => ?readOnly,
    fun h4 => ?unaligned, fun h8 => ?double, fun t size ht => ?foreign⟩
  case plain =>
    rw [State.busWrite_word hown hfn hplace v h4,
      State.pageWrite_plain hoff hd hcrit hrws hwr hinj hen hrule hcmd, State.gated_of_writes hwrites]
  case readOnly =>
    rw [State.busWrite_word hown hfn hplace v h4, State.pageWrite_readOnly _ hoff hd hro,
      State.gated_of_writes hwrites, State.accessErr]
  case unaligned =>
    rw [State.busWrite_unaligned hown hfn hplace v h4, State.gated_of_writes hwrites, State.accessErr]
  case double => exact State.busWrite_double hown hfn hplace v h8
  case foreign => exact State.busWrite_foreign size v (by simpa [Requester.ofBar] using ht)

theorem identityRegistersIgnoreWrites : Claims.IdentityRegistersIgnoreWrites := by
  intro s req fn addr v p off hoff hplace
  exact ⟨_, exec_registerWrite s req fn addr 4 v, s.reg_busWrite_identity (by decide) v hoff hplace,
    s.reg_busWrite_identity (by decide) v hoff hplace⟩

/-- Settles O20: each size, alignment and kind of register by its own equation of the write; ID and VER by what the latches
leave as it was. -/
theorem ordinaryWrites : Obligations.OrdinaryWrites := ⟨registerWrites, identityRegistersIgnoreWrites⟩

end Sys2Proof.Machine
end

section
/-! PROOF. A step (R18): the front command, or one SYS_CLK cycle. -/
namespace Sys2Proof.Machine

theorem step_of_front {s : State} {c : Instr} {rest : List Instr} (h : s.pending = c :: rest) :
    step s = exec c { s with pending := rest } := by
  rw [step, h]

theorem step_of_idle {s : State} (h : s.pending = []) : step s = .next s.tick := by
  rw [step, h]

/-- Off the worker's discipline (R416) a cycle is 40 ns. -/
theorem State.tick_of_not_following {s : State} (h : s.zdp.mstate < 2 ∨ 4 < s.zdp.mstate) : s.tick = s.edgeBy 40 := by
  have hfollows : (decide (2 ≤ s.zdp.mstate) && decide (s.zdp.mstate ≤ 4)) = false := by
    simp only [Bool.and_eq_false_iff, decide_eq_false_iff_not]
    omega
  simp [State.tick, hfollows]

/-- A cycle moves only the generator, the stamp and a worker's offset. -/
theorem State.tick_frame (s : State) :
    s.tick.regs = s.regs ∧ s.tick.host = s.host ∧ s.tick.tally = s.tally ∧ s.tick.pending = s.pending := by
  unfold State.tick
  dsimp only
  split
  · exact ⟨rfl, rfl, rfl, rfl⟩
  split <;> exact ⟨rfl, rfl, rfl, rfl⟩

theorem State.edgeBy_of_lt {s : State} {d : Nat} (h : s.edge + d < 2 ^ 64) :
    (s.edgeBy d).stamp = s.edge + d ∧ (s.edgeBy d).edge = s.edge + d := by
  have hmod := Nat.mod_eq_of_lt h
  exact ⟨hmod, hmod⟩

/-- Settles O56: a step by the two forms of the queue, a cycle by its frame and its length. -/
theorem stepRunsFront : Obligations.StepRunsFront := by
  refine ⟨fun s c rest => step_of_front, fun s => step_of_idle, fun s => ?cycle⟩
  case cycle =>
    obtain ⟨hregs, hhost, htally, hpending⟩ := s.tick_frame
    refine ⟨hregs, hhost, htally, hpending, fun hfollows hlt => ?_⟩
    rw [State.tick_of_not_following hfollows]
    exact State.edgeBy_of_lt hlt

end Sys2Proof.Machine
end

section
/-! PROOF. What a dispatch and the start of a kernel leave as it was. The latches of events, counters and alarms, the keys in
Lode and the random bit generators move beside the work of Tally, the Stopes and the Shafts and do not touch it. -/
namespace Sys2Proof.Machine

/-- The work in hand: the time, the commands waiting, host memory, Tally's entries, the units and their runs, and of each
function whether it is a bus master (R61) and its deficit on the engines (R401). -/
structure Workload where
  stamp : Stamp
  pending : List Instr
  host : Cells Byte
  tally : Tally
  stopes : Cells Stope
  shafts : Cells Shaft
  engs : Cells Eng
  runs : Cells Run
  master : Nat → Bool
  credit : Nat → Int

def State.workload (s : State) : Workload where
  stamp := s.stamp
  pending := s.pending
  host := s.host
  tally := s.tally
  stopes := s.stopes
  shafts := s.shafts
  engs := s.engs
  runs := s.runs
  master t := (s.fn t).bme
  credit t := (s.fn t).credit

/-- The state with other entries in Tally. -/
def State.withEntries (s : State) (l : Cells Entry) : State := { s with tally := { s.tally with entries := l } }

section
variable (s : State)

theorem State.workload_withEntries {t : State} (h : t.workload = s.workload) (l : Cells Entry) :
    (t.withEntries l).workload = (s.withEntries l).workload := by
  have htally : t.tally = s.tally := congrArg Workload.tally h
  calc (t.withEntries l).workload = { t.workload with tally := { t.tally with entries := l } } := rfl
    _ = { s.workload with tally := { s.tally with entries := l } } := by rw [h, htally]

/-- While the clocks of D3 to D8 run (R549) a command there answers its own outcome. -/
theorem State.clocked_running (h : s.avs.tripped = false) (o : Out) : s.clocked o = o := by
  simp [State.clocked, h]

/-! ## Equal work, equal readings -/

section
variable {s} {t : State}

theorem State.entry_congr (h : t.tally = s.tally) (e : Nat) : t.entry e = s.entry e := by rw [State.entry, State.entry, h]

theorem State.eng_congr (h : t.engs = s.engs) (n i : Nat) : t.eng n i = s.eng n i := by rw [State.eng, State.eng, h]

theorem State.run_congr (h : t.runs = s.runs) (e : Nat) : t.run e = s.run e := by rw [State.run, State.run, h]

theorem State.shaft_congr (h : t.shafts = s.shafts) (n : Nat) : t.shaft n = s.shaft n := by rw [State.shaft, State.shaft, h]

theorem State.kernelAt_congr (h : t.stopes = s.stopes) (n op tenant : Nat) :
    t.kernelAt n op tenant = s.kernelAt n op tenant := by
  simp only [State.kernelAt, State.stope, h]

theorem State.kernelCost_congr (h : t.tally.measured = s.tally.measured) (kn : Kernel) : t.kernelCost kn = s.kernelCost kn := by
  rw [State.kernelCost, State.kernelCost, h]

end

/-! ## Functions -/

theorem State.workload_setFn {t : Nat} {f : Fn} (h : f.bme = (s.fn t).bme) :
    (s.setFn t f).workload = { s.workload with credit := Function.update s.workload.credit t f.credit } := by
  have hmaster : (s.setFn t f).workload.master = s.workload.master := by
    funext u
    by_cases hu : u = t
    · subst u
      simp [State.workload, h]
    · simp [State.workload, s.fn_setFn_other f hu]
  have hcredit : (s.setFn t f).workload.credit = Function.update s.workload.credit t f.credit := by
    funext u
    by_cases hu : u = t
    · subst u
      simp [State.workload]
    · simp [State.workload, s.fn_setFn_other f hu, hu]
  calc (s.setFn t f).workload
      = { s.workload with master := (s.setFn t f).workload.master, credit := (s.setFn t f).workload.credit } := rfl
    _ = { s.workload with credit := Function.update s.workload.credit t f.credit } := by rw [hmaster, hcredit]

/-- A function's record that keeps the deficit too keeps the work. -/
theorem State.workload_setFn_same {t : Nat} {f : Fn} (h : f.bme = (s.fn t).bme) (hcredit : f.credit = (s.fn t).credit) :
    (s.setFn t f).workload = s.workload := by
  rw [s.workload_setFn h, hcredit]
  exact congrArg (fun c => { s.workload with credit := c }) (Function.update_eq_self t s.workload.credit)

theorem State.workload_foldl {β : Type} {f : State → β → State} (hf : ∀ s b, (f s b).workload = s.workload) (l : List β) :
    (l.foldl f s).workload = s.workload := by
  induction l generalizing s with
  | nil => rfl
  | cons b r ih => exact (ih _).trans (hf s b)

/-! ## Latches and counters -/

@[simp] theorem State.workload_setReg (p : Page) (off : Nat) (v : Word) : (s.setReg p off v).workload = s.workload := rfl

@[simp] theorem State.workload_raiseVector (t v : Nat) : (s.raiseVector t v).workload = s.workload := by
  unfold State.raiseVector
  dsimp only
  split <;> exact s.workload_setFn_same rfl rfl

@[simp] theorem State.workload_setInt (p : Page) (n : Nat) : (s.setInt p n).workload = s.workload := by
  unfold State.setInt
  dsimp only
  split
  · rfl
  split <;> simp

@[simp] theorem State.workload_setErr (p : Page) (n : Nat) : (s.setErr p n).workload = s.workload := by
  unfold State.setErr State.setErrBits
  dsimp only
  split <;> simp

@[simp] theorem State.workload_logEvent (kind cls tenant block unit d0 st d1 : Nat) :
    (s.logEvent kind cls tenant block unit d0 st d1).workload = s.workload := by
  unfold State.logEvent
  dsimp only
  split
  · exact State.workload_setInt _ _ _
  · rfl

@[simp] theorem State.workload_foundUncorr (p : Page) (code addr : Nat) :
    (s.foundUncorr p code addr).workload = s.workload := by
  simp [State.foundUncorr]

@[simp] theorem State.workload_bumpCounter (p : Page) (k d : Nat) : (s.bumpCounter p k d).workload = s.workload := by
  unfold State.bumpCounter
  dsimp only
  split <;> simp

@[simp] theorem State.workload_countIn (p : Page) (num ev t : Nat) (n i : Option Nat) (d : Nat) :
    (s.countIn p num ev t n i d).workload = s.workload := by
  unfold State.countIn
  split
  · rfl
  refine s.workload_foldl (fun s k => ?_) _
  split <;> simp

@[simp] theorem State.workload_pmu (ev t : Nat) (n i : Option Nat) (d : Nat) : (s.pmu ev t n i d).workload = s.workload := by
  simp [State.pmu]

/-! ## Keys (R127, R205, R213) -/

@[simp] theorem State.workload_computeNode (i : Nat) : (s.computeNode i).workload = s.workload := by
  unfold State.computeNode
  split <;> rfl

@[simp] theorem State.workload_loseExpansion (i : Nat) : (s.loseExpansion i).workload = s.workload := by
  have hdrop : (s.dropExpansion i).workload = s.workload := rfl
  simp [State.loseExpansion, hdrop]

@[simp] theorem State.workload_useExpansion (i : Nat) : (s.useExpansion i).workload = s.workload := rfl

/-- Binding an entry to its keys fills in what it is bound to, and beside the entry changes Lode and latches only. -/
theorem State.bindKeys_of_entry {e : Nat} {x : Entry} (he : s.entry e = some x) :
    ∃ (u : State) (b1 b2 : Option Bound) (hit : Bool),
      s.bindKeys e = u.setEntry e { x with bound1 := b1, bound2 := b2, hit := hit } ∧ u.workload = s.workload := by
  unfold State.bindKeys
  rw [he]
  refine ⟨_, _, _, _, rfl, ?_⟩
  dsimp only
  split_ifs <;> simp

/-! ## The random bit generators (R229, R255, R259) -/

theorem State.centralReseed_frame : ∃ n f, s.centralReseed = { s with ent := n, freeNext := f } := by
  unfold State.centralReseed
  split
  · exact ⟨_, _, rfl⟩
  · exact ⟨_, _, rfl⟩

/-- A request at the central DRBG moves the entropy source and the free values only. -/
theorem State.centralFor_frame (cls len : Nat) : ∃ n f, (s.centralFor cls len).1 = { s with ent := n, freeNext := f } := by
  obtain ⟨n, f, hreseed⟩ := s.centralReseed_frame
  unfold State.centralFor State.askCentral
  split <;> split <;> simp only [hreseed] <;> exact ⟨_, _, rfl⟩

theorem State.maskFresh_frame : ∃ n f o, s.maskFresh = { s with ent := n, freeNext := f, lode := o } := by
  obtain ⟨n, f, hcentral⟩ := s.centralFor_frame 1 32
  unfold State.maskFresh State.seedMask
  split
  · split
    case h_1 h | h_2 h =>
      rw [h] at hcentral
      subst hcentral
      exact ⟨_, _, _, rfl⟩
  · exact ⟨_, _, _, rfl⟩

theorem State.workload_drawCentral (cls len : Nat) : (s.drawCentral cls len).1.workload = s.workload := by
  unfold State.drawCentral
  split
  · obtain ⟨n, f, hcentral⟩ := s.centralFor_frame cls len
    rw [hcentral]
    rfl
  · rfl

/-- A Shaft job that draws its blinding values (R233) is the same job, and the draw leaves the work as it was. -/
theorem State.blindJob_frame (j : ShaftJob) :
    (s.blindJob j).1.workload = s.workload ∧ (s.blindJob j).2.entry = j.entry ∧ (s.blindJob j).2.started = j.started := by
  have hdraw := s.workload_drawCentral 3 (16 + rsaK j.set)
  unfold State.blindJob
  split
  · split
    case h_1 h | h_2 h =>
      rw [h] at hdraw
      exact ⟨hdraw, rfl, rfl⟩
  · exact ⟨rfl, rfl, rfl⟩

section
variable (l : Cells Entry)

theorem State.centralReseed_withEntries : (s.withEntries l).centralReseed = s.centralReseed.withEntries l := by
  unfold State.centralReseed
  by_cases hlive : s.ent.central.live = true
  · exact (if_pos hlive).trans (by rw [if_pos hlive]; rfl)
  · exact (if_neg hlive).trans (by rw [if_neg hlive])

theorem State.askCentral_withEntries (len : Nat) :
    (s.withEntries l).askCentral len = ((s.askCentral len).1.withEntries l, (s.askCentral len).2) := by
  unfold State.askCentral
  by_cases hrefused : (!s.ent.central.live || s.ent.phase == 4) = true
  · exact (if_pos hrefused).trans (by rw [if_pos hrefused])
  · exact (if_neg hrefused).trans (by rw [if_neg hrefused]; rfl)

theorem State.seedMask_withEntries : (s.withEntries l).seedMask = s.seedMask.withEntries l := by
  have hcentral : (s.withEntries l).centralFor 1 32 = ((s.centralFor 1 32).1.withEntries l, (s.centralFor 1 32).2) := by
    have hreseed (u : State) : u.centralFor 1 32 = u.centralReseed.askCentral 32 := rfl
    rw [hreseed, hreseed, State.centralReseed_withEntries, State.askCentral_withEntries]
  unfold State.seedMask
  rw [hcentral]
  rcases s.centralFor 1 32 with ⟨u, _ | bs⟩ <;> rfl

/-- Tally's entries are nothing to the masking generator. -/
theorem State.maskFresh_withEntries : (s.withEntries l).maskFresh = s.maskFresh.withEntries l := by
  unfold State.maskFresh
  rw [s.seedMask_withEntries]
  exact (apply_ite (State.withEntries · l) _ _ _).symm

end

/-! ## The inputs (R61) -/

/-- An entry with its inputs as `State.capture` reads them. -/
def State.withInputs (s : State) (x : Entry) : Entry :=
  if x.sluice = .hashed then x else { x with aux := s.auxOf x, input := s.inputOf x }

/-- Inputs that can be read are read into the entry, and nothing else changes. -/
theorem State.capture_of_readable {e : Nat} {x : Entry} (he : s.entry e = some x) (hread : Claims.InputsReadable s x) :
    ∃ l, s.capture e = s.withEntries l ∧ (s.withEntries l).entry e = some (s.withInputs x) := by
  unfold State.capture State.withInputs
  simp only [he]
  split
  · exact ⟨s.tally.entries, rfl, he⟩
  case isFalse hhashed =>
    have hdma : (!s.dmaOk x && (x.desc.inLen != 0 || x.desc.auxLen != 0)) = false := by
      obtain h | h | ⟨hin, haux⟩ := hread
      · exact absurd h hhashed
      · simp [h]
      · simp [hin, haux]
    rw [hdma]
    exact ⟨_, rfl, s.entry_setEntry e _⟩

/-! ## Turns and charges (R401) -/

theorem State.workload_addCredit (t : Nat) (d : Int) (target : Target) :
    ∃ c, (s.setFn t ((s.fn t).addCredit d target)).workload = { s.workload with credit := c } :=
  ⟨_, s.workload_setFn (by cases target <;> rfl)⟩

/-- Any number of rounds moves deficits only. -/
theorem State.workload_rounds (target : Target) (k : Nat) (l : List Nat) :
    ∃ c, (l.foldl (fun s t => s.setFn t ((s.fn t).addCredit (Int.ofNat (k * s.tenantWeight t)) target)) s).workload =
      { s.workload with credit := c } := by
  induction l generalizing s with
  | nil => exact ⟨_, rfl⟩
  | cons t r ih =>
    obtain ⟨c, hc⟩ := ih (s.setFn t ((s.fn t).addCredit (Int.ofNat (k * s.tenantWeight t)) target))
    obtain ⟨c', hc'⟩ := s.workload_addCredit t (Int.ofNat (k * s.tenantWeight t)) target
    exact ⟨c, hc.trans (by rw [hc'])⟩

/-- Taking a turn moves deficits only, and the dispatches left of the rounds, which are no work in hand. -/
theorem State.takeTurn_frame (x : Entry) (target : Target) :
    ∃ c, (s.takeTurn x target).workload = { s.workload with credit := c } := by
  unfold State.takeTurn
  extract_lets l k classDone sqDone t f cls sqs
  obtain ⟨c, hc⟩ := s.workload_rounds target k (l.map fun y => y.tenant).eraseDups
  refine ⟨c, Eq.trans ?_ hc⟩
  exact t.workload_setFn_same rfl rfl

theorem State.workload_charge (t cost : Nat) (target : Target) :
    ∃ c, (s.charge t target cost).workload = { s.workload with credit := c } :=
  s.workload_addCredit t _ target

theorem State.credit_charge_stope (t n first w cost : Nat) :
    ((s.charge t (.stope n first w) cost).fn t).credit = (s.fn t).credit - Int.ofNat cost := by
  rw [State.charge, State.fn_setFn]
  exact Int.sub_eq_add_neg.symm

/-! ## Engines (R11) -/

/-- Each engine of a list in turn gets a record. -/
def State.putEngs (F : State → Nat → Eng) (n : Nat) (l : List Nat) (s : State) : State :=
  l.foldl (fun s i => s.setEng n i (F s i)) s

section
variable (F : State → Nat → Eng) (n : Nat) (l : List Nat)

theorem State.putEngs_frame : s.putEngs F n l = { s with engs := (s.putEngs F n l).engs } := by
  induction l generalizing s with
  | nil => rfl
  | cons a r ih => exact ih (s.setEng n a (F s a))

theorem State.eng_setEng_other {m j i : Nat} (g : Eng) (h : engKey m j ≠ engKey n i) : (s.setEng n i g).eng m j = s.eng m j :=
  Cells.get_set_other _ _ _ h

theorem State.eng_putEngs_other {m j : Nat} (h : ∀ i ∈ l, engKey m j ≠ engKey n i) :
    (s.putEngs F n l).eng m j = s.eng m j := by
  induction l generalizing s with
  | nil => rfl
  | cons a r ih =>
    have hrest := ih (s.setEng n a (F s a)) fun i hi => h i (List.mem_cons_of_mem a hi)
    exact hrest.trans (s.eng_setEng_other n _ (h a List.mem_cons_self))

theorem State.eng_putEngs_mem {i : Nat} (h : i ∈ l) : ∃ u, (s.putEngs F n l).eng n i = F u i := by
  induction l generalizing s with
  | nil => cases h
  | cons a r ih =>
    by_cases hr : i ∈ r
    · exact ih (s.setEng n a (F s a)) hr
    · obtain rfl : i = a := (List.mem_cons.mp h).resolve_right hr
      refine ⟨s, ?_⟩
      have hrest : ∀ j ∈ r, engKey n i ≠ engKey n j := by
        intro j hj hkey
        obtain rfl : i = j := Nat.add_left_cancel hkey
        exact hr hj
      exact (State.eng_putEngs_other _ F n r hrest).trans (s.eng_setEng n i _)

end

theorem mem_engSet {first w i : Nat} : i ∈ engSet first w ↔ first ≤ i ∧ i < first + 2 ^ w := by
  simp only [engSet, List.mem_map, List.mem_range]
  constructor
  · rintro ⟨k, hk, rfl⟩
    omega
  · rintro ⟨hlo, hhi⟩
    exact ⟨i - first, by omega, by omega⟩

end
end Sys2Proof.Machine
end

section
/-! PROOF. Dispatch (R10, R11, R84, R205, R289, R401): the ways it ends, and what an accepted entry, its Stope and its Shaft
are afterwards. -/
namespace Sys2Proof.Machine

section
variable {s : State} {e n first w : Nat} {x y : Entry} {k : OpKind} {target : Target}

/-! ## The entry goes to its unit -/

/-- `y` is the entry `x` as its dispatch at `now` to a unit leaves it, bound to its keys. -/
structure Entry.SentTo (x : Entry) (unit : Target) (now : Stamp) (y : Entry) : Prop where
  state : y.state = .dispatched
  dispatched : y.dispatched = now
  target : y.target = unit
  started : y.started = false
  desc : y.desc = x.desc
  admitted : y.admitted = x.admitted
  tenant : y.tenant = x.tenant
  sluice : y.sluice = x.sluice
  spilled : y.spilled = x.spilled

/-- The unit takes an entry that is dispatched and bound. -/
def State.deliver (s : State) (e : Nat) (k : OpKind) (target : Target) (x : Entry) : State :=
  match target with
  | .stope n first w => s.acceptStope e n first w x
  | .shaft n => (s.acceptShaft e n k x).capture e
  | _ => (s.capture e).pmu 0x10 x.tenant none none 1

theorem State.deliver_stope (s : State) (e : Nat) (k : OpKind) (n first w : Nat) (x : Entry) :
    s.deliver e k (.stope n first w) x = s.acceptStope e n first w x := rfl

theorem State.deliver_shaft (s : State) (e : Nat) (k : OpKind) (n : Nat) (x : Entry) :
    s.deliver e k (.shaft n) x = (s.acceptShaft e n k x).capture e := rfl

theorem State.deliver_none (s : State) (e : Nat) (k : OpKind) (x : Entry) :
    s.deliver e k .none x = (s.capture e).pmu 0x10 x.tenant none none 1 := rfl

/-- An entry that is dispatched, before it is bound to its keys. -/
def State.dispatched (s : State) (x : Entry) (target : Target) : Entry :=
  { x with state := .dispatched, dispatched := s.stamp, target := target, stopping := none, started := false, await := .none
           keepExp := bit (s.reg (.tnt x.tenant) 0x180) 0
           stopTo := match target with
             | .stope n _ _ => s.timeoutNs (.stp n) 100000
             | .shaft n => s.timeoutNs (.shf n) 10000
             | _ => 0 }

theorem State.accept_of_bound (he : s.entry e = some x) (k : OpKind) {b : State}
    (hb : (s.setEntry e (s.dispatched x target)).bindKeys e = b) (hy : b.entry e = some y) :
    s.accept e k target = b.deliver e k target y := by
  subst hb
  unfold State.accept State.modEntry
  cases target <;>
  · dsimp only [State.dispatched] at hy ⊢
    simp only [he, hy]
    rfl

theorem State.accept_of_entry (he : s.entry e = some x) (k : OpKind) (target : Target) :
    ∃ (b : State) (y : Entry) (l : Cells Entry), s.accept e k target = b.deliver e k target y ∧ b.entry e = some y ∧
      x.SentTo target s.stamp y ∧ b.workload = (s.withEntries l).workload := by
  obtain ⟨u, b1, b2, hit, hbind, hwork⟩ := State.bindKeys_of_entry _ (s.entry_setEntry e (s.dispatched x target))
  have hy := u.entry_setEntry e { s.dispatched x target with bound1 := b1, bound2 := b2, hit := hit }
  exact ⟨_, _, _, State.accept_of_bound he k hbind hy, hy, ⟨rfl, rfl, rfl, rfl, rfl, rfl, rfl, rfl, rfl⟩,
    State.workload_withEntries _ hwork _⟩

theorem Entry.SentTo.withInputs {now : Stamp} (h : x.SentTo target now y) (s : State) :
    x.SentTo target now (s.withInputs y) := by
  unfold State.withInputs
  split
  · exact h
  · exact { h with }

theorem Entry.SentTo.inputsReadable {now : Stamp} (h : x.SentTo target now y) (hread : Claims.InputsReadable s x) :
    Claims.InputsReadable s y := by
  simpa only [Claims.InputsReadable, State.dmaOk, h.sluice, h.spilled, h.tenant, h.desc] using hread

/-- The inputs stay readable while the function stays bus master. -/
theorem State.inputsReadable_congr {b : State} (hmaster : b.workload.master = s.workload.master)
    (hread : Claims.InputsReadable s x) : Claims.InputsReadable b x := by
  have hbme : (b.fn x.tenant).bme = (s.fn x.tenant).bme := congrFun hmaster x.tenant
  simpa only [Claims.InputsReadable, State.dmaOk, hbme] using hread

/-! ## A Stope (R11, R312, R240) -/

/-- An engine of the set that takes an entry. -/
def State.seated (s : State) (e n first i : Nat) (kn : Kernel) (x : Entry) : Eng :=
  let g := s.eng n i
  { g with mode := 1, run := some e, idx := i - first, pc := (s.baseOf n kn + kn.entry) % 4096
           loc := if g.locTenant = x.tenant then g.loc else [], locTenant := x.tenant }

/-- The engines of a set take an entry. -/
def State.seat (s : State) (e n first w : Nat) (kn : Kernel) (x : Entry) : State :=
  (s.dropFlaws fun p => p.inLocal n ((engSet first w).filter fun i => (s.eng n i).locTenant != x.tenant)).putEngs
    (fun s i => s.seated e n first i kn x) n (engSet first w)

theorem State.seat_frame (s : State) (e n first w : Nat) (kn : Kernel) (x : Entry) :
    ∃ flaws engs, s.seat e n first w kn x = { s with flaws := flaws, engs := engs } := ⟨_, _, State.putEngs_frame ..⟩

section
variable {kn : Kernel} (hkn : s.kernelAt n x.desc.opcode x.tenant = some kn)
include hkn

theorem State.acceptStope_of_kernel (e first w : Nat) : s.acceptStope e n first w x =
    (((s.seat e n first w kn x).setRun e { stope := n, first := first, wlog2 := w, kernel := kn }).charge x.tenant
      (.stope n first w) ((s.seat e n first w kn x).kernelCost kn)).pmu 0x10 x.tenant (some n) none 1 := by
  unfold State.acceptStope
  rw [hkn]
  rfl

theorem State.run_acceptStope : (s.acceptStope e n first w x).run e =
    some { stope := n, first := first, wlog2 := w, kernel := kn } := by
  rw [State.acceptStope_of_kernel hkn, State.run_congr (congrArg Workload.runs (State.workload_pmu ..))]
  exact State.run_setRun _ e _

theorem State.eng_acceptStope (m i : Nat) :
    (s.acceptStope e n first w x).eng m i = (s.seat e n first w kn x).eng m i := by
  rw [State.acceptStope_of_kernel hkn, State.eng_congr (congrArg Workload.engs (State.workload_pmu ..))]
  rfl

theorem State.credit_acceptStope : ((s.acceptStope e n first w x).fn x.tenant).credit =
    (s.fn x.tenant).credit - Int.ofNat (s.kernelCost kn) := by
  obtain ⟨flaws, engs, hseat⟩ := s.seat_frame e n first w kn x
  rw [State.acceptStope_of_kernel hkn]
  refine (congrFun (congrArg Workload.credit (State.workload_pmu ..)) x.tenant).trans ?_
  refine (State.credit_charge_stope ..).trans ?_
  rw [hseat]
  rfl

end

/-- Beside the engines, the run and the charge a Stope's acceptance changes no work. -/
theorem State.acceptStope_frame (s : State) (e n first w : Nat) (x : Entry) : ∃ engs runs credit,
    (s.acceptStope e n first w x).workload = { s.workload with engs := engs, runs := runs, credit := credit } := by
  cases hkn : s.kernelAt n x.desc.opcode x.tenant with
  | none =>
    refine ⟨s.engs, s.runs, s.workload.credit, ?_⟩
    rw [State.acceptStope, hkn]
    rfl
  | some kn =>
    obtain ⟨flaws, engs, hseat⟩ := s.seat_frame e n first w kn x
    rw [State.acceptStope_of_kernel hkn, State.workload_pmu]
    obtain ⟨c, hc⟩ := State.workload_charge ((s.seat e n first w kn x).setRun e
      { stope := n, first := first, wlog2 := w, kernel := kn }) x.tenant ((s.seat e n first w kn x).kernelCost kn)
      (.stope n first w)
    rw [hc, hseat]
    exact ⟨_, _, _, rfl⟩

theorem State.eng_seat_mem {kn : Kernel} {i : Nat} (hlo : first ≤ i) (hhi : i < first + 2 ^ w) :
    ((s.seat e n first w kn x).eng n i).run = some e ∧ ((s.seat e n first w kn x).eng n i).mode = 1 ∧
      ((s.seat e n first w kn x).eng n i).idx = i - first := by
  obtain ⟨u, hu⟩ := State.eng_putEngs_mem (s.dropFlaws _) (fun s i => s.seated e n first i kn x) n
    (engSet first w) (mem_engSet.mpr ⟨hlo, hhi⟩)
  rw [State.seat, hu]
  exact ⟨rfl, rfl, rfl⟩

theorem State.eng_seat_other {kn : Kernel} {m i : Nat} (hset : first + 2 ^ w ≤ 16) (hi : i < 16)
    (hother : m ≠ n ∨ i < first ∨ first + 2 ^ w ≤ i) : (s.seat e n first w kn x).eng m i = s.eng m i := by
  refine State.eng_putEngs_other (s.dropFlaws _) _ n _ fun j hj => ?_
  obtain ⟨hlo, hhi⟩ := mem_engSet.mp hj
  simp only [engKey]
  omega

/-! ## A Shaft (R289, R291, R296, R298) -/

/-- A Shaft takes the job in its place, before the charge. -/
def State.takeJob (s : State) (e n : Nat) (k : OpKind) (x : Entry) : State :=
  let h := s.shaft n
  let j := s.jobOf k x.desc
  if h.main.isNone && h.wipeMain == 0 then
    let q := s.blindJob { entry := e, kind := j.1, estimate := s.jobEstimate j, started := s.stamp, set := j.2
                          exclusive := bit (s.reg (.shf n) 0x104) 0, lines := shaftLines j.1
                          cfg := s.reg (.shf n) 0x104 }
    q.1.setShaft n { h with main := some q.2 }
  else s.setShaft n { h with candidate := some e }

theorem State.acceptShaft_eq (s : State) (e n : Nat) (k : OpKind) (x : Entry) : s.acceptShaft e n k x =
    ((s.takeJob e n k x).charge x.tenant (.shaft n) (s.jobEstimate (s.jobOf k x.desc))).pmu 0x10 x.tenant none none 1 := rfl

theorem State.takeJob_frame (s : State) (e n : Nat) (k : OpKind) (x : Entry) :
    ∃ shafts, (s.takeJob e n k x).workload = { s.workload with shafts := shafts } := by
  unfold State.takeJob
  dsimp only
  split
  · have hset (u : State) (h : Shaft) :
        (u.setShaft n h).workload = { u.workload with shafts := (u.setShaft n h).shafts } := rfl
    rw [hset, (s.blindJob_frame _).1]
    exact ⟨_, rfl⟩
  · exact ⟨_, rfl⟩

/-- Beside the Shaft and the charge a Shaft's acceptance changes no work. -/
theorem State.acceptShaft_frame (s : State) (e n : Nat) (k : OpKind) (x : Entry) : ∃ shafts credit,
    (s.acceptShaft e n k x).workload = { s.workload with shafts := shafts, credit := credit } := by
  obtain ⟨shafts, hjob⟩ := s.takeJob_frame e n k x
  obtain ⟨c, hc⟩ := (s.takeJob e n k x).workload_charge x.tenant (s.jobEstimate (s.jobOf k x.desc)) (.shaft n)
  refine ⟨shafts, c, ?_⟩
  rw [State.acceptShaft_eq, State.workload_pmu, hc, hjob]

/-- A free Shaft has the job as its main job. -/
theorem State.main_acceptShaft (k : OpKind) (x : Entry) (hmain : (s.shaft n).main = none)
    (hwipe : (s.shaft n).wipeMain = 0) :
    ∃ j, ((s.acceptShaft e n k x).shaft n).main = some j ∧ j.entry = e ∧ j.started = s.stamp := by
  have hjob : ∃ j, ((s.takeJob e n k x).shaft n).main = some j ∧ j.entry = e ∧ j.started = s.stamp := by
    have hfree : ((s.shaft n).main.isNone && (s.shaft n).wipeMain == 0) = true := by simp [hmain, hwipe]
    unfold State.takeJob
    dsimp only
    rw [if_pos hfree, State.shaft_setShaft]
    exact ⟨_, rfl, (s.blindJob_frame _).2⟩
  rw [State.acceptShaft_eq, State.shaft_congr (congrArg Workload.shafts (State.workload_pmu ..))]
  exact hjob

/-! ## What a delivery leaves -/

/-- Delivery leaves the entry dispatched; neither time nor host memory nor the commands waiting move. -/
theorem State.deliver_entry {now : Stamp} (hy : s.entry e = some y) (hsent : x.SentTo target now y)
    (hworker : ∀ d, target ≠ .worker d) (hread : (∃ n first w, target = .stope n first w) ∨ Claims.InputsReadable s y)
    (k : OpKind) :
    ∃ z, (s.deliver e k target y).entry e = some z ∧ x.SentTo target now z ∧ (s.deliver e k target y).stamp = s.stamp ∧
      (s.deliver e k target y).host = s.host ∧ (s.deliver e k target y).pending = s.pending := by
  cases target with
  | worker d => exact absurd rfl (hworker d)
  | stope n first w =>
    obtain ⟨engs, runs, c, hwork⟩ := s.acceptStope_frame e n first w y
    exact ⟨y, (State.entry_congr (congrArg Workload.tally hwork) e).trans hy, hsent, congrArg Workload.stamp hwork,
      congrArg Workload.host hwork, congrArg Workload.pending hwork⟩
  | shaft n =>
    obtain ⟨shafts, c, hwork⟩ := s.acceptShaft_frame e n k y
    obtain ⟨l, hcapture, hz⟩ := State.capture_of_readable _ ((State.entry_congr (congrArg Workload.tally hwork) e).trans hy)
      (State.inputsReadable_congr (congrArg Workload.master hwork :) (hread.resolve_left nofun))
    rw [State.deliver_shaft, hcapture]
    exact ⟨_, hz, hsent.withInputs _, congrArg Workload.stamp hwork, congrArg Workload.host hwork,
      congrArg Workload.pending hwork⟩
  | none =>
    obtain ⟨l, hcapture, hz⟩ := s.capture_of_readable hy (hread.resolve_left nofun)
    have hwork := (s.withEntries l).workload_pmu 0x10 y.tenant none none 1
    rw [State.deliver_none, hcapture]
    exact ⟨_, (State.entry_congr (congrArg Workload.tally hwork) e).trans hz, hsent.withInputs _,
      congrArg Workload.stamp hwork, congrArg Workload.host hwork, congrArg Workload.pending hwork⟩

/-- A free Shaft that a job is delivered to has it as its main job. -/
theorem State.main_deliver_shaft (hy : s.entry e = some y) (hread : Claims.InputsReadable s y)
    (hmain : (s.shaft n).main = none) (hwipe : (s.shaft n).wipeMain = 0) (k : OpKind) :
    ∃ j, ((s.deliver e k (.shaft n) y).shaft n).main = some j ∧ j.entry = e ∧ j.started = s.stamp := by
  obtain ⟨shafts, c, hwork⟩ := s.acceptShaft_frame e n k y
  obtain ⟨l, hcapture, -⟩ := State.capture_of_readable _ ((State.entry_congr (congrArg Workload.tally hwork) e).trans hy)
    (State.inputsReadable_congr (congrArg Workload.master hwork :) hread)
  rw [State.deliver_shaft, hcapture]
  exact State.main_acceptShaft k y hmain hwipe

/-! ## The ways a dispatch ends (R84, R205, R230, R254, R259) -/

theorem exec_dispatch (hclock : s.avs.tripped = false) (hworker : ∀ d, target ≠ .worker d) :
    exec (.dispatch e target) s = .next (s.dispatchLocal e target) := by
  cases target with
  | worker d => exact absurd rfl (hworker d)
  | stope | shaft | none => exact s.clocked_running hclock _

section
variable (he : s.entry e = some x) (hkind : x.desc.kind = some k) (hready : s.ready x k = true)
  (hturn : s.turnOf x target = true) (hok : s.targetOk k x target = true)
include he hkind hready hturn hok

theorem State.dispatchLocal_ready : s.dispatchLocal e target = s.dispatchTo e x k target := by
  simp [State.dispatchLocal, he, hkind, hready, hturn, hok]

end

theorem State.dispatchTo_stale (h : s.staleAtDispatch x k = true) : s.dispatchTo e x k target = s.finish e .handleStale := by
  simp [State.dispatchTo, h]

section
variable (hstale : s.staleAtDispatch x k = false)
include hstale

theorem State.dispatchTo_flawed (htakes : takesKey k = true) (h : s.flawedKeys x ≠ []) :
    s.dispatchTo e x k target = s.loseKeys e (s.flawedKeys x) := by
  simp [State.dispatchTo, hstale, htakes, h]

variable (hkeys : takesKey k = true → s.flawedKeys x = [])
include hkeys

theorem State.dispatchTo_sound : s.dispatchTo e x k target =
    if s.wantsEntropy k x target && s.ent.phase == 4 then s.finish e .noEntropy
    else if s.wantsEntropy k x target && !s.randomAt target then
      (s.setEntry e { x with state := .waitEntropy, waitAt := s.stamp + s.regField .ent 0x110 15 0 * 1000000 }).pmu
        0x23 x.tenant none none 1
    else ((if k = .stfSign && x.parent.isNone then s.stfAtDispatch e x else none).getD
      ((s.takeTurn x target).accept e k target)) := by
  have hsound : (takesKey k && !(s.flawedKeys x).isEmpty) = false := by simpa using hkeys
  simp only [State.dispatchTo, hstale, hsound, Bool.false_eq_true, if_false]
  cases (if k = .stfSign && x.parent.isNone then s.stfAtDispatch e x else none) <;> rfl

theorem State.dispatchTo_failed (hwants : s.wantsEntropy k x target = true) (h : s.ent.phase = 4) :
    s.dispatchTo e x k target = s.finish e .noEntropy := by
  simp [State.dispatchTo_sound hstale hkeys, hwants, h]

theorem State.dispatchTo_waits (hwants : s.wantsEntropy k x target = true) (hphase : s.ent.phase ≠ 4)
    (h : s.randomAt target = false) : s.dispatchTo e x k target =
      (s.setEntry e { x with state := .waitEntropy, waitAt := s.stamp + s.regField .ent 0x110 15 0 * 1000000 }).pmu
        0x23 x.tenant none none 1 := by
  simp [State.dispatchTo_sound hstale hkeys, hwants, hphase, h]

theorem State.dispatchTo_accepts (hrandom : s.wantsEntropy k x target = true → s.ent.phase ≠ 4 ∧ s.randomAt target = true)
    (hstf : k = .stfSign → x.parent = none → s.stfAtDispatch e x = none) :
    s.dispatchTo e x k target = (s.takeTurn x target).accept e k target := by
  have hphase : (s.wantsEntropy k x target && s.ent.phase == 4) = false := by simpa using fun h => (hrandom h).1
  have hvalid : (s.wantsEntropy k x target && !s.randomAt target) = false := by simpa using fun h => (hrandom h).2
  have hcache : (if k = .stfSign && x.parent.isNone then s.stfAtDispatch e x else none) = none := by
    split
    case isTrue h =>
      obtain ⟨hk, hparent⟩ : k = .stfSign ∧ x.parent = none := by simpa using h
      exact hstf hk hparent
    case isFalse => rfl
  simp only [State.dispatchTo_sound hstale hkeys, hphase, hvalid, hcache, Bool.false_eq_true, if_false, Option.getD_none]

end

/-! ## The claim -/

/-- A dispatch that is accepted delivers the bound entry, with the turn taken. -/
theorem State.dispatch_of_dispatchable (hclock : s.avs.tripped = false) (hgo : Claims.Dispatchable s e x k target)
    (hworker : ∀ d, target ≠ .worker d) : ∃ (b : State) (y : Entry) (l : Cells Entry),
      exec (.dispatch e target) s = .next (b.deliver e k target y) ∧ b.entry e = some y ∧ x.SentTo target s.stamp y ∧
      b.workload = { s.workload with
        tally := { s.tally with entries := l }, credit := (s.takeTurn x target).workload.credit } := by
  obtain ⟨he, hkind, hready, hturn, hok, hstale, hkeys, hrandom, hstf⟩ := hgo
  obtain ⟨c, hwork⟩ := s.takeTurn_frame x target
  obtain ⟨b, y, l, haccept, hy, hsent, hbound⟩ := State.accept_of_entry
    ((State.entry_congr (congrArg Workload.tally hwork) e).trans he) k target
  have hstamp : (s.takeTurn x target).stamp = s.stamp := congrArg Workload.stamp hwork
  refine ⟨b, y, l, ?_, hy, hstamp ▸ hsent, hbound.trans ?_⟩
  · rw [exec_dispatch hclock hworker, State.dispatchLocal_ready he hkind hready hturn hok,
      State.dispatchTo_accepts hstale hkeys hrandom hstf, haccept]
  · calc ((s.takeTurn x target).withEntries l).workload
        = { (s.takeTurn x target).workload with tally := { (s.takeTurn x target).workload.tally with entries := l } } := rfl
      _ = _ := by rw [hwork]; rfl

theorem State.set_of_targetOk (h : s.targetOk k x (.stope n first w) = true) : first + 2 ^ w ≤ 16 := by
  simp only [State.targetOk, engAligned, Bool.and_eq_true, decide_eq_true_eq] at h
  tauto

end

theorem dispatches : Claims.Dispatch := by
  intro s e x k hclock
  refine ⟨fun target hgo hworker hread => ?accepted, fun target hworker he hkind hready hturn hok => ?ends⟩
  case accepted =>
    obtain ⟨b, y, l, hexec, hy, hsent, hwork⟩ := State.dispatch_of_dispatchable hclock hgo hworker
    have hread' : (∃ n first w, target = .stope n first w) ∨ Claims.InputsReadable b y :=
      hread.imp_right fun h => State.inputsReadable_congr (congrArg Workload.master hwork :) (hsent.inputsReadable h)
    obtain ⟨z, hz, hsentz, hstamp, hhost, hpending⟩ := State.deliver_entry hy hsent hworker hread' k
    refine ⟨_, z, hexec, hz, hsentz.state, hsentz.dispatched, hsentz.target, hsentz.started, hsentz.desc, hsentz.admitted,
      hstamp.trans (congrArg Workload.stamp hwork), hhost.trans (congrArg Workload.host hwork),
      hpending.trans (congrArg Workload.pending hwork), ?stope, ?shaft⟩
    case stope =>
      rintro n first w rfl kn hkn
      obtain ⟨-, -, -, -, hok, -⟩ := hgo
      have hset := State.set_of_targetOk hok
      have hkn' : b.kernelAt n y.desc.opcode y.tenant = some kn := by
        rw [hsent.desc, hsent.tenant, State.kernelAt_congr (congrArg Workload.stopes hwork :), hkn]
      have hcredit := State.credit_acceptStope hkn' (e := e) (first := first) (w := w)
      rw [hsent.tenant, State.kernelCost_congr (congrArg (·.tally.measured) hwork)] at hcredit
      rw [State.deliver_stope]
      refine ⟨⟨_, State.run_acceptStope hkn', rfl, rfl, rfl⟩, fun i hlo hhi => ?_, fun m i _ hi hother => ?_, ?_⟩
      · rw [State.eng_acceptStope hkn']
        exact State.eng_seat_mem hlo hhi
      · rw [State.eng_acceptStope hkn', State.eng_seat_other hset hi hother]
        exact State.eng_congr (congrArg Workload.engs hwork) m i
      · exact hcredit.trans (congrArg (· - _) (congrFun (congrArg Workload.credit hwork) x.tenant))
    case shaft =>
      rintro n rfl hmain hwipe
      have hshaft : b.shaft n = s.shaft n := State.shaft_congr (congrArg Workload.shafts hwork) n
      obtain ⟨j, hj, hentry, hstarted⟩ := State.main_deliver_shaft hy (hread'.resolve_left nofun) (hshaft ▸ hmain)
        (hshaft ▸ hwipe) k
      exact ⟨j, hj, hentry, hstarted.trans (congrArg Workload.stamp hwork)⟩
  case ends =>
    rw [exec_dispatch hclock hworker, State.dispatchLocal_ready he hkind hready hturn hok]
    refine ⟨fun hstale => ?_, fun hstale htakes hflawed => ?_, fun hstale hkeys hwants => ⟨fun hfailed => ?_,
      fun hphase hrandom => ?_⟩⟩
    · rw [State.dispatchTo_stale hstale]
    · rw [State.dispatchTo_flawed hstale htakes hflawed]
    · rw [State.dispatchTo_failed hstale hkeys hwants hfailed]
    · rw [State.dispatchTo_waits hstale hkeys hwants hphase hrandom]
      exact ⟨_, _, rfl, (State.entry_congr (congrArg Workload.tally (State.workload_pmu ..)) e).trans (s.entry_setEntry e _),
        rfl, rfl⟩

end Sys2Proof.Machine
end

section
/-! PROOF. The start of a kernel (R226, R312, R313): the three planes of the secret window, and the run as it starts. -/
namespace Sys2Proof.Machine

/-! ## The secret window (R226, R313) -/

theorem State.freshBytes_length (s : State) (n : Nat) : (s.freshBytes n).2.length = n := by
  simp [State.freshBytes]

/-- Three planes of one length stand one after the other. -/
theorem get_planes {a b c : Bytes} {n i : Nat} (ha : a.length = n) (hb : b.length = n) (hc : c.length = n) (hi : i < n) :
    let m := Cells.writeBytes [] 0 (a ++ b ++ c)
    Cells.get byte0 m i = a.getD i 0 ∧ Cells.get byte0 m (n + i) = b.getD i 0 ∧
      Cells.get byte0 m (2 * n + i) = c.getD i 0 := by
  have hget (j : Nat) (hj : j < 3 * n) :
      Cells.get byte0 (Cells.writeBytes [] 0 (a ++ b ++ c)) j = (a ++ b ++ c).getD j 0 := by
    have hlen : (a ++ b ++ c).length = 3 * n := by
      simp only [List.length_append, ha, hb, hc]
      omega
    rw [Cells.get_writeBytes, if_pos (by omega), Nat.sub_zero]
  have hab : (a ++ b).length = 2 * n := by
    simp only [List.length_append, ha, hb]
    omega
  refine ⟨?_, ?_, ?_⟩
  all_goals rw [hget _ (by omega)]
  · rw [List.getD_append _ _ _ _ (by omega), List.getD_append _ _ _ _ (by omega)]
  · rw [List.getD_append _ _ _ _ (by omega), List.getD_append_right _ _ _ _ (by omega), ha, Nat.add_sub_cancel_left]
  · rw [List.getD_append_right _ _ _ _ (by omega), hab, Nat.add_sub_cancel_left]

theorem xor_xor_cancel (v a b : Byte) : a ^^^ b ^^^ (v ^^^ a ^^^ b) = v := by
  rw [BitVec.xor_assoc v, BitVec.xor_comm v, ← BitVec.xor_assoc, BitVec.xor_self, BitVec.zero_xor]

/-- The exclusive or of the three planes is the secret. -/
theorem State.sharePlanes_xor (s : State) {sec : Bytes} {i : Nat} (hi : i < sec.length) :
    let m := Cells.writeBytes [] 0 (s.sharePlanes sec).2
    Cells.get byte0 m i ^^^ Cells.get byte0 m (sec.length + i) ^^^ Cells.get byte0 m (2 * sec.length + i) = sec[i]! := by
  unfold State.sharePlanes
  extract_lets a b c m
  have ha : a.2.length = sec.length := s.freshBytes_length _
  have hb : b.2.length = sec.length := a.1.freshBytes_length _
  have hc : c.length = sec.length := by simp [c, ha, hb]
  have hci : c.getD i 0 = sec[i]! ^^^ a.2.getD i 0 ^^^ b.2.getD i 0 := by
    simp [c, hi, ha, hb]
  obtain ⟨h1, h2, h3⟩ := get_planes ha hb hc hi
  rw [h1, h2, h3, hci, xor_xor_cancel]

/-! ## The run as it starts (R312) -/

section
variable {s : State} {e : Nat} {x y : Entry} {r : Run} {sec : Bytes}

/-- The masking generator is fresh where there is a secret to share (R230, R245). -/
def State.masked (s : State) (sec : Bytes) : State := if sec.isEmpty then s else s.maskFresh

theorem State.masked_frame (s : State) (sec : Bytes) :
    ∃ n f o, s.masked sec = { s with ent := n, freeNext := f, lode := o } := by
  unfold State.masked
  split
  · exact ⟨_, _, _, rfl⟩
  · exact s.maskFresh_frame

theorem State.masked_withEntries (s : State) (l : Cells Entry) (sec : Bytes) :
    (s.withEntries l).masked sec = (s.masked sec).withEntries l := by
  unfold State.masked
  split
  · rfl
  · exact s.maskFresh_withEntries l

theorem State.masked_secret (s : State) (h : sec ≠ []) : s.masked sec = s.maskFresh := by
  simp [State.masked, h]

/-- The windows are filled and the engines start. -/
def State.launch (s : State) (e : Nat) (r : Run) (y : Entry) (sec : Bytes) : State :=
  let pub := (match y.bound1 with | some b => b.pub | none => []) ++ (match y.bound2 with | some b => b.pub | none => [])
  let pub := pub.take (r.kernel.winPub * 64)
  let p := s.sharePlanes sec
  let win := inputLayout r.kernel y.input y.aux y.digest
  (p.1.setRun e { r with
    input := win.1, inStream := win.2, pub := Cells.writeBytes [] 0 pub, sec := Cells.writeBytes [] 0 p.2
    lsec := sec.length, lpub := pub.length, lodeStream := s.streamOf y, startStamp := s.stamp
    stepStamp := s.stamp }).modEntry e fun x => { x with started := true }

theorem State.launch_of_entry (hy : s.entry e = some y) :
    ∃ q, s.launch e r y sec = ((s.sharePlanes sec).1.setRun e q).setEntry e { y with started := true } ∧
      q.lsec = sec.length ∧ q.startStamp = s.stamp ∧ q.kernel = r.kernel ∧ q.stope = r.stope ∧
      q.sec = Cells.writeBytes [] 0 (s.sharePlanes sec).2 ∧
      q.input = (inputLayout r.kernel y.input y.aux y.digest).1 ∧
      q.inStream = (inputLayout r.kernel y.input y.aux y.digest).2 := by
  unfold State.launch
  extract_lets pub pub' p win
  have hmod (q : Run) : (p.1.setRun e q).modEntry e (fun x => { x with started := true }) =
      (p.1.setRun e q).setEntry e { y with started := true } := by
    have hy' : (p.1.setRun e q).entry e = some y := hy
    rw [State.modEntry, hy']
  exact ⟨_, hmod _, rfl, rfl, rfl, rfl, rfl, rfl, rfl⟩

theorem exec_kernelStart (hclock : s.avs.tripped = false) : exec (.kernelStart e) s = .next (s.kernelStart e) :=
  s.clocked_running hclock _

theorem State.secretOf_withInputs (s : State) (x : Entry) (kn : Kernel) :
    Claims.secretOf (s.withInputs x) kn = Claims.secretOf x kn := by
  unfold State.withInputs
  split <;> rfl

theorem State.stopping_withInputs (s : State) (x : Entry) : (s.withInputs x).stopping = x.stopping := by
  unfold State.withInputs
  split <;> rfl

/-- A kernel whose inputs can be read starts, unless its secret cannot be masked. -/
theorem State.kernelStart_of_readable (he : s.entry e = some x) (hr : s.run e = some r) (hlive : x.live = true)
    (hstarted : x.started = false) (hread : Claims.InputsReadable s x) :
    s.kernelStart e =
      let m := (s.capture e).masked (Claims.secretOf x r.kernel)
      if !(Claims.secretOf x r.kernel).isEmpty && !m.lode.maskGen then m.finish e .noEntropy
      else m.launch e r (s.withInputs x) (Claims.secretOf x r.kernel) := by
  obtain ⟨l, hcapture, hy⟩ := s.capture_of_readable he hread
  have hstopping : (s.withInputs x).stopping.isSome = false := by
    rw [s.stopping_withInputs]
    obtain ⟨-, hnone⟩ : x.state = .dispatched ∧ x.stopping = none := by simpa [Entry.live] using hlive
    simp [hnone]
  rw [← s.secretOf_withInputs]
  unfold State.kernelStart
  simp only [he, hr, hlive, hstarted, hcapture, hy, hstopping, Option.getD_some]
  rfl

end

theorem kernelStarts : Claims.KernelStart := by
  intro s e x r hclock he hr hlive hstarted hread sec
  obtain ⟨l, hcapture, hy⟩ := s.capture_of_readable he hread
  have hstart := State.kernelStart_of_readable he hr hlive hstarted hread
  change s.kernelStart e = if !sec.isEmpty && !((s.capture e).masked sec).lode.maskGen then _ else _ at hstart
  have hlode (hsec : sec ≠ []) : ((s.capture e).masked sec).lode = s.maskFresh.lode := by
    rw [hcapture, s.masked_withEntries, s.masked_secret hsec]
    rfl
  rw [exec_kernelStart hclock, hstart]
  refine ⟨fun hmask => ?starts, fun hsec hmask => ?refused⟩
  case starts =>
    have hgen : (!sec.isEmpty && !((s.capture e).masked sec).lode.maskGen) = false := by
      by_cases hsec : sec = []
      · simp [hsec]
      · simp [hlode hsec, hmask.resolve_left hsec]
    rw [hgen, if_neg Bool.false_ne_true, hcapture, s.masked_withEntries]
    obtain ⟨n, f, o, hmasked⟩ := s.masked_frame sec
    rw [hmasked]
    have hym : (State.withEntries { s with ent := n, freeNext := f, lode := o } l).entry e = some (s.withInputs x) := hy
    obtain ⟨q, hlaunch, hlsec, hstamp, hkernel, hstope, hplanes, hinput, hstream⟩ :=
      State.launch_of_entry (r := r) (sec := sec) hym
    rw [hlaunch]
    refine ⟨_, _, q, rfl, State.entry_setEntry _ e _, rfl, State.run_setRun _ e q, hlsec, hstamp, hkernel, hstope,
      fun i hi => ?_, hinput, hstream, rfl, rfl, rfl⟩
    rw [hplanes]
    exact State.sharePlanes_xor _ hi
  case refused =>
    have hgen : (!sec.isEmpty && !((s.capture e).masked sec).lode.maskGen) = true := by
      simp [hlode hsec, hmask, hsec]
    rw [if_pos hgen, State.masked_secret _ hsec]

/-- Settles O33: each way a dispatch ends by its own equation of `State.dispatchTo`, the start by the launch of the run. -/
theorem dispatchAndStart : Obligations.DispatchAndStart := ⟨dispatches, kernelStarts⟩

end Sys2Proof.Machine
end

section
/-! PROOF. Every step keeps the canonical form of the sparse memories, and leaves the waiting commands alone (O59, O60).
Both say that an operation keeps something of the state it starts from, so one relation, `Kept`, carries both; each
operation of the model has one frame lemma under its own name, in the order of the model's files. The proof of each
follows the operation's definition: what it calls in turn, an `ite` for each choice, `upd` for fields that neither
statement speaks of. -/
namespace Sys2Proof.Machine

/-- `t` keeps what `r` has: the queue of commands as it was, and the canonical form where `r` has it. -/
def Kept (r t : State) : Prop := t.pending = r.pending ∧ (r.Canonical → t.Canonical)

/-- Whatever state a slot goes on in is kept. -/
def KeptDid (r : State) : Did → Prop
  | .ok u | .bad u _ _ | .hold u => Kept r u
  | .trap _ _ _ | .wait => True

/-- The next state of a command, if it answers one, is kept. -/
def KeptOut (r : State) (o : Out) : Prop := ∀ t, o = .next t → Kept r t

theorem KeptDid.ok {r s : State} (h : Kept r s) : KeptDid r (.ok s) := h
theorem KeptDid.bad {r s : State} {a e} (h : Kept r s) : KeptDid r (.bad s a e) := h
theorem KeptDid.hold {r s : State} (h : Kept r s) : KeptDid r (.hold s) := h
theorem KeptDid.trap {r : State} {c a e} : KeptDid r (.trap c a e) := ⟨⟩
theorem KeptDid.wait {r : State} : KeptDid r .wait := ⟨⟩

theorem KeptOut.fault {r : State} {f} : KeptOut r (.fault f) := fun _ ht => nomatch ht

theorem KeptDid.ite {r : State} {t u : Did} {c : Prop} {inst : Decidable c} (ht : KeptDid r t) (hu : KeptDid r u) :
    KeptDid r (if c then t else u) := by
  split
  exacts [ht, hu]

theorem KeptOut.ite {r : State} {t u : Out} {c : Prop} {inst : Decidable c} (ht : KeptOut r t) (hu : KeptOut r u) :
    KeptOut r (if c then t else u) := by
  split
  exacts [ht, hu]

theorem KeptDid.withM {r : State} {a k f} (hf : ∀ m, KeptDid r (f m)) : KeptDid r (Machine.withM a k f) :=
  .ite (hf _) (.ite .wait .trap)

theorem KeptDid.withQ {r : State} {a ring f} (hf : ∀ q, KeptDid r (f q)) : KeptDid r (Machine.withQ a ring f) :=
  .withM fun _ => hf _

theorem KeptDid.withArith {r : State} {a ring f} (hf : ∀ d, KeptDid r (f d)) :
    KeptDid r (Machine.withArith a ring f) :=
  .ite (.withQ fun _ => hf _) (hf _)

theorem KeptDid.withUmode {r : State} {a umode mreg f} (hf : ∀ d, KeptDid r (f d)) :
    KeptDid r (Machine.withUmode a umode mreg f) := by
  unfold Machine.withUmode
  split
  exacts [hf _, hf _, .withM fun _ => hf _]

theorem KeptDid.withPort {r : State} {a xh u' f} (hf : ∀ p, KeptDid r (f p)) :
    KeptDid r (Machine.withPort a xh u' f) := by
  unfold Machine.withPort
  split
  exacts [.ite (hf _) .trap, .trap]

theorem KeptDid.withSponge {r : State} {a f} (hf : ∀ p, KeptDid r (f p)) : KeptDid r (Machine.withSponge a f) :=
  .withPort fun _ => .ite .trap (hf _)

theorem KeptDid.checked {r : State} {a k len els d} (h : KeptDid r d) : KeptDid r (Machine.checked a k len els d) := by
  unfold Machine.checked
  split
  exacts [.trap, h]

theorem KeptDid.gatherChecked {r : State} {a k d} (h : KeptDid r d) : KeptDid r (Machine.gatherChecked a k d) := by
  unfold Machine.gatherChecked
  split
  exacts [.ite .trap .trap, .trap, .trap, h]

namespace Kept
variable {r s t u : State}

theorem refl (s : State) : Kept s s := ⟨rfl, id⟩

/-- Only fields that neither the queue nor the canonical form speaks of differ. -/
theorem upd
    {stamp edge freeNext flaws prims flips latches txn dir fns sqs cqs tally hdf lode ent ctxs dgs slc shafts stopes
     engs runs kstQueue samplers lcc zdp rst spdms avs bwNext}
    (h : Kept r s) :
    Kept r { s with
      stamp, edge, freeNext, flaws, prims, flips, latches, txn, dir, fns, sqs, cqs, tally, hdf, lode, ent, ctxs,
      dgs, slc, shafts, stopes, engs, runs, kstQueue, samplers, lcc, zdp, rst, spdms, avs, bwNext } :=
  ⟨h.1, fun hr => h.2 hr⟩

/-- As `upd`, with fields of the Canary besides, but not its retained memory. -/
theorem updCny
    {stamp edge freeNext flaws prims flips latches txn dir fns sqs cqs tally hdf lode ent ctxs dgs slc shafts stopes
     engs runs kstQueue samplers lcc zdp rst spdms avs bwNext
     srcAct inForce detected held phase lastSrc scrubbed zeroised shut genFresh loops mapCopy floor locked bclk log
     logSeq logLost tctr sealed rootKey vbatLost batLow vbatMv vbatGone loadCount bclkRem onBackup lostCounted
     loopCfg caseCfg periodCfg pulseAt pendCls}
    (h : Kept r s) :
    Kept r { s with
      stamp, edge, freeNext, flaws, prims, flips, latches, txn, dir, fns, sqs, cqs, tally, hdf, lode, ent, ctxs,
      dgs, slc, shafts, stopes, engs, runs, kstQueue, samplers, lcc, zdp, rst, spdms, avs, bwNext
      cny := { s.cny with
        srcAct, inForce, detected, held, phase, lastSrc, scrubbed, zeroised, shut, genFresh, loops, mapCopy, floor,
        locked, bclk, log, logSeq, logLost, tctr, sealed, rootKey, vbatLost, batLow, vbatMv, vbatGone, loadCount,
        bclkRem, onBackup, lostCounted, loopCfg, caseCfg, periodCfg, pulseAt, pendCls } } :=
  ⟨h.1, fun hr => h.2 hr⟩

/-- Other registers and another retained memory, each in canonical form where the old one was. -/
theorem withCells
    {regs cny stamp edge freeNext flaws prims flips latches txn dir fns sqs cqs tally hdf lode ent ctxs dgs slc
     shafts stopes engs runs kstQueue samplers lcc zdp rst spdms avs bwNext}
    (h : Kept r s)
    (hw : Cells.wf regDefault s.regs = true → Cells.wf regDefault regs = true)
    (hc : Cells.wf byte0 s.cny.retained = true → Cells.wf byte0 (Canary.retained cny) = true) :
    Kept r { s with
      regs, cny, stamp, edge, freeNext, flaws, prims, flips, latches, txn, dir, fns, sqs, cqs, tally, hdf, lode,
      ent, ctxs, dgs, slc, shafts, stopes, engs, runs, kstQueue, samplers, lcc, zdp, rst, spdms, avs, bwNext } :=
  ⟨h.1, fun hr => have ⟨hregs, hhost, hkept⟩ := h.2 hr; ⟨hw hregs, hhost, hc hkept⟩⟩

/-- A choice is kept where both its ends are. -/
theorem ite {c : Prop} {inst : Decidable c} (ht : Kept r t) (hu : Kept r u) : Kept r (if c then t else u) := by
  split
  exacts [ht, hu]

theorem iteFst {α} {t u : State × α} {c : Prop} {inst : Decidable c} (ht : Kept r t.1) (hu : Kept r u.1) :
    Kept r (if c then t else u).1 := by
  split
  exacts [ht, hu]

theorem mkFst {α} {x : α} (h : Kept r t) : Kept r (t, x).1 := h

/-- The state of an operation that answers a pair, once the pair is taken apart. -/
theorem fst {α} {p : State × α} {b : α} (h : Kept r p.1) (hp : p = (t, b)) : Kept r t := by
  subst hp
  exact h

theorem foldl {β} {f : State → β → State} {l : List β} (h : Kept r s) (hf : ∀ s x, Kept r s → Kept r (f s x)) :
    Kept r (l.foldl f s) := by
  induction l generalizing s with
  | nil => exact h
  | cons x l ih => exact ih (hf s x h)

theorem foldlFst {α β} {f : State × α → β → State × α} {l : List β} {p : State × α} (h : Kept r p.1)
    (hf : ∀ p x, Kept r p.1 → Kept r (f p x).1) : Kept r (l.foldl f p).1 := by
  induction l generalizing p with
  | nil => exact h
  | cons x l ih => exact ih (hf p x h)

theorem next (h : Kept r s) : KeptOut r (.next s) := fun _ ht => by
  cases ht
  exact h

theorem clocked {o : Out} (h : Kept r s) (ho : KeptOut r o) : KeptOut r (s.clocked o) := .ite h.next ho

theorem engineCmd {n i} (h : Kept r s) : KeptOut r (engineCmd n i s) := by
  unfold Machine.engineCmd
  split
  · exact h.next
  · exact fun _ ht => nomatch ht

theorem setReg {p off v} (h : Kept r s) : Kept r (s.setReg p off v) :=
  ⟨h.1, fun hr => have ⟨hregs, hrest⟩ := h.2 hr; ⟨Cells.wf_set _ _ hregs, hrest⟩⟩

theorem hostWrite {a bs} (h : Kept r s) : Kept r (s.hostWrite a bs) :=
  ⟨h.1, fun hr => have ⟨hregs, hhost, hkept⟩ := h.2 hr; ⟨hregs, Cells.wf_writeBytes _ _ _ hhost, hkept⟩⟩

/-! ### Ops -/

theorem advanceTo {t'} (h : Kept r s) : Kept r (s.advanceTo t') := h.upd

theorem nextStamp (h : Kept r s) : Kept r s.nextStamp := h.advanceTo

theorem edgeBy {d} (h : Kept r s) : Kept r (s.edgeBy d) := h.upd

theorem tick (h : Kept r s) : Kept r s.tick := .ite h.edgeBy <| .ite h.upd.edgeBy h.upd.edgeBy

theorem setFn {t' f} (h : Kept r s) : Kept r (s.setFn t' f) := h.upd

theorem setSq {t' q x} (h : Kept r s) : Kept r (s.setSq t' q x) := h.upd

theorem setCq {t' q x} (h : Kept r s) : Kept r (s.setCq t' q x) := h.upd

theorem raiseVector {t' v} (h : Kept r s) : Kept r (s.raiseVector t' v) := .ite h.setFn h.setFn

theorem flushPba {t'} (h : Kept r s) : Kept r (s.flushPba t') := .ite h.setFn h

theorem setInt {p n} (h : Kept r s) : Kept r (s.setInt p n) := .ite h <| .ite h.setReg.raiseVector h.setReg

theorem setErrBits {q bits} (h : Kept r s) : Kept r (s.setErrBits q bits) := .ite h.setReg h.setReg.setInt

theorem setErr {p n} (h : Kept r s) : Kept r (s.setErr p n) := h.setErrBits

theorem accessErr {p} (h : Kept r s) : Kept r (s.accessErr p) := h.setErr

theorem logEvent {kind cls tenant block unit d0 st d1} (h : Kept r s) :
    Kept r (s.logEvent kind cls tenant block unit d0 st d1) :=
  .ite h.upd.setInt h.upd

theorem dropFlaws {p} (h : Kept r s) : Kept r (s.dropFlaws p) := h.upd

theorem foundUncorr {p code addr} (h : Kept r s) : Kept r (s.foundUncorr p code addr) := h.setErr.logEvent

theorem countTamper (h : Kept r s) : Kept r s.countTamper.1 := .iteFst h.updCny h.setErr

theorem cnyLog {e} (h : Kept r s) : Kept r (s.cnyLog e) := by
  unfold State.cnyLog
  dsimp only
  split
  · exact h.updCny
  split
  exacts [h.updCny, h.updCny.setErr]

theorem pendSource {src cls} (h : Kept r s) : Kept r (s.pendSource src cls) := h.setReg.setInt.updCny

theorem raiseAlarm {src cause detail lasting} (h : Kept r s) : Kept r (s.raiseAlarm src cause detail lasting) :=
  (Kept.iteFst h.countTamper h).cnyLog.pendSource.updCny

theorem shadowMismatch {p off cause} (h : Kept r s) : Kept r (s.shadowMismatch p off cause) :=
  h.setReg.setErr.logEvent.raiseAlarm

theorem dropPrimary {req p} (h : Kept r s) : Kept r (s.dropPrimary req p) := h.upd

theorem breakPrimary {req p} (h : Kept r s) : Kept r (s.breakPrimary req p) := by
  unfold State.breakPrimary
  split
  exacts [h.dropPrimary.shadowMismatch, h]

theorem writeGate {req p off} (h : Kept r s) : Kept r (s.writeGate req p off).1 := by
  unfold State.writeGate
  extract_lets s₁
  have h₁ : Kept r s₁ := by
    dsimp only [s₁]
    split
    exacts [.ite h h.breakPrimary, h]
  exact .iteFst h (.iteFst h₁.accessErr h₁)

theorem gated {req p off f} (h : Kept r s) (hf : ∀ s, Kept r s → Kept r (f s)) : Kept r (s.gated req p off f) := by
  unfold State.gated
  split
  exacts [hf _ (h.writeGate.fst ‹_›), h.writeGate.fst ‹_›]

theorem holdPrimary {req p off v} (h : Kept r s) : Kept r (s.holdPrimary req p off v) := h.upd

theorem complement {req p off v} (h : Kept r s) : Kept r (s.complement req p off v).1 := by
  unfold State.complement
  split
  next hg => exact h.writeGate.fst hg
  next hg =>
    have hu := h.writeGate.fst hg
    split
    · exact hu.shadowMismatch.mkFst
    · exact .iteFst hu.dropPrimary.shadowMismatch.shadowMismatch.mkFst <|
        .iteFst hu.dropPrimary.mkFst hu.dropPrimary.shadowMismatch.mkFst

theorem freshCopy {p off} (h : Kept r s) : Kept r (s.freshCopy p off) := h.upd

theorem criticalPair {req p off v c} (h : Kept r s) : Kept r (s.criticalPair req p off v c).1 := by
  unfold State.criticalPair
  split
  exacts [h.writeGate.fst ‹_›, (h.writeGate.fst ‹_›).holdPrimary.complement]

/-! ### Links -/

theorem setLink {l x} (h : Kept r s) : Kept r (s.setLink l x) := h.upd

theorem setMember {d x} (h : Kept r s) : Kept r (s.setMember d x) := h.upd

theorem sendOn {l m} (h : Kept r s) : Kept r (s.sendOn l m) := h.setLink

theorem send {d m} (h : Kept r s) : Kept r (s.send d m) := .ite h.sendOn h

theorem sendStop {d n} (h : Kept r s) : Kept r (s.sendStop d n) := h.send

theorem purge {h' destroyed e} (h : Kept r s) : Kept r (s.purge h' destroyed e) :=
  h.foldl fun _ _ h => (Kept.ite h.setMember.upd h.setMember).send

/-! ### Lode -/

theorem setObj {i o} (h : Kept r s) : Kept r (s.setObj i o) := h.upd

theorem allocIndex (h : Kept r s) : Kept r s.allocIndex.1 := by
  unfold State.allocIndex
  split
  exacts [h.setObj.upd, h]

theorem releaseIndex {i} (h : Kept r s) : Kept r (s.releaseIndex i) := h.setObj

theorem destroyStamp (h : Kept r s) : Kept r s.destroyStamp := h.upd

theorem useExpansion {i} (h : Kept r s) : Kept r (s.useExpansion i) := h.setObj.upd

theorem dropExpansion {i} (h : Kept r s) : Kept r (s.dropExpansion i) := h.setObj.dropFlaws

theorem loseExpansion {i} (h : Kept r s) : Kept r (s.loseExpansion i) := h.dropExpansion.foundUncorr.setErr

theorem evictFuel {t' need share n} (h : Kept r s) : Kept r (Machine.evictFuel t' need share n s) := by
  induction n generalizing s with
  | zero => exact h
  | succ n ih =>
    refine .ite h ?_
    split
    exacts [ih h.dropExpansion, h]

theorem evictFor {t' need} (h : Kept r s) : Kept r (s.evictFor t' need) := h.evictFuel

theorem storeExpansion {t' h' evict} (h : Kept r s) : Kept r (s.storeExpansion t' h' evict).1 :=
  .iteFst (.iteFst ((Kept.ite h.evictFor h).setObj.useExpansion) <| .ite h.evictFor h) h

/-! ### Units -/

theorem setEng {n i x} (h : Kept r s) : Kept r (s.setEng n i x) := h.upd

theorem setStope {n x} (h : Kept r s) : Kept r (s.setStope n x) := h.upd

theorem setShaft {n x} (h : Kept r s) : Kept r (s.setShaft n x) := h.upd

theorem setRun {e r'} (h : Kept r s) : Kept r (s.setRun e r') := h.upd

theorem setGen {n g} (h : Kept r s) : Kept r (s.setGen n g) := h.upd

theorem setMrg {n m} (h : Kept r s) : Kept r (s.setMrg n m) := h.upd

theorem setSampler {n x} (h : Kept r s) : Kept r (s.setSampler n x) := h.upd

theorem bumpCounter {p k d} (h : Kept r s) : Kept r (s.bumpCounter p k d) :=
  .ite h.setReg.setReg h.setReg.setReg.setReg.setInt

theorem countIn {p num ev t' n i d} (h : Kept r s) : Kept r (s.countIn p num ev t' n i d) :=
  .ite h <| h.foldl fun _ _ h => .ite h.bumpCounter h

theorem pmu {ev t' n i d} (h : Kept r s) : Kept r (s.pmu ev t' n i d) := h.countIn.countIn

theorem mapEngs {n l f} (h : Kept r s) : Kept r (s.mapEngs n l f) := h.foldl fun _ _ h => h.setEng

theorem forgetMeasures {st} (h : Kept r s) : Kept r (s.forgetMeasures st) := h.upd

theorem countCorrected {unit n} (h : Kept r s) : Kept r (s.countCorrected unit n) := h.upd

theorem resetStope {n} (h : Kept r s) : Kept r (s.resetStope n) :=
  h.mapEngs.dropFlaws.setSampler.setStope.setGen.setMrg.forgetMeasures

theorem resetShaft {n} (h : Kept r s) : Kept r (s.resetShaft n) := h.setShaft

theorem blockReset {p} (h : Kept r s) : Kept r (s.blockReset p) := by
  unfold State.blockReset
  split
  exacts [h.resetStope, h.resetShaft, h]

theorem unitDrained {p} (h : Kept r s) : Kept r (s.unitDrained p) := .ite h.setInt.blockReset h.setInt

theorem stopeSettled {n} (h : Kept r s) : Kept r (s.stopeSettled n) := .ite h.unitDrained h

theorem shaftSettled {n} (h : Kept r s) : Kept r (s.shaftSettled n) := .ite h.unitDrained h

theorem samplerSettle {n} (h : Kept r s) : Kept r (s.samplerSettle n) := .ite h.upd.setSampler h

theorem endRun {e wipe} (h : Kept r s) : Kept r (s.endRun e wipe) := by
  unfold State.endRun
  split
  exacts [h, .ite h.upd.samplerSettle.dropFlaws.stopeSettled h.upd.samplerSettle.dropFlaws.mapEngs.stopeSettled]

theorem releaseEngines {e} (h : Kept r s) : Kept r (s.releaseEngines e) := by
  unfold State.releaseEngines
  split
  exacts [h, h.mapEngs.setRun.stopeSettled]

theorem leaveShaft {n e committed} (h : Kept r s) : Kept r (s.leaveShaft n e committed) := by
  unfold State.leaveShaft
  dsimp only
  split
  · split
    · exact h.upd.setShaft
    split
    exacts [.ite h.upd.setShaft h.upd, h.upd]
  · exact .ite h.upd.setShaft h.upd
  exact h.upd

theorem releaseUnit {e target committed} (h : Kept r s) : Kept r (s.releaseUnit e target committed) := by
  unfold State.releaseUnit
  split
  exacts [h.endRun, h.leaveShaft, h]

/-! ### Tally -/

theorem scatter {l bs} (h : Kept r s) : Kept r (s.scatter l bs) := by
  induction l generalizing s bs with
  | nil => exact h
  | cons p l ih => exact ih h.hostWrite

theorem outputTo {x off bs} (h : Kept r s) : Kept r (s.outputTo x off bs) := .ite h <| .ite h.scatter h.hostWrite

theorem setEntry {e x} (h : Kept r s) : Kept r (s.setEntry e x) := h.upd

theorem modEntry {e f} (h : Kept r s) : Kept r (s.modEntry e f) := by
  unfold State.modEntry
  split
  exacts [h.setEntry, h]

theorem addEntry {e x} (h : Kept r s) : Kept r (s.addEntry e x) := h.setEntry.upd

theorem raiseCq {t' q} (h : Kept r s) : Kept r (s.raiseCq t' q) := h.setCq.raiseVector

theorem moderate {t' q} (h : Kept r s) : Kept r (s.moderate t' q) := .ite h.raiseCq h

theorem countRecord {t' q x} (h : Kept r s) : Kept r (s.countRecord t' q x) := .ite h.setCq.moderate h

theorem writeRecord {e x} (h : Kept r s) : Kept r (s.writeRecord e x) :=
  (Kept.ite h.hostWrite.setCq.upd.pmu h.hostWrite.setCq.upd.pmu.pmu).countRecord

theorem drainFuel {t' q n} (h : Kept r s) : Kept r (Machine.drainFuel t' q n s) := by
  induction n generalizing s with
  | zero => exact h
  | succ n ih =>
    unfold Machine.drainFuel
    dsimp only
    split
    · refine .ite ?_ h
      split
      exacts [ih h.writeRecord, ih h.setCq]
    · exact h

theorem drainCq {t' q} (h : Kept r s) : Kept r (s.drainCq t' q) := h.drainFuel

theorem askLease {w} (h : Kept r s) : Kept r (s.askLease w) := h.upd

theorem askRetired {i keyId f} (h : Kept r s) : Kept r (s.askRetired i keyId f) := h.askLease

theorem dropResv {e} (h : Kept r s) : Kept r (s.dropResv e) := by
  unfold State.dropResv
  split
  · extract_lets s₁
    have h₁ : Kept r s₁ := by
      dsimp only [s₁]
      split
      · split
        exacts [h.releaseIndex, h]
      · exact h
    refine .setEntry <| .upd <| h₁.foldl fun _ _ h => ?_
    split
    exacts [.ite h.askRetired h, h]
  · exact h

theorem wakeCache {i} (h : Kept r s) : Kept r (s.wakeCache i) := h.upd

theorem dropKids {e x} (h : Kept r s) : Kept r (s.dropKids e x) := by
  unfold State.dropKids
  dsimp only
  split
  · split
    exacts [.ite h.upd.setObj.wakeCache h.upd, h.upd]
  exact h.upd

theorem countLost {x st} (h : Kept r s) : Kept r (s.countLost x st) := by
  unfold State.countLost
  dsimp only
  split
  exacts [.ite h h.setObj, h]

theorem freeEntry {e} (h : Kept r s) : Kept r (s.freeEntry e) := by
  unfold State.freeEntry
  split
  exacts [(Kept.ite ((Kept.ite h.dropResv.dropKids.countLost h.dropResv.dropKids).releaseUnit) <|
      .ite h.dropResv.dropKids.countLost h.dropResv.dropKids).setCq.upd, h]

theorem sendResult {r'} (h : Kept r s) : Kept r (s.sendResult r') := h.send

theorem spillResult {e x token} (h : Kept r s) : Kept r (s.spillResult e x token) :=
  .ite h.upd <| .ite h.upd.upd h.upd.sendResult

theorem publish {e x off bs} (h : Kept r s) : Kept r (s.publish e x off bs) := .ite h.modEntry <| .ite h.outputTo h

theorem settleOne {e st at_} (h : Kept r s) : Kept r (s.settleOne e st at_) := by
  unfold State.settleOne
  split
  · exact h
  · exact
      have h := (Kept.ite h.releaseUnit h).dropResv.dropKids.countLost.setEntry
      .ite h.upd (.ite h.spillResult (.ite h.freeEntry h.setCq.drainCq))

theorem settle {e st at_} (h : Kept r s) : Kept r (s.settle e st at_) := by
  unfold State.settle
  dsimp only
  split
  · exact h
  split
  · exact h.settleOne
  split
  exacts [.ite h.settleOne.settleOne h.settleOne, h.settleOne]

theorem finish {e st} (h : Kept r s) : Kept r (s.finish e st) := h.settle

theorem measure {e x} (h : Kept r s) : Kept r (s.measure e x) := h.upd

theorem commitOut {e out info} (h : Kept r s) : Kept r (s.commitOut e out info) := by
  unfold State.commitOut
  split
  exacts [h, .ite h.setEntry.finish h.setEntry.publish.measure.pmu.finish]

theorem commitReject {e info} (h : Kept r s) : Kept r (s.commitReject e info) := by
  unfold State.commitReject
  split
  exacts [h, h.setEntry.measure.pmu.finish]

theorem hold {e st t'} (h : Kept r s) : Kept r (s.hold e st t') := by
  unfold State.hold
  split
  exacts [h, .ite h.pmu.finish h.pmu.releaseUnit.dropResv.modEntry]

theorem eqtCommit {e out info t'} (h : Kept r s) : Kept r (s.eqtCommit e out info t') := by
  unfold State.eqtCommit
  split
  exacts [h, .ite h.commitOut h.releaseEngines.setEntry]

theorem requeue {e} (h : Kept r s) : Kept r (s.requeue e) := by
  unfold State.requeue
  split
  exacts [h, h.releaseUnit.setEntry]

theorem endStopped {e how} (h : Kept r s) : Kept r (s.endStopped e how) := by
  unfold State.endStopped
  split
  exacts [h.finish, h.requeue, h.freeEntry]

theorem stopEngines {e} (h : Kept r s) : Kept r (s.stopEngines e) := by
  unfold State.stopEngines
  split
  exacts [h, h.mapEngs]

theorem stop {e how} (h : Kept r s) : Kept r (s.stop e how) := by
  unfold State.stop
  dsimp only
  split
  · exact h
  split
  · exact h
  split
  exacts [.ite h.endStopped h.setEntry.stopEngines, .ite h.setEntry h.setShaft.endStopped, h.sendStop.endStopped,
      h.endStopped]

theorem endWith {e st held} (h : Kept r s) : Kept r (s.endWith e st held) := by
  unfold State.endWith
  split
  · exact h
  split
  exacts [h.finish, h.finish, .ite h.finish h, h.stop, h, h]

theorem forEntries {l f} (h : Kept r s) (hf : ∀ s e, Kept r s → Kept r (f s e)) : Kept r (s.forEntries l f) :=
  h.foldl hf

/-! ### LodeActs -/

theorem setCtx {t' c x} (h : Kept r s) : Kept r (s.setCtx t' c x) := h.upd

theorem dgsFlag {t' c b} (h : Kept r s) : Kept r (s.dgsFlag t' c b) := h.setCtx.setErr

theorem dropCore {t' c} (h : Kept r s) : Kept r (s.dropCore t' c) := h.upd

theorem dgsClear {t' c b} (h : Kept r s) : Kept r (s.dgsClear t' c b) := h.dropCore.setCtx.dgsFlag

theorem dgsClearWhere {p b} (h : Kept r s) : Kept r (s.dgsClearWhere p b) := h.foldl fun _ _ h => h.dgsClear

theorem modStf {i f} (h : Kept r s) : Kept r (s.modStf i f) := by
  unfold State.modStf
  split
  exacts [h.setObj, h]

theorem askExtension {i} (h : Kept r s) : Kept r (s.askExtension i) := by
  unfold State.askExtension
  split
  exacts [.ite h.modStf.askLease h, h]

theorem extendLease {i} (h : Kept r s) : Kept r (s.extendLease i) := by
  unfold State.extendLease
  split
  exacts [.ite h.askExtension h, h]

theorem leaseEvent {t' cause slot remaining} (h : Kept r s) : Kept r (s.leaseEvent t' cause slot remaining) :=
  h.logEvent.raiseVector

theorem warnLow {i} (h : Kept r s) : Kept r (s.warnLow i) := by
  unfold State.warnLow
  dsimp only
  split
  · split
    · refine .leaseEvent <| .modStf ?_
      split
      exacts [.ite h.modStf.leaseEvent h, h]
    split
    exacts [.ite h.modStf.leaseEvent h, h]
  split
  exacts [.ite h.modStf.leaseEvent h, h]

theorem askSubrange {i} (h : Kept r s) : Kept r (s.askSubrange i) := by
  unfold State.askSubrange
  split
  exacts [.ite h.modStf.send h, h]

theorem reserveIndex {i} (h : Kept r s) : Kept r (s.reserveIndex i).1 := by
  unfold State.reserveIndex
  split
  exacts [h, .iteFst h.setObj <| .ite h.setObj.extendLease.askSubrange.warnLow.askLease
      h.setObj.extendLease.askSubrange.warnLow]

theorem destroyOne {i why entry markers} (h : Kept r s) : Kept r (s.destroyOne i why entry markers) := by
  unfold State.destroyOne
  extract_lets o k holders _ s₁ s₂ s₃ s₄ s₅ _ s₆ s₇
  refine .ite h ?_
  have h₁ : Kept r s₁ := by
    dsimp only [s₁]
    split
    exacts [h.upd, h]
  have h₂ : Kept r s₂ := h₁.setObj.dropFlaws
  have h₃ : Kept r s₃ := .ite h₂ h₂.purge
  have h₅ : Kept r s₅ := .dgsClearWhere (h₃.forEntries fun _ _ h => h.stop)
  have h₆ : Kept r s₆ := .ite h₅.upd h₅
  have h₇ : Kept r s₇ := by
    dsimp only [s₇]
    split
    exacts [.wakeCache (.ite h₆.askRetired h₆), h₆]
  exact h₇.upd.logEvent

theorem destroyAll {is why entry markers} (h : Kept r s) : Kept r (s.destroyAll is why entry markers) :=
  .ite h <| (h.foldl fun _ _ h => h.destroyOne).destroyStamp

theorem placeObject {i o} (h : Kept r s) : Kept r (s.placeObject i o) := h.setObj

theorem completeCreation {e i o pub info} (h : Kept r s) : Kept r (s.completeCreation e i o pub info) := by
  unfold State.completeCreation
  refine .commitOut ?_
  split
  exacts [.ite h.placeObject.modEntry.storeExpansion h.placeObject.modEntry, h.placeObject.modEntry]

theorem askRecord {e i t' o} (h : Kept r s) : Kept r (s.askRecord e i t' o) := h.upd

theorem createObject {e o pub info} (h : Kept r s) : Kept r (s.createObject e o pub info) := by
  unfold State.createObject
  dsimp only
  split
  · exact h
  split
  · exact h.setEntry.commitOut
  split
  · exact h
  split
  · exact h
  split
  · exact h.completeCreation
  split
  exacts [h.releaseUnit.setEntry.upd.askLease, h.releaseUnit.setEntry.upd.askRecord]

theorem swapKey {g} (h : Kept r s) : Kept r (s.swapKey g) :=
  (Kept.ite h.destroyAll.setObj.setObj h.destroyAll.setObj).logEvent.destroyStamp.purge.upd.modEntry.commitOut

theorem stageReplacement {e o pub} (h : Kept r s) : Kept r (s.stageReplacement e o pub) := by
  unfold State.stageReplacement
  split
  exacts [h, .ite h.releaseUnit.setEntry.upd.upd h.releaseUnit.setEntry.upd]

theorem computeNode {i} (h : Kept r s) : Kept r (s.computeNode i) := .ite h h.setObj

theorem bindKeys {e} (h : Kept r s) : Kept r (s.bindKeys e) := by
  unfold State.bindKeys
  split
  · exact h
  extract_lets one r1 r2 s₂ i held s₃ hit s₄
  have hone {s k use} (h : Kept r s) : Kept r (one s k use).1 := .iteFst h (.ite h.computeNode h)
  have h₂ : Kept r s₂ := hone (hone h)
  have h₃ : Kept r s₃ := .ite h₂.loseExpansion h₂
  exact .setEntry (.ite h₃.useExpansion h₃)

/-! ### Admission -/

theorem openChannel {e c} (h : Kept r s) : Kept r (s.openChannel e c) := by
  unfold State.openChannel
  dsimp only
  split
  · exact h
  split
  · exact h
  split
  · exact h.setEntry
  split
  · exact h.setEntry.endWith
  split
  exacts [.ite h.setEntry h.finish, h.setEntry]

theorem askChannel {e} (h : Kept r s) : Kept r (s.askChannel e) := by
  unfold State.askChannel
  split
  · exact h
  split
  exacts [h.openChannel, h.setEntry.upd.pmu]

theorem reserveFor {e t' a} (h : Kept r s) : Kept r (s.reserveFor e t' a) := (Kept.iteFst h.allocIndex h).modEntry

theorem admitEntry {e} (h : Kept r s) : Kept r (s.admitEntry e) := by
  unfold State.admitEntry
  dsimp only
  split
  · exact h
  split
  · exact h.finish
  split
  · exact h.setEntry.finish
  split
  · refine .askChannel <| .pmu ?_
    split
    exacts [h.setEntry.reserveFor, h.setEntry]
  refine .pmu ?_
  split
  exacts [h.setEntry.reserveFor, h.setEntry]

/-! ### Drbg -/

theorem freshBytes {n} (h : Kept r s) : Kept r (s.freshBytes n).1 := h.upd

theorem takeEntropy (h : Kept r s) : Kept r s.takeEntropy.1 := h.freshBytes.upd

theorem setCentral {g} (h : Kept r s) : Kept r (s.setCentral g) := h.upd

theorem instantiateCentral (h : Kept r s) : Kept r s.instantiateCentral := h.takeEntropy.setCentral

theorem centralReseed (h : Kept r s) : Kept r s.centralReseed := .ite h.takeEntropy.setCentral h

theorem askCentral {len} (h : Kept r s) : Kept r (s.askCentral len).1 := .iteFst h h.setCentral

theorem centralFor {cls len} (h : Kept r s) : Kept r (s.centralFor cls len).1 :=
  (Kept.ite h.centralReseed h).askCentral

theorem drawCentral {cls len} (h : Kept r s) : Kept r (s.drawCentral cls len).1 := .iteFst h.centralFor h

theorem blindJob {j} (h : Kept r s) : Kept r (s.blindJob j).1 := by
  unfold State.blindJob
  split
  · split
    all_goals exact h.drawCentral.fst ‹_›
  exact h

theorem reseedStope {n} (h : Kept r s) : Kept r (s.reseedStope n).1 := by
  unfold State.reseedStope
  split
  all_goals exact (h.centralFor.fst ‹_›).setGen

theorem askStope {n len extra} (h : Kept r s) : Kept r (s.askStope n len extra).1 := .iteFst h.setGen h

theorem drawStopeWith {n len extra} (h : Kept r s) : Kept r (s.drawStopeWith n len extra).1 :=
  .iteFst h <| .iteFst h.setGen <| .iteFst h.reseedStope.askStope h.askStope

theorem drawStope {n len} (h : Kept r s) : Kept r (s.drawStope n len).1 := h.drawStopeWith

theorem seedMrg {n} (h : Kept r s) : Kept r (s.seedMrg n) := by
  unfold State.seedMrg
  split
  · exact h.setMrg
  split
  all_goals exact (h.askStope.fst ‹_›).setMrg

theorem seedMask (h : Kept r s) : Kept r s.seedMask := by
  unfold State.seedMask
  split
  all_goals exact (h.centralFor.fst ‹_›).upd

theorem mrgFresh {n} (h : Kept r s) : Kept r (s.mrgFresh n) := .ite h.seedMrg h

theorem maskFresh (h : Kept r s) : Kept r s.maskFresh := .ite h.seedMask h

/-! ### OpBase -/

theorem drawFor {x len} (h : Kept r s) : Kept r (s.drawFor x len).1 := by
  unfold State.drawFor
  split
  exacts [h.drawStopeWith, h.drawCentral]

theorem failContent {e k x st} (h : Kept r s) : Kept r (s.failContent e k x st) :=
  .ite ((Kept.ite h.modEntry h).hold) <| (Kept.ite h.modEntry h).finish

theorem kernel {e k fails act} (h : Kept r s) (hact : ∀ s x, Kept r s → Kept r (act s x)) :
    Kept r (s.kernel e k fails act) := by
  unfold State.kernel
  split
  · exact h
  refine .ite h.finish ?_
  split
  exacts [h.failContent, .ite h.finish (hact _ _ h)]

theorem withDraw {e x len f} (h : Kept r s) (hf : ∀ s bs, Kept r s → Kept r (f s bs)) :
    Kept r (s.withDraw e x len f) := by
  unfold State.withDraw
  split
  exacts [hf _ _ (h.drawFor.fst ‹_›), (h.drawFor.fst ‹_›).finish]

theorem seedOr {e x given bs len f} (h : Kept r s) (hf : ∀ s bs, Kept r s → Kept r (f s bs)) :
    Kept r (s.seedOr e x given bs len f) := .ite (hf _ _ h) (h.withDraw hf)

theorem blindRsa {e x f} (h : Kept r s) (hf : ∀ s, Kept r s → Kept r (f s)) : Kept r (s.blindRsa e x f) :=
  .ite (hf _ h) (h.withDraw fun _ _ h => hf _ h)

theorem blindCurve {e x pp f} (h : Kept r s) (hf : ∀ s, Kept r s → Kept r (f s)) : Kept r (s.blindCurve e x pp f) :=
  h.withDraw fun _ _ h => hf _ h

theorem blindPair {e x alg f} (h : Kept r s) (hf : ∀ s, Kept r s → Kept r (f s)) : Kept r (s.blindPair e x alg f) :=
  .ite (h.blindCurve hf) (hf _ h)

theorem keepExpansion {x} (h : Kept r s) : Kept r (s.keepExpansion x) := .ite h h.storeExpansion

theorem coldExpand {x} (h : Kept r s) : Kept r (s.coldExpand x) := .ite h h.pmu.keepExpansion

/-! ### Lattice -/

theorem keygen {e k} (h : Kept r s) : Kept r (s.keygen e k) :=
  h.kernel fun _ _ h => h.seedOr fun _ _ h => h.blindPair fun _ h => .ite h.createObject h.failContent

theorem kemEncaps {e} (h : Kept r s) : Kept r (s.kemEncaps e) :=
  h.kernel fun _ _ h => h.seedOr fun _ _ h => h.coldExpand.commitOut

theorem kemDecaps {e} (h : Kept r s) : Kept r (s.kemDecaps e) := h.kernel fun _ _ h => h.coldExpand.commitOut

theorem expand {e k} (h : Kept r s) : Kept r (s.expand e k) :=
  h.kernel fun _ _ h => .ite h.useExpansion.commitOut h.storeExpansion.commitOut

theorem evict {e k} (h : Kept r s) : Kept r (s.evict e k) := h.kernel fun _ _ h => h.dropExpansion.commitOut

theorem commitSig {e k x sig iters} (h : Kept r s) : Kept r (s.commitSig e k x sig iters) :=
  .ite h.coldExpand.eqtCommit h.coldExpand.commitOut

theorem dsaSign {e} (h : Kept r s) : Kept r (s.dsaSign e) :=
  h.kernel fun _ _ h => .ite (h.withDraw fun _ _ h => h.seedOr fun _ _ h => h.failContent) <|
    h.seedOr fun _ _ h => h.commitSig

theorem dsaVerify {e} (h : Kept r s) : Kept r (s.dsaVerify e) :=
  h.kernel fun _ _ h => .ite h.coldExpand.commitOut h.coldExpand.commitReject

theorem compEncaps {e} (h : Kept r s) : Kept r (s.compEncaps e) :=
  h.kernel fun _ _ h => h.withDraw fun _ _ h => h.blindCurve fun _ h => h.coldExpand.commitOut

theorem compDecaps {e} (h : Kept r s) : Kept r (s.compDecaps e) :=
  h.kernel fun _ _ h => h.blindCurve fun _ h => h.coldExpand.commitOut

theorem compSign {e} (h : Kept r s) : Kept r (s.compSign e) :=
  h.kernel fun _ _ h => h.seedOr fun _ _ h => h.blindCurve fun _ h => h.commitSig

theorem compVerify {e} (h : Kept r s) : Kept r (s.compVerify e) :=
  h.kernel fun _ _ h => .ite h.coldExpand.commitOut h.coldExpand.commitReject

/-! ### Classic -/

theorem slhSign {e} (h : Kept r s) : Kept r (s.slhSign e) :=
  h.kernel fun _ _ h => .ite h.askChannel <| h.seedOr fun _ _ h => h.commitOut

theorem slhVerify {e} (h : Kept r s) : Kept r (s.slhVerify e) := h.kernel fun _ _ h => .ite h.commitOut h.commitReject

theorem mceKeygen {e} (h : Kept r s) : Kept r (s.mceKeygen e) :=
  h.kernel fun _ _ h => h.seedOr fun _ _ h => .ite ((Kept.ite h.evictFor h).createObject) h.finish

theorem codeEncaps {e k} (h : Kept r s) : Kept r (s.codeEncaps e k) :=
  h.kernel fun _ _ h => h.withDraw fun _ _ h => h.commitOut

theorem codeDecaps {e k} (h : Kept r s) : Kept r (s.codeDecaps e k) := h.kernel fun _ _ h => h.commitOut

theorem ecSign {e} (h : Kept r s) : Kept r (s.ecSign e) :=
  h.kernel fun _ _ h => .ite (h.seedOr fun _ _ h => h.blindCurve fun _ h => h.commitOut) <|
    h.blindCurve fun _ h => h.commitOut

theorem ecVerify {e} (h : Kept r s) : Kept r (s.ecVerify e) := h.kernel fun _ _ h => .ite h.commitOut h.commitReject

theorem ecAgree {e} (h : Kept r s) : Kept r (s.ecAgree e) := h.kernel fun _ _ h => h.blindCurve fun _ h => h.commitOut

theorem rsaKeygen {e} (h : Kept r s) : Kept r (s.rsaKeygen e) :=
  h.kernel fun _ _ h => h.withDraw fun _ _ h => .ite h.createObject h.finish

theorem rsaSign {e} (h : Kept r s) : Kept r (s.rsaSign e) :=
  h.kernel fun _ _ h => h.seedOr fun _ _ h => h.blindRsa fun _ h => h.commitOut

theorem rsaVerify {e} (h : Kept r s) : Kept r (s.rsaVerify e) := h.kernel fun _ _ h => .ite h.commitOut h.commitReject

theorem rsaEncrypt {e} (h : Kept r s) : Kept r (s.rsaEncrypt e) :=
  h.kernel fun _ _ h => h.withDraw fun _ _ h => h.commitOut

theorem rsaDecrypt {e} (h : Kept r s) : Kept r (s.rsaDecrypt e) :=
  h.kernel fun _ _ h => h.blindRsa fun _ h => h.commitOut

theorem hashOp {e} (h : Kept r s) : Kept r (s.hashOp e) := h.kernel fun _ _ h => h.commitOut

theorem kdf {e} (h : Kept r s) : Kept r (s.kdf e) := h.kernel fun _ _ h => h.createObject

theorem countSeal {x} (h : Kept r s) : Kept r (s.countSeal x) := .ite h.setObj h

theorem gcmSeal {e} (h : Kept r s) : Kept r (s.gcmSeal e) :=
  h.kernel fun _ _ h => h.seedOr fun _ _ h => (Kept.ite h h.countSeal).commitOut

theorem gcmOpen {e} (h : Kept r s) : Kept r (s.gcmOpen e) := h.kernel fun _ _ h => .ite h.commitOut h.commitReject

theorem randomOp {e} (h : Kept r s) : Kept r (s.randomOp e) := h.kernel fun s x h => by
  extract_lets left n go
  have hgo {s} (h : Kept r s) : Kept r (go s) :=
    h.withDraw fun _ _ h => .ite h.commitOut <| .ite h.publish.modEntry.measure.finish h.publish.modEntry
  refine .ite ?_ (hgo h)
  split
  · split
    exacts [hgo (h.reseedStope.fst ‹_›), (h.reseedStope.fst ‹_›).finish]
  · exact hgo h

/-! ### Stateful -/

theorem startChunk {e} (h : Kept r s) : Kept r (s.startChunk e) := by
  unfold State.startChunk
  split
  · exact h
  split
  · exact h
  split
  · exact h.setEntry.addEntry
  split
  exacts [h, h.setEntry.addEntry]

theorem startChunksFuel {e n} (h : Kept r s) : Kept r (Machine.startChunksFuel e n s) := by
  induction n generalizing s with
  | zero => exact h
  | succ n ih => exact ih h.startChunk

theorem startChunks {e} (h : Kept r s) : Kept r (s.startChunks e) := h.startChunksFuel

theorem admissionResume {t'} (h : Kept r s) : Kept r (s.admissionResume t') := h.forEntries fun _ _ h => h.startChunks

theorem stfKeygen {e} (h : Kept r s) : Kept r (s.stfKeygen e) :=
  h.kernel fun _ _ h => .ite h <| h.seedOr fun _ _ h => h.releaseUnit.setEntry.startChunks

theorem stfFormRoot {e} (h : Kept r s) : Kept r (s.stfFormRoot e) := by
  unfold State.stfFormRoot
  split
  exacts [h, h.setEntry.createObject]

theorem chooseLeaves {n total} (h : Kept r s) : Kept r (s.chooseLeaves n total).1 := by
  unfold State.chooseLeaves
  split
  · exact h
  split
  all_goals exact h.drawStope.fst ‹_›

theorem recomputeLeaves {e n} (h : Kept r s) : Kept r (s.recomputeLeaves e n) := by
  unfold State.recomputeLeaves
  dsimp only
  split
  · exact h
  split
  exacts [(h.chooseLeaves.fst ‹_›).finish, (h.chooseLeaves.fst ‹_›).setEntry.startChunks]

theorem splitNext {e n} (h : Kept r s) : Kept r (s.splitNext e n) := by
  unfold State.splitNext
  split
  exacts [.ite (.ite h.stfFormRoot h.recomputeLeaves) h, h]

theorem chunkDone {k} (h : Kept r s) : Kept r (s.chunkDone k) := by
  unfold State.chunkDone
  dsimp only
  split
  · exact h
  split
  · exact h
  split
  · exact h
  split
  exacts [h.freeEntry, .ite h.freeEntry <| .ite h.freeEntry.finish h.freeEntry.setEntry.startChunks.splitNext]

theorem startCache {e} (h : Kept r s) : Kept r (s.startCache e) := by
  unfold State.startCache
  dsimp only
  split
  · exact h
  split
  exacts [h, .ite h.finish h.evictFor.modStf.setEntry.startChunks]

theorem stfCache {e} (h : Kept r s) : Kept r (s.stfCache e) := by
  unfold State.stfCache
  refine .kernel h fun _ _ h => ?_
  split
  exacts [.ite h.commitOut <| .ite h.setEntry h.startCache, h]

theorem cacheDone {i} (h : Kept r s) : Kept r (s.cacheDone i) := by
  unfold State.cacheDone
  dsimp only
  split
  · split
    · exact h
    refine .forEntries h.modStf fun _ _ h => ?_
    split
    exacts [.ite h.setEntry.commitOut h.setEntry, h]
  exact h

theorem reserveFor' {e} (h : Kept r s) : Kept r (s.reserveFor' e) := by
  unfold State.reserveFor'
  dsimp only
  split
  · exact h
  split
  · exact h.finish
  split
  · exact h.finish
  split
  · exact h.finish
  split
  exacts [h.reserveIndex.modEntry, h.reserveIndex]

theorem stfSign {e} (h : Kept r s) : Kept r (s.stfSign e) := h.kernel fun s x h => by
  extract_lets _ _ begin s₁
  have h₁ : Kept r s₁ := .ite h <| h.seedOr fun _ _ h => h.modEntry.reserveFor'
  split
  exacts [h₁, .ite h₁ <| by split; exacts [h₁, .ite h₁.askChannel h₁.commitOut]]

theorem stfVerify {e} (h : Kept r s) : Kept r (s.stfVerify e) := h.kernel fun _ _ h => .ite h.commitOut h.commitReject

theorem setSector {b n x} (h : Kept r s) : Kept r (s.setSector b n x) := .ite h.upd h.upd

theorem execStfQuery {e} (h : Kept r s) : KeptOut r (Machine.execStfQuery e s) := by
  unfold Machine.execStfQuery
  refine .clocked h <| .next <| .kernel h fun _ _ h => ?_
  split
  exacts [h.commitOut, h]

theorem stfSetfloor {e} (h : Kept r s) : Kept r (s.stfSetfloor e) := by
  unfold State.stfSetfloor
  dsimp only
  refine .kernel h fun _ _ h => ?_
  split
  exacts [.ite h.commitOut <| (Kept.ite h.modStf h.modStf.warnLow).setEntry.askLease, h]

theorem leaseStart (h : Kept r s) : Kept r s.leaseStart := by
  unfold State.leaseStart
  split
  · exact h
  split
  exacts [h, .ite h h.upd]

theorem cutRange {d i h'} (h : Kept r s) : Kept r (s.cutRange d i h').1 := by
  unfold State.cutRange
  split
  exacts [.iteFst h.setObj.askExtension <| .iteFst h.setObj h.setObj.extendLease.warnLow, h]

theorem grantRange {d i h'} (h : Kept r s) : Kept r (s.grantRange d i h') := by
  unfold State.grantRange
  split
  exacts [(h.cutRange.fst ‹_›).send, h.cutRange.fst ‹_›]

theorem grantWanted {i} (h : Kept r s) : Kept r (s.grantWanted i) := by
  unfold State.grantWanted
  split
  exacts [h.modStf.foldl fun _ _ h => h.grantRange, h]

theorem leaseApply {w r'} (h : Kept r s) : Kept r (s.leaseApply w r') := by
  unfold State.leaseApply
  dsimp only
  split
  · exact h
  split
  · split
    exacts [h.upd.askRecord, h.upd.askRetired]
  refine .grantWanted <| .extendLease ?_
  split
  · split
    exacts [.ite ((Kept.ite h.modStf.warnLow h.modStf).setEntry.commitOut) <| .ite h.modStf.warnLow h.modStf,
        .ite h.modStf.warnLow h.modStf]
  · exact .ite h.modStf.warnLow h.modStf

theorem finishStaged {e} (h : Kept r s) : Kept r (s.finishStaged e) := by
  unfold State.finishStaged
  split
  · split
    · split
      exacts [h.setEntry.upd.completeCreation, h.upd]
    exact h
  exact h

theorem leaseDone {ok} (h : Kept r s) : Kept r (s.leaseDone ok) := by
  unfold State.leaseDone
  dsimp only
  split
  · exact h
  split
  · exact h.setSector.upd.leaseApply
  split
  · exact h.setSector.upd
  split
  · split
    exacts [h.setSector.upd.finish, h.setSector.upd]
  exact h.setSector.upd.logEvent

theorem leaseUnknown {i} (h : Kept r s) : Kept r (s.leaseUnknown i) := h.modStf.logEvent

theorem leaseResume {i} (h : Kept r s) : Kept r (s.leaseResume i) := by
  unfold State.leaseResume
  split
  · exact h
  split
  exacts [h.modStf.warnLow.askLease, h.leaseUnknown]

theorem leasePowerup (h : Kept r s) : Kept r s.leasePowerup := by
  refine .upd <| .foldl (.ite (h.forEntries fun _ _ h => h.leaseResume) (h.forEntries fun _ _ h => h.leaseUnknown))
    fun _ _ h => ?_
  split
  exacts [h.askRetired.logEvent, h]

/-! ### KeyOps -/

theorem pubImport {e} (h : Kept r s) : Kept r (s.pubImport e) := h.kernel fun _ _ h => h.createObject

theorem symGen {e} (h : Kept r s) : Kept r (s.symGen e) :=
  h.kernel fun _ _ h => h.withDraw fun _ _ h => h.createObject

theorem keyWrap {e} (h : Kept r s) : Kept r (s.keyWrap e) := by
  unfold State.keyWrap
  refine .kernel h fun _ _ h => ?_
  split
  exacts [h, .ite (h.withDraw fun _ _ h => (Kept.ite h.setObj h).commitOut) <| h.withDraw fun _ _ h => h.commitOut]

theorem keyUnwrap {e} (h : Kept r s) : Kept r (s.keyUnwrap e) := by
  unfold State.keyUnwrap
  refine .kernel h fun _ _ h => ?_
  split
  exacts [h.createObject, h]

theorem keyReplace {e} (h : Kept r s) : Kept r (s.keyReplace e) := by
  unfold State.keyReplace
  refine .kernel h fun _ _ h => ?_
  split
  · exact h.stageReplacement
  · split
    exacts [h.stageReplacement, h]
  · exact .ite (h.withDraw fun _ _ h => h.blindPair fun _ h => .ite h.stageReplacement h.failContent) <|
        h.withDraw fun _ _ h => .ite h.stageReplacement h.failContent

theorem keySwap {e} (h : Kept r s) : Kept r (s.keySwap e) := by
  unfold State.keySwap
  split
  exacts [.ite h.swapKey h, h]

theorem keyDestroy {e} (h : Kept r s) : Kept r (s.keyDestroy e) := h.kernel fun _ _ h => h.setEntry.destroyAll

theorem destroyComplete {e} (h : Kept r s) : Kept r (s.destroyComplete e) := by
  unfold State.destroyComplete
  split
  exacts [.ite h.upd.setEntry.commitOut h, h]

theorem treeDerive {e} (h : Kept r s) : Kept r (s.treeDerive e) :=
  h.kernel fun _ _ h => .ite (h.blindPair fun _ h => .ite h.createObject h.failContent) h.createObject

theorem usageClear {e} (h : Kept r s) : Kept r (s.usageClear e) :=
  h.kernel fun _ _ h => .ite h.setObj.setEntry.upd h.setObj.commitOut

theorem recordOf {w} (h : Kept r s) : Kept r (s.recordOf w).1 := by
  unfold State.recordOf
  split
  · exact h
  split
  · exact h
  split
  all_goals exact h.drawCentral.fst ‹_›

theorem storeFailed {w} (h : Kept r s) : Kept r (s.storeFailed w) := h.upd.setErr.logEvent

theorem storeWritten {w r'} (h : Kept r s) : Kept r (s.storeWritten w r') := by
  unfold State.storeWritten
  dsimp only
  split
  · exact h.upd
  split
  · exact h.upd
  split
  · exact h.upd.upd.finishStaged
  split
  exacts [.ite h.upd.setEntry.commitOut h.upd, h.upd]

theorem removalCheck {t'} (h : Kept r s) : Kept r (s.removalCheck t') := .ite h.setFn.setInt h

theorem keyRecordDone {handle ok} (h : Kept r s) : Kept r (s.keyRecordDone handle ok) := by
  unfold State.keyRecordDone
  split
  · split
    exacts [.ite ((h.recordOf.fst ‹_›).storeWritten.removalCheck) <| (h.recordOf.fst ‹_›).storeFailed, h]
  exact h

theorem storeRetryAll (h : Kept r s) : Kept r s.storeRetryAll := h.upd

/-! ### Sluice -/

theorem sluiceDone {e} (h : Kept r s) : Kept r (s.sluiceDone e) := by
  unfold State.sluiceDone
  split
  · exact h
  split
  exacts [.ite h.modEntry.endWith <| .ite h.setEntry h.setEntry, h]

theorem grantChannel (h : Kept r s) : Kept r s.grantChannel := by
  unfold State.grantChannel
  split
  exacts [h.openChannel, h]

theorem resvWrite {req v} (h : Kept r s) : Kept r (s.resvWrite req v) := h.gated fun _ h => .ite h.setReg h.accessErr

/-! ### Dgs -/

theorem setCur {t' x} (h : Kept r s) : Kept r (s.setCur t' x) := h.setCtx

theorem dgsErr {t' b} (h : Kept r s) : Kept r (s.dgsErr t' b) := h.dgsFlag

theorem dgsKill {t' b} (h : Kept r s) : Kept r (s.dgsKill t' b) := h.dgsClear

theorem coreTake {c} (h : Kept r s) : Kept r (s.coreTake c) := by
  unfold State.coreTake
  split
  · exact h
  split
  exacts [h.upd, h]

theorem feedCores (h : Kept r s) : Kept r s.feedCores := h.foldl fun _ _ h => h.coreTake

theorem dgsFinalise {t' c} (h : Kept r s) : Kept r (s.dgsFinalise t' c) := by
  unfold State.dgsFinalise
  dsimp only
  split
  exacts [h.dgsClear, h.setCtx.feedCores]

theorem dgsDone {t' c} (h : Kept r s) : Kept r (s.dgsDone t' c) := h.setCtx.setInt

theorem blockDone {core} (h : Kept r s) : Kept r (s.blockDone core) := by
  unfold State.blockDone
  split
  exacts [h, (Kept.ite (.ite h.upd.setCtx.dgsDone h.upd.setCtx) h.upd).feedCores]

theorem dgsAbsorb {t' c bs} (h : Kept r s) : Kept r (s.dgsAbsorb t' c bs) :=
  .ite h.setCtx.dgsClear <| .ite h.setCtx.dgsFinalise h.setCtx.feedCores

theorem dgsData {t' v last poisoned} (h : Kept r s) : Kept r (s.dgsData t' v last poisoned) := by
  unfold State.dgsData
  dsimp only
  split
  · exact h.dgsKill
  split
  exacts [.ite h.dgsKill <| .ite h.dgsKill <| .ite h.dgsAbsorb.dgsFinalise h.dgsAbsorb, .ite h.dgsErr h.dgsKill,
      .ite h.dgsErr h.dgsKill, h.dgsErr]

theorem dgsStart {t' c} (h : Kept r s) : Kept r (s.dgsStart t' c) :=
  have h₁ := (Kept.ite h.dropCore.computeNode.maskFresh h.dropCore).setCtx
  .ite h₁.dgsFinalise h₁.feedCores

theorem dgsCmd {t'} (h : Kept r s) : Kept r (s.dgsCmd t') := h.setCur

theorem dgsOpen {t'} (h : Kept r s) : Kept r (s.dgsOpen t') :=
  .ite h.dgsCmd.dgsErr <| .ite h.dgsCmd.dgsErr <| .ite h.dgsCmd.dgsErr <| .ite h.dgsCmd.dgsErr <|
    .ite h.dgsCmd.dgsErr <| .ite h.dgsCmd.dgsErr h.dgsCmd.dgsStart

theorem dgsFinal {t'} (h : Kept r s) : Kept r (s.dgsFinal t') :=
  .ite h.dgsCmd.dgsErr <| .ite h.dgsCmd.dgsKill h.dgsCmd.dgsFinalise

theorem dgsNext {t'} (h : Kept r s) : Kept r (s.dgsNext t') := .ite h.dgsCmd.dgsErr h.dgsCmd.setCur.feedCores

theorem dgsCompare {t'} (h : Kept r s) : Kept r (s.dgsCompare t') :=
  .ite h.dgsCmd.dgsErr <| .ite h.dgsCmd.dgsErr h.dgsCmd.setCur

theorem compareDone {t' c} (h : Kept r s) : Kept r (s.compareDone t' c) := by
  unfold State.compareDone
  dsimp only
  split
  exacts [h.advanceTo.setCtx, h]

theorem dgsReset {t'} (h : Kept r s) : Kept r (s.dgsReset t') :=
  .ite h.dgsCmd.dgsErr <| .ite h.dgsCmd.dgsErr <| .ite h.dgsCmd.dgsErr h.dgsCmd.dgsStart

theorem dgsClose {t'} (h : Kept r s) : Kept r (s.dgsClose t') := .ite h.dgsCmd.dgsErr h.dgsCmd.dropCore.setCur

theorem dgsRead {t' i} (h : Kept r s) : Kept r (s.dgsRead t' i) :=
  .ite h.dgsErr <| .ite h <| .ite h.dgsErr <| .ite h.dgsErr h.setCur

/-! ### Queues -/

theorem sqFail {t' q cause} (h : Kept r s) : Kept r (s.sqFail t' q cause) := .ite h h.setSq.setErr.setInt

theorem cqFail {t' q cause} (h : Kept r s) : Kept r (s.cqFail t' q cause) := .ite h h.setCq.setErr.setInt

theorem bmeFail {t'} (h : Kept r s) : Kept r (s.bmeFail t') :=
  ((h.foldl fun _ _ h => h.setSq).foldl fun _ _ h => h.setCq).setErr.setInt.setErr.setInt

theorem bmeClear {t'} (h : Kept r s) : Kept r (s.bmeClear t') :=
  .ite h <| (h.setFn.bmeFail.forEntries fun _ _ h => h.freeEntry).forEntries fun _ _ h => h.modEntry

theorem uncover {t' q} (h : Kept r s) : Kept r (s.uncover t' q) := h.forEntries fun _ _ h => h.modEntry

theorem sqEnable {t'} (h : Kept r s) : Kept r (s.sqEnable t') := .ite h <| .ite h.setSq.uncover h.accessErr

theorem dropCover {t' q n} (h : Kept r s) : Kept r (s.dropCover t' q n) := h.forEntries fun _ _ h => h.modEntry

theorem sqDisable {t'} (h : Kept r s) : Kept r (s.sqDisable t') := .ite h.setSq.dropCover h

theorem sqAbort {t'} (h : Kept r s) : Kept r (s.sqAbort t') := (h.setSq.forEntries fun _ _ h => h.endWith).nextStamp

theorem cqEnable {t'} (h : Kept r s) : Kept r (s.cqEnable t') := .ite h <| .ite h.setCq.drainCq h.accessErr

theorem cqDisable {t'} (h : Kept r s) : Kept r (s.cqDisable t') :=
  .ite h <| .ite (h.setCq.forEntries fun _ _ h => h.freeEntry) <| .ite h.setCq h.accessErr

theorem sqBell {t' q v} (h : Kept r s) : Kept r (s.sqBell t' q v) :=
  .ite h <| .ite h.setErr <| .ite h <| .ite h.sqFail <| .ite h.sqFail h.setSq.upd

theorem cqBell {t' q v} (h : Kept r s) : Kept r (s.cqBell t' q v) := by
  unfold State.cqBell
  extract_lets _ _ _ bad
  have hbad {cause} : Kept r (bad cause) := h.cqFail.foldl fun _ _ h => .ite h.sqFail h
  exact .ite h <| .ite h.setErr <| .ite h <| .ite hbad <| .ite hbad h.setCq.drainCq

theorem fetch {t' q} (h : Kept r s) : Kept r (s.fetch t' q) := by
  unfold State.fetch
  dsimp only
  split
  · exact h
  split
  · exact h.setSq.addEntry.finish
  split
  exacts [h.setSq.addEntry.finish, .ite h.setSq.addEntry h.setSq.addEntry.admitEntry]

theorem execSglFetch {e} (h : Kept r s) : KeptOut r (Machine.execSglFetch e s) := by
  unfold Machine.execSglFetch
  refine .clocked h <| .next ?_
  split
  exacts [.ite (.ite h.admitEntry h.finish) h, h]

theorem entropyTimeout {e} (h : Kept r s) : Kept r (s.entropyTimeout e) := by
  unfold State.entropyTimeout
  split
  exacts [.ite h.advanceTo.finish h, h]

theorem holdRelease {e} (h : Kept r s) : Kept r (s.holdRelease e) := by
  unfold State.holdRelease
  split
  exacts [.ite h.advanceTo.finish h, h]

theorem eqtRelease {e} (h : Kept r s) : Kept r (s.eqtRelease e) := by
  unfold State.eqtRelease
  split
  exacts [.ite h.advanceTo.setEntry.commitOut h, h]

theorem deadlineExpiry {e} (h : Kept r s) : Kept r (s.deadlineExpiry e) := by
  unfold State.deadlineExpiry
  split
  exacts [.ite h h.advanceTo.endWith.nextStamp, h]

theorem irqTimer {t' q} (h : Kept r s) : Kept r (s.irqTimer t' q) := .ite h.advanceTo.raiseCq h

theorem engineAck {e} (h : Kept r s) : Kept r (s.engineAck e) := by
  unfold State.engineAck
  split
  · split
    exacts [(Kept.ite h.pmu h).endStopped, h]
  exact h

theorem engineReset {n i} (h : Kept r s) : Kept r (s.engineReset n i) := by
  unfold State.engineReset
  dsimp only
  split
  exacts [h, .ite h <| .ite h.advanceTo.setEng.dropFlaws.setErr.setErr.logEvent
      h.advanceTo.setEng.dropFlaws.setErr.setErr.logEvent.engineAck]

theorem execNopOpcode {e} (h : Kept r s) : KeptOut r (Machine.execNopOpcode e s) := by
  unfold Machine.execNopOpcode
  refine .clocked h <| .next ?_
  split
  exacts [h.commitOut, h]

theorem fenceOp {e} (h : Kept r s) : Kept r (s.fenceOp e) := by
  unfold State.fenceOp
  split
  exacts [.ite h.commitOut h, h]

theorem abortTag {e} (h : Kept r s) : Kept r (s.abortTag e) := by
  unfold State.abortTag
  split
  exacts [.ite ((h.forEntries fun _ _ h => h.endWith).commitOut.nextStamp) h, h]

/-! ### Dispatching -/

theorem takeTurn {x target} (h : Kept r s) : Kept r (s.takeTurn x target) := (h.foldl fun _ _ h => h.setFn).setFn

theorem capture {e} (h : Kept r s) : Kept r (s.capture e) := by
  unfold State.capture
  split
  exacts [.ite h <| .ite h.endWith h.setEntry, h]

theorem charge {t' target cost} (h : Kept r s) : Kept r (s.charge t' target cost) := h.setFn

theorem acceptStope {e n first w x} (h : Kept r s) : Kept r (s.acceptStope e n first w x) := by
  unfold State.acceptStope
  split
  exacts [h, (h.dropFlaws.foldl fun _ _ h => h.setEng).upd.charge.pmu]

theorem acceptShaft {e n k x} (h : Kept r s) : Kept r (s.acceptShaft e n k x) :=
  (Kept.ite h.blindJob.setShaft h.setShaft).charge.pmu

theorem accept {e k target} (h : Kept r s) : Kept r (s.accept e k target) := by
  unfold State.accept
  dsimp only
  split
  · exact h.modEntry.bindKeys
  split
  exacts [h.modEntry.bindKeys.acceptStope, h.modEntry.bindKeys.acceptShaft.capture, h.modEntry.bindKeys.capture.pmu]

theorem stfAtDispatch {e x} (h : Kept r s) (ht : s.stfAtDispatch e x = some t) : Kept r t := by
  unfold State.stfAtDispatch at ht
  split at ht
  · split at ht
    · cases ht
      exact h.finish
    split at ht
    · cases ht
    split at ht <;> cases ht
    exacts [h.setEntry, h.startCache]
  · cases ht

theorem loseKeys {e l} (h : Kept r s) : Kept r (s.loseKeys e l) :=
  (h.foldl fun _ _ h => h.foundUncorr).finish.destroyAll

theorem dispatchTo {e x k target} (h : Kept r s) : Kept r (s.dispatchTo e x k target) := by
  refine .ite h.finish (.ite h.loseKeys (.ite h.finish (.ite h.setEntry.pmu ?_)))
  split
  next ht =>
    split at ht
    exacts [h.stfAtDispatch ht, nomatch ht]
  next => exact h.takeTurn.accept

theorem preempt {k x w} (h : Kept r s) : Kept r (s.preempt k x w) := by
  unfold State.preempt
  split
  · split
    exacts [h.stop, h]
  exact h

theorem dispatchLocal {e target} (h : Kept r s) : Kept r (s.dispatchLocal e target) := by
  unfold State.dispatchLocal
  split
  · exact h
  split
  · exact h
  split
  · exact h
  split
  · exact h.dispatchTo
  split
  exacts [h.preempt, h]

theorem sharePlanes {secret} (h : Kept r s) : Kept r (s.sharePlanes secret).1 := h.freshBytes.freshBytes

theorem kernelStart {e} (h : Kept r s) : Kept r (s.kernelStart e) := by
  unfold State.kernelStart
  split
  · exact .ite h <| .ite h.capture <|
      have h₁ := Kept.ite h.capture h.capture.maskFresh
      .ite h₁.finish h₁.sharePlanes.setRun.modEntry
  · exact h

/-! ### EventLog -/

theorem sendRecords (h : Kept r s) : Kept r s.sendRecords := h.upd

theorem eventAck {q} (h : Kept r s) : Kept r (s.eventAck q) := .ite h.upd.sendRecords h

theorem eventResend (h : Kept r s) : Kept r s.eventResend := by
  unfold State.eventResend
  split
  exacts [h, .ite h.advanceTo.upd h.advanceTo.upd.sendRecords]

theorem eventPoll {enable fromSeq} (h : Kept r s) : Kept r (s.eventPoll enable fromSeq) := .ite h h.upd.sendRecords

theorem latch {req k ws} (h : Kept r s) : Kept r (s.latch req k ws) := h.upd

theorem logRead {req} (h : Kept r s) : Kept r (s.logRead req) := by
  unfold State.logRead
  split
  · exact h
  split
  exacts [h.upd.latch, h.latch.setErr]

/-! ### Entropy -/

theorem setCell {c x} (h : Kept r s) : Kept r (s.setCell c x) := h.upd

theorem mapCells {f} (h : Kept r s) : Kept r (s.mapCells f) := h.foldl fun _ _ h => h.setCell

theorem entEvent {cls cell cause} (h : Kept r s) : Kept r (s.entEvent cls cell cause) := h.logEvent

theorem askGen {r'} (h : Kept r s) : Kept r (s.askGen r') := h.upd

theorem askRefill {t'} (h : Kept r s) : Kept r (s.askRefill t') := .ite h.askGen h

theorem serveUse {u'} (h : Kept r s) : Kept r (s.serveUse u') := by
  unfold State.serveUse
  dsimp only
  split
  · exact h.reseedStope
  · exact h.seedMrg
  · exact h.seedMask
  split
  exacts [(h.drawCentral.fst ‹_›).setFn, h.drawCentral.fst ‹_›]

theorem serveGen {g} (h : Kept r s) : Kept r (s.serveGen g) := by
  unfold State.serveGen
  split
  exacts [h.upd.serveUse, h]

theorem reseedNow {g u'} (h : Kept r s) : Kept r (s.reseedNow g u') := h.askGen.serveGen

theorem reseedDue {g period} (h : Kept r s) : Kept r (s.reseedDue g period) := .ite h h.advanceTo

theorem wakeEntropy (h : Kept r s) : Kept r s.wakeEntropy := h.forEntries fun _ _ h => h.modEntry

theorem instantiateStope {n} (h : Kept r s) : Kept r (s.instantiateStope n) := by
  unfold State.instantiateStope
  split
  · split
    exacts [(h.centralFor.fst ‹_›).setGen.reseedNow, h.centralFor.fst ‹_›]
  exact h

theorem holdRoot {root} (h : Kept r s) : Kept r (s.holdRoot root) := h.upd

theorem seedLoops {seeds} (h : Kept r s) : Kept r (s.seedLoops seeds) := h.updCny

theorem newRootKey (h : Kept r s) : Kept r s.newRootKey := by
  unfold State.newRootKey
  split
  exacts [(h.centralFor.fst ‹_›).updCny.holdRoot.seedLoops, h.centralFor.fst ‹_›]

theorem instantiateAll (h : Kept r s) : Kept r s.instantiateAll :=
  (Kept.ite h.instantiateCentral.centralFor.updCny.reseedNow.newRootKey
    h.instantiateCentral.centralFor.updCny.reseedNow).foldl fun _ _ h => h.instantiateStope

theorem entBecomesReady (h : Kept r s) : Kept r s.entBecomesReady :=
  h.upd.setInt.entEvent.wakeEntropy.askRefill.foldl fun _ _ h => h.askRefill

theorem entFail {startup} (h : Kept r s) : Kept r (s.entFail startup) :=
  ((h.upd.upd.dgsClearWhere.forEntries fun _ _ h => h.finish).foldl fun _ _ h => h.setFn).setErr.setInt.entEvent

theorem excludeCell {c cause} (h : Kept r s) : Kept r (s.excludeCell c cause) :=
  .ite h.setErr.setCell h.setErr.setCell.upd.setInt.entEvent

theorem cellFail {c samples} (h : Kept r s) : Kept r (s.cellFail c samples) := by
  unfold State.cellFail
  dsimp only
  split
  · split
    exacts [h.upd.setCell, .ite h.upd.setCell.setCell.excludeCell <|
        .ite h.upd.setCell.setCell.excludeCell.entFail h.upd.setCell.setCell.excludeCell.upd]
  exact h

theorem entSettle {phase attempt} (h : Kept r s) : Kept r (s.entSettle phase attempt) := h.mapCells.upd

theorem cellVerdicts {failed} (h : Kept r s) : Kept r (s.cellVerdicts failed) := by
  unfold State.cellVerdicts
  dsimp only
  refine .foldl h fun _ _ h => .ite h ?_
  split
  · split
    exacts [h.setCell.excludeCell, h.setCell.setCell]
  · exact h.setCell

theorem startupTestDone {failed} (h : Kept r s) : Kept r (s.startupTestDone failed) :=
  .ite h.cellVerdicts.upd <| .ite h <| .ite h.cellVerdicts.instantiateAll.entBecomesReady <|
    .ite h.cellVerdicts.upd h.cellVerdicts.entFail

theorem entRestart (h : Kept r s) : Kept r s.entRestart := .ite h.entSettle <| .ite h.mapCells <| .ite h h.accessErr

theorem entCtl {v} (h : Kept r s) : Kept r (s.entCtl v) :=
  .ite ((Kept.ite h.accessErr h.setReg).entRestart) <| .ite h.accessErr h.setReg

theorem critical {req p off v c f} (h : Kept r s) (hf : ∀ s v, Kept r s → Kept r (f s v)) :
    Kept r (s.critical req p off v c f) := by
  unfold State.critical
  split
  exacts [hf _ _ (h.criticalPair.fst ‹_›).freshCopy, h.criticalPair.fst ‹_›]

theorem entRead {t'} (h : Kept r s) : Kept r (s.entRead t').1 := by
  unfold State.entRead
  dsimp only
  split
  all_goals exact h.setFn.askRefill

theorem execEntRefill {t'} (h : Kept r s) : KeptOut r (Machine.execEntRefill t' s) := by
  unfold Machine.execEntRefill
  refine .next ?_
  split
  exacts [.ite h.serveGen h, h]

/-! ### Shafts -/

theorem disableUnit {p cause} (h : Kept r s) : Kept r (s.disableUnit p cause) :=
  .ite h <| h.upd.logEvent.forEntries fun _ _ h => h.finish

theorem drainUnit {p} (h : Kept r s) : Kept r (s.drainUnit p) := by
  unfold State.drainUnit
  split
  exacts [.ite h.setReg.unitDrained h.setReg, .ite h.setReg.unitDrained h.setReg, h.setReg]

theorem undrainUnit {p} (h : Kept r s) : Kept r (s.undrainUnit p) := h.setReg

theorem unitServes {p} (h : Kept r s) : Kept r (s.unitServes p) := .ite h.upd.undrainUnit h

theorem resetCore {n} (h : Kept r s) : Kept r (s.resetCore n) := h.upd.feedCores

theorem eccThreshold {u'} (h : Kept r s) : Kept r (s.eccThreshold u') := by
  refine .ite h ?_
  split
  exacts [.ite h.upd.resetCore.upd.logEvent h.upd.resetCore, .ite h.upd.disableUnit h.upd.upd.drainUnit]

theorem startHandover {p} (h : Kept r s) : Kept r (s.startHandover p) := by
  unfold State.startHandover
  split
  exacts [.ite h h.setStope.drainUnit, .ite h h.setShaft.drainUnit, h]

theorem clearScoped {p k n} (h : Kept r s) : Kept r (s.clearScoped p k n) := .ite h.setReg.setReg.setReg h

theorem clearMonitor {n} (h : Kept r s) : Kept r (s.clearMonitor n) :=
  .setSampler <| .foldl (.foldl h fun _ _ h => h.clearScoped) fun _ _ h => .ite (.foldl h fun _ _ h => h.clearScoped) h

theorem handUnit {p} (h : Kept r s) : Kept r (s.handUnit p) := by
  unfold State.handUnit
  split
  exacts [(Kept.ite h.mapEngs.dropFlaws.reseedNow.reseedNow h.mapEngs.dropFlaws).clearMonitor, h.setShaft, h]

theorem unitHandover {p} (h : Kept r s) : Kept r (s.unitHandover p) := by
  have hgo (o : Option Nat) : Kept r (match o with
      | some t => (((s.handUnit p).undrainUnit p).setInt (.tnt t) 19).setInt (.tntA t) 19
      | none => (s.handUnit p).undrainUnit p) := by
    split
    exacts [h.handUnit.undrainUnit.setInt.setInt, h.handUnit.undrainUnit]
  cases p with
  | stp n => exact .ite (.ite (hgo _).setStope (hgo _).setStope.startHandover) h
  | shf n => exact .ite (.ite (hgo _).setShaft (hgo _).setShaft.startHandover) h
  | _ => exact h

theorem dropCandidate {n} (h : Kept r s) : Kept r (s.dropCandidate n) := by
  unfold State.dropCandidate
  split
  exacts [h.setShaft.requeue, h]

theorem checkpoint {n} (h : Kept r s) : Kept r (s.checkpoint n) := by
  unfold State.checkpoint
  dsimp only
  split
  · split
    · exact h
    split
    · split
      exacts [.ite h.setShaft h.blindJob.setShaft.modEntry.pmu, h.setShaft]
    exact h.setShaft
  exact h

theorem resultCheckFail {n e ty} (h : Kept r s) : Kept r (s.resultCheckFail n e ty) := h.setErr.setInt.logEvent.finish

theorem shaftWork {e k} (h : Kept r s) : Kept r (s.shaftWork e k) := by
  unfold State.shaftWork
  split
  exacts [h.rsaSign, h.rsaDecrypt, h.rsaVerify, h.rsaEncrypt, h.rsaKeygen, h.mceKeygen, h.keyReplace, h]

theorem shaftCommit {n inner pass} (h : Kept r s) : Kept r (s.shaftCommit n inner pass) := by
  unfold State.shaftCommit
  split
  · split
    · split
      · split
        exacts [.ite h.resultCheckFail h.shaftWork, h]
      exact h
    exact h
  exact h

theorem wipeDone {n inner} (h : Kept r s) : Kept r (s.wipeDone n inner) :=
  have h₁ := Kept.ite h.setShaft.dropCandidate <| .ite (.ite h h.setShaft) (.ite h h.setShaft.dropCandidate)
  .ite h₁ h₁.shaftSettled

theorem shaftAck {e} (h : Kept r s) : Kept r (s.shaftAck e) := by
  unfold State.shaftAck
  split
  · split
    exacts [h.endStopped, h]
  exact h

theorem execShaftStopTimeout {e} (h : Kept r s) : KeptOut r (Machine.execShaftStopTimeout e s) := by
  unfold Machine.execShaftStopTimeout
  refine .clocked h <| .next ?_
  split
  · split
    exacts [h.advanceTo.setErr.shaftAck, h]
  · exact h

theorem selftestDone {n pass} (h : Kept r s) : Kept r (s.selftestDone n pass) :=
  .ite h <| .ite h.setShaft.unitServes h.setShaft.disableUnit

/-! ### Engines -/

theorem modRegs {a f} (h : Kept r s) : Kept r (s.modRegs a f) := h.setEng

theorem beginWord {n i e w} (h : Kept r s) : Kept r (s.beginWord n i e w) := by
  unfold State.beginWord
  extract_lets g s₁ s₂
  have h₂ : Kept r s₂ := by
    dsimp only [s₂]
    split
    exacts [.ite h.setEng.setRun h.setEng, h.setEng]
  exact .pmu (.ite h₂.setSampler h₂)

theorem trapSlot {n i e slot op cause addr elem} (h : Kept r s) :
    Kept r (s.trapSlot n i e slot op cause addr elem) := by
  unfold State.trapSlot
  dsimp only
  split
  · exact h
  split
  exacts [h.setEng.setErr.setInt.setRun, h.setEng.setErr.setInt]

theorem haltEngines {e} (h : Kept r s) : Kept r (s.haltEngines e) := by
  unfold State.haltEngines
  split
  exacts [h, h.mapEngs]

theorem endSlot {n i e w} (h : Kept r s) : Kept r (s.endSlot n i e w) :=
  .ite h <| .ite h.setEng <| .ite h.setEng.haltEngines h.setEng

theorem corrected {n f} (h : Kept r s) : Kept r (s.corrected n f) := h.upd.countCorrected.setErr

theorem restart {n i f} (h : Kept r s) : Kept r (s.restart n i f) := h.corrected.pmu.setEng

theorem meet {n i b l} (h : Kept r s) : Kept r (State.meet n i b l s).1 := by
  induction l generalizing s b with
  | nil => exact h
  | cons p l ih =>
    refine .iteFst (ih h) (.iteFst h.foundUncorr ?_)
    split
    exacts [h.corrected, ih h.restart]

theorem wordTrap {n i e slot op cause addr} (h : Kept r s) : Kept r (s.wordTrap n i e slot op cause addr) :=
  h.trapSlot.setEng.endSlot

theorem issue {n i slot op f} (h : Kept r s) (hf : ∀ s a, Kept r s → KeptDid r (f s a)) :
    Kept r (s.issue n i slot op f) := by
  have hq : Kept r (if slot = 0 then s.meet n i 3 (s.wordFlaws n (s.eng n i).pc) else (s, none)).1 := .iteFst h.meet h
  unfold State.issue
  dsimp only
  generalize (if slot = 0 then s.meet n i 3 (s.wordFlaws n (s.eng n i).pc) else (s, none)) = q at hq ⊢
  split
  · exact h
  split
  · exact h
  refine .ite h ?_
  split
  · exact hq.beginWord.wordTrap
  · exact hq.beginWord.wordTrap
  next e _ _ _ _ _ _ _ _ =>
    refine .ite h ?_
    have ht : Kept r (if slot = 0 then q.1.beginWord n i e (s.storeWord n (s.eng n i).pc) else s) :=
      .ite hq.beginWord h
    generalize (if slot = 0 then q.1.beginWord n i e (s.storeWord n (s.eng n i).pc) else s) = u at ht ⊢
    split
    next hd => exact .endSlot (hd ▸ hf _ _ ht : KeptDid r (.ok _))
    next => exact ht.trapSlot.endSlot
    next hd => exact .endSlot (.trapSlot (hd ▸ hf _ _ ht : KeptDid r (.bad ..)))
    next => exact .ite h.setEng h
    next hd => exact (hd ▸ hf _ _ ht : KeptDid r (.hold _))

theorem loadShare {a masked addr len share} (h : Kept r s) : Kept r (s.loadShare a masked addr len share).1 := by
  unfold State.loadShare
  split
  · exact h
  split
  · exact h
  split
  exacts [h, h, h, h.freshBytes]

theorem meeting {a met numbered f} (h : Kept r s) (hf : ∀ s, Kept r s → KeptDid r (f s)) :
    KeptDid r (s.meeting a met numbered f) := by
  unfold State.meeting
  split
  exacts [hf _ (h.meet.fst ‹_›), h.meet.fst ‹_›]

theorem reading {a masked len els numbered f} (h : Kept r s) (hf : ∀ s, Kept r s → KeptDid r (f s)) :
    KeptDid r (s.reading a masked len els numbered f) := h.meeting hf

theorem storeShare {a addr share bs} (h : Kept r s) : Kept r (s.storeShare a addr share bs) := by
  unfold State.storeShare
  dsimp only
  split
  · exact h
  split
  · exact h.dropFlaws.setEng
  · split
    exacts [h.dropFlaws.setRun, h.dropFlaws]
  · split
    exacts [h.dropFlaws.setRun, h.dropFlaws]
  exact h.dropFlaws

theorem faultEnd {e st} (h : Kept r s) : Kept r (s.faultEnd e st) := by
  unfold State.faultEnd
  split
  exacts [h.setEntry.finish, h]

theorem trapEntry {e} (h : Kept r s) : Kept r (s.trapEntry e) := by
  unfold State.trapEntry
  split
  exacts [.ite h <| .ite h.setEng.setRun <| .ite h h.faultEnd, h]

theorem handlerOverrun {e} (h : Kept r s) : Kept r (s.handlerOverrun e) := by
  unfold State.handlerOverrun
  split
  exacts [.ite h.advanceTo.trapSlot.faultEnd h, h]

theorem watchdog {e} (h : Kept r s) : Kept r (s.watchdog e) := by
  unfold State.watchdog
  dsimp only
  split
  · split
    · split
      exacts [h.advanceTo.trapSlot.setErr.logEvent.setEntry.stop, h.advanceTo.trapSlot.setErr.logEvent]
    exact h
  exact h

/-! ### Lanes -/

theorem freshNats {w n} (h : Kept r s) : Kept r (s.freshNats w n).1 := h.upd

theorem reshare {d w v} (h : Kept r s) : Kept r (s.reshare d w v).1 := by
  have hs : Kept r ((s.freshNats w v.length).1.freshNats w v.length).1 := h.freshNats.freshNats
  cases d <;> exact hs

theorem putLanes {a ring d shared act t'} (h : Kept r s) : Kept r (Machine.putLanes s a ring d shared act t') :=
  h.modRegs

theorem putDest {a ring t'} (h : Kept r s) : KeptDid r (s.putDest a ring t') := .ok h.putLanes

theorem putPlain {a ring l} (h : Kept r s) : KeptDid r (s.putPlain a ring l) := h.putDest

theorem withMrg {a ring f} (h : Kept r s) (hf : ∀ s, Kept r s → KeptDid r (f s)) : KeptDid r (s.withMrg a ring f) :=
  .ite (.ite .trap (hf _ h.mrgFresh.pmu)) (hf _ h)

theorem linear {a ring f} (h : Kept r s) : KeptDid r (s.linear a ring f) := h.withMrg fun _ h => h.putDest

theorem linear1 {a ring f} (h : Kept r s) : KeptDid r (s.linear1 a ring f) := h.withMrg fun _ h => h.putDest

theorem product {a ring d w f} (h : Kept r s) : Kept r (s.product a ring d w f).1 :=
  .iteFst h.reshare <| .iteFst h <| .iteFst h h

theorem bilinear {a ring d f} (h : Kept r s) : KeptDid r (s.bilinear a ring d f) :=
  h.withMrg fun _ h => h.product.putDest

theorem gadget {a ring d f} (h : Kept r s) : KeptDid r (s.gadget a ring d f) :=
  h.withMrg fun _ h => .ite h.reshare.putDest h.putPlain

theorem convert {a ring from_ toS} (h : Kept r s) : KeptDid r (s.convert a ring from_ toS) :=
  h.withMrg fun _ h => h.reshare.putDest

theorem someSharing {ms} (h : Kept r s) : Kept r (s.someSharing ms).1 := h.upd

theorem refresh {a ring} (h : Kept r s) : KeptDid r (s.refresh a ring) := h.someSharing.convert

theorem refreshed {a t'} (h : Kept r s) : Kept r (s.refreshed a t').1 := h.someSharing.reshare

theorem select {a ring pick} (h : Kept r s) : KeptDid r (s.select a ring pick) :=
  h.withMrg fun _ h => .ite h.refreshed.putDest h.putDest

/-! ### Ring -/

theorem wslot {n i op f} (h : Kept r s) (hf : ∀ s a, Kept r s → KeptDid r (f s a)) : Kept r (s.wslot n i op f) :=
  h.issue hf

theorem wbmul {a} (h : Kept r s) : KeptDid r (s.wbmul a) :=
  .withM fun _ => .ite .trap <| h.withMrg fun _ h => .ok h.product.putLanes

theorem transform {a f} (h : Kept r s) : KeptDid r (s.transform a f) :=
  .withM fun _ => h.withMrg fun _ h => .ite h.reshare.putDest h.putDest

theorem wdecide {a d rel} (h : Kept r s) : KeptDid r (s.wdecide a d rel) := h.withMrg fun _ h => .ok h.modRegs

theorem wnorm {a} (h : Kept r s) : KeptDid r (s.wnorm a) := .withQ fun _ => h.withMrg fun _ h => .ok h.modRegs

/-! ### Scalar -/

theorem putS {a v} (h : Kept r s) : KeptDid r (Machine.putS s a v) := .ok h.modRegs

theorem scalar {n i op f} (h : Kept r s) : Kept r (s.scalar n i op f) := h.issue fun _ _ h => h.putS

theorem scalarLoad {n i op len} (h : Kept r s) : Kept r (s.scalarLoad n i op len) := by
  unfold State.scalarLoad
  refine .issue h fun _ _ h => ?_
  split
  exacts [.trap, h.reading fun _ h => h.putS]

theorem scalarStore {n i op len} (h : Kept r s) : Kept r (s.scalarStore n i op len) := by
  unfold State.scalarStore
  refine .issue h fun _ _ h => ?_
  split
  exacts [.trap, h.meeting fun _ h => .ok h.storeShare]

theorem branchTo {a target link} (h : Kept r s) : KeptDid r (s.branchTo a target link) := by
  unfold State.branchTo
  dsimp only
  split
  · refine .ok ?_
    split
    exacts [h.setEng.modRegs, h.setEng]
  exact .trap

theorem branch {n i op rel} (h : Kept r s) : Kept r (s.branch n i op rel) :=
  h.issue fun _ _ h => .ite h.branchTo <| .ok h

theorem branchP {n i} (h : Kept r s) : Kept r (s.branchP n i) := h.issue fun _ _ h => .ite h.branchTo <| .ok h

theorem control {a code v} (h : Kept r s) (ht : s.control a code = some (t, v)) : Kept r t := by
  have hval {x : BitVec 64} (e : some (s, x) = some (t, v)) : Kept r t := by
    cases e
    exact h
  have hfree {x} (e : some ({ s with freeNext := s.freeNext + 1 }, x) = some (t, v)) : Kept r t := by
    cases e
    exact h.upd
  have hfault {c : Bool} {x y}
      (e : (if c then some (s, x) else some ({ s with freeNext := s.freeNext + 1 }, y)) = some (t, v)) : Kept r t := by
    split at e
    exacts [hval e, hfree e]
  unfold State.control at ht
  extract_lets d free val g fault at ht
  split at ht
  exacts [hval ht, hval ht, hval ht, hval ht, hval ht, hval ht, hval ht, hval ht, hfree ht, hval ht, hval ht,
    hfault ht, hfault ht, hfault ht, hfault ht, nomatch ht]

theorem execGetc {n i} (h : Kept r s) : KeptOut r (Machine.execGetc n i s) := by
  unfold Machine.execGetc
  refine .engineCmd <| .issue h fun _ _ h => ?_
  split
  exacts [(h.control ‹_›).putS, .trap]

theorem popen {n i} (h : Kept r s) : Kept r (s.popen n i) :=
  h.issue fun _ _ h => .ite .trap <| .ite (.ite .trap (.ok h.modRegs)) <| .ite .trap <| .ite .wait <|
    .ite (h.reading fun _ h => (.ok h.modRegs)) (.ok h.modRegs)

theorem bar {n i} (h : Kept r s) : Kept r (s.bar n i) :=
  h.issue fun _ _ h => .ite (.hold <| h.setEng.foldl fun _ _ h => .ite h.setEng.endSlot h) <| .hold h.setEng

theorem leadOnly {n i op point f} (h : Kept r s) (hf : ∀ s a, Kept r s → KeptDid r (f s a)) :
    Kept r (s.leadOnly n i op point f) := by
  have hi : Kept r (s.issue n i 0 op fun s a => if (s.eng a.n a.i).idx ≠ 0 then .trap 1 0 none else f s a) :=
    h.issue fun _ _ h => .ite .trap (hf _ _ h)
  unfold State.leadOnly
  split
  exacts [.ite h hi, hi]

theorem finalInfo {e x} (h : Kept r s) : Kept r (s.finalInfo e x).1 := by
  unfold State.finalInfo
  split
  exacts [h, h, .iteFst h h.freshBytes, .iteFst h h.freshBytes, h, h, h, h, h, h, h]

theorem finalStatus {e st sb out} (h : Kept r s) : Kept r (s.finalStatus e st sb out) := by
  unfold State.finalStatus
  split
  · split
    · exact h.faultEnd
    split
    exacts [.ite h.finalInfo.publish.modEntry.measure.finish <| .ite h.finalInfo.eqtCommit h.finalInfo.commitOut,
        .ite h.commitReject h.faultEnd, .ite (.ite h.hold h.finish) h.faultEnd, h.faultEnd]
  exact h

theorem final {n i} (h : Kept r s) : Kept r (s.final n i) := h.leadOnly fun _ _ h => .ok h.finalStatus

theorem applyHandOff {e kind material out} (h : Kept r s) : Kept r (s.applyHandOff e kind material out) := by
  unfold State.applyHandOff
  dsimp only
  split
  · split
    exacts [.ite h.finalInfo.commitOut <| .ite h.finish <| .ite h.finalInfo.createObject <| .ite h.hold h.finish,
        .ite ((Kept.ite h.useExpansion h.storeExpansion).commitOut) <|
        (Kept.ite h.finalInfo.keepExpansion h.finalInfo).commitOut, .ite h.finalInfo.commitOut <| .ite h.finish <|
        .ite h.finalInfo.stageReplacement <| .ite h.hold h.finish]
  exact h

theorem finalLode {n i} (h : Kept r s) : Kept r (s.finalLode n i) := by
  unfold State.finalLode
  dsimp only
  refine .leadOnly h fun _ _ h => ?_
  split
  exacts [.ok h.faultEnd, .ite (.ok h.applyHandOff) <| .ok h.finalStatus]

theorem reserve {n i} (h : Kept r s) : Kept r (s.reserve n i) := by
  unfold State.reserve
  dsimp only
  refine .leadOnly h fun _ _ h => ?_
  split
  · exact .ok h
  · refine .ite .wait ?_
    split
    · split
      exacts [.ok h.reserveFor'.setRun, .ok h.reserveFor']
    · exact .ok h.reserveFor'

theorem unitCommit {n i} (h : Kept r s) : Kept r (s.unitCommit n i) := by
  unfold State.unitCommit
  refine .leadOnly h fun _ _ h => ?_
  split
  exacts [.ok h.publish.setRun.modEntry, .ok h]

/-! ### Vector -/

theorem vslot {n i op f} (h : Kept r s) (hf : ∀ s a, Kept r s → KeptDid r (f s a)) : Kept r (s.vslot n i op f) :=
  h.issue hf

theorem shiftBy {a f} (h : Kept r s) : KeptDid r (s.shiftBy a f) := h.linear1

theorem shiftImm {a f} (h : Kept r s) : KeptDid r (s.shiftImm a f) := h.linear1

theorem vmulw {a} (h : Kept r s) : KeptDid r (s.vmulw a) := h.withMrg fun _ h => .ok h.product.modRegs

theorem vdot {a clear} (h : Kept r s) : KeptDid r (s.vdot a clear) := h.withMrg fun _ h => .ok h.product.modRegs

theorem carry {a f} (h : Kept r s) : KeptDid r (s.carry a f) :=
  h.withMrg fun _ h => .ok <| (Kept.iteFst h.upd h).putLanes.modRegs

theorem vcompare {a rel} (h : Kept r s) : KeptDid r (s.vcompare a rel) := h.withMrg fun _ h => .ok h.modRegs

theorem vpred {n i op f} (h : Kept r s) : Kept r (s.vpred n i op f) := h.vslot fun _ _ h => .ok h.modRegs

/-! ### VecMem -/

theorem loadWords {a masked addr n share} (h : Kept r s) : Kept r (s.loadWords a masked addr n share).1 := h.loadShare

theorem loadTri {a masked addr n} (h : Kept r s) : Kept r (s.loadTri a masked addr n).1 :=
  .iteFst h.loadWords.loadWords.loadWords h.loadWords

theorem storeWords {a addr share act l} (h : Kept r s) : Kept r (s.storeWords a addr share act l) :=
  h.foldl fun _ _ h => .ite h.storeShare h

theorem sharesFor {a masked addr t'} (h : Kept r s) : Kept r (s.sharesFor a masked addr t').1 := .iteFst h.refreshed h

theorem storeTri {a masked addr act t'} (h : Kept r s) : Kept r (s.storeTri a masked addr act t') :=
  .ite h.sharesFor.storeWords.storeWords.storeWords h.sharesFor.storeWords

theorem vld {a} (h : Kept r s) : KeptDid r (s.vld a) :=
  .ite (.ok h) <| .checked <| h.withMrg fun _ h => h.reading fun _ h => h.loadTri.putDest

theorem vst {a} (h : Kept r s) : KeptDid r (s.vst a) :=
  .ite (.ok h) <| .checked <| h.withMrg fun _ h => .ok h.storeTri

theorem vgath {a} (h : Kept r s) : KeptDid r (s.vgath a) :=
  .gatherChecked <| h.withMrg fun _ h => h.reading fun _ h => h.putDest

theorem vscat {a} (h : Kept r s) : KeptDid r (s.vscat a) :=
  .gatherChecked <| h.withMrg fun _ h => h.reading fun s h => by
    extract_lets r' put
    have hput {k l s} (h : Kept r s) : Kept r (put k l s) := h.foldl fun _ _ h => h.storeShare
    have hr : Kept r r'.1 := .iteFst h.refreshed h
    exact .ok <| .ite (hput (hput (hput hr))) (hput hr)

theorem vust {a} (h : Kept r s) : KeptDid r (s.vust a) := by
  unfold State.vust
  exact .withUmode fun _ => .ite (.ok h) <| .checked <| h.withMrg fun _ h => .ok h.storeWords

theorem wld {a} (h : Kept r s) : KeptDid r (s.wld a) :=
  .checked <| h.withMrg fun _ h => h.reading fun s h => by
    dsimp only
    exact Kept.putDest (.foldlFst h fun _ _ h => .iteFst h.loadTri h)

theorem wst {a} (h : Kept r s) : KeptDid r (s.wst a) := .checked <| h.withMrg fun _ h => .ok h.storeTri

theorem wust {a} (h : Kept r s) : KeptDid r (s.wust a) :=
  .withUmode fun _ => .checked <| h.withMrg fun _ h => .ok h.storeWords

theorem vkabs {a} (h : Kept r s) : KeptDid r (s.vkabs a) :=
  .withPort fun _ => .ite .trap <| h.withMrg fun _ h => .ok h.pmu.modRegs

theorem vkfin {a} (h : Kept r s) : KeptDid r (s.vkfin a) := .withPort fun _ => .ite .trap <| .ok h.pmu.modRegs

theorem putUnit {a bs} (h : Kept r s) : KeptDid r (s.putUnit a bs) := .ite h.reshare.putDest h.putPlain

theorem vksqz {a} (h : Kept r s) : KeptDid r (s.vksqz a) :=
  .withPort fun _ => .ite .trap <| h.withMrg fun _ h => h.modRegs.pmu.putUnit

theorem vhblk {a} (h : Kept r s) : KeptDid r (s.vhblk a) :=
  .withPort fun _ => .ite .trap <| h.withMrg fun _ h => .ok h.pmu.modRegs

theorem vhrd {a} (h : Kept r s) : KeptDid r (s.vhrd a) :=
  .withPort fun _ => .ite .trap <| h.withMrg fun _ h => h.putUnit

theorem vakey {a} (h : Kept r s) : KeptDid r (s.vakey a) := .withPort fun _ => .ok h.modRegs

theorem vaes {a} (h : Kept r s) : KeptDid r (s.vaes a) :=
  .withPort fun _ => .ite .trap <| h.withMrg fun _ h => h.modRegs.pmu.putUnit

theorem streamRead {a kind data pos next} (h : Kept r s) : KeptDid r (s.streamRead a kind data pos next) := by
  unfold State.streamRead
  split
  · exact .trap
  refine .putPlain ?_
  split
  exacts [h.setRun, h]

theorem vslh {a} (h : Kept r s) : KeptDid r (s.vslh a) := by
  unfold State.vslh
  split
  · exact .trap
  split
  exacts [.ok <| .ite h.setRun.askChannel h.setRun, .ok h]

theorem vsldg {a} (h : Kept r s) : KeptDid r (s.vsldg a) := by
  unfold State.vsldg
  split
  · exact .trap
  split
  exacts [.ite h.putPlain .wait, .wait]

theorem vrnd {a} (h : Kept r s) : KeptDid r (s.vrnd a) := by
  unfold State.vrnd
  split
  exacts [(h.drawStope.fst ‹_›).putPlain, .trap]

theorem vmrg {a} (h : Kept r s) : KeptDid r (s.vmrg a) := .ite .trap h.mrgFresh.freshBytes.putPlain

/-! ### Samplers -/

theorem taken {a p k} (h : Kept r s) : Kept r (s.taken a p k) := h.modRegs.pmu

theorem putSampled {a q l} (h : Kept r s) : KeptDid r (s.putSampled a q l) :=
  .ite (.ok h.reshare.putLanes) <| .ok h.putLanes

theorem freeCoeffs {q} (h : Kept r s) : Kept r (s.freeCoeffs q).1 := by
  unfold State.freeCoeffs
  dsimp only
  exact h.freshNats

theorem wsamu {a} (h : Kept r s) : KeptDid r (s.wsamu a) :=
  .withSponge fun _ => .withQ fun _ => .ite h.taken.putSampled h.taken.freeCoeffs.putSampled

theorem wsamb {a} (h : Kept r s) : KeptDid r (s.wsamb a) :=
  .withSponge fun _ => .withQ fun _ => h.withMrg fun _ h => h.taken.putSampled

theorem wsamr {a} (h : Kept r s) : KeptDid r (s.wsamr a) :=
  .withSponge fun p => .withQ fun q => h.withMrg fun s h => by
    extract_lets eta block
    clear_value block
    exact .ite h.taken.putSampled h.taken.freeCoeffs.putSampled

theorem wsamy {a} (h : Kept r s) : KeptDid r (s.wsamy a) :=
  .withSponge fun _ => .withQ fun _ => h.withMrg fun _ h => h.taken.putSampled

theorem wsamc {a} (h : Kept r s) : KeptDid r (s.wsamc a) := by
  unfold State.wsamc
  dsimp only
  refine .withSponge fun _ => .withQ fun _ => ?_
  split
  exacts [h.taken.putSampled, h.taken.freeCoeffs.putSampled]

/-! ### Kst -/

theorem setKstFront {r'} (h : Kept r s) : Kept r (s.setKstFront r') := h.upd

theorem kstDrain {r'} (h : Kept r s) : Kept r (s.kstDrain r') := by
  refine .drainUnit <| .ite (h.setKstFront.forEntries fun _ _ h => ?_) h.setKstFront
  split
  exacts [.ite h.stop h, h]

theorem measuring {on} (h : Kept r s) : Kept r (s.measuring on) := h.setReg

theorem kstStart (h : Kept r s) : Kept r s.kstStart := by
  unfold State.kstStart
  split
  exacts [.ite h <| .ite h.setKstFront.measuring h.kstDrain, h]

theorem kstEnd {r' result kidx} (h : Kept r s) : Kept r (s.kstEnd r' result kidx) :=
  have h₁ := (Kept.ite h.measuring h).setStope.upd
  (Kept.ite h₁ h₁.setErr).logEvent.setInt.kstStart

theorem kstRestore {r' result kidx} (h : Kept r s) : Kept r (s.kstRestore r' result kidx) :=
  h.dropFlaws.setStope.undrainUnit.kstEnd

theorem kstCommand {req n v} (h : Kept r s) : Kept r (s.kstCommand req n v) :=
  h.gated fun _ h => .ite h.accessErr <| .ite h.setStope.accessErr h.setStope.upd.kstStart

theorem packFetched {n} (h : Kept r s) : Kept r (s.packFetched n) := by
  unfold State.packFetched
  dsimp only
  split
  · split
    · exact h.kstEnd
    split
    exacts [h.measuring.kstDrain, h.measuring.kstEnd]
  exact h

theorem loadDrained {n} (h : Kept r s) : Kept r (s.loadDrained n) := by
  unfold State.loadDrained
  split
  exacts [.ite h <| .ite h.dropFlaws.setStope.forgetMeasures.setKstFront.upd
      h.dropFlaws.setStope.forgetMeasures.setKstFront, h]

theorem katCheck (h : Kept r s) : Kept r s.katCheck := .ite h.setReg.upd h

theorem retestDone {n pass} (h : Kept r s) : Kept r (s.retestDone n pass) :=
  .ite h <| .ite ((Kept.ite ((Kept.ite h.setStope h.setStope.instantiateStope).wakeEntropy) <|
    .ite h.setStope h.setStope.instantiateStope).unitServes.katCheck) <|
    (Kept.ite h.setErr h).setStope.disableUnit.katCheck

theorem katDone {n failed} (h : Kept r s) : Kept r (s.katDone n failed) := by
  unfold State.katDone
  split
  · split
    exacts [h.kstRestore, h.setStope.setKstFront.upd]
  exact h.retestDone

theorem loadDrainTimeout {n} (h : Kept r s) : Kept r (s.loadDrainTimeout n) := by
  unfold State.loadDrainTimeout
  split
  exacts [.ite h h.advanceTo.setErr.undrainUnit.kstEnd, h]

theorem kernelCommit {n} (h : Kept r s) : Kept r (s.kernelCommit n) := by
  unfold State.kernelCommit
  refine .forEntries h.setStope.undrainUnit fun _ _ h => ?_
  split
  exacts [.ite h.finish h, h]

theorem kernelPublished {n} (h : Kept r s) : Kept r (s.kernelPublished n) := by
  unfold State.kernelPublished
  split
  exacts [h.kstEnd, h]

theorem kstAbort (h : Kept r s) : Kept r s.kstAbort := by
  unfold State.kstAbort
  split
  exacts [h, (Kept.ite h.upd.kstEnd <| .ite h.upd.undrainUnit.kstEnd h.upd.kstRestore).foldl fun _ _ h =>
      h.upd.kstEnd]

theorem kstFlr (h : Kept r s) : Kept r s.kstFlr := by
  unfold State.kstFlr
  split
  exacts [h, .ite h.kstAbort <| h.upd.foldl fun _ _ h => h.setStope.setErr.setInt]

theorem dropOwnerPacks {key} (h : Kept r s) : Kept r (s.dropOwnerPacks key) := h.foldl fun _ _ h => .ite h h.setStope

theorem scrubBad {n addr} (h : Kept r s) : Kept r (s.scrubBad n addr) := by
  unfold State.scrubBad
  dsimp only
  split
  exacts [.ite h.setStope.setErr.logEvent h.setStope.setErr.logEvent.setStope.upd.kstStart,
      h.setStope.setErr.logEvent]

theorem scrub {n corr bad} (h : Kept r s) : Kept r (s.scrub n corr bad) :=
  (Kept.ite (.ite h.dropFlaws.setStope h.dropFlaws.setStope.countCorrected.setErr) <|
    (Kept.ite h.dropFlaws.setStope h.dropFlaws.setStope.countCorrected.setErr).setErr).foldl fun _ _ h => h.scrubBad

/-! ### Directory -/

theorem rewriteDirectory (h : Kept r s) : Kept r s.rewriteDirectory := h.upd

theorem settleDirectory (h : Kept r s) : Kept r s.settleDirectory := .ite h h.upd

/-! ### Validate -/

theorem putRegs {l} (h : Kept r s) : Kept r (s.putRegs l) :=
  h.withCells (Cells.wf_foldl_set l _ _) id

/-! ### Txn -/

theorem setTxn {sc x} (h : Kept r s) : Kept r (s.setTxn sc x) := h.upd

theorem rollback {sc r'} (h : Kept r s) : Kept r (s.rollback sc r') := h.setTxn

theorem stage {p off v} (h : Kept r s) : Kept r (s.stage p off v) := .ite h.setErr <| .ite h.setTxn h.setTxn

theorem rwsWrite {req p off v} (h : Kept r s) : Kept r (s.rwsWrite req p off v) :=
  .ite h <| h.gated fun _ h => .ite h.holdPrimary h.stage

theorem txnBegin {req sc v} (h : Kept r s) : Kept r (s.txnBegin req sc v) :=
  h.gated fun _ h => .ite h <| .ite h.setTxn h.setTxn

theorem withOpen {req sc off v f} (h : Kept r s) (hf : ∀ s, Kept r s → Kept r (f s)) :
    Kept r (s.withOpen req sc off v f) :=
  h.gated fun _ h => .ite h.accessErr (.ite h.setTxn (hf _ h))

theorem txnCommit {req sc v} (h : Kept r s) : Kept r (s.txnCommit req sc v) :=
  h.withOpen fun _ h => .ite h.rollback <| .ite h.rollback <| .ite h.rollback h.setTxn

theorem txnAbort {req sc v} (h : Kept r s) : Kept r (s.txnAbort req sc v) := h.withOpen fun _ h => h.rollback

theorem txnTimeout {sc} (h : Kept r s) : Kept r (s.txnTimeout sc) := .ite h.advanceTo.rollback h

theorem epochRead {req sc} (h : Kept r s) : Kept r (s.epochRead req sc) := .ite h.latch h

theorem startPrepare {c} (h : Kept r s) : Kept r (s.startPrepare c) := .ite h.upd <| h.upd.foldl fun _ _ h => h.send

theorem advanceCommits (h : Kept r s) : Kept r s.advanceCommits := by
  unfold State.advanceCommits
  split
  exacts [h.upd.startPrepare, h]

theorem queueCommit {c} (h : Kept r s) : Kept r (s.queueCommit c) := h.upd.advanceCommits

theorem validationDone {sc} (h : Kept r s) : Kept r (s.validationDone sc) := by
  unfold State.validationDone
  dsimp only
  split
  · exact h
  split
  exacts [(Kept.ite h.setErr h).rollback.setTxn, h.queueCommit]

theorem headframeAtE {a1} (h : Kept r s) : Kept r (s.headframeAtE a1) := by
  unfold State.headframeAtE
  split
  exacts [h.kernelCommit, h.rewriteDirectory, h.foldl fun _ _ h => h.kernelCommit, h.dropOwnerPacks.logEvent, h]

theorem commitQuiesce (h : Kept r s) : Kept r s.commitQuiesce := by
  have hat {s w} (h : Kept r s) :
      Kept r (match w with | CommitOf.headframe why => s.headframeAtE why | .scope _ => s) := by
    split
    exacts [h.headframeAtE, h]
  unfold State.commitQuiesce
  split
  · exact .ite h (.ite (.foldl (hat h.nextStamp.upd) fun _ _ h => h.headframeAtE) (hat h.nextStamp.upd))
  · exact h

theorem pageInForce {p} (h : Kept r s) : Kept r (s.pageInForce p) := by
  unfold State.pageInForce
  split
  exacts [h.evictFor, h.updCny, h]

theorem notePers {before} (h : Kept r s) : Kept r (s.notePers before) := .ite h h.setCentral

theorem pageApply {p} (h : Kept r s) : Kept r (s.pageApply p) := by
  unfold State.pageApply
  split
  exacts [.ite h h.putRegs.upd.upd.notePers.pageInForce, h]

theorem clearStaged {of} (h : Kept r s) : Kept r (s.clearStaged of) := by
  unfold State.clearStaged
  split
  exacts [h.setTxn, h]

theorem commitLastAck (h : Kept r s) : Kept r s.commitLastAck := by
  unfold State.commitLastAck
  split
  · refine .ite h <| .foldl ?_ fun _ _ h => h.startHandover
    split
    all_goals exact h.upd.clearStaged.settleDirectory.pageInForce.logEvent
  · exact h

theorem finishCommit {c} (h : Kept r s) : Kept r (s.finishCommit c) := by
  unfold State.finishCommit
  refine .advanceCommits ?_
  split
  exacts [h.upd.setTxn.setInt, h.upd.kernelPublished, h.upd.upd, h.upd.upd.setInt, h.upd]

theorem reportFinal {c} (h : Kept r s) : Kept r (s.reportFinal c) := by
  unfold State.reportFinal
  split
  · refine .send <| .foldl h.upd fun _ _ h => ?_
    split
    exacts [h.kernelPublished, h]
  exact h

theorem joined {c} (h : Kept r s) : Kept r (s.joined c) :=
  .ite ((Kept.ite h.upd h).upd.setInt.logEvent) <| .ite h.upd h

theorem digestPublish (h : Kept r s) : Kept r s.digestPublish := by
  unfold State.digestPublish
  dsimp only
  split
  · split
    · exact h
    split
    exacts [.ite h.upd.upd.reportFinal.finishCommit h.upd.upd.reportFinal.upd,
        h.upd.upd.reportFinal.finishCommit.joined]
  exact h

theorem headframeCommit (h : Kept r s) : Kept r s.headframeCommit := by
  unfold State.headframeCommit
  split
  exacts [.ite h <| .ite h.upd.upd.send h.upd.queueCommit, h]

theorem abortPrepare (h : Kept r s) : Kept r s.abortPrepare := by
  unfold State.abortPrepare
  split
  exacts [.ite h <| h.upd.foldl fun _ _ h => h.send, h]

theorem runAgain {r' q} (h : Kept r s) : Kept r (s.runAgain r' q) := .ite h.upd h.upd

theorem dropCommit {c r'} (h : Kept r s) : Kept r (s.dropCommit c r') := by
  unfold State.dropCommit
  split
  exacts [h.rollback, .ite h h.runAgain, .ite h.runAgain h, h.runAgain]

theorem dropActive {r'} (h : Kept r s) : Kept r (s.dropActive r') := by
  unfold State.dropActive
  split
  exacts [.ite h.abortPrepare.upd.dropCommit h, h]

theorem txnAlarm (h : Kept r s) : Kept r s.txnAlarm :=
  have h₁ := h.dropActive.upd.foldl fun _ _ h => h.dropCommit
  (Kept.ite h₁.send h₁).upd

theorem txnFlr {sc} (h : Kept r s) : Kept r (s.txnFlr sc) := by
  refine .ite h <| .advanceCommits <| .setTxn <| .upd ?_
  split
  exacts [.ite h.abortPrepare.upd h, h]

/-! ### Tenants -/

theorem startFlr {t' why} (h : Kept r s) : Kept r (s.startFlr t' why) := by
  unfold State.startFlr
  dsimp only
  split
  · refine .kstFlr <| .forEntries h.setFn.upd fun _ _ h => ?_
    split
    exacts [.ite h.stop h.freeEntry, h]
  refine .forEntries h.setFn.upd fun _ _ h => ?_
  split
  exacts [.ite h.stop h.freeEntry, h]

theorem flr {t' why} (h : Kept r s) : Kept r (s.flr t' why) := .ite h.startFlr h

theorem resetPages {t'} (h : Kept r s) : Kept r (s.resetPages t') :=
  .setReg (h.withCells (Cells.wf_filter _) id)

theorem flrTxns {t'} (h : Kept r s) : Kept r (s.flrTxns t') := .ite h.txnFlr.txnFlr h.txnFlr

theorem flrClear {t'} (h : Kept r s) : Kept r (s.flrClear t') := h.upd.flrTxns.resetPages.setFn.setInt.setInt.logEvent

theorem removeKeys {t'} (h : Kept r s) : Kept r (s.removeKeys t') := h.setFn.destroyAll.removalCheck

theorem flrComplete {t'} (h : Kept r s) : Kept r (s.flrComplete t') :=
  .ite (.ite h.flrClear.removeKeys <| .ite h.flrClear.setFn.startFlr h.flrClear) h

theorem tenantAdm {t' v} (h : Kept r s) : Kept r (s.tenantAdm t' v) := by
  unfold State.tenantAdm
  dsimp only
  split
  · exact h.accessErr
  split
  · exact h
  split
  exacts [h.setFn, h, h.startFlr]

theorem enableVfs {num} (h : Kept r s) : Kept r (s.enableVfs num) := h.foldl fun _ _ h => h.setFn

theorem disableVfs {why} (h : Kept r s) : Kept r (s.disableVfs why) := h.foldl fun _ _ h => h.flr.setFn

theorem linkReset (h : Kept r s) : Kept r s.linkReset := h.disableVfs.flr

/-! ### ZdpLinks -/

theorem zdpRecord {cls what d} (h : Kept r s) : Kept r (s.zdpRecord cls what d) := h.logEvent

theorem leftUp {l} (h : Kept r s) : Kept r (s.leftUp l) := .ite h.setErr h

theorem toLState {l n} (h : Kept r s) : Kept r (s.toLState l n) := (Kept.ite h h.leftUp).setLink

theorem linkDown {l} (h : Kept r s) : Kept r (s.linkDown l) := h.leftUp.setLink

theorem linkSignal {l lanes} (h : Kept r s) : Kept r (s.linkSignal l lanes) :=
  .ite h <| .ite (.ite h.setLink h.setLink.linkDown) <| .ite h.setLink h.setLink.toLState

theorem linkStep {l a b} (h : Kept r s) : Kept r (s.linkStep l a b) := .ite h.toLState h

theorem flushLink {l} (h : Kept r s) : Kept r (s.flushLink l) := h.setLink

theorem replay {l} (h : Kept r s) : Kept r (s.replay l) := .ite h <| .ite h.setLink h.setLink.toLState.setLink

theorem linkAligned {l} (h : Kept r s) : Kept r (s.linkAligned l) := .ite h.linkStep.flushLink.replay h.linkStep

theorem linkTimeout {l} (h : Kept r s) : Kept r (s.linkTimeout l) := by
  unfold State.linkTimeout
  split
  exacts [.ite ((Kept.ite h.advanceTo.setErr h.advanceTo).linkDown) h, h]

theorem linkHandshake {l good secret transcript} (h : Kept r s) : Kept r (s.linkHandshake l good secret transcript) :=
  .ite h <| .ite h.setLink.toLState.flushLink h.setLink.setErr

theorem handshakeRetry {l} (h : Kept r s) : Kept r (s.handshakeRetry l) := by
  unfold State.handshakeRetry
  split
  exacts [.ite h.advanceTo.setLink h, h]

theorem linkRekey {l down} (h : Kept r s) : Kept r (s.linkRekey l down) :=
  .ite h <| .ite (.ite h.setLink h) <| .ite h.setLink h

theorem fecBlock {l corr uncorr ack} (h : Kept r s) : Kept r (s.fecBlock l corr uncorr ack) :=
  .ite h <| .ite h.setLink.setErr h.setLink

theorem creditFlit {l vc n} (h : Kept r s) : Kept r (s.creditFlit l vc n) := .ite h.setLink h

theorem requeueFrom {e d} (h : Kept r s) : Kept r (s.requeueFrom e d) := h.requeue.modEntry

theorem spendGrants {d} (h : Kept r s) : Kept r (s.spendGrants d) := h.upd

theorem prepareLost {d} (h : Kept r s) : Kept r (s.prepareLost d) := by
  unfold State.prepareLost
  dsimp only
  split
  · split
    · exact h
    split
    · exact h.dropActive.advanceCommits
    split
    exacts [.ite h.upd.finishCommit h.upd, h.upd]
  exact h

theorem refuseJoin {d} (h : Kept r s) : Kept r (s.refuseJoin d) := h.send.setMember.setErr.zdpRecord

theorem loseMember {d} (h : Kept r s) : Kept r (s.loseMember d) := by
  unfold State.loseMember
  dsimp only
  split
  · exact h.refuseJoin.prepareLost
  split
  · exact h
  refine .prepareLost <| .zdpRecord <| .setErr <| .setInt <| .spendGrants <|
      .forEntries h.upd.setMember fun _ _ h => ?_
  split
  exacts [.ite h.requeueFrom h.setEntry, h]

theorem loseMembers {p} (h : Kept r s) : Kept r (s.loseMembers p) := h.foldl fun _ _ h => h.loseMember

theorem endHold {d} (h : Kept r s) : Kept r (s.endHold d) :=
  ((h.forEntries fun _ _ h => h.finish).upd.forEntries fun _ _ h => h.upd.finish).setMember

theorem leaveConstellation (h : Kept r s) : Kept r s.leaveConstellation :=
  (Kept.ite h.destroyAll.setLink h.destroyAll).upd

theorem dropPrepared (h : Kept r s) : Kept r s.dropPrepared := .ite h.rollback h

theorem loseManager {hold} (h : Kept r s) : Kept r (s.loseManager hold) :=
  .ite h <| .ite h.dropPrepared.leaveConstellation <| .ite h <|
    .ite h.upd.setInt.zdpRecord.dropPrepared.leaveConstellation h.upd.setInt.zdpRecord.dropPrepared

theorem losePartner {l} (h : Kept r s) : Kept r (s.losePartner l) :=
  .ite h.setLink.loseMembers <| .ite h.setLink.loseManager h.setLink

theorem retrainTimeout {l} (h : Kept r s) : Kept r (s.retrainTimeout l) := .ite h.advanceTo.losePartner h

theorem beatTimeout {l} (h : Kept r s) : Kept r (s.beatTimeout l) := .ite h.advanceTo.losePartner h

theorem joinStep {n} (h : Kept r s) : Kept r (s.joinStep n) := h.upd

theorem takeOffer {l b} (h : Kept r s) : Kept r (s.takeOffer l b) := .ite h.upd.joinStep.send h

theorem follow {v} (h : Kept r s) : Kept r (s.follow v) := .ite h.upd <| .ite h.upd <| (Kept.ite h.setErr h).upd

theorem syncHoldoff (h : Kept r s) : Kept r s.syncHoldoff := by
  unfold State.syncHoldoff
  split
  exacts [h.advanceTo.upd, h]

theorem joinSynced {d} (h : Kept r s) : Kept r (s.joinSynced d) := .ite (.ite h.setMember h.setMember.upd) h

theorem memberHealth {d free alarm sync} (h : Kept r s) : Kept r (s.memberHealth d free alarm sync) :=
  h.setMember.joinSynced

theorem heartbeat {l b} (h : Kept r s) : Kept r (s.heartbeat l b) :=
  .ite h <| .ite (.ite h.setLink.takeOffer.setLink.memberHealth h.setLink.takeOffer.setLink) <|
    .ite (.ite h.setLink.takeOffer.setLink.follow h.setLink.takeOffer.setLink.follow.loseManager)
    h.setLink.takeOffer.setLink

theorem heartbeatSend {l} (h : Kept r s) : Kept r (s.heartbeatSend l) := .ite h h.sendOn

/-! ### Zedaup -/

theorem drawTransport (h : Kept r s) : Kept r s.drawTransport := by
  unfold State.drawTransport
  split
  exacts [(h.drawCentral.fst ‹_›).upd, h.drawCentral.fst ‹_›]

theorem dissolve (h : Kept r s) : Kept r s.dissolve :=
  ((h.foldl fun _ _ h => h.send).foldl fun _ _ h => h.loseMember.endHold).upd

theorem takeRole {r'} (h : Kept r s) : Kept r (s.takeRole r') := .ite h.upd.drawTransport h.upd

theorem giveUp (h : Kept r s) : Kept r s.giveUp :=
  .ite h.dissolve <| .ite h.loseManager <| .ite h.dropPrepared.leaveConstellation h

theorem zdpCtl {v} (h : Kept r s) : Kept r (s.zdpCtl v) :=
  have h₁ := Kept.ite h.accessErr h
  have h₂ := (Kept.ite h₁.giveUp h₁).setReg
  .ite h₂.takeRole (.ite h₂.drawTransport h₂)

theorem joinAttest {l a} (h : Kept r s) : Kept r (s.joinAttest l a) := by
  unfold State.joinAttest
  dsimp only
  split
  · exact h
  split
  exacts [h.setErr.zdpRecord, h.upd.setMember]

theorem memberStep {d n} (h : Kept r s) : Kept r (s.memberStep d n) := h.setMember.joinSynced

theorem joinRefused (h : Kept r s) : Kept r s.joinRefused := h.setErr.zdpRecord.dropPrepared.leaveConstellation.upd

theorem sessionSet {d good secret transcript} (h : Kept r s) : Kept r (s.sessionSet d good secret transcript) := by
  unfold State.sessionSet
  dsimp only
  split
  · split
    · exact h
    split
    · exact h.refuseJoin
    split
    exacts [.ite h.drawTransport h, .ite ((Kept.ite h.drawTransport h).setMember.send.memberStep) <|
        (Kept.ite h.drawTransport h).setMember.send.setMember.setInt]
  exact .ite h <| .ite h.upd.joinStep h.joinRefused

theorem execHandshake {of_ good secret transcript} (h : Kept r s) :
    KeptOut r (Machine.execHandshake of_ good secret transcript s) := by
  unfold Machine.execHandshake
  refine .clocked h <| .next ?_
  split
  exacts [h.linkHandshake, h.sessionSet]

theorem takeTransport {key devid pending} (h : Kept r s) : Kept r (s.takeTransport key devid pending) :=
  .ite h h.upd.joinStep

theorem joinTimeout {d} (h : Kept r s) : Kept r (s.joinTimeout d) :=
  .ite (.ite h.advanceTo.setErr.loseMember h) <| .ite h.advanceTo.setErr.joinRefused h

theorem joinRetry (h : Kept r s) : Kept r s.joinRetry := by
  unfold State.joinRetry
  split
  exacts [h.advanceTo.upd, h]

theorem quarantine {d} (h : Kept r s) : Kept r (s.quarantine d) := .ite h h.setMember.send.setInt.zdpRecord

theorem askMembersCommit (h : Kept r s) : Kept r s.askMembersCommit := .ite h h.upd

theorem memberCommand {cmd d} (h : Kept r s) : Kept r (s.memberCommand cmd d) := by
  unfold State.memberCommand
  split
  exacts [.ite h.setMember.memberStep h, .ite h.refuseJoin h, h.quarantine, .ite h.setMember.askMembersCommit h,
      .ite h.send.loseMember.endHold h, .ite h.send.loseMember.endHold h]

theorem mcmd {req v} (h : Kept r s) : Kept r (s.mcmd req v) := h.gated fun _ h => .ite h.accessErr h.memberCommand

theorem quarantined (h : Kept r s) : Kept r s.quarantined := .ite h.upd.setInt.zdpRecord h

theorem rcfgData {req v} (h : Kept r s) : Kept r (s.rcfgData req v) :=
  h.gated fun _ h => .ite h.setErr <| .ite h.setTxn h.setTxn

theorem commitRequest {d} (h : Kept r s) : Kept r (s.commitRequest d) := .ite h.upd h

theorem wouldBe {l} (h : Kept r s) : Kept r (s.wouldBe l) := (h.foldl fun _ _ h => h.headframeAtE).putRegs

theorem prepare {full nums} (h : Kept r s) : Kept r (s.prepare full nums) := by
  unfold State.prepare
  dsimp only
  split
  · exact h
  split
  exacts [h.send, .ite h.send h.setTxn.upd.send]

theorem sendCommit {p} (h : Kept r s) : Kept r (s.sendCommit p) := by
  unfold State.sendCommit
  split
  exacts [h.upd.foldl fun _ _ h => h.send, h]

theorem failPrepare (h : Kept r s) : Kept r s.failPrepare := h.dropActive.advanceCommits

theorem prepareReply {d ok epoch errAddr digest} (h : Kept r s) :
    Kept r (s.prepareReply d ok epoch errAddr digest) := by
  unfold State.prepareReply
  split
  · refine .ite h (.ite (.ite h.setMember.sendCommit h.setMember.upd) ?_)
    extract_lets s₁ s₂
    have h₂ : Kept r s₂ := by
      dsimp only [s₂]
      split
      · split
        exacts [h.logEvent.setTxn, h.logEvent]
      · exact h.logEvent
    exact .failPrepare (.ite h₂.refuseJoin h₂)
  · exact h

theorem commitWith {epoch} (h : Kept r s) : Kept r (s.commitWith epoch) := .ite h.setTxn.queueCommit h

theorem finalDigest {d epoch digest} (h : Kept r s) : Kept r (s.finalDigest d epoch digest) := by
  unfold State.finalDigest
  split
  · refine .ite h ?_
    extract_lets m m' good s₁ s₂ p' _ s₃
    have h₁ : Kept r s₁ := .ite h.setMember.setInt.zdpRecord h.setMember
    have h₃ : Kept r s₃ := (Kept.ite h₁ h₁.quarantine).upd
    split
    exacts [.ite h₃.finishCommit h₃, h₃]
  · exact h

theorem prepTimeout (h : Kept r s) : Kept r s.prepTimeout := by
  unfold State.prepTimeout
  dsimp only
  split
  · split
    · exact (h.advanceTo.foldl fun _ _ h => .ite h.refuseJoin h).failPrepare
    split
    exacts [.ite h.advanceTo.upd.finishCommit h.advanceTo.upd, h.advanceTo.upd]
  exact h

theorem pollTimer (h : Kept r s) : Kept r s.pollTimer :=
  .ite h <| h.foldl fun _ _ h => .ite h.loseMember <| (Kept.ite h h.quarantine).setMember.send

theorem pollReply {d epoch free alarm sync digest below} (h : Kept r s) :
    Kept r (s.pollReply d epoch free alarm sync digest below) :=
  .ite h <| (Kept.ite h.setMember.quarantine h.setMember).memberHealth.foldl fun _ _ h => h.loseMember

theorem resume {d l} (h : Kept r s) : Kept r (s.resume d l) :=
  .ite h <| .ite (.ite h.setMember.setLink.zdpRecord h) <| .ite ((h.upd.setLink.joinStep.send.foldl fun _ _ h =>
    h.sendResult).zdpRecord) h

theorem holdTimeout {d} (h : Kept r s) : Kept r (s.holdTimeout d) := by
  unfold State.holdTimeout
  split
  · split
    exacts [.ite h.advanceTo.endHold h, h]
  split
  exacts [h.advanceTo.leaveConstellation, h]

/-! ### Spill -/

theorem sendKey {d k} (h : Kept r s) (ht : s.sendKey d k = some t) : Kept r t := by
  unfold State.sendKey at ht
  dsimp only at ht
  split at ht
  · cases ht
    exact h
  split at ht
  · cases ht
    have hs := (h.drawCentral.fst ‹_›).computeNode (i := handleIndex k)
    exact .ite hs.setMember.send.grantRange hs.setMember.send
  · cases ht

theorem spillTo {e x k d} (h : Kept r s) : Kept r (s.spillTo e x k d) := by
  unfold State.spillTo
  refine .ite h.finish ?_
  dsimp only
  split
  · exact h.finish
  split
  · exact h
  next u hkeyed =>
    have hu : Kept r u := by
      split at hkeyed
      · obtain ⟨v, hv, hu⟩ := Option.bind_eq_some_iff.mp hkeyed
        exact (h.sendKey hv).sendKey hu
      · cases hkeyed
        exact h
    exact hu.takeTurn.modEntry.bindKeys.capture.send.charge.pmu.pmu

theorem dispatchSpill {e d} (h : Kept r s) : Kept r (s.dispatchSpill e d) := by
  unfold State.dispatchSpill
  split
  · exact h
  split
  exacts [h, .ite h.spillTo h]

theorem execDispatch {e target} (h : Kept r s) : KeptOut r (Machine.execDispatch e target s) := by
  unfold Machine.execDispatch
  refine .clocked h <| .next ?_
  split
  exacts [h.dispatchSpill, h.dispatchLocal]

theorem touchCache {i} (h : Kept r s) : Kept r (s.touchCache i) := h.setObj.upd

theorem wakeWork {e} (h : Kept r s) : Kept r (s.wakeWork e) := by
  unfold State.wakeWork
  split
  · split
    · split
      exacts [(Kept.ite (.ite h h.touchCache) <| (Kept.ite h h.touchCache).touchCache).setEntry, h]
    exact h
  exact h

theorem takeWork {w} (h : Kept r s) : Kept r (s.takeWork w) := .ite h h.addEntry.wakeWork.pmu

theorem stopWork {token} (h : Kept r s) : Kept r (s.stopWork token) := by
  unfold State.stopWork
  refine .forEntries h fun _ _ h => ?_
  split
  exacts [.ite h.stop h.freeEntry, h]

theorem dropCached {i} (h : Kept r s) : Kept r (s.dropCached i) := h.setObj

theorem cacheRoomFuel {units n} (h : Kept r s) : Kept r (Machine.cacheRoomFuel units n s) := by
  induction n generalizing s with
  | zero => exact h
  | succ n ih =>
    refine .ite h ?_
    split
    exacts [ih h.dropCached.send, h]

theorem takeKey {h' blob} (h : Kept r s) : Kept r (s.takeKey h' blob) := by
  unfold State.takeKey
  dsimp only
  split
  · exact h
  split
  · exact h
  split
  · exact h.cacheRoomFuel.send
  split
  exacts [(h.cacheRoomFuel.allocIndex.fst ‹_›).placeObject.touchCache.forEntries fun _ _ h => h.wakeWork,
      h.cacheRoomFuel.allocIndex.fst ‹_›]

theorem takePurge {h' destroyed} (h : Kept r s) : Kept r (s.takePurge h' destroyed) := by
  unfold State.takePurge
  extract_lets s₁
  have h₁ : Kept r s₁ := by
    dsimp only [s₁]
    split
    exacts [.ite h.destroyAll h.dropCached, h]
  exact .ite h (.ite h₁.send h₁)

theorem takeRange {h' lo hi key} (h : Kept r s) : Kept r (s.takeRange h' lo hi key) := by
  unfold State.takeRange
  split
  exacts [h, h.modStf]

theorem takeResult {d a} (h : Kept r s) : Kept r (s.takeResult d a) := by
  unfold State.takeResult
  split
  · exact h
  split
  · split
    exacts [h, .ite (.ite h.setEntry.requeueFrom h.setEntry) <|
        .ite (.ite h.setEntry.createObject h.setEntry.commitOut) <|
        .ite h.setEntry.commitReject h.setEntry.setEntry.finish]
  exact h

theorem evictionReport {d k} (h : Kept r s) : Kept r (s.evictionReport d k) := by
  refine .ite h (.ite ?_ h.setMember)
  generalize hk : State.sendKey _ d k = o
  cases o with
  | none => exact h.setMember
  | some t => exact h.setMember.sendKey hk

theorem purgeAck {d h'} (h : Kept r s) : Kept r (s.purgeAck d h') := h.upd

theorem rangeRequest {d h'} (h : Kept r s) : Kept r (s.rangeRequest d h') := .ite h.grantRange h

/-! ### Reset -/

theorem putSts {clear set} (h : Kept r s) : Kept r (s.putSts clear set) := h.setReg

theorem setPhase {n} (h : Kept r s) : Kept r (s.setPhase n) := h.putSts

theorem resetUpper (h : Kept r s) : Kept r s.resetUpper := .putSts (h.withCells (Cells.wf_filter _) id)

theorem programCopy {k st bits} (h : Kept r s) : Kept r (s.programCopy k st bits) := h.upd

theorem tearCopy (h : Kept r s) : Kept r s.tearCopy := .ite h.programCopy.upd h

theorem deviceReset {por} (h : Kept r s) : Kept r (s.deviceReset por) := by
  have ht := h.tearCopy
  unfold State.deviceReset
  extract_lets u full safe c c' x base
  have hc : c'.retained = u.cny.retained := by
    dsimp only [c']
    split <;> rfl
  have hbase : Kept _ base := ht.withCells (Cells.wf_filter _) fun hw => hc ▸ hw
  exact .ite hbase.putSts hbase

theorem noteCause {code} (h : Kept r s) : Kept r (s.noteCause code) := .ite h.setReg h.setReg

theorem resetPort (h : Kept r s) : Kept r s.resetPort := by
  unfold State.resetPort
  extract_lets hold regs
  have hhold (l : List (Nat × Word)) (m) (hm : Cells.wf regDefault m = true) :
      Cells.wf regDefault (l.foldl hold m) = true := by
    induction l generalizing m with
    | nil => exact hm
    | cons q l ih =>
      refine ih _ ?_
      dsimp only [hold]
      split
      exacts [Cells.wf_set _ _ hm, hm]
  exact h.withCells (fun hw => hhold _ _ (Cells.wf_filter _ hw)) id

theorem linkFalls (h : Kept r s) : Kept r s.linkFalls := .ite h.putSts.upd.resetPort.linkReset h

theorem assertSource {code device} (h : Kept r s) : Kept r (s.assertSource code device) :=
  have h₁ := (Kept.ite h h.noteCause).upd
  .ite h <| .ite h₁.deviceReset.noteCause.upd <| .ite h₁.deviceReset h₁.linkFalls

theorem backupLost (h : Kept r s) : Kept r s.backupLost := h.withCells (Cells.wf_filter _) fun _ => rfl

theorem powerOnReset {ioLost} (h : Kept r s) : Kept r (s.powerOnReset ioLost) :=
  (Kept.ite ((Kept.ite h.updCny h).backupLost) <| .ite h.updCny h).assertSource

theorem perst (h : Kept r s) : Kept r s.perst := h.assertSource

theorem hfWatchdog (h : Kept r s) : Kept r s.hfWatchdog := .ite h.upd.assertSource h

theorem rstCmd {v} (h : Kept r s) : Kept r (s.rstCmd v) := .ite h.assertSource h.accessErr

theorem releaseD1 {straps} (h : Kept r s) : Kept r (s.releaseD1 straps) :=
  (Kept.ite h.putSts.setReg.setReg.setReg.setReg.setErr h.putSts.setReg.setReg.setReg).updCny.logEvent

theorem deassert {source straps} (h : Kept r s) : Kept r (s.deassert source straps) :=
  .ite h <| .ite h.upd h.upd.releaseD1

theorem lcVoted (h : Kept r s) : Kept r s.lcVoted :=
  .ite ((Kept.ite h.upd.updCny h.upd).setErr) <| .ite h.upd.updCny h.upd

theorem optionsLoaded {o} (h : Kept r s) : Kept r (s.optionsLoaded o) :=
  .ite h <| (Kept.ite h.updCny.putSts.setErr h.updCny.putSts).lcVoted

theorem measureItem {k m} (h : Kept r s) : Kept r (s.measureItem k m) := h.upd

theorem releaseD2 (h : Kept r s) : Kept r s.releaseD2 :=
  .ite h.updCny.upd.upd.rewriteDirectory.settleDirectory.upd.measureItem.measureItem.setPhase.upd
    h.updCny.upd.upd.rewriteDirectory.settleDirectory.upd.measureItem.measureItem.setPhase

theorem releaseD4 (h : Kept r s) : Kept r s.releaseD4 := by
  unfold State.releaseD4
  refine .entSettle ?_
  split
  exacts [h.holdRoot, h.upd.setInt]

theorem releaseGroup {g} (h : Kept r s) : Kept r (s.releaseGroup g) :=
  (h.foldl fun _ _ h => .ite h.setStope.setStope.instantiateStope h.setStope.setStope).upd

theorem releaseD6 (h : Kept r s) : Kept r s.releaseD6 := h.upd.foldl fun _ _ h => h.setShaft

theorem firstEpoch (h : Kept r s) : Kept r s.firstEpoch := by
  unfold State.firstEpoch
  refine .upd ?_
  split
  exacts [h.measureItem, h.putSts]

theorem startTests (h : Kept r s) : Kept r s.startTests :=
  .katCheck (.foldl h.setPhase fun _ _ h => .ite h h.setStope)

theorem settlePhase (h : Kept r s) : Kept r s.settlePhase :=
  .ite (.ite (.ite h.setPhase.setPhase.startTests h.setPhase.setPhase) h.setPhase) <|
    .ite (.ite h.setPhase.startTests h.setPhase) h

theorem releaseD8 (h : Kept r s) : Kept r s.releaseD8 := h.setReg.takeRole.firstEpoch.settlePhase

theorem releaseEffect {d} (h : Kept r s) : Kept r (s.releaseEffect d) := by
  unfold State.releaseEffect
  split
  exacts [h.releaseD2, h.releaseD4, h.releaseD6, h.releaseD8, h]

theorem domainRelease {d} (h : Kept r s) : Kept r (s.domainRelease d) :=
  .ite h <| .ite (.ite h.advanceTo.upd.releaseGroup.putSts h.advanceTo.upd.releaseGroup)
    h.advanceTo.upd.putSts.releaseEffect

theorem relWrite {req v} (h : Kept r s) : Kept r (s.relWrite req v) :=
  h.gated fun _ h => .ite h.accessErr <| .ite h.setReg h

theorem coreReset {n} (h : Kept r s) : Kept r (s.coreReset n) := .ite h.setReg.setInt.resetCore h.setReg.setErr

theorem dcoreWrite {v} (h : Kept r s) : Kept r (s.dcoreWrite v) :=
  .ite h <| (h.setReg.foldl fun _ _ h => h.coreReset).feedCores

/-! ### Boot -/

theorem bootEvent {cls cause} (h : Kept r s) : Kept r (s.bootEvent cls cause) := h.logEvent

theorem bootFail (h : Kept r s) : Kept r s.bootFail := h.resetUpper.setPhase.setReg.upd

theorem bistEnds {pages cores links fatal} (h : Kept r s) : Kept r (s.bistEnds pages cores links fatal) :=
  .ite h <| .ite h.bootFail <| .foldl (.foldl (.foldl h.upd.rewriteDirectory.settleDirectory
    fun _ _ h => h.logEvent) fun _ _ h => h.logEvent) fun _ _ h => h.logEvent

theorem fallback {cause} (h : Kept r s) : Kept r (s.fallback cause) := h.putSts.setErr.bootEvent

theorem imageBad (h : Kept r s) : Kept r s.imageBad := .ite h.upd.fallback h.upd.bootFail

theorem headerRead {b h' l} (h : Kept r s) : Kept r (s.headerRead b h' l) :=
  have h₁ := Kept.ite h.fallback h
  .ite h <| .ite h.bootFail <| .ite h <| .ite h₁.imageBad h₁.upd.setReg.measureItem.setPhase

theorem evalOwner (h : Kept r s) : Kept r s.evalOwner := by
  unfold State.evalOwner
  dsimp only
  split
  exacts [h.upd, h.upd, .ite h.upd h.upd.setErr]

theorem firmwareRuns {h' image} (h : Kept r s) : Kept r (s.firmwareRuns h' image) :=
  h.upd.measureItem.setReg.setPhase.evalOwner.settlePhase

theorem firmwareLoaded {image} (h : Kept r s) : Kept r (s.firmwareLoaded image) :=
  .ite h <| .ite h.firmwareRuns h.imageBad

theorem recovery {h' image l} (h : Kept r s) : Kept r (s.recovery h' image l) :=
  .ite h <| .ite h.upd.setReg.measureItem.firmwareRuns h

theorem keysDerived (h : Kept r s) : Kept r s.keysDerived := by
  unfold State.keysDerived
  split
  exacts [.ite h.upd h, h]

theorem configReady (h : Kept r s) : Kept r s.configReady := .ite h h.putSts.setReg.setReg.settlePhase

theorem bootInstall {n p} (h : Kept r s) : Kept r (s.bootInstall n p).1 := by
  unfold State.bootInstall
  dsimp only
  split
  · exact h
  split
  · exact h
  split
  exacts [h.setStope, h]

theorem bootPack {k} (h : Kept r s) : Kept r (s.bootPack k) := by
  unfold State.bootPack
  split
  · exact h
  refine .ite h ?_
  extract_lets s₁ q s₂ v s₃ _ s₄
  have h₂ : Kept r s₂ := .foldlFst h.measureItem fun _ _ h => h.bootInstall
  have h₄ : Kept r s₄ := .upd (.ite h₂.setReg h₂.setErr.bootEvent)
  exact .ite h₄.startTests h₄

theorem fullReady (h : Kept r s) : Kept r s.fullReady := .ite h.setPhase.putSts.setReg.setReg.upd.setInt.bootEvent h

theorem bootAgain (h : Kept r s) : Kept r s.bootAgain :=
  have h₁ := (h.foldl fun _ _ h => h.setStope).upd.setReg.setPhase.putSts
  .ite (.ite h₁.startTests h₁) h

theorem ownerRecord (h : Kept r s) : Kept r s.ownerRecord := by
  unfold State.ownerRecord
  split
  exacts [.ite h.upd h, h]

theorem restoreOne {r'} (h : Kept r s) : Kept r (s.restoreOne r') := h.setObj

theorem afterRestore {e x k} (h : Kept r s) : Kept r (s.afterRestore e x k) := by
  unfold State.afterRestore
  dsimp only
  split
  · split
    exacts [h.setEntry.finish, .ite h.reserveFor.askChannel h.reserveFor, .ite h.askChannel h]
  split
  exacts [h.finish, .ite h.askChannel h]

theorem wakeRestored (h : Kept r s) : Kept r s.wakeRestored := by
  unfold State.wakeRestored
  dsimp only
  refine .forEntries h fun _ _ h => ?_
  split
  · split
    exacts [h.setEntry.afterRestore, h.setEntry]
  · exact h

theorem restoreNone (h : Kept r s) : Kept r s.restoreNone := (Kept.ite h h.upd.setInt).upd.logEvent.wakeRestored

theorem persistRestore (h : Kept r s) : Kept r s.persistRestore := by
  unfold State.persistRestore
  refine .ite h ?_
  split
  · exact h.restoreNone
  · exact h.restoreNone
  · exact
      have h₁ := (h.foldl fun _ _ h => h.restoreOne).upd
      (Kept.ite h₁ h₁.setErr).setInt.logEvent.wakeRestored

/-! ### Life -/

theorem eraseRoot (h : Kept r s) : Kept r s.eraseRoot := h.updCny

theorem destroyClasses {why} (h : Kept r s) : Kept r (s.destroyClasses why) := h.destroyAll.destroyStamp.upd.eraseRoot

theorem lccResult {r'} (h : Kept r s) : Kept r (s.lccResult r') := h.upd

theorem lccRefuse (h : Kept r s) : Kept r s.lccRefuse := h.lccResult.accessErr

theorem makeSecret (h : Kept r s) : Kept r s.makeSecret.1 := by
  unfold State.makeSecret
  dsimp only
  split
  · exact h
  split
  exacts [h.drawCentral.fst ‹_›, (h.drawCentral.fst ‹_›).upd]

theorem dropVendorTest (h : Kept r s) : Kept r s.dropVendorTest := h.destroyAll.destroyStamp.upd

theorem transitionEnds (h : Kept r s) : Kept r s.transitionEnds :=
  .ite ((Kept.ite h.upd h).upd.logEvent.setInt.assertSource) <| (Kept.ite h.upd h).upd.logEvent.setInt

theorem startProgram {cmd} (h : Kept r s) : Kept r (s.startProgram cmd) := .ite h.upd.transitionEnds h.upd

theorem lccRun {cmd} (h : Kept r s) : Kept r (s.lccRun cmd) := by
  unfold State.lccRun
  split
  · split
    exacts [(h.makeSecret.fst ‹_›).startProgram, (h.makeSecret.fst ‹_›).lccResult]
  · exact h.dropVendorTest.startProgram
  · exact h.destroyClasses.startProgram
  exact h.upd.setInt

theorem lccCommand {v} (h : Kept r s) : Kept r (s.lccCommand v) := by
  unfold State.lccCommand
  dsimp only
  split
  · exact h.accessErr
  split
  · exact h.lccRefuse
  split
  · exact h.lccResult
  split
  · exact h.lccResult
  split
  · exact h.lccResult
  split
  exacts [h.lccResult, .ite h.lccResult.lccRun h.upd.setErr]

theorem clearToken (h : Kept r s) : Kept r s.clearToken := h.foldl fun _ _ h => h.setReg

theorem lccWrite {req v c} (h : Kept r s) : Kept r (s.lccWrite req v c) :=
  have h₁ := h.critical fun _ _ h => h.lccCommand
  .ite h₁.clearToken h₁

theorem copyProgrammed {good} (h : Kept r s) : Kept r (s.copyProgrammed good) :=
  .ite h <|
  have h₁ := Kept.ite h <| .ite h.programCopy h.programCopy.upd
  .ite h₁.upd <|
  have h₂ := (Kept.ite h₁.setErr h₁).upd
  .ite h₂ (.ite h₂.upd h₂.transitionEnds)

theorem execTokenLockoutExpiry (h : Kept r s) : KeptOut r (Machine.execTokenLockoutExpiry s) := by
  unfold Machine.execTokenLockoutExpiry
  refine .next ?_
  split
  exacts [h.advanceTo.upd, h]

theorem ownChange {cmd key} (h : Kept r s) : Kept r (s.ownChange cmd key) := h.upd.evalOwner.upd

theorem ownRun {cmd blob} (h : Kept r s) : Kept r (s.ownRun cmd blob) := by
  unfold State.ownRun
  split
  exacts [.ite h.ownChange h.lccResult, .ite h.ownChange h.lccResult, .ite h.ownChange h.lccResult,
      .ite h.upd.evalOwner.logEvent.setInt h.lccResult]

theorem ownCommandBy {v blobRead} (h : Kept r s) : Kept r (s.ownCommandBy v blobRead) :=
  .ite h.accessErr <| .ite h.lccRefuse <| .ite h.lccResult <| .ite h.lccResult <| .ite h.lccResult <|
    .ite h.lccResult <| .ite h.lccResult h.ownRun

theorem ownCommand {v} (h : Kept r s) : Kept r (s.ownCommand v) := h.ownCommandBy

theorem ownWrite {req v c} (h : Kept r s) : Kept r (s.ownWrite req v c) := h.critical fun _ _ h => h.ownCommand

theorem debugEvent {level signer validity} (h : Kept r s) : Kept r (s.debugEvent level signer validity) := h.logEvent

theorem endDebug (h : Kept r s) : Kept r s.endDebug := .ite h <| .ite h.debugEvent.upd.assertSource h.debugEvent.upd

theorem grantDebug {level signer validity} (h : Kept r s) : Kept r (s.grantDebug level signer validity) :=
  h.upd.debugEvent.setInt

theorem newChallenge (h : Kept r s) : Kept r s.newChallenge := by
  unfold State.newChallenge
  split
  · exact h.lccRefuse
  split
  · exact h
  split
  exacts [(h.drawCentral.fst ‹_›).upd, h.drawCentral.fst ‹_›]

theorem execNewchal {via} (h : Kept r s) : KeptOut r (Machine.execNewchal via s) := by
  unfold Machine.execNewchal
  refine .next ?_
  split
  exacts [h.gated fun _ h => h.newChallenge, .ite h.newChallenge h]

theorem debugAuth {b} (h : Kept r s) : Kept r (s.debugAuth b) :=
  .ite h <| .ite h.lccRefuse <| .ite h.upd.setErr <| .ite h.upd.upd.raiseAlarm h.upd.grantDebug

theorem execChallengeExpiry (h : Kept r s) : KeptOut r (Machine.execChallengeExpiry s) := by
  unfold Machine.execChallengeExpiry
  refine .next ?_
  split
  exacts [h.advanceTo.upd, h]

theorem quiesceAll (h : Kept r s) : Kept r s.quiesceAll :=
  .ite (.ite ((Kept.ite h.commitQuiesce.giveUp.drawTransport h.commitQuiesce).endDebug) <|
    .ite h.commitQuiesce.giveUp.drawTransport h.commitQuiesce) h.commitQuiesce

theorem jtagSelect {ir out} (h : Kept r s) : Kept r (s.jtagSelect ir out) := .ite h.upd h

theorem jtagScan {ir out boundary} (h : Kept r s) : Kept r (s.jtagScan ir out boundary) := .ite h.upd h

/-! ### Spdm -/

theorem setSpdm {c x} (h : Kept r s) : Kept r (s.setSpdm c x) := h.upd

theorem spdmAnswer {c code fields} (h : Kept r s) : Kept r (s.spdmAnswer c code fields) := h.setSpdm.upd

theorem spdmRequest {c need f} (h : Kept r s) (hf : ∀ s, Kept r s → Kept r (f s)) : Kept r (s.spdmRequest c need f) :=
  .ite h (.ite h.spdmAnswer (hf _ h))

theorem execGetCertificate {c slot offset len} (h : Kept r s) :
    KeptOut r (Machine.execGetCertificate c slot offset len s) := by
  unfold Machine.execGetCertificate
  refine .next <| .spdmRequest h fun _ h => ?_
  split
  exacts [.ite h.spdmAnswer h.spdmAnswer, h.spdmAnswer]

theorem execSpdmChallenge {c nonce} (h : Kept r s) : KeptOut r (Machine.execSpdmChallenge c nonce s) := by
  unfold Machine.execSpdmChallenge
  refine .next <| .spdmRequest h fun _ h => ?_
  split
  exacts [h.spdmAnswer, h.spdmAnswer]

theorem keyExchange {c peer} (h : Kept r s) : Kept r (s.keyExchange c peer) := by
  unfold State.keyExchange
  dsimp only
  split
  · exact (h.drawCentral.fst ‹_›).spdmAnswer
  split
  exacts [(h.drawCentral.fst ‹_›).spdmAnswer, (h.drawCentral.fst ‹_›).setSpdm.spdmAnswer]

theorem inSession {c f} (h : Kept r s) (hf : ∀ s, Kept r s → Kept r (f s)) : Kept r (s.inSession c f) :=
  h.spdmRequest fun _ h => .ite (hf _ h) h.spdmAnswer

/-! ### Canary -/

theorem setLoop {n x} (h : Kept r s) : Kept r (s.setLoop n x) := h.updCny

theorem clockOn {us} (h : Kept r s) : Kept r (s.clockOn us) := h.updCny

theorem backupEvent {src cause detail} (h : Kept r s) : Kept r (s.backupEvent src cause detail) :=
  .ite h.cnyLog.updCny h.cnyLog

theorem sampledEvent {src cause detail} (h : Kept r s) : Kept r (s.sampledEvent src cause detail) :=
  .ite h.raiseAlarm h.backupEvent

theorem loopPulse {first second cases mv} (h : Kept r s) : Kept r (s.loopPulse first second cases mv) :=
  have h₁ := (Kept.ite h.advanceTo h).updCny.clockOn.foldl fun _ _ h => h.setLoop
  have h₂ := (h₁.foldl fun _ _ h => h.setLoop).updCny
  .ite h₂.sampledEvent h₂

theorem loopEvent {n} (h : Kept r s) : Kept r (s.loopEvent n) := .ite h h.setLoop.sampledEvent

theorem monitorEvent {src cause detail lasting} (h : Kept r s) : Kept r (s.monitorEvent src cause detail lasting) :=
  .ite h.raiseAlarm h

theorem shutdown (h : Kept r s) : Kept r s.shutdown := h.resetUpper.noteCause.updCny.setPhase

theorem sequenceDone (h : Kept r s) : Kept r s.sequenceDone := h.updCny

theorem nextPhase (h : Kept r s) : Kept r s.nextPhase := by
  unfold State.nextPhase
  split
  exacts [h.shutdown.sequenceDone, h.updCny.sequenceDone.bootAgain, h.updCny]

theorem cutOff (h : Kept r s) : Kept r s.cutOff := by
  unfold State.cutOff
  exact (h.updCny.txnAlarm.kstAbort.forEntries fun _ _ h => h.endWith).dgsClearWhere

theorem markProcessed {a} (h : Kept r s) : Kept r (s.markProcessed a) := by
  unfold State.markProcessed
  split
  exacts [h.updCny, h]

theorem inForceBy {a} (h : Kept r s) : Kept r (s.inForceBy a) :=
  .ite (.ite h.updCny.cutOff h.updCny) <| (Kept.ite h.updCny.cutOff h.updCny).nextPhase

theorem noteInForce {a} (h : Kept r s) : Kept r (s.noteInForce a) := .ite h h.updCny

theorem applyAlarm {a} (h : Kept r s) : Kept r (s.applyAlarm a) :=
  have h₁ := (Kept.ite h.markProcessed h).logEvent
  have h₂ := Kept.ite h₁.raiseVector h₁
  .ite h₂.noteInForce h₂.inForceBy

theorem alarmCutoff (h : Kept r s) : Kept r s.alarmCutoff := by
  unfold State.alarmCutoff
  split
  exacts [h, .ite h h.nextStamp.updCny.applyAlarm]

theorem scrubDone (h : Kept r s) : Kept r s.scrubDone :=
  have h₁ := h.upd.foldl fun _ _ h => h.setShaft
  .ite h (Kept.ite h₁.instantiateAll h₁).updCny.nextPhase

theorem zeroiseDone (h : Kept r s) : Kept r s.zeroiseDone := by
  unfold State.zeroiseDone
  split
  · exact h
  refine .nextPhase ?_
  split
  exacts [h.giveUp.destroyClasses.updCny.upd.grantDebug, h.giveUp.destroyClasses.updCny]

theorem releaseHold (h : Kept r s) : Kept r s.releaseHold := (Kept.ite h.newRootKey h).updCny.setInt

theorem askRelease (h : Kept r s) : Kept r s.askRelease := .ite (.ite h h.releaseHold) <| .ite h.releaseHold h.setErr

theorem sourceClear {n} (h : Kept r s) : Kept r (s.sourceClear n) :=
  .ite h <| .ite ((Kept.ite h.updCny.setLoop h.updCny).releaseHold) <| .ite h.updCny.setLoop h.updCny

theorem cnyLock (h : Kept r s) : Kept r s.cnyLock := .ite h.updCny h.accessErr

theorem sealLost (h : Kept r s) : Kept r s.sealLost :=
  .setInt <| .raiseAlarm <| h.withCells (Cells.wf_filter _) fun _ => rfl

theorem processEntry {e} (h : Kept r s) : Kept r (s.processEntry e).1 :=
  (Kept.iteFst h.countTamper h).logEvent.pendSource

theorem processLog (h : Kept r s) : Kept r s.processLog := by
  unfold State.processLog
  refine .ite h ?_
  extract_lets s₁ waiting top last holds q _ _ s₂ s₃ _ _ s₄
  have h₁ : Kept r q.1 := .foldlFst (.ite h h.sealLost) fun _ _ h => .iteFst h.processEntry h
  have h₂ : Kept r s₂ := h₁.updCny
  have h₃ : Kept r s₃ := h₂.foldl fun _ _ h => h.countTamper
  have h₄ : Kept r s₄ := h₃.updCny
  exact .ite h₄.updCny (.ite h₄.updCny.shutdown h₄.updCny)

theorem rmAccess {write v} (h : Kept r s) : Kept r (s.rmAccess write v) :=
  .setReg <| .ite h.accessErr <| .ite (h.withCells id (Cells.wf_writeBytes _ _ _)) h

/-! ### Control -/

theorem blockLog {p r'} (h : Kept r s) : Kept r (s.blockLog p r') := h.setReg

theorem blockRequest {p} (h : Kept r s) : Kept r (s.blockRequest p) :=
  .ite h <| .ite h.blockLog.accessErr <| .ite h.blockLog.setInt.blockReset h.blockLog.setErr

theorem putCtl {p n on} (h : Kept r s) : Kept r (s.putCtl p n on) := h.setReg

theorem ctlDrained {p on} (h : Kept r s) : Kept r (s.ctlDrained p on) := .ite h <| .ite h.drainUnit h.undrainUnit

theorem ctlEnabled {p on} (h : Kept r s) : Kept r (s.ctlEnabled p on) := .ite h.putCtl <| .ite h.putCtl h.accessErr

theorem ctlWrite {p v} (h : Kept r s) : Kept r (s.ctlWrite p v) :=
  .ite h.putCtl.ctlDrained.ctlEnabled.blockRequest h.putCtl.ctlDrained.ctlEnabled

theorem ctlPair {req p v c} (h : Kept r s) : Kept r (s.ctlPair req p v c) :=
  .ite (h.critical fun _ _ h => h.ctlWrite) h

theorem errInject {p v} (h : Kept r s) : Kept r (s.errInject p v) := .ite h.setErrBits h.accessErr

theorem intEnable {p v} (h : Kept r s) : Kept r (s.intEnable p v) := .ite h.setReg h.setReg.raiseVector

theorem takes {p off v} (h : Kept r s) : Kept r (s.takes p off v) := by
  unfold State.takes
  split
  · exact h.stage
  split
  · exact h.freshCopy.ctlWrite
  split
  exacts [h.freshCopy.entCtl, h.freshCopy.zdpCtl, .ite h.freshCopy.rstCmd h.freshCopy.dcoreWrite,
      .ite h.freshCopy.lccCommand h.freshCopy.ownCommand, .ite h.freshCopy <|
      .ite h.freshCopy.askRelease h.freshCopy.cnyLock, h.freshCopy.tenantAdm, h.freshCopy.setReg,
      h.freshCopy.setReg, h.freshCopy]

theorem shadowWrite {req p off v} (h : Kept r s) : Kept r (s.shadowWrite req p off v) := by
  unfold State.shadowWrite
  dsimp only
  split
  · exact h
  split
  · refine .clearToken ?_
    split
    exacts [(h.complement.fst ‹_›).takes, h.complement.fst ‹_›]
  split
  exacts [(h.complement.fst ‹_›).takes, h.complement.fst ‹_›]

theorem shadowTimeout {req p} (h : Kept r s) : Kept r (s.shadowTimeout req p) := by
  unfold State.shadowTimeout
  split
  exacts [h.advanceTo.breakPrimary, h]

theorem copyMismatch {p off flip} (h : Kept r s) : Kept r (s.copyMismatch p off flip) := .ite h.upd.shadowMismatch h

theorem loseWork {e} (h : Kept r s) : Kept r (s.loseWork e) := by
  unfold State.loseWork
  split
  exacts [h.endWith, h]

theorem shaftFlaw {n inner} (h : Kept r s) : Kept r (s.shaftFlaw n inner) := by
  unfold State.shaftFlaw
  dsimp only
  split
  · split
    exacts [.ite h.foundUncorr h.foundUncorr.finish, h.foundUncorr]
  exact h.foundUncorr

theorem tallyFlaw {e both} (h : Kept r s) : Kept r (s.tallyFlaw e both) := by
  unfold State.tallyFlaw
  dsimp only
  split
  · exact h.foundUncorr.freeEntry
  split
  exacts [.ite h.foundUncorr.setEntry h.foundUncorr.loseWork, h.foundUncorr]

theorem contextFlaw {t' c} (h : Kept r s) : Kept r (s.contextFlaw t' c) := .ite h.dropCore.setCtx.foundUncorr h

theorem retainedFlaw {a} (h : Kept r s) : Kept r (s.retainedFlaw a) :=
  .ite (h.foundUncorr.withCells id (Cells.wf_clearRange _ _)) (.ite h.foundUncorr.upd h.foundUncorr)

theorem correctAt {a1} (h : Kept r s) : Kept r (s.correctAt a1) := by
  unfold State.correctAt
  dsimp only
  split
  · exact h.setErr
  · exact h.setErr
  · exact h.setErr
  · exact h.setErr
  · exact h.countCorrected.setErr
  · exact h.setErr
  · exact h.setErr
  · split
    exacts [h.setErr.countCorrected, h.setErr]
  · exact h.setErr
  · exact h.setErr
  exact h

theorem uncorrectedAt {a1} (h : Kept r s) : Kept r (s.uncorrectedAt a1) := by
  unfold State.uncorrectedAt
  split
  · exact .ite h h.foundUncorr
  · split
    exacts [.ite h.setObj.foundUncorr h, h]
  · exact h.shaftFlaw
  · exact .ite h.tallyFlaw h
  · exact .ite h.foundUncorr.loseWork h
  · exact h.contextFlaw
  · exact h.foundUncorr.assertSource
  · exact h.retainedFlaw
  exact h

theorem strike {f} (h : Kept r s) : Kept r (s.strike f) := by
  unfold State.strike
  split
  exacts [.ite h.upd h, .ite h.upd h, .ite h.upd h, .ite h.correctAt <| .ite h.upd h, .ite h.correctAt <|
      .ite h.upd h, .ite h.uncorrectedAt h.correctAt]

theorem dataFault {e} (h : Kept r s) : Kept r (s.dataFault e) := by
  unfold State.dataFault
  split
  exacts [h, .ite h <| (Kept.ite h.modEntry.setErr h).endWith]

theorem dmaFailure {what} (h : Kept r s) : Kept r (s.dmaFailure what) := by
  cases what with
  | memory f => exact h.strike
  | descriptor t q => exact .ite h.setFn.sqFail h.setFn
  | entry e => exact h.setFn.dataFault
  | pack n =>
    have hs {f} : Kept r (s.setFn 0 f) := h.setFn
    unfold State.dmaFailure
    dsimp only
    split
    exacts [hs.kstEnd, hs]
  | ownerBlob cmd => exact h.setFn.ownCommandBy

/-! ### Monitor -/

theorem monitorWrite {req m off f} (h : Kept r s) (hf : ∀ s, Kept r s → Kept r (f s)) :
    Kept r (s.monitorWrite req m off f) := .ite (h.gated hf) h

theorem clearCounters {p} (h : Kept r s) : Kept r (s.clearCounters p) := h.foldl fun _ _ h => h.setReg.setReg

theorem pmuCtl {p v} (h : Kept r s) : Kept r (s.pmuCtl p v) :=
  .ite ((Kept.ite h.setReg.setReg.setReg h.setReg).clearCounters) <| .ite h.setReg.setReg.setReg h.setReg

theorem evselWrite {p n v} (h : Kept r s) : Kept r (s.evselWrite p n v) := .ite h.accessErr h.setReg

theorem cntWrite {p n hi v} (h : Kept r s) : Kept r (s.cntWrite p n hi v) := .ite h.accessErr h.setReg

theorem sselWrite {p v} (h : Kept r s) : Kept r (s.sselWrite p v) := .ite h.setReg h.accessErr

theorem scfgWrite {p v} (h : Kept r s) : Kept r (s.scfgWrite p v) := .ite h.setSampler.samplerSettle h.accessErr

theorem sampleTag {n i cause stall} (h : Kept r s) : Kept r (s.sampleTag n i cause stall) := by
  unfold State.sampleTag
  dsimp only
  split
  · exact h
  split
  exacts [.ite h.upd.setSampler h, h]

theorem sampleWrite {n latency trapped dropped} (h : Kept r s) :
    Kept r (s.sampleWrite n latency trapped dropped) := by
  unfold State.sampleWrite
  dsimp only
  split
  · exact h
  split
  · exact h.setSampler
  split
  · split
    exacts [.ite h.setSampler.setInt.setInt h.setSampler.setInt, h.setSampler.setInt]
  exact h.setSampler

theorem bwWrite {off v} (h : Kept r s) : Kept r (s.bwWrite off v) := .ite h h.setReg.upd

theorem bwEnd {bytesIn bytesOut} (h : Kept r s) : Kept r (s.bwEnd bytesIn bytesOut) :=
  (Kept.ite h.advanceTo.setReg.setReg.setReg.setReg.setReg.setReg h.advanceTo.setReg.setReg.setReg.setReg).upd

theorem bwPeakRead {req} (h : Kept r s) : Kept r (s.bwPeakRead req) := .ite h.latch.setReg.setReg h

/-! ### Thermal -/

theorem raiseFor {mhz} (h : Kept r s) : Kept r (s.raiseFor mhz) := .ite h h.upd

theorem applyClock {n} (h : Kept r s) : Kept r (s.applyClock n) := .ite h <| (Kept.ite h.raiseFor h).setStope

theorem applyClocks (h : Kept r s) : Kept r s.applyClocks := h.foldl fun _ _ h => .ite h h.applyClock

theorem setClock {n c} (h : Kept r s) : Kept r (s.setClock n c) := .ite h h.setStope.applyClock

theorem thermalPoll {sensors} (h : Kept r s) : Kept r (s.thermalPoll sensors) := .ite h h.advanceTo.upd.applyClocks

theorem recordClocks (h : Kept r s) : Kept r s.recordClocks := h.upd

theorem avsTick {allAbove anyBelow} (h : Kept r s) : Kept r (s.avsTick allAbove anyBelow) :=
  .ite h <| .ite h.advanceTo.upd h.advanceTo.upd.recordClocks

theorem avsFault {regulator} (h : Kept r s) : Kept r (s.avsFault regulator) := .ite h <| .ite h.upd.applyClocks h.upd

/-! ### Writes -/

theorem queueWrite {t' off v} (h : Kept r s) : Kept r (s.queueWrite t' off v) := by
  unfold State.queueWrite
  split
  exacts [.ite h.accessErr h.setSq, .ite h.accessErr h.setSq, .ite h.accessErr h.setSq, h.setSq,
      .ite ((Kept.ite h.sqAbort h).sqEnable) <| (Kept.ite h.sqAbort h).sqDisable, .ite h.accessErr h.setCq,
      .ite h.accessErr h.setCq, .ite h.accessErr h.setCq, .ite h.cqEnable h.cqDisable, h.setCq.moderate, h]

theorem dgsCommand {t' v} (h : Kept r s) : Kept r (s.dgsCommand t' v) := by
  unfold State.dgsCommand
  split
  exacts [h.dgsOpen, h.dgsFinal, h.dgsNext, h.dgsCompare, h.dgsReset, h.dgsClose, h.dgsCmd.dgsErr]

theorem contextWrite {t' off v} (h : Kept r s) : Kept r (s.contextWrite t' off v) := by
  unfold State.contextWrite
  split
  exacts [.ite h.setCur h.dgsErr, h.setCur, h.setCur, h.setCur, h.setCur, h.dgsCommand, h.setCur, h.setCur,
      h.dgsData, h.dgsData, h.setCur, h.setCur]

theorem faultClear {n i v} (h : Kept r s) : Kept r (s.faultClear n i v) := h.setEng

theorem monitorPut {p off v} (h : Kept r s) : Kept r (s.monitorPut p off v) :=
  .ite h.pmuCtl <| .ite h.evselWrite <| .ite h.cntWrite <| .ite h.sselWrite <| .ite h.scfgWrite <|
    .ite h.bwWrite h.bwWrite

theorem debugCommand {v} (h : Kept r s) : Kept r (s.debugCommand v) := by
  unfold State.debugCommand
  split
  exacts [h.newChallenge, .ite h.lccRefuse h.endDebug, h]

theorem putOwn {p off v} (h : Kept r s) : Kept r (s.putOwn p off v) := by
  unfold State.putOwn
  split
  exacts [h.queueWrite, h.contextWrite, h.faultClear, h.monitorPut, h.monitorPut, h.debugCommand,
      .ite h.rmAccess h.setReg.updCny, .ite h.setFn h, h]

theorem putReg {req p off d v} (h : Kept r s) : Kept r (s.putReg req p off d v) :=
  .ite h.putOwn <| .ite h.errInject <| .ite h.intEnable h.setReg

theorem gatedCommand {req p off v} (h : Kept r s) (ht : s.gatedCommand req p off v = some t) : Kept r t := by
  unfold State.gatedCommand at ht
  split at ht
  · split at ht
    · cases ht; exact h.txnBegin
    split at ht
    · cases ht; exact h.txnCommit
    split at ht <;> cases ht
    exact h.txnAbort
  · split at ht
    · cases ht; exact h.txnBegin
    split at ht
    · cases ht; exact h.txnCommit
    split at ht <;> cases ht
    exact h.txnAbort
  · split at ht <;> cases ht
    exact h.kstCommand
  · split at ht
    · cases ht; exact h.mcmd
    split at ht <;> cases ht
    exact h.rcfgData
  · split at ht <;> cases ht
    exact h.relWrite
  · split at ht <;> cases ht
    exact h.resvWrite
  · cases ht

theorem directWrite {req p off v} (h : Kept r s) : Kept r (s.directWrite req p off v) := by
  unfold State.directWrite
  split
  · exact .ite h.breakPrimary h
  split
  · exact h.gated fun _ h => h.accessErr
  split
  · exact h.rwsWrite
  split
  · exact h.gated fun _ h => h.holdPrimary
  split
  exacts [h.gatedCommand ‹_›, h.gated fun _ h => h.putReg]

theorem pageWrite {req p off v} (h : Kept r s) : Kept r (s.pageWrite req p off v) :=
  .ite h.directWrite <| .ite (h.gated fun _ h => h.accessErr) <| .ite h.shadowWrite <| .ite h.breakPrimary h

theorem msixWrite {t' off v} (h : Kept r s) : Kept r (s.msixWrite t' off v) :=
  .ite h <| .ite (.ite h.setFn h.setFn.flushPba) h.setFn

theorem msixControl {t' v} (h : Kept r s) : Kept r (s.msixControl t' v) := .ite h.setFn.flushPba h

theorem wordWrite {req fn addr v} (h : Kept r s) : Kept r (s.wordWrite req fn addr v) := by
  unfold State.wordWrite
  split
  exacts [h.pageWrite, .ite h.sqBell h, .ite h.cqBell h, .ite h.msixWrite h, h, h, h]

theorem badWrite {req fn addr} (h : Kept r s) : Kept r (s.badWrite req fn addr) := by
  unfold State.badWrite
  split
  exacts [h.gated fun _ h => h.accessErr, h]

theorem busWrite {req fn addr size v} (h : Kept r s) : Kept r (s.busWrite req fn addr size v) :=
  .ite h <| .ite (.ite h.msixControl h) <| .ite h.wordWrite <| .ite h.wordWrite.wordWrite h.badWrite

end Kept

/-- Each command in turn: the next state it answers is kept. -/
theorem KeptOut.exec {r s : State} (i : Instr) (h : Kept r s) : KeptOut r (Machine.exec i s) := by
  cases i with
  | registerWrite => exact h.busWrite.next
  | rwsWrite => exact h.rwsWrite.next
  | ctlFreeze => exact h.ctlPair.next
  | ctlDrain => exact h.ctlPair.next
  | ctlBrst => exact h.ctlPair.next
  | ctlEn => exact h.ctlPair.next
  | errinjWrite => exact (Kept.ite (h.gated fun _ h => h.errInject) h).next
  | intenWrite => exact (Kept.ite (h.gated fun _ h => h.intEnable) h).next
  | shadowComplement => exact h.shadowWrite.next
  | shadowTimeout => exact h.shadowTimeout.next
  | shadowCopyMismatch => exact h.copyMismatch.next
  | txnBegin => exact h.txnBegin.next
  | txnCommit => exact h.txnCommit.next
  | txnAbort => exact h.txnAbort.next
  | txnTimeout => exact h.txnTimeout.next
  | txnEpochRead => exact h.epochRead.next
  | commitValidationDone => exact h.validationDone.next
  | commitQuiesce => exact h.clocked h.quiesceAll.next
  | pageApply => exact h.clocked h.pageApply.next
  | commitLastAck => exact h.commitLastAck.next
  | digestPublish => exact h.digestPublish.next
  | headframeCommit => exact h.headframeCommit.next
  | busMasterEnableClear => exact h.clocked h.bmeClear.next
  | busMasterEnableSet => exact h.clocked <| (Kept.ite h.setFn.flushPba h).next
  | msixUnmask => exact h.clocked <| (Kept.ite h.setFn.flushPba h).next
  | sqEnable => exact h.clocked <| (h.gated fun _ h => h.sqEnable).next
  | sqDisable => exact h.clocked <| (h.gated fun _ h => h.sqDisable).next
  | sqAbort => exact h.clocked <| (h.gated fun _ h => h.sqAbort).next
  | cqEnable => exact h.clocked <| (h.gated fun _ h => h.cqEnable).next
  | cqDisable => exact h.clocked <| (h.gated fun _ h => h.cqDisable).next
  | sqTailDoorbell => exact h.clocked <| (Kept.ite h.sqBell h).next
  | cqHeadDoorbell => exact h.clocked <| (Kept.ite h.cqBell h).next
  | descriptorFetch => exact h.clocked <| (Kept.ite h.fetch h).next
  | sglFetch => exact h.execSglFetch
  | dmaReadFailure => exact h.dmaFailure.next
  | admissionResume => exact h.clocked h.admissionResume.next
  | dispatch => exact h.execDispatch
  | kernelStart => exact h.clocked h.kernelStart.next
  | entropyWaitTimeout => exact h.clocked h.entropyTimeout.next
  | holdReleaseTime => exact h.clocked h.holdRelease.next
  | eqtRelease => exact h.clocked h.eqtRelease.next
  | deadlineExpiry => exact h.clocked h.deadlineExpiry.next
  | engineStopAck => exact h.clocked h.engineAck.next
  | engineStopTimeout => exact h.clocked <| .ite h.engineReset.next .fault
  | engineSelftestDone => exact h.clocked <| .ite ((Kept.ite h.setEng h).next) .fault
  | cqIrqTimer => exact h.clocked <| (Kept.ite h.irqTimer h).next
  | nopOpcode => exact h.execNopOpcode
  | fence => exact h.clocked h.fenceOp.next
  | abortTag => exact h.clocked h.abortTag.next
  | kemKeygen => exact h.clocked h.keygen.next
  | kemEncaps => exact h.clocked h.kemEncaps.next
  | kemDecaps => exact h.clocked h.kemDecaps.next
  | kemEkcheck => exact h.clocked <| (h.kernel fun _ _ h => h.commitOut).next
  | kemExpand => exact h.clocked h.expand.next
  | kemEvict => exact h.clocked h.evict.next
  | dsaKeygen => exact h.clocked h.keygen.next
  | dsaSign => exact h.clocked h.dsaSign.next
  | dsaVerify => exact h.clocked h.dsaVerify.next
  | dsaExpand => exact h.clocked h.expand.next
  | dsaEvict => exact h.clocked h.evict.next
  | compositeEncaps => exact h.clocked h.compEncaps.next
  | compositeDecaps => exact h.clocked h.compDecaps.next
  | compositeSign => exact h.clocked h.compSign.next
  | compositeVerify => exact h.clocked h.compVerify.next
  | sluiceHashDone => exact h.clocked h.sluiceDone.next
  | sluiceChannelGrant => exact h.clocked h.grantChannel.next
  | slcResvWrite => exact h.resvWrite.next
  | slhKeygen => exact h.clocked h.keygen.next
  | slhSign => exact h.clocked h.slhSign.next
  | slhVerify => exact h.clocked h.slhVerify.next
  | mceKeygen => exact h.clocked h.mceKeygen.next
  | mceEncaps => exact h.clocked h.codeEncaps.next
  | mceDecaps => exact h.clocked h.codeDecaps.next
  | hqcKeygen => exact h.clocked h.keygen.next
  | hqcEncaps => exact h.clocked h.codeEncaps.next
  | hqcDecaps => exact h.clocked h.codeDecaps.next
  | ecKeygen => exact h.clocked h.keygen.next
  | ecSign => exact h.clocked h.ecSign.next
  | ecVerify => exact h.clocked h.ecVerify.next
  | ecAgree => exact h.clocked h.ecAgree.next
  | ecPkcheck => exact h.clocked <| (h.kernel fun _ _ h => h.commitOut).next
  | rsaKeygen => exact h.clocked h.rsaKeygen.next
  | rsaSign => exact h.clocked h.rsaSign.next
  | rsaVerify => exact h.clocked h.rsaVerify.next
  | rsaEncrypt => exact h.clocked h.rsaEncrypt.next
  | rsaDecrypt => exact h.clocked h.rsaDecrypt.next
  | hashOp => exact h.clocked h.hashOp.next
  | hmac => exact h.clocked <| (h.kernel fun _ _ h => h.commitOut).next
  | hmacVerify => exact h.clocked <| (h.kernel fun _ _ h => .ite h.commitOut h.commitReject).next
  | kmac => exact h.clocked <| (h.kernel fun _ _ h => h.commitOut).next
  | kmacVerify => exact h.clocked <| (h.kernel fun _ _ h => .ite h.commitOut h.commitReject).next
  | kdf => exact h.clocked h.kdf.next
  | gcmSeal => exact h.clocked h.gcmSeal.next
  | gcmOpen => exact h.clocked h.gcmOpen.next
  | randomOp => exact h.clocked h.randomOp.next
  | stfKeygen => exact h.clocked h.stfKeygen.next
  | keygenChunkDone => exact h.clocked h.chunkDone.next
  | stfSign => exact h.clocked h.stfSign.next
  | stfVerify => exact h.clocked h.stfVerify.next
  | stfQuery => exact h.execStfQuery
  | stfSetfloor => exact h.clocked h.stfSetfloor.next
  | stfCache => exact h.clocked h.stfCache.next
  | cacheBuildDone => exact h.clocked h.cacheDone.next
  | subrangeGrant => exact h.clocked <| (Kept.ite h.takeRange h).next
  | leaseWriteStart => exact h.clocked h.leaseStart.next
  | leaseWriteDone => exact h.clocked h.leaseDone.next
  | leaseWriteRetry => exact h.clocked h.upd.next
  | sectorEraseDone => exact h.clocked <| (Kept.ite h.setSector h).next
  | leasePowerup => exact h.clocked <| (Kept.ite h h.leasePowerup).next
  | keyInfo => exact h.clocked <| (h.kernel fun _ _ h => h.commitOut).next
  | pubImport => exact h.clocked h.pubImport.next
  | symGen => exact h.clocked h.symGen.next
  | keyWrap => exact h.clocked h.keyWrap.next
  | keyUnwrap => exact h.clocked h.keyUnwrap.next
  | keyReplace => exact h.clocked h.keyReplace.next
  | keySwap => exact h.clocked h.keySwap.next
  | keyDestroy => exact h.clocked h.keyDestroy.next
  | destroyComplete => exact h.clocked h.destroyComplete.next
  | treeDerive => exact h.clocked h.treeDerive.next
  | pubExport => exact h.clocked <| (h.kernel fun _ _ h => h.commitOut).next
  | usageClear => exact h.clocked h.usageClear.next
  | keyRecordWriteDone => exact h.clocked h.keyRecordDone.next
  | storeWriteRetry => exact h.clocked h.storeRetryAll.next
  | persistRestore => exact h.clocked h.persistRestore.next
  | unitHandover => exact h.clocked h.unitHandover.next
  | entSettleDone => exact (Kept.ite (h.advanceTo.upd.foldl fun _ _ h => .ite h.excludeCell h.setCell) h).next
  | entStartupTestDone => exact h.startupTestDone.next
  | entStartupRetry => exact (Kept.ite h.advanceTo.entSettle h).next
  | cellTestFail => exact h.cellFail.next
  | entRestart => exact (h.critical fun _ _ h => h.entCtl).next
  | centralDrbgReseed => exact (Kept.ite h.reseedDue.centralReseed h).next
  | stopeDrbgReseed => exact h.clocked <| (Kept.ite h.reseedDue.reseedNow h).next
  | mrgReseed => exact h.clocked <| (Kept.ite h.advanceTo.reseedNow h).next
  | lodeMaskReseed => exact h.clocked <| (Kept.ite h.advanceTo.reseedNow h).next
  | drbgRequestServed => exact h.serveGen.next
  | entDataRead => exact (Kept.ite h.entRead h).next
  | entRefill => exact h.execEntRefill
  | dgsOpen => exact (h.gated fun _ h => h.dgsOpen).next
  | dgsFinal => exact (h.gated fun _ h => h.dgsFinal).next
  | dgsNext => exact (h.gated fun _ h => h.dgsNext).next
  | dgsCompare => exact (h.gated fun _ h => h.dgsCompare).next
  | dgsCompareDone => exact h.clocked h.compareDone.next
  | dgsReset => exact (h.gated fun _ h => h.dgsReset).next
  | dgsClose => exact (h.gated fun _ h => h.dgsClose).next
  | dgsDinWrite => exact (h.gated fun _ h => h.dgsData).next
  | dgsDlastWrite => exact (h.gated fun _ h => h.dgsData).next
  | dgsBlockDone => exact h.clocked h.blockDone.next
  | dgsResultRead => exact (Kept.ite h.dgsRead h).next
  | shaftCheckpoint => exact h.clocked <| (Kept.ite h.checkpoint h).next
  | shaftCommit => exact h.clocked <| (Kept.ite h.shaftCommit h).next
  | shaftWipeDone => exact h.clocked <| (Kept.ite h.wipeDone h).next
  | shaftStopAck => exact h.clocked h.shaftAck.next
  | shaftStopTimeout => exact h.execShaftStopTimeout
  | shaftSelftestDone => exact h.clocked <| (Kept.ite h.selftestDone h).next
  | unitUnresponsive => exact h.clocked <| (Kept.ite h.disableUnit h).next
  | eccThreshold => exact h.clocked h.eccThreshold.next
  | trapEntry => exact h.clocked h.trapEntry.next
  | trapHandlerOverrun => exact h.clocked h.handlerOverrun.next
  | stepWatchdogExpiry => exact h.clocked h.watchdog.next
  | msetBuildDone => exact (Kept.ite h <| .ite h.setEng h).engineCmd
  | stopeClockChange => exact (Kept.ite h.setClock h).next
  | nopS => exact (h.issue fun _ _ h => .ok h).engineCmd
  | addS => exact h.scalar.engineCmd
  | subS => exact h.scalar.engineCmd
  | andS => exact h.scalar.engineCmd
  | orS => exact h.scalar.engineCmd
  | xorS => exact h.scalar.engineCmd
  | sll => exact h.scalar.engineCmd
  | srl => exact h.scalar.engineCmd
  | sra => exact h.scalar.engineCmd
  | slt => exact h.scalar.engineCmd
  | sltu => exact h.scalar.engineCmd
  | mulS => exact h.scalar.engineCmd
  | mulhu => exact h.scalar.engineCmd
  | divu => exact h.scalar.engineCmd
  | remu => exact h.scalar.engineCmd
  | addi => exact h.scalar.engineCmd
  | andi => exact h.scalar.engineCmd
  | ori => exact h.scalar.engineCmd
  | xori => exact h.scalar.engineCmd
  | slli => exact h.scalar.engineCmd
  | srli => exact h.scalar.engineCmd
  | srai => exact h.scalar.engineCmd
  | slti => exact h.scalar.engineCmd
  | ld32 => exact h.scalarLoad.engineCmd
  | ld64 => exact h.scalarLoad.engineCmd
  | st32 => exact h.scalarStore.engineCmd
  | st64 => exact h.scalarStore.engineCmd
  | beq => exact h.branch.engineCmd
  | bne => exact h.branch.engineCmd
  | blt => exact h.branch.engineCmd
  | bge => exact h.branch.engineCmd
  | bltu => exact h.branch.engineCmd
  | bgeu => exact h.branch.engineCmd
  | bp => exact h.branchP.engineCmd
  | jal => exact (h.issue fun _ _ h => h.branchTo).engineCmd
  | jr => exact (h.issue fun _ _ h => h.branchTo).engineCmd
  | getc => exact h.execGetc
  | setc => exact (h.issue fun _ _ h => .ite (.ok h.modRegs) .trap).engineCmd
  | mset => exact (h.issue fun _ _ h => .ite .wait <| .ok h.modRegs).engineCmd
  | popen => exact h.popen.engineCmd
  | pclose => exact (h.issue fun _ _ h => .ite .trap <| .ok h.modRegs).engineCmd
  | barS => exact h.bar.engineCmd
  | final => exact h.final.engineCmd
  | reserve => exact h.reserve.engineCmd
  | finalLode => exact h.finalLode.engineCmd
  | unit => exact h.unitCommit.engineCmd
  | failS => exact (h.leadOnly fun _ _ h => .ok h.faultEnd).engineCmd
  | breakS => exact (h.issue fun _ _ h => .ite (.hold h.setEng) .trap).engineCmd
  | limm => exact (h.issue fun _ _ h => h.putS).engineCmd
  | jfar => exact (h.issue fun _ _ h => h.branchTo).engineCmd
  | vadd => exact (h.vslot fun _ _ h => h.linear).engineCmd
  | vsub => exact (h.vslot fun _ _ h => h.linear).engineCmd
  | vand => exact (h.vslot fun _ _ h => h.bilinear).engineCmd
  | vor => exact (h.vslot fun _ _ h => h.gadget).engineCmd
  | vxor => exact (h.vslot fun _ _ h => h.linear).engineCmd
  | vsll => exact (h.vslot fun _ _ h => h.shiftBy).engineCmd
  | vsrl => exact (h.vslot fun _ _ h => h.shiftBy).engineCmd
  | vsra => exact (h.vslot fun _ _ h => h.shiftBy).engineCmd
  | vslli => exact (h.vslot fun _ _ h => h.shiftImm).engineCmd
  | vsrli => exact (h.vslot fun _ _ h => h.shiftImm).engineCmd
  | vsrai => exact (h.vslot fun _ _ h => h.shiftImm).engineCmd
  | vrotli => exact (h.vslot fun _ _ h => h.shiftImm).engineCmd
  | vmul => exact (h.vslot fun _ _ h => h.bilinear).engineCmd
  | vmulw => exact (h.vslot fun _ _ h => h.vmulw).engineCmd
  | vdot => exact (h.vslot fun _ _ h => h.vdot).engineCmd
  | vdotz => exact (h.vslot fun _ _ h => h.vdot).engineCmd
  | vamov => exact (h.vslot fun _ _ h => h.withMrg fun _ h => h.putDest).engineCmd
  | vamovi => exact (h.vslot fun _ _ h => h.withMrg fun _ h => .ok h.modRegs).engineCmd
  | vaddc => exact (h.vslot fun _ _ h => h.carry).engineCmd
  | vsubb => exact (h.vslot fun _ _ h => h.carry).engineCmd
  | vmadd => exact (h.vslot fun _ _ h => .withQ fun _ => h.linear).engineCmd
  | vmsub => exact (h.vslot fun _ _ h => .withQ fun _ => h.linear).engineCmd
  | vmmul => exact (h.vslot fun _ _ h => .withQ fun _ => h.bilinear).engineCmd
  | vmred => exact (h.vslot fun _ _ h => .withQ fun _ => h.linear1).engineCmd
  | vcmpeq => exact (h.vslot fun _ _ h => h.vcompare).engineCmd
  | vcmpltu => exact (h.vslot fun _ _ h => h.vcompare).engineCmd
  | vcmplt => exact (h.vslot fun _ _ h => h.vcompare).engineCmd
  | vsel => exact (h.vslot fun _ _ h => h.select).engineCmd
  | vbcast => exact (h.vslot fun _ _ h => h.putPlain).engineCmd
  | vins => exact (h.vslot fun _ _ h => h.putPlain).engineCmd
  | vext => exact (h.vslot fun _ _ h => .ok h.modRegs).engineCmd
  | vperm => exact (h.vslot fun _ _ h => h.linear1).engineCmd
  | vmov => exact (h.vslot fun _ _ h => h.linear1).engineCmd
  | pand => exact h.vpred.engineCmd
  | por => exact h.vpred.engineCmd
  | pxor => exact h.vpred.engineCmd
  | pnot => exact h.vpred.engineCmd
  | vptail => exact h.vpred.engineCmd
  | pset => exact h.vpred.engineCmd
  | preduce => exact h.vpred.engineCmd
  | va2b => exact (h.vslot fun _ _ h => .withArith fun _ => h.convert).engineCmd
  | vb2a => exact (h.vslot fun _ _ h => .withArith fun _ => h.convert).engineCmd
  | vrefr => exact (h.vslot fun _ _ h => h.refresh).engineCmd
  | vld => exact (h.vslot fun _ _ h => h.vld).engineCmd
  | vst => exact (h.vslot fun _ _ h => h.vst).engineCmd
  | vgath => exact (h.vslot fun _ _ h => h.vgath).engineCmd
  | vscat => exact (h.vslot fun _ _ h => h.vscat).engineCmd
  | vust => exact (h.vslot fun _ _ h => h.vust).engineCmd
  | vkabs => exact (h.vslot fun _ _ h => h.vkabs).engineCmd
  | vkfin => exact (h.vslot fun _ _ h => h.vkfin).engineCmd
  | vksqz => exact (h.vslot fun _ _ h => h.vksqz).engineCmd
  | vhblk => exact (h.vslot fun _ _ h => h.vhblk).engineCmd
  | vhrd => exact (h.vslot fun _ _ h => h.vhrd).engineCmd
  | vakey => exact (h.vslot fun _ _ h => h.vakey).engineCmd
  | vaes => exact (h.vslot fun _ _ h => h.vaes).engineCmd
  | vlstr => exact (h.vslot fun _ _ h => h.streamRead).engineCmd
  | vistr => exact (h.vslot fun _ _ h => h.streamRead).engineCmd
  | vslh => exact (h.vslot fun _ _ h => h.vslh).engineCmd
  | vsldg => exact (h.vslot fun _ _ h => h.vsldg).engineCmd
  | vrnd => exact (h.vslot fun _ _ h => h.vrnd).engineCmd
  | vmrg => exact (h.vslot fun _ _ h => h.vmrg).engineCmd
  | wadd => exact (h.wslot fun _ _ h => .withQ fun _ => h.linear).engineCmd
  | wsub => exact (h.wslot fun _ _ h => .withQ fun _ => h.linear).engineCmd
  | wxor => exact (h.wslot fun _ _ h => h.linear).engineCmd
  | wand => exact (h.wslot fun _ _ h => h.bilinear).engineCmd
  | wpmul => exact (h.wslot fun _ _ h => .withQ fun _ => h.bilinear).engineCmd
  | wbmul => exact (h.wslot fun _ _ h => h.wbmul).engineCmd
  | wsmul => exact (h.wslot fun _ _ h => .withQ fun _ => h.linear1).engineCmd
  | wclmul => exact (h.wslot fun _ _ h => h.linear).engineCmd
  | wntt => exact (h.wslot fun _ _ h => h.transform).engineCmd
  | wintt => exact (h.wslot fun _ _ h => h.transform).engineCmd
  | wrot => exact (h.wslot fun _ _ h => .withQ fun _ => h.linear1).engineCmd
  | wdecomp => exact (h.wslot fun _ _ h => .withQ fun _ => h.linear1).engineCmd
  | whint => exact (h.wslot fun _ _ h => .withQ fun _ => h.linear).engineCmd
  | wnorm => exact (h.wslot fun _ _ h => h.wnorm).engineCmd
  | wcmpeq => exact (h.wslot fun _ _ h => h.wdecide).engineCmd
  | wsel => exact (h.wslot fun _ _ h => h.select).engineCmd
  | wcomp => exact (h.wslot fun _ _ h => .withQ fun _ => h.linear1).engineCmd
  | wdcmp => exact (h.wslot fun _ _ h => .withQ fun _ => h.linear1).engineCmd
  | wpack => exact (h.wslot fun _ _ h => h.linear1).engineCmd
  | wunp => exact (h.wslot fun _ _ h => h.linear1).engineCmd
  | wmov => exact (h.wslot fun _ _ h => h.linear1).engineCmd
  | wbcast => exact (h.wslot fun _ _ h => h.putPlain).engineCmd
  | winsv => exact (h.wslot fun _ _ h => h.withMrg fun _ h => h.putDest).engineCmd
  | wextv => exact (h.wslot fun _ _ h => h.withMrg fun _ h => .ok h.modRegs).engineCmd
  | wktail => exact (h.wslot fun _ _ h => .ok h.modRegs).engineCmd
  | wkop => exact (h.wslot fun _ _ h => .ok h.modRegs).engineCmd
  | wa2b => exact (h.wslot fun _ _ h => .withArith fun _ => h.convert).engineCmd
  | wb2a => exact (h.wslot fun _ _ h => .withArith fun _ => h.convert).engineCmd
  | wrefr => exact (h.wslot fun _ _ h => h.refresh).engineCmd
  | wld => exact (h.wslot fun _ _ h => h.wld).engineCmd
  | wst => exact (h.wslot fun _ _ h => h.wst).engineCmd
  | wust => exact (h.wslot fun _ _ h => h.wust).engineCmd
  | wsamu => exact (h.wslot fun _ _ h => h.wsamu).engineCmd
  | wsamb => exact (h.wslot fun _ _ h => h.wsamb).engineCmd
  | wsamr => exact (h.wslot fun _ _ h => h.wsamr).engineCmd
  | wsamy => exact (h.wslot fun _ _ h => h.wsamy).engineCmd
  | wsamc => exact (h.wslot fun _ _ h => h.wsamc).engineCmd
  | kstLoad => exact (Kept.ite h.kstCommand h).next
  | kstUnload => exact (Kept.ite h.kstCommand h).next
  | kstReload => exact (Kept.ite h.kstCommand h).next
  | packFetchDone => exact h.clocked h.packFetched.next
  | loadDrained => exact h.clocked h.loadDrained.next
  | katDone => exact h.clocked h.katDone.next
  | loadDrainTimeout => exact h.clocked h.loadDrainTimeout.next
  | kstScrub => exact h.clocked <| (Kept.ite h.scrub h).next
  | flr => exact h.clocked <| (Kept.ite h.flr h).next
  | flrComplete => exact h.clocked <| (Kept.ite h.flrComplete h).next
  | tntRemove => exact (Kept.ite (h.critical fun _ _ h => h.tenantAdm) h).next
  | vfEnable => exact h.clocked <| (Kept.ite h.enableVfs h).next
  | vfDisable => exact h.clocked <| (Kept.ite h.disableVfs h).next
  | linkSignalDetect => exact h.clocked h.linkSignal.next
  | linkEqualiseDone => exact h.clocked h.linkStep.next
  | linkAlignDone => exact h.clocked h.linkAligned.next
  | linkStateTimeout => exact h.clocked h.linkTimeout.next
  | handshake => exact h.execHandshake
  | handshakeRetry => exact h.clocked h.handshakeRetry.next
  | linkRekey => exact h.clocked h.linkRekey.next
  | fecBlock => exact h.clocked h.fecBlock.next
  | replayTimeout => exact h.clocked <| (Kept.ite h.replay h).next
  | retrainTimeout => exact h.clocked h.retrainTimeout.next
  | zdpCredit => exact h.clocked h.creditFlit.next
  | heartbeat => exact h.clocked h.heartbeat.next
  | heartbeatTimeout => exact h.clocked h.beatTimeout.next
  | syncHoldoff => exact h.clocked h.syncHoldoff.next
  | joinAttestation => exact h.clocked h.joinAttest.next
  | transportKey => exact h.clocked h.takeTransport.next
  | joinStepTimeout => exact h.clocked h.joinTimeout.next
  | joinRetry => exact h.clocked h.joinRetry.next
  | zdpAdmit => exact h.clocked h.mcmd.next
  | zdpRefuse => exact h.clocked h.mcmd.next
  | quarantine => exact h.clocked <| (Kept.ite h.quarantined h.mcmd).next
  | resync => exact h.clocked h.mcmd.next
  | zdpEvict => exact h.clocked <| (Kept.ite h.loseManager h.mcmd).next
  | mcmdReset => exact h.clocked h.mcmd.next
  | zdpReset => exact (Kept.ite h.assertSource h).next
  | zdpLeave => exact h.clocked <| (h.critical fun _ _ h => h.zdpCtl).next
  | roleWrite => exact h.clocked <| (h.critical fun _ _ h => h.zdpCtl).next
  | rcfgDataWrite => exact h.clocked h.rcfgData.next
  | zdpWork => exact h.clocked h.takeWork.next
  | zdpResult => exact h.clocked h.takeResult.next
  | keyMessage => exact h.clocked h.takeKey.next
  | cacheEvictionReport => exact h.clocked h.evictionReport.next
  | zdpStop => exact h.clocked h.stopWork.next
  | zdpPurge => exact h.clocked h.takePurge.next
  | purgeAck => exact h.clocked h.purgeAck.next
  | dissolve => exact h.clocked h.loseManager.next
  | zdpResume => exact h.clocked h.resume.next
  | commitRequest => exact h.clocked h.commitRequest.next
  | zdpPrepare => exact h.clocked h.prepare.next
  | prepareReply => exact h.clocked h.prepareReply.next
  | zdpCommit => exact h.clocked h.commitWith.next
  | finalDigestReply => exact h.clocked h.finalDigest.next
  | zdpAbort => exact h.clocked h.dropPrepared.next
  | prepTimeout => exact h.clocked h.prepTimeout.next
  | pollTimer => exact h.clocked h.pollTimer.next
  | pollReply => exact h.clocked h.pollReply.next
  | holdTimeout => exact h.clocked h.holdTimeout.next
  | powerOnReset => exact h.powerOnReset.next
  | pinReset => exact h.assertSource.next
  | perst => exact h.perst.next
  | hotReset => exact (Kept.ite h.assertSource h).next
  | linkDown => exact (Kept.ite h.assertSource h).next
  | headframeWatchdogExpiry => exact h.hfWatchdog.next
  | rstSoft => exact (h.critical fun _ _ h => h.rstCmd).next
  | mctpDeviceReset => exact (Kept.ite h.assertSource h).next
  | resetDeassert => exact h.deassert.next
  | domainRelease => exact h.domainRelease.next
  | rstRelWrite => exact h.relWrite.next
  | optionLoadDone => exact h.optionsLoaded.next
  | bistDone => exact h.clocked h.bistEnds.next
  | bootHeaderRead => exact h.headerRead.next
  | firmwareLoadDone => exact h.firmwareLoaded.next
  | keyDerivationDone => exact h.clocked h.keysDerived.next
  | configReady => exact h.clocked h.configReady.next
  | bootPackLoaded => exact h.clocked h.bootPack.next
  | fullReadiness => exact h.clocked h.fullReady.next
  | ownerConfigRecordWrite => exact h.ownerRecord.next
  | recoveryImage => exact h.recovery.next
  | dcoreDrain => exact (Kept.ite (h.critical fun _ _ h => h.dcoreWrite) h).next
  | dcoreReset => exact (Kept.ite h <| h.critical fun _ _ h => h.dcoreWrite).next
  | toTest => exact (Kept.ite h.lccWrite h).next
  | toProduction => exact (Kept.ite h.lccWrite h).next
  | toEndOfLife => exact (Kept.ite h.lccWrite h).next
  | setTok3 => exact (Kept.ite h.lccWrite h).next
  | lcCopyProgrammed => exact h.copyProgrammed.next
  | tokenLockoutExpiry => exact h.execTokenLockoutExpiry
  | ownEnroll => exact (Kept.ite h.ownWrite h).next
  | ownTransfer => exact (Kept.ite h.ownWrite h).next
  | ownRelease => exact (Kept.ite h.ownWrite h).next
  | ownRestore => exact (Kept.ite h.ownWrite h).next
  | newchal => exact h.execNewchal
  | dbgauth => exact h.debugAuth.next
  | dbgEnd => exact (h.gated fun _ h => .ite h.lccRefuse h.endDebug).next
  | challengeExpiry => exact h.execChallengeExpiry
  | debugExpiry => exact (Kept.ite h h.advanceTo.endDebug).next
  | bypass => exact h.jtagSelect.next
  | idcode => exact h.jtagSelect.next
  | ident => exact h.jtagSelect.next
  | dbgsts => exact h.jtagSelect.next
  | samplePreload => exact h.jtagScan.next
  | extest => exact h.jtagScan.next
  | getVersion => exact (h.spdmRequest fun _ h => h.setSpdm.spdmAnswer).next
  | getCapabilities => exact (h.spdmRequest fun _ h => h.setSpdm.spdmAnswer).next
  | negotiateAlgorithms => exact (h.spdmRequest fun _ h => h.setSpdm.spdmAnswer).next
  | getDigests => exact (h.spdmRequest fun _ h => h.spdmAnswer).next
  | getCertificate => exact h.execGetCertificate
  | spdmChallenge => exact h.execSpdmChallenge
  | getMeasurements => exact (h.spdmRequest fun _ h => .ite h.spdmAnswer h.spdmAnswer).next
  | keyExchange => exact (h.spdmRequest fun _ h => h.keyExchange).next
  | spdmFinish => exact (h.spdmRequest fun _ h => .ite h.setSpdm.spdmAnswer h.spdmAnswer).next
  | keyUpdate => exact (h.inSession fun _ h => h.setSpdm.spdmAnswer).next
  | spdmHeartbeat => exact (h.inSession fun _ h => h.spdmAnswer).next
  | endSession => exact (h.inSession fun _ h => h.setSpdm.spdmAnswer).next
  | vendorDefinedRequest => exact (h.inSession fun _ h => h.setSpdm.spdmAnswer).next
  | loopPulse => exact h.loopPulse.next
  | loopEvent => exact (Kept.ite h.loopEvent h).next
  | caseEvent => exact (Kept.ite h.loopEvent h).next
  | monitorEvent => exact h.monitorEvent.next
  | vbatRemoved => exact (Kept.ite h.backupLost <| .ite h.updCny.raiseAlarm h).next
  | sourceClear => exact h.sourceClear.next
  | alarmCutoff => exact h.clocked h.alarmCutoff.next
  | scrubDone => exact h.clocked h.scrubDone.next
  | zeroiseDone => exact h.clocked h.zeroiseDone.next
  | alarmRelease => exact (Kept.ite (.ite h.askRelease h) <| h.critical fun _ _ h => .ite h.askRelease h).next
  | cnyLock => exact (h.critical fun _ _ h => .ite h.cnyLock h).next
  | eventLogProcess => exact h.processLog.next
  | rmdataAccess => exact (Kept.ite (h.gated fun _ h => h.rmAccess) <| .ite h.rmAccess h).next
  | pldmEventAck => exact h.eventAck.next
  | eventResendTimeout => exact h.eventResend.next
  | eventPoll => exact h.eventPoll.next
  | logdataRead => exact h.logRead.next
  | pmuFreeze => exact (h.monitorWrite fun _ h => h.pmuCtl).next
  | pmuClear => exact (h.monitorWrite fun _ h => h.pmuCtl).next
  | pmuEvselWrite => exact (Kept.ite (h.monitorWrite fun _ h => h.evselWrite) h).next
  | pmuCntWrite => exact (Kept.ite (h.monitorWrite fun _ h => h.cntWrite) h).next
  | pmuSselWrite => exact (h.monitorWrite fun _ h => h.sselWrite).next
  | pmuSampleEnable => exact (h.monitorWrite fun _ h => h.scfgWrite).next
  | sampleTag => exact (Kept.ite h h.sampleTag).engineCmd
  | sampleEntryWrite => exact h.clocked <| .ite h.sampleWrite.next .fault
  | pmuBwSelect => exact (Kept.ite (h.gated fun _ h => h.bwWrite) <| h.gated fun _ h => h.bwWrite).next
  | bwWindowEnd => exact h.bwEnd.next
  | bwpeakRead => exact h.bwPeakRead.next
  | thermalPoll => exact h.thermalPoll.next
  | thermtrip => exact (Kept.ite h.upd h).next
  | avsLoopTick => exact h.avsTick.next
  | avsFault => exact h.avsFault.next
  | heartbeatSend => exact h.clocked h.heartbeatSend.next
  | subrangeRequestReceipt => exact h.clocked h.rangeRequest.next

/-- What a step does to the queue: nothing where none waits, and else it takes the front command. -/
theorem step_keeps {s t : State} (ht : step s = .next t) :
    t.pending = s.pending.tail ∧ (s.Canonical → t.Canonical) := by
  cases hq : s.pending with
  | nil =>
    rw [step_of_idle hq] at ht
    cases ht
    obtain ⟨hpending, hcanon⟩ := (Kept.refl s).tick
    exact ⟨hpending.trans hq, hcanon⟩
  | cons c rest =>
    rw [step_of_front hq] at ht
    exact KeptOut.exec c (Kept.refl _) t ht

/-- Settles O58: at reset the three tables hold no pair. -/
theorem canonicalAtReset : Obligations.CanonicalAtReset := by
  unfold Obligations.CanonicalAtReset State.Canonical
  exact ⟨rfl, rfl, rfl⟩

/-- Settles O59, from the frame lemma of every operation. -/
theorem canonicalKept : Obligations.CanonicalKept := by
  unfold Obligations.CanonicalKept
  exact fun _ _ hs ht => (step_keeps ht).2 hs

/-- Settles O60, from the frame lemma of every operation. -/
theorem queueIsFirstInFirstOut : Obligations.QueueIsFirstInFirstOut := by
  unfold Obligations.QueueIsFirstInFirstOut
  exact fun _ _ ht => (step_keeps ht).1

end Sys2Proof.Machine
end

section
/-! PROOF. The epoch and the digest as a reader sees them (O54). `TXN_EPOCH_LO` to `TXN_DIGEST7` are one latched group
(R50); a read of any of them but the first shows what the reader's latch of the group holds, and without one what the
register shows. -/
namespace Sys2Proof.Machine

/-- The registers of the epoch's group, `TXN_EPOCH_LO` to `TXN_DIGEST7` (R49), in both kinds of page. -/
theorem regDef_epochGroup (sc : Scope) {k : Nat} (hk : k < 10) :
    ∃ d, regDef sc.page (0x118 + 4 * k) = some d ∧ d.wo = 0 ∧ d.w1s = 0 := by
  have hmap : blockMap sc.page = txnMap := by cases sc <;> rfl
  have hrows : ∀ k < 10, (RegDef.find txnMap (0x118 + 4 * k)).any fun d => d.wo == 0 && d.w1s == 0 := by decide
  have hrow := hrows k hk
  rw [regDef, if_neg (by omega), if_pos (by omega), hmap]
  cases hd : RegDef.find txnMap (0x118 + 4 * k) with
  | none => simp [hd] at hrow
  | some d => exact ⟨d, rfl, by simpa [hd] using hrow⟩

theorem latchGroups_scope (sc : Scope) : latchGroups sc.page = [(0x118, 0x13C)] := by
  cases sc <;> rfl

/-- What a reader has latched is there, whatever it latched before. -/
theorem State.find_latches_latch (s : State) (req : Requester) (k : Nat) (ws : List Word) :
    ((s.latch req k ws).latches.find? fun x => x.req == req && x.key == k) = some ⟨req, k, ws⟩ := by
  have hothers : (s.latches.filter fun x => !(x.req == req && x.key == k)).find?
      (fun x => x.req == req && x.key == k) = none :=
    List.find?_eq_none.mpr fun x hx => by
      simpa [imp_iff_not_or] using (List.mem_filter.mp hx).2
  rw [State.latch, List.find?_append, hothers]
  simp

/-- A read of a register of the group after the first gives the latched word, if the reader has latched the group. -/
theorem State.readReg_of_latched {u : State} {req : Requester} {sc : Scope} {ws : List Word} {k : Nat} {w : Word}
    (hread : u.mayRead req sc.page = true) (hpage : sc.page.exists = true) (hk : 0 < k ∧ k < 10)
    (hlatch : (u.latches.find? fun x => x.req == req && x.key == sc.page.key 0x118) = some ⟨req, sc.page.key 0x118, ws⟩)
    (hw : ws[k]? = some w) : u.readReg req sc.page (0x118 + 4 * k) = w := by
  obtain ⟨d, hd, -, -⟩ := regDef_epochGroup sc hk.2
  have hlatched : u.latched req sc.page (0x118 + 4 * k) = some w := by
    have hin : 0x118 < 0x118 + 4 * k ∧ 0x118 + 4 * k ≤ 0x13C := by omega
    rw [State.latched, latchGroups_scope]
    simp [hin, hlatch, hw]
  have halign : (0x118 + 4 * k) % 4 = 0 := by omega
  have hlow : 0x118 + 4 * k < 0x400 := by omega
  simp [State.readReg, hread, hpage, halign, hlow, hd, hlatched]

/-- A read of a register of the group gives what the page shows, if nothing is latched. -/
theorem State.readReg_unlatched {s : State} {req : Requester} {sc : Scope} {k : Nat}
    (hread : s.mayRead req sc.page = true) (hpage : sc.page.exists = true) (hk : k < 10)
    (hlatch : k = 0 ∨ s.latches = []) : s.readReg req sc.page (0x118 + 4 * k) = s.showTxn sc (0x118 + 4 * k) := by
  obtain ⟨d, hd, hwo, hw1s⟩ := regDef_epochGroup sc hk
  have hlatched : s.latched req sc.page (0x118 + 4 * k) = none := by
    rw [State.latched, latchGroups_scope]
    obtain rfl | hnone := hlatch
    · simp
    · split <;> simp [hnone]
  have halign : (0x118 + 4 * k) % 4 = 0 := by omega
  have hlow : 0x118 + 4 * k < 0x400 := by omega
  have hshow : s.showReg sc.page (0x118 + 4 * k) = s.showTxn sc (0x118 + 4 * k) := by
    unfold State.showReg
    rw [if_neg (by omega)]
    cases sc <;> rfl
  have hmask (w : Word) : w &&& ~~~woMask sc.page (0x118 + 4 * k) = w := by
    rw [show woMask sc.page (0x118 + 4 * k) = 0#32 by simp [woMask, hd, hwo, hw1s], BitVec.not_zero, BitVec.and_allOnes]
  simp [State.readReg, hread, hpage, halign, hlow, hd, hlatched, hmask, hshow]

theorem State.showTxn_epochLo (s : State) (sc : Scope) : s.showTxn sc 0x118 = BitVec.ofNat 32 s.txn.epoch := rfl

theorem State.showTxn_epochHi (s : State) (sc : Scope) :
    s.showTxn sc 0x11C = BitVec.ofNat 32 (s.txn.epoch / 2 ^ 32) := rfl

theorem State.showTxn_digest (s : State) (sc : Scope) {off : Nat} (hoff : 0x120 ≤ off ∧ off ≤ 0x13C) :
    s.showTxn sc off = wordAt s.txn.digest 0x120 off := by
  unfold State.showTxn
  rw [if_neg (by omega), if_neg (by omega), if_neg (by omega), if_neg (by omega), if_pos hoff]

theorem execTxnEpochRead_of_mayRead {s : State} {req : Requester} {sc : Scope} (hread : s.mayRead req sc.page = true) :
    exec (.txnEpochRead req sc) s = .next (s.latch req (sc.page.key 0x118)
      (BitVec.ofNat 32 s.txn.epoch :: BitVec.ofNat 32 (s.txn.epoch / 2 ^ 32) :: digestWords s.txn.digest)) := by
  have hreach : s.onBus req = true ∧ req.reaches sc.page = true := by
    simp only [State.mayRead, Bool.and_eq_true] at hread
    exact hread.1
  exact congrArg Host.Outcome.next (if_pos (by simp [hreach]))

/-- Settles O54, register by register of the latched group. -/
theorem epochReads : Obligations.EpochReads := by
  unfold Obligations.EpochReads
  intro s req sc hread hpage
  refine ⟨⟨_, execTxnEpochRead_of_mayRead hread, fun u hu hmay => ?_⟩, ?_, fun hnone => ?_⟩
  · have hlatch := hu ▸ s.find_latches_latch req (sc.page.key 0x118)
      (BitVec.ofNat 32 s.txn.epoch :: BitVec.ofNat 32 (s.txn.epoch / 2 ^ 32) :: digestWords s.txn.digest)
    refine ⟨State.readReg_of_latched (k := 1) hmay hpage (by omega) hlatch rfl, fun i hi => ?_⟩
    have hword := State.readReg_of_latched (k := i + 2) (w := BitVec.ofNat 32 (leField s.txn.digest (4 * i) 4)) hmay hpage
      (by omega) hlatch (by simp [digestWords, hi])
    rwa [show 0x118 + 4 * (i + 2) = 0x120 + 4 * i by omega] at hword
  · rw [State.readReg_unlatched (k := 0) hread hpage (by omega) (.inl rfl)]
    rfl
  · refine ⟨State.readReg_unlatched (k := 1) hread hpage (by omega) (.inr hnone), fun i hi => ?_⟩
    have hword := State.readReg_unlatched (k := i + 2) hread hpage (by omega) (.inr hnone)
    rw [show 0x118 + 4 * (i + 2) = 0x120 + 4 * i by omega] at hword
    rw [hword, State.showTxn_digest s sc (by omega), wordAt, Nat.add_sub_cancel_left]

end Sys2Proof.Machine
end

section
/-! PROOF. The error and interrupt registers of the common header (R41, O19): what ERRINJ and INTEN do behind the gate,
and what the `ERR` latch changes. -/
namespace Sys2Proof.Machine

/-! ## The latches -/

section
variable (s : State) (p : Page)

theorem Page.key_ne (q : Page) {i j : Nat} (h : i % 0x1000 ≠ j % 0x1000) : p.key i ≠ q.key j := fun hkey =>
  h (by rw [← p.key_mod i, ← q.key_mod j, hkey])

/-- A vector raised is noted at its function. -/
theorem State.raiseVector_eq (t v : Nat) : ∃ f, s.raiseVector t v = s.setFn t f := by
  unfold State.raiseVector
  dsimp only
  split <;> exact ⟨_, rfl⟩

/-- An interrupt latch changes registers and, by its message, a function. -/
theorem State.setInt_fields (n : Nat) : ∃ regs fns, s.setInt p n = { s with regs, fns } := by
  unfold State.setInt
  dsimp only
  split
  · exact ⟨_, _, rfl⟩
  split
  · obtain ⟨f, hf⟩ := (s.setReg p 0x01C (setBit (s.reg p 0x01C) n)).raiseVector_eq p.owner eventVector
    exact ⟨_, _, hf⟩
  · exact ⟨_, _, rfl⟩

theorem State.txn_setInt (n : Nat) : (s.setInt p n).txn = s.txn := by
  obtain ⟨regs, fns, h⟩ := s.setInt_fields p n
  rw [h]

theorem State.zdp_setInt (n : Nat) : (s.setInt p n).zdp = s.zdp := by
  obtain ⟨regs, fns, h⟩ := s.setInt_fields p n
  rw [h]

theorem State.setErrBits_fields (bits : Word) : ∃ regs fns, s.setErrBits p bits = { s with regs, fns } := by
  unfold State.setErrBits
  dsimp only
  split
  · exact ⟨_, _, rfl⟩
  · obtain ⟨regs, fns, h⟩ := (s.setReg p.first 0x010 (s.reg p.first 0x010 ||| bits)).setInt_fields p.first 0
    exact ⟨regs, fns, h⟩

/-- The register an interrupt latch writes: the bit is set, and the others are as they were. -/
theorem State.regs_setInt (n : Nat) : (s.setInt p n).regs = s.regs ∧ bit (s.reg p 0x01C) n = true ∨
    (s.setInt p n).regs = (s.setReg p 0x01C (setBit (s.reg p 0x01C) n)).regs := by
  unfold State.setInt
  dsimp only
  split
  · exact .inl ⟨rfl, ‹_›⟩
  split
  · exact .inr (State.raiseVector_regs ..)
  · exact .inr rfl

theorem State.bit_setInt {n : Nat} (hn : n < 32) : bit ((s.setInt p n).reg p 0x01C) n = true := by
  obtain ⟨h, hbit⟩ | h := s.regs_setInt p n
  · rwa [State.reg_congr h]
  · rw [State.reg_congr h, State.reg_setReg]
    simp [bit, setBit, hn]

theorem State.get_setInt {n k : Nat} (hk : k ≠ p.key 0x01C) :
    Cells.get regDefault (s.setInt p n).regs k = Cells.get regDefault s.regs k := by
  obtain ⟨h, -⟩ | h := s.regs_setInt p n
  · rw [h]
  · rw [h]
    exact Cells.get_set_other _ _ _ hk

/-- Whether a bit is masked or not, `ERR` takes it, and only `ERR` and `INTSTS` change. -/
theorem State.get_setErrBits (bits : Word) {k : Nat} (hk : k ≠ p.first.key 0x01C) :
    Cells.get regDefault (s.setErrBits p bits).regs k =
      Cells.get regDefault (s.setReg p.first 0x010 (s.reg p.first 0x010 ||| bits)).regs k := by
  unfold State.setErrBits
  dsimp only
  split
  · rfl
  · exact State.get_setInt _ _ hk

end

/-! ## The claims -/

theorem errorBitsLatch : Claims.ErrorBitsLatch := by
  intro s p bits t
  have herr : t.reg p.first 0x010 = s.reg p.first 0x010 ||| bits :=
    (s.get_setErrBits p bits (p.first.key_ne p.first (by decide))).trans (State.reg_setReg ..)
  have hothers (k : Nat) (h : k ≠ p.first.key 0x010) (h' : k ≠ p.first.key 0x01C) :
      Cells.get regDefault t.regs k = Cells.get regDefault s.regs k :=
    (s.get_setErrBits p bits h').trans (Cells.get_set_other _ _ _ h)
  have hframe : t.pending = s.pending ∧ t.host = s.host ∧ t.tally = s.tally ∧ t.lode = s.lode := by
    obtain ⟨regs, fns, h⟩ : ∃ regs fns, t = { s with regs, fns } := s.setErrBits_fields p bits
    rw [h]
    exact ⟨rfl, rfl, rfl, rfl⟩
  refine ⟨herr, fun hopen => ?_, fun hmasked => ?_, hothers, hframe⟩
  · have ht : t = (s.setReg p.first 0x010 (s.reg p.first 0x010 ||| bits)).setInt p.first 0 := if_neg hopen
    rw [ht]
    exact State.bit_setInt _ _ (by decide)
  · have ht : t = s.setReg p.first 0x010 (s.reg p.first 0x010 ||| bits) := if_pos hmasked
    rw [ht]
    exact State.reg_setReg_other _ _ (p.first.key_ne p.first (by decide))

theorem errorInjectionAndEnables : Claims.ErrorInjectionAndEnables := by
  intro s req p v hwrites hfirst
  have hinject : exec (.errinjWrite req p v) s = .next (s.errInject p v) :=
    congrArg Host.Outcome.next ((if_pos hfirst).trans (State.gated_of_writes hwrites 0x018 _))
  have henable : exec (.intenWrite req p v) s = .next (s.intEnable p v) :=
    congrArg Host.Outcome.next ((if_pos hfirst).trans (State.gated_of_writes hwrites 0x020 _))
  refine ⟨fun hallowed => ?_, fun hrefused => ?_, henable⟩
  · rw [hinject, State.errInject, if_pos hallowed, errBits]
  · rw [hinject, State.errInject, if_neg (by simp [hrefused])]
    rfl

/-- Settles O19: both halves, the second from the two registers that the latch writes. -/
theorem errorBits : Obligations.ErrorBits := ⟨errorInjectionAndEnables, errorBitsLatch⟩

end Sys2Proof.Machine
end

section
/-! PROOF. Critical registers (R43, R44, O21): writes of one register in turn leave the last, which the canonical form of
the register file makes an equation between states; the gate that a write passes; a primary write and its complement;
and the clock at the expiry of a complement's time, where the statement fails. -/
namespace Sys2Proof.Machine

/-! ## Two tables in canonical form that read alike are one -/

section
variable {α : Type} {d : Nat → α}

theorem Cells.get_below {m : Cells α} {lo k : Nat} (hm : Cells.risingFrom lo m = true) (hk : k < lo) :
    Cells.get d m k = d k := by
  induction m generalizing lo with
  | nil => rfl
  | cons q r ih =>
    obtain ⟨j, v⟩ := q
    simp only [Cells.risingFrom, Bool.and_eq_true, decide_eq_true_eq] at hm
    rw [Cells.get, if_neg (by omega), ih hm.2 (by omega)]

/-- The head of a table is what its key reads, so a table that reads otherwise below the rest has no such head. -/
theorem Cells.get_head (j : Nat) (v : α) (r : Cells α) : Cells.get d ((j, v) :: r) j = v := by
  simp [Cells.get]

theorem Cells.eq_of_get {m n : Cells α} {lo : Nat} (hm : Cells.risingFrom lo m = true) (hn : Cells.risingFrom lo n = true)
    (hmd : ∀ q ∈ m, q.2 ≠ d q.1) (hnd : ∀ q ∈ n, q.2 ≠ d q.1) (h : ∀ k, Cells.get d m k = Cells.get d n k) : m = n := by
  induction m generalizing n lo with
  | nil =>
    cases n with
    | nil => rfl
    | cons q r => exact absurd ((h q.1).trans (Cells.get_head ..)).symm (hnd q (by simp))
  | cons p m ih =>
    obtain ⟨i, v⟩ := p
    simp only [Cells.risingFrom, Bool.and_eq_true, decide_eq_true_eq] at hm
    have hv : v ≠ d i := hmd (i, v) (by simp)
    have hi := (Cells.get_head i v m).symm.trans (h i)
    cases n with
    | nil => exact absurd hi hv
    | cons q n =>
      obtain ⟨j, w⟩ := q
      simp only [Cells.risingFrom, Bool.and_eq_true, decide_eq_true_eq] at hn
      have hw : w ≠ d j := hnd (j, w) (by simp)
      have hj := (h j).trans (Cells.get_head j w n)
      obtain hlt | rfl | hgt := Nat.lt_trichotomy i j
      · rw [Cells.get, if_neg (by omega), Cells.get_below hn.2 (by omega)] at hi
        exact absurd hi hv
      · rw [Cells.get_head] at hi
        have hrest (k : Nat) : Cells.get d m k = Cells.get d n k := by
          by_cases hk : k = i
          · rw [Cells.get_below hm.2 (by omega), Cells.get_below hn.2 (by omega)]
          · simpa [Cells.get, hk] using h k
        rw [hi, ih hm.2 hn.2 (fun q hq => hmd q (by simp [hq])) (fun q hq => hnd q (by simp [hq])) hrest]
      · rw [Cells.get, if_neg (by omega), Cells.get_below hm.2 (by omega)] at hj
        exact absurd hj.symm hw

variable [DecidableEq α]

theorem Cells.eq_of_wf {m n : Cells α} (hm : Cells.wf d m = true) (hn : Cells.wf d n = true)
    (h : ∀ k, Cells.get d m k = Cells.get d n k) : m = n := by
  simp only [Cells.wf, Bool.and_eq_true, List.all_eq_true, decide_eq_true_eq] at hm hn
  exact Cells.eq_of_get hm.1 hn.1 hm.2 hn.2 h

theorem Cells.set_set {m : Cells α} (hm : Cells.wf d m = true) (k : Nat) (v w : α) :
    Cells.set d (Cells.set d m k v) k w = Cells.set d m k w := by
  refine Cells.eq_of_wf (Cells.wf_set _ _ (Cells.wf_set _ _ hm)) (Cells.wf_set _ _ hm) fun j => ?_
  simp only [Cells.get_set]
  split <;> rfl

theorem Cells.set_get {m : Cells α} (hm : Cells.wf d m = true) (k : Nat) : Cells.set d m k (Cells.get d m k) = m := by
  refine Cells.eq_of_wf (Cells.wf_set _ _ hm) hm fun j => ?_
  rw [Cells.get_set]
  split
  · rename_i h
    rw [h]
  · rfl

end

section
variable {s : State} (hs : Cells.wf regDefault s.regs = true) (p : Page) (off : Nat)
include hs

theorem State.setReg_setReg (v w : Word) : (s.setReg p off v).setReg p off w = s.setReg p off w := by
  simp only [State.setReg, Cells.set_set hs]

theorem State.setReg_reg : s.setReg p off (s.reg p off) = s := by
  simp only [State.setReg, State.reg, Cells.set_get hs]

end

/-! ## The gate and the pair -/

section
variable {s : State} {req : Requester} {p : Page} {off : Nat} {x : Primary} {w : Word}

/-- A write that reaches its page passes the gate with nothing changed: no primary waits there but the one it completes,
and the page is not frozen or the write is one of `CTL` or its shadow. -/
theorem State.writeGate_open (hbus : s.onBus req = true) (hreach : req.reaches p = true) (hexists : p.exists = true)
    (hshown : s.dir.published.contains p = false) (hwaits : ∀ x, s.primary req p = some x → x.off + 0x800 = off)
    (hfrozen : bit (s.reg p 0x008) 3 = false ∨ off = 0x008 ∨ off = 0x808) : s.writeGate req p off = (s, true) := by
  have hfree : bit (s.reg p 0x008) 3 = true → ¬off = 0x008 → off = 0x808 := by
    obtain h | rfl | rfl := hfrozen <;> simp [*]
  unfold State.writeGate
  rw [hbus, hreach, hexists, hshown]
  cases hx : s.primary req p with
  | none => simpa using hfree
  | some x => simpa [hwaits x hx] using hfree

/-- A write at the shadow offset, behind an open gate, while its primary waits. -/
theorem State.complement_of_primary (hgate : s.writeGate req p (off + 0x800) = (s, true)) (hx : s.primary req p = some x) :
    s.complement req p off w =
      (if s.stamp > x.since + 100000 then
        (((s.dropPrimary req p).shadowMismatch p x.off 2).shadowMismatch p off 2, none)
      else if w = ~~~x.value then (s.dropPrimary req p, some x.value)
      else ((s.dropPrimary req p).shadowMismatch p off 1, none)) := by
  unfold State.complement
  rw [hgate]
  simp only [hx]
  rfl

@[simp] theorem Primary.isOf_self (v : Word) (t : Stamp) : Primary.isOf ⟨req, p, off, v, t⟩ req p = true := by
  simp [Primary.isOf]

/-- A primary write held where none waits is the one that waits, -/
theorem State.primary_holdPrimary (h : s.primary req p = none) (v : Word) :
    (s.holdPrimary req p off v).primary req p = some ⟨req, p, off, v, s.stamp⟩ := by
  simp only [State.primary] at h
  simp [State.primary, State.holdPrimary, List.find?_append, h]

/-- and dropped again it leaves the state as it was. -/
theorem State.dropPrimary_holdPrimary (h : s.primary req p = none) (v : Word) :
    (s.holdPrimary req p off v).dropPrimary req p = s := by
  have hothers : (s.prims.filter fun x => !x.isOf req p) = s.prims :=
    List.filter_eq_self.mpr fun x hx => by simpa using List.find?_eq_none.mp h x hx
  simp [State.dropPrimary, State.holdPrimary, List.filter_append, hothers]

/-- A critical write and its complement, with nothing waiting before (R43). -/
theorem State.criticalPair_of_arrives (h : Claims.Arrives s req p) (hfrozen : bit (s.reg p 0x008) 3 = false ∨ off = 0x008)
    (v c : Word) : s.criticalPair req p off v c =
      if c = ~~~v then (s, some v) else (s.shadowMismatch p off 1, none) := by
  obtain ⟨hbus, hreach, hexists, hshown, hnone⟩ := h
  have hfirst : s.writeGate req p off = (s, true) :=
    State.writeGate_open hbus hreach hexists hshown (by simp [hnone]) (hfrozen.imp_right .inl)
  have hprimary := State.primary_holdPrimary (off := off) hnone v
  have hsecond : (s.holdPrimary req p off v).writeGate req p (off + 0x800) = (s.holdPrimary req p off v, true) :=
    State.writeGate_open hbus hreach hexists hshown (by simp [hprimary]) (hfrozen.imp_right fun h => by omega)
  rw [State.criticalPair, hfirst]
  simp only [State.complement_of_primary hsecond hprimary, State.dropPrimary_holdPrimary hnone]
  rw [if_neg (show ¬(s.holdPrimary req p off v).stamp > s.stamp + 100000 from Nat.not_lt.mpr (Nat.le_add_right ..))]

end

/-- The first half of what O21 claims holds: the pair leaves no primary behind. -/
theorem complementedPairTakesEffect : Claims.ComplementedPairTakesEffect := by
  intro s req p off v ⟨harrives, hfree⟩
  refine ⟨?_, fun c hc => ?_⟩
  · rw [State.criticalPair_of_arrives harrives (.inl hfree), if_pos rfl]
  · rw [State.criticalPair_of_arrives harrives (.inl hfree), if_neg hc]

/-- A device out of reset, at time 0, where Headframe's write of a Stope's `TO` waits for its complement. -/
def awaitingComplement : State :=
  { State.reset with prims := [{ req := .headframe, page := .stp 0, off := 0x024, value := 7, since := 0 }] }

/-- The expiry takes the clock on by 100 µs, and the edge of SYS_CLK with the stamp. -/
theorem edge_shadowTimeout_awaitingComplement :
    (awaitingComplement.shadowTimeout .headframe (.stp 0)).edge = 100000 := by
  decide +kernel

/-- Refutes O21: at the expiry of a complement's time (R44) the statement's state has the new stamp and the old edge of
SYS_CLK, where the model's clock has gone on with the stamp (log 5). -/
theorem not_criticalRegisters : ¬ Obligations.CriticalRegisters := by
  unfold Obligations.CriticalRegisters Claims.ShadowRegisters
  rintro ⟨-, hshadow⟩
  obtain ⟨-, -, -, htimeout, -⟩ := hshadow awaitingComplement .headframe (.stp 0) 0x024 0 _ rfl rfl (by decide) (by decide)
    (by decide) (by decide) rfl rfl (by decide)
  have hstate := Host.Outcome.next.inj htimeout
  have hedge := edge_shadowTimeout_awaitingComplement
  rw [hstate] at hedge
  revert hedge
  decide +kernel

end Sys2Proof.Machine
end

section
/-! PROOF. `CTL` (R41, R42, R445, O17): what each bit of a write makes of the register, from the equations of one bit, of
DRAIN and of a request in turn. -/
namespace Sys2Proof.Machine

/-! ## The bits of `CTL` -/

/-- A register with one bit set or cleared, as `State.putCtl` leaves it. -/
def withBit (w : Word) (n : Nat) (on : Bool) : Word := if on then setBit w n else clearBit w n

theorem bit_withBit_other (w : Word) {n k : Nat} (on : Bool) (h : k ≠ n) : bit (withBit w n on) k = bit w k := by
  cases on with
  | true =>
    have hnone (_ : k < 32) (_ : n ≤ k) (hk : k - n = 0) : w.getLsbD k = true := by omega
    simpa [withBit, setBit, bit] using hnone
  | false =>
    have hkept (hk : w.getLsbD k = true) : k < 32 ∧ ((32 ≤ k ∨ k < n) ∨ ¬k - n = 0) :=
      ⟨BitVec.lt_of_getLsbD hk, by omega⟩
    simpa [withBit, clearBit, bit] using hkept

theorem withBit_same (w : Word) (n : Nat) : withBit w n (bit w n) = w := by
  refine BitVec.eq_of_getLsbD_eq fun i hi => ?_
  by_cases h : i = n
  · subst h
    cases hb : bit w i with
    | true => simpa [withBit, setBit, bit, hi] using hb
    | false => simpa [withBit, clearBit, bit, hi] using hb.symm
  · exact bit_withBit_other w _ h

section
variable {s : State} {p : Page} (n : Nat) (on : Bool)

theorem State.putCtl_eq : s.putCtl p n on = s.setReg p 0x008 (withBit (s.reg p 0x008) n on) := rfl

theorem State.draining_putCtl (h : 1 ≠ n) : (s.putCtl p n on).draining p = s.draining p := by
  rw [State.draining, State.putCtl_eq, State.reg_setReg, bit_withBit_other _ _ h]
  rfl

/-- Idleness is not a matter of registers. -/
theorem State.pageIdle_setReg (s : State) (p q : Page) (off : Nat) (v : Word) :
    (s.setReg q off v).pageIdle p = s.pageIdle p := by
  cases p <;> rfl

theorem State.pageIdle_freshCopy (s : State) (p q : Page) (off : Nat) : (s.freshCopy q off).pageIdle p = s.pageIdle p := by
  cases p <;> rfl

variable (hs : Cells.wf regDefault s.regs = true)
include hs

theorem State.putCtl_setReg (w : Word) : (s.setReg p 0x008 w).putCtl p n on = s.setReg p 0x008 (withBit w n on) := by
  rw [State.putCtl_eq, State.reg_setReg, State.setReg_setReg hs]

theorem State.putCtl_same : s.putCtl p n (bit (s.reg p 0x008) n) = s := by
  rw [State.putCtl_eq, withBit_same, State.setReg_reg hs]

end

/-! ## A write of `CTL` (R41) -/

section
variable {s : State} {p : Page}

/-- DRAIN where it changes but does not take hold yet: the unit is at work, or DRAIN goes to 0. -/
theorem State.ctlDrained_setReg (hs : Cells.wf regDefault s.regs = true) (w : Word) {on : Bool} (hdrain : p.hasDrain = true)
    (hbit : bit w 1 ≠ on) (hbusy : on = true → s.pageIdle p = false) :
    (s.setReg p 0x008 w).ctlDrained p on = s.setReg p 0x008 (withBit w 1 on) := by
  have hchange : (!p.hasDrain || (s.setReg p 0x008 w).draining p == on) = false := by
    simp [State.draining, hdrain, hbit]
  rw [State.ctlDrained, if_neg (by simp [hchange])]
  cases on with
  | false => exact State.putCtl_setReg 1 false hs w
  | true =>
    have hwork : ¬s.pageIdle p = true := by simp [hbusy rfl]
    have hput := State.putCtl_setReg (p := p) 1 true hs w
    cases p with
    | stp n | shf n => exact (if_neg hwork).trans hput
    | _ => cases hdrain

/-- DRAIN written with the value it has, or at a page without it, changes nothing. -/
theorem State.ctlDrained_same {on : Bool} (h : p.hasDrain = false ∨ s.draining p = on) : s.ctlDrained p on = s := by
  rw [State.ctlDrained, if_pos]
  obtain h | h := h <;> simp [h]

/-- The value that FREEZE, DRAIN and EN written together leave. -/
theorem ctlWith_eq (old v : Word) (drain : Bool) : Claims.ctlWith old v drain =
    withBit (if drain then withBit (withBit old 3 (bit v 3)) 1 (bit v 1) else withBit old 3 (bit v 3)) 0 (bit v 0) := by
  cases drain <;> rfl

/-- FREEZE, DRAIN and EN take the values written, where the unit's draining is not at an end. -/
theorem State.ctlWrite_enables (hs : Cells.wf regDefault s.regs = true) {v : Word} (hrst : bit v 2 = false)
    (hen : bit v 0 = true)
    (hdrain : p.hasDrain = false ∨ (s.draining p = false ∧ bit v 1 = true ∧ s.pageIdle p = false) ∨
      (s.draining p = true ∧ bit v 1 = false)) :
    s.ctlWrite p v = s.setReg p 0x008 (Claims.ctlWith (s.reg p 0x008) v p.hasDrain) := by
  have hdrained : (s.putCtl p 3 (bit v 3)).ctlDrained p (bit v 1) =
      s.setReg p 0x008 (if p.hasDrain then withBit (withBit (s.reg p 0x008) 3 (bit v 3)) 1 (bit v 1)
        else withBit (s.reg p 0x008) 3 (bit v 3)) := by
    cases hd : p.hasDrain with
    | false => exact State.ctlDrained_same (.inl hd)
    | true =>
      have hkeeps : bit (withBit (s.reg p 0x008) 3 (bit v 3)) 1 = s.draining p := bit_withBit_other _ _ (by decide)
      refine State.ctlDrained_setReg hs (withBit (s.reg p 0x008) 3 (bit v 3)) hd ?_ ?_
      · obtain h | ⟨h, hv, -⟩ | ⟨h, hv⟩ := hdrain <;> simp_all
      · obtain h | ⟨-, -, h⟩ | ⟨-, hv⟩ := hdrain <;> simp_all
  rw [State.ctlWrite]
  simp only [hdrained, hen, hrst, State.ctlEnabled, if_true, Bool.false_eq_true, if_false, State.putCtl_setReg 0 true hs]
  rw [ctlWith_eq, hen]

/-- EN written 0 at an idle page without DRAIN. -/
theorem State.ctlWrite_disables {v : Word} (hrst : bit v 2 = false)
    (hen : bit v 0 = false) (hdrain : p.hasDrain = false) (hidle : s.pageIdle p = true) :
    s.ctlWrite p v = (s.putCtl p 3 (bit v 3)).putCtl p 0 false := by
  have hdrained := State.ctlDrained_same (s := s.putCtl p 3 (bit v 3)) (on := bit v 1) (.inl hdrain)
  have hidle' : (s.putCtl p 3 (bit v 3)).pageIdle p = true := (State.pageIdle_setReg ..).trans hidle
  simp [State.ctlWrite, hdrained, hrst, hen, State.ctlEnabled, hidle']

/-- BRST with FREEZE as it was, EN 1 and DRAIN already 1: the request is all that is left of the write. -/
theorem State.ctlWrite_requests (hs : Cells.wf regDefault s.regs = true) {v : Word} (hrst : bit v 2 = true)
    (hen : bit v 0 = true) (hdr : bit v 1 = true) (hfreeze : bit v 3 = bit (s.reg p 0x008) 3) (hdrain : p.hasDrain = false ∨ s.draining p = true) :
    s.ctlWrite p v = ((s.putCtl p 3 (bit v 3)).putCtl p 0 true).blockRequest p := by
  have hsame : s.putCtl p 3 (bit v 3) = s := hfreeze ▸ State.putCtl_same 3 hs
  have hdrained : s.ctlDrained p true = s := State.ctlDrained_same hdrain
  simp [State.ctlWrite, hsame, hdr, hdrained, hrst, hen, State.ctlEnabled]

/-- A block-reset request while no device reset is pending, by R42's three outcomes. -/
theorem State.blockRequest_eq (h : s.resetPending = false) : s.blockRequest p =
    if p.hasDrain = false then (s.blockLog p 3).accessErr p
    else if s.draining p = true ∧ s.pageIdle p = true then ((s.blockLog p 1).setInt .rst 17).blockReset p
    else (s.blockLog p 2).setErr p 6 := by
  simp [State.blockRequest, h]

end

/-! ## The commands -/

theorem State.ctlPair_of_arrives {s : State} {req : Requester} {p : Page} (h : Claims.Arrives s req p)
    (hfirst : p.firstOfBlock = true) (v : Word) : s.ctlPair req p v (~~~v) = (s.freshCopy p 0x008).ctlWrite p v := by
  rw [State.ctlPair, if_pos hfirst, State.critical, State.criticalPair_of_arrives h (.inr rfl), if_pos rfl]

/-- Settles O17, from the equations of `State.ctlWrite`. -/
theorem controlRegister : Obligations.ControlRegister := by
  unfold Obligations.ControlRegister
  intro s req p v harrives hfirst hs u
  have hpair := State.ctlPair_of_arrives harrives hfirst v
  have hidle : u.pageIdle p = s.pageIdle p := State.pageIdle_freshCopy ..
  refine ⟨fun c hc => ?_, fun hrst hen hdr hfreeze hpending => ?_⟩
  · have hexec : exec c s = .next (u.ctlWrite p v) := by
      simp only [List.mem_cons, List.not_mem_nil, or_false] at hc
      obtain rfl | rfl | rfl := hc <;> exact congrArg Host.Outcome.next hpair
    refine ⟨fun hrst hen hdrain => ?_, fun hrst hen hdrain hi _ => ?_⟩
    · rw [← hidle] at hdrain
      exact hexec.trans (congrArg Host.Outcome.next (State.ctlWrite_enables (s := u) hs hrst hen hdrain))
    · exact hexec.trans (congrArg Host.Outcome.next (State.ctlWrite_disables hrst hen hdrain (hidle.trans hi)))
  · intro w
    have hexec (hdrain : p.hasDrain = false ∨ s.draining p = true) :
        exec (.ctlBrst req p v (~~~v)) s = .next (w.blockRequest p) :=
      congrArg Host.Outcome.next (hpair.trans (State.ctlWrite_requests (s := u) hs hrst hen hdr hfreeze hdrain))
    have hw : w.resetPending = false := hpending
    have hwidle : w.pageIdle p = s.pageIdle p :=
      (State.pageIdle_setReg ..).trans ((State.pageIdle_setReg ..).trans hidle)
    have hwdraining : w.draining p = s.draining p :=
      (State.draining_putCtl 0 true (by decide)).trans (State.draining_putCtl 3 _ (by decide))
    rw [State.blockRequest_eq hw, hwidle, hwdraining] at hexec
    refine ⟨fun hd hdraining hi => ?_, fun hd hdraining hi => ?_, fun hd => ?_⟩
    · simp [hexec (.inr hdraining), hd, hdraining, hi]
    · simp [hexec (.inr hdraining), hd, hdraining, hi]
    · simp [hexec (.inl hd), hd]

end Sys2Proof.Machine
end

section
/-! PROOF. Transactions (R46 to R51, R56, O23): the outcomes of staging a value, and of each command of a TXN page that a
requester reaches. -/
namespace Sys2Proof.Machine

/-! ## Staging (R47, R48) -/

section
variable {s : State} {p : Page} {off : Nat}

theorem State.stage_room (v : Word) (hopen : (s.txnOf p.scope).phase = .opened)
    (hroom : (s.txnOf p.scope).staged.length + (s.txnOf p.scope).overlays.length < p.scope.limit) :
    s.stage p off v =
      s.setTxn p.scope { s.txnOf p.scope with staged := Cells.put (s.txnOf p.scope).staged (p.key off) v } := by
  simp [State.stage, hopen, Txn.count, hroom]

theorem State.stage_full (v : Word) (hopen : (s.txnOf p.scope).phase = .opened)
    (hfull : p.scope.limit ≤ (s.txnOf p.scope).staged.length + (s.txnOf p.scope).overlays.length)
    (hnew : ∀ q ∈ (s.txnOf p.scope).staged, q.1 ≠ p.key off) :
    s.stage p off v = s.setTxn p.scope { s.txnOf p.scope with overflow := true } := by
  have hany : (s.txnOf p.scope).staged.any (fun q => q.1 == p.key off) = false := by simpa using hnew
  simp only [State.stage, hopen, Txn.count, hany, Nat.not_lt.mpr hfull]
  rfl

theorem State.stage_closed (v : Word) (hopen : (s.txnOf p.scope).phase ≠ .opened) : s.stage p off v = s.setErr p 1 :=
  if_pos hopen

theorem State.rwsWrite_of_writes {req : Requester} (h : Claims.Writes s req p) (hrws : rwsMask p off ≠ 0)
    (hcrit : critReg p off = false) (v : Word) : s.rwsWrite req p off v = s.stage p off (v &&& rwsMask p off) := by
  rw [State.rwsWrite, if_neg hrws, State.gated_of_writes h, if_neg (by simp [hcrit])]

end

theorem stagedWrites : Claims.StagedWrites := by
  intro s req p off v hwrites hrws hcrit x
  have hexec : exec (.rwsWrite req p off v) s = .next (s.stage p off (v &&& rwsMask p off)) :=
    congrArg Host.Outcome.next (State.rwsWrite_of_writes hwrites hrws hcrit v)
  rw [hexec]
  exact ⟨fun hopen hroom => congrArg Host.Outcome.next (State.stage_room _ hopen hroom),
    fun hopen hfull hnew => congrArg Host.Outcome.next (State.stage_full _ hopen hfull hnew),
    fun hclosed => congrArg Host.Outcome.next (State.stage_closed _ hclosed)⟩

/-! ## The commands of a TXN page (R49) -/

section
variable {s : State} {req : Requester} {sc : Scope} {v : Word} (h : Claims.Writes s req sc.page)
include h

theorem State.txnBegin_of_writes (hv : bit v 0 = true) : s.txnBegin req sc v =
    if s.scopeBusy sc = true then s.setTxn sc { s.txnOf sc with result := .busy }
    else s.setTxn sc
      { phase := .opened, id := ((s.txnOf sc).lastId + 1) % 2 ^ 32, lastId := ((s.txnOf sc).lastId + 1) % 2 ^ 32,
        errAddr := (s.txnOf sc).errAddr, openedAt := s.stamp } := by
  rw [State.txnBegin, State.gated_of_writes h, if_neg (by simp [hv])]

/-- A write that names the open transaction runs, one that names another does not, and none runs where none is open. -/
theorem State.withOpen_of_writes (off : Nat) (f : State → State) : s.withOpen req sc off v f =
    if (s.txnOf sc).phase ≠ .opened then s.setErr sc.page 0
    else if v.toNat ≠ (s.txnOf sc).id then s.setTxn sc { s.txnOf sc with result := .idMismatch }
    else f s :=
  State.gated_of_writes h off _

theorem State.withOpen_own (hopen : (s.txnOf sc).phase = .opened) (hid : v.toNat = (s.txnOf sc).id) (off : Nat)
    (f : State → State) : s.withOpen req sc off v f = f s := by
  rw [State.withOpen_of_writes h, if_neg (not_not.mpr hopen), if_neg (not_not.mpr hid)]

end

theorem State.scopeBusy_of_phase {s : State} {sc : Scope} (h : (s.txnOf sc).phase ≠ .idle) : s.scopeBusy sc = true := by
  simp [State.scopeBusy, h]

theorem State.scopeBusy_of_idle {s : State} {sc : Scope} (hidle : (s.txnOf sc).phase = .idle) (hprep : s.zdp.prep = none)
    (hown : sc = .device → s.hfCommitting = false) : s.scopeBusy sc = false := by
  have hnot : (sc == .device && s.hfCommitting) = false := by
    cases hsc : sc == Scope.device with
    | false => rfl
    | true => exact hown (by simpa using hsc)
  simp [State.scopeBusy, hidle, hprep, hnot]

/-- The four ends of TXN_COMMIT in an open transaction of the number written (R48, R51, R52 step 1, R56). -/
theorem execTxnCommit_own {s : State} {req : Requester} {sc : Scope} {v : Word} (h : Claims.Writes s req sc.page)
    (hopen : (s.txnOf sc).phase = .opened) (hid : v.toNat = (s.txnOf sc).id) : exec (.txnCommit req sc v) s =
    .next (if s.txnExpiry sc ≤ s.stamp then s.rollback sc .timeout
      else if s.isWorker then s.rollback sc .member
      else if (s.txnOf sc).overflow then s.rollback sc .overflow
      else s.setTxn sc { s.txnOf sc with phase := .committing }) :=
  congrArg Host.Outcome.next (State.withOpen_own h hopen hid 0x108 _)

theorem transactionCommands : Claims.TransactionCommands := by
  intro s req sc v hwrites x done
  refine ⟨fun hv hidle hprep hown => ?_, fun hv hbusy => ?_, fun hopen hid => ?_, fun hopen hid => ?_, fun hclosed => ?_,
    fun hopen => congrArg Host.Outcome.next (if_pos hopen), ?_⟩
  · have hfree : ¬s.scopeBusy sc = true := by simp [State.scopeBusy_of_idle hidle hprep hown]
    exact congrArg Host.Outcome.next ((State.txnBegin_of_writes hwrites hv).trans (if_neg hfree))
  · have htaken := State.scopeBusy_of_phase hbusy
    exact congrArg Host.Outcome.next ((State.txnBegin_of_writes hwrites hv).trans (if_pos htaken))
  · intro expiry
    have hcommit := execTxnCommit_own hwrites hopen hid
    refine ⟨fun hbefore => ?_, fun hafter => ?_, ?_⟩
    · have hearly : ¬s.txnExpiry sc ≤ s.stamp := Nat.not_le.mpr hbefore
      rw [hcommit, if_neg hearly]
      refine ⟨fun hw ho => ?_, fun hw ho => ?_, fun hw => ?_⟩
      · rw [if_neg (by simp [hw]), if_neg (by simpa using ho)]
      · rw [if_neg (by simp [hw]), if_pos ho]
        rfl
      · rw [if_pos hw]
        rfl
    · exact hcommit.trans (congrArg Host.Outcome.next (if_pos hafter))
    · exact congrArg Host.Outcome.next (State.withOpen_own hwrites hopen hid 0x10C _)
  · have hother := State.withOpen_of_writes hwrites (v := v) 0x10C fun s => s.rollback sc .aborted
    rw [if_neg (not_not.mpr hopen), if_pos hid] at hother
    exact congrArg Host.Outcome.next hother
  · exact congrArg Host.Outcome.next ((State.withOpen_of_writes hwrites 0x108 _).trans (if_pos hclosed))
  · obtain ⟨⟨hbus, hreach, -⟩, -⟩ := hwrites
    exact congrArg Host.Outcome.next (if_pos (by simp [hbus, hreach]))

/-- Settles O23: staging by its three outcomes, the commands by the gate of an open transaction. -/
theorem transactions : Obligations.Transactions := ⟨stagedWrites, transactionCommands⟩

end Sys2Proof.Machine
end

section
/-! PROOF. The steps of a configuration commit (R52, R55, O22) on a device that stands alone: each step by the equation of
its command. -/
namespace Sys2Proof.Machine

/-- The state with a commit's epoch, and the digest of the configuration in force, published (R52 step 6). -/
def State.published (s : State) (c : Commit) : State :=
  let s := { s with txn := { s.txn with epoch := c.epoch, recordPending := s.txn.recordPending || c.of.code == 0 } }
  { s with txn := { s.txn with digest := s.configDigest } }

section
variable {s : State} {c : Commit} {sc : Scope}

/-! ## The queue of commits -/

theorem State.advanceCommits_empty (hwaiting : s.txn.waiting = []) : s.advanceCommits = s := by
  unfold State.advanceCommits
  rw [hwaiting]
  split
  · cases ‹_ = _ :: _›
  · rfl

/-- Off a manager, a commit that none is before goes straight to its quiescence. -/
theorem State.queueCommit_alone (hactive : s.txn.active = none) (hwaiting : s.txn.waiting = []) (hman : s.isManager = false)
    (hstage : c.stage = .awaitQuiesce) : s.queueCommit c = Claims.withCommit s c := by
  have hman' (x : TxnUnit) : State.isManager { s with txn := x } = false := hman
  simp [State.queueCommit, State.advanceCommits, State.startPrepare, hactive, hwaiting, hman', Claims.withCommit, ← hstage]

theorem State.hfCommitting_none (hactive : s.txn.active = none) (hwaiting : s.txn.waiting = []) : s.hfCommitting = false := by
  simp [State.hfCommitting, hactive, hwaiting]

/-! ## Validation (R52 step 2) -/

theorem State.validated_none (hactive : s.txn.active = none) (hwaiting : s.txn.waiting = []) : s.validated sc = false := by
  simp [State.validated, hactive, hwaiting]

theorem State.validationDone_valid (hphase : (s.txnOf sc).phase = .committing) (hnew : s.validated sc = false)
    (hvalid : s.invalidAt (s.txnOf sc).staged = none) : s.validationDone sc = s.queueCommit
      { of := .scope sc, stage := .awaitQuiesce, staged := (s.txnOf sc).staged, overlays := (s.txnOf sc).overlays } := by
  simp [State.validationDone, hphase, hnew, hvalid]

theorem State.validationDone_invalid {a : Nat} (hphase : (s.txnOf sc).phase = .committing) (hnew : s.validated sc = false)
    (hbad : s.invalidAt (s.txnOf sc).staged = some a) (hlock : s.breaksLock (s.txnOf sc).staged = false) :
    s.validationDone sc =
      (s.rollback sc .invalid).setTxn sc { (s.rollback sc .invalid).txnOf sc with errAddr := a } := by
  simp [State.validationDone, hphase, hnew, hbad, hlock]

/-! ## Stamp E and the pages (R52 steps 3 and 4) -/

/-- A scope's commit takes its stamp with dispatch paused; only Headframe's own does more at E. -/
theorem State.quiesceAll_scope (hactive : s.txn.active = some c) (hof : c.of = .scope sc) (hstage : c.stage = .awaitQuiesce)
    (hown : c.supplied = false) (hworker : s.isWorker = false) : s.quiesceAll =
      Claims.withCommit
        { s.nextStamp with tally := { s.nextStamp.tally with paused := true, epochStamp := s.nextStamp.stamp } }
        { c with stage := .applying, stampE := s.nextStamp.stamp, unacked := pagesOf c.staged
                 olds := c.staged.map fun q => (q.1, Cells.get regDefault s.regs q.1), epoch := s.txn.epoch + 1 } := by
  have hworker' (x : Tally) (y : TxnUnit) : State.isWorker { s.nextStamp with tally := x, txn := y } = false := hworker
  have hquiesce : s.quiesceAll = s.commitQuiesce := by
    unfold State.quiesceAll
    simp [hactive, hof]
  rw [hquiesce, State.commitQuiesce, hactive]
  simp only [hstage, hof, hown, ne_eq, not_true_eq_false, Bool.false_eq_true, if_false, hworker']
  rfl

theorem State.pageApply_waited {p : Page} (hactive : s.txn.active = some c) (hstage : c.stage = .applying)
    (hp : p ∈ c.unacked) : s.pageApply p =
      ((Claims.withCommit
        { s with regs := (c.staged.filter fun q => keyPage q.1 == some p).foldl
                   (fun m q => Cells.set regDefault m q.1 q.2) s.regs
                 flips := s.flips.filter fun q => !(c.staged.filter fun q => keyPage q.1 == some p).any fun m => m.1 == q.1 }
        { c with unacked := c.unacked.filter fun u => u != p }).notePers s.persValue).pageInForce p := by
  have hlast : ¬(decide (c.stage ≠ .applying) || !c.unacked.contains p) = true := by simp [hstage, hp]
  unfold State.pageApply
  rw [hactive]
  exact if_neg hlast

/-! ## The last acknowledgement (R52 step 5) -/

theorem State.commitLastAck_scope (hactive : s.txn.active = some c) (hstage : c.stage = .applying) (hdone : c.unacked = [])
    (hlocal : c.overlays = []) (howners : touchesOwners c = false) : c.of = .scope sc → s.commitLastAck =
      (((((Claims.withCommit { s with tally := { s.tally with paused := false } } { c with stage := .awaitDigest }).clearStaged
        c.of).settleDirectory).pageInForce .cny).logEvent 0x0002 0 (match sc with | .tenant t => t | .device => 0xFF) 0x0018
        (match sc with | .tenant t => t | .device => 0) c.of.code c.stampE c.epoch) := by
  intro hof
  unfold State.commitLastAck
  rw [hactive]
  simp only [hstage, hdone, hlocal, howners, hof]
  cases sc <;> rfl

/-! ## The new epoch (R52 step 6) -/

/-- A scope's commit is over: COMMITTED, with `INTSTS` DONE. -/
theorem State.finishCommit_scope (hof : c.of = .scope sc) (hwaiting : s.txn.waiting = []) : s.finishCommit c =
    (({ s with txn := { s.txn with active := none }, zdp := { s.zdp with prep := none } }).setTxn sc
      { s.txnOf sc with phase := .idle, id := 0, result := .committed, staged := [], overlays := [] }).setInt sc.page 16 := by
  unfold State.finishCommit
  simp only [hof]
  refine State.advanceCommits_empty ?_
  rw [State.txn_setInt]
  exact hwaiting

/-- What it shows then. -/
theorem State.finishCommit_shows (hof : c.of = .scope sc) (hwaiting : s.txn.waiting = []) :
    let t := s.finishCommit c
    t.txn.epoch = s.txn.epoch ∧ t.txn.active = none ∧ (t.txnOf sc).phase = .idle ∧ (t.txnOf sc).result = .committed ∧
      t.zdp.quarantined = s.zdp.quarantined ∧ bit (t.reg sc.page 0x01C) 16 = true := by
  intro t
  have ht : t = _ := State.finishCommit_scope hof hwaiting
  have htxn := (congrArg State.txn ht).trans (State.txn_setInt ..)
  have hzdp := (congrArg State.zdp ht).trans (State.zdp_setInt ..)
  have hscope : t.txnOf sc =
      { s.txnOf sc with phase := .idle, id := 0, result := .committed, staged := [], overlays := [] } :=
    (congrArg (fun x : TxnUnit => Cells.get txnDefault x.scopes sc.num) htxn).trans (Cells.get_set_same ..)
  refine ⟨by rw [htxn]; rfl, by rw [htxn]; rfl, by rw [hscope], by rw [hscope], by rw [hzdp]; rfl, ?_⟩
  rw [ht]
  exact State.bit_setInt _ _ (by decide)

theorem State.joined_alone (hown : c.supplied = false) (hserves : s.zdp.quarantined = false) : s.joined c = s := by
  simp [State.joined, hown, hserves]

/-- The new epoch is published, and with no workers to wait for the commit is over. -/
theorem State.digestPublish_scope (hactive : s.txn.active = some c) (hof : c.of = .scope sc) (hstage : c.stage = .awaitDigest)
    (hown : c.supplied = false) (hserves : s.zdp.quarantined = false) (hprep : s.zdp.prep = none)
    (hwaiting : s.txn.waiting = []) : s.digestPublish = (s.published c).finishCommit c := by
  have hreport (t : State) : t.reportFinal c = t := by simp [State.reportFinal, hown]
  have hdone : s.digestPublish = ((s.published c).finishCommit c).joined c := by
    unfold State.digestPublish
    simp only [hactive, hstage, hreport, hprep, ne_eq, not_true_eq_false, if_false]
    rfl
  obtain ⟨-, -, -, -, hzdp, -⟩ := State.finishCommit_shows (s := s.published c) hof hwaiting
  rw [hdone, State.joined_alone hown (hzdp.trans hserves)]

/-! ## Headframe's own commits (R554) -/

theorem State.headframeCommit_alone {why : HfReason} {l : List (Nat × Word)} {r : List (HfReason × List (Nat × Word))}
    (hqueue : s.txn.hfQueue = (why, l) :: r) (hidle : (s.txnOf .device).phase = .idle) (hactive : s.txn.active = none)
    (hwaiting : s.txn.waiting = []) (hworker : s.isWorker = false) : s.headframeCommit =
      State.queueCommit { s with txn := { s.txn with hfQueue := r } }
        { of := .headframe why, stage := .awaitQuiesce, staged := l } := by
  have hmay : s.headframeMay = true := by
    simp [State.headframeMay, hidle, State.hfCommitting_none hactive hwaiting]
  have hworker' (x : TxnUnit) : State.isWorker { s with txn := x } = false := hworker
  simp [State.headframeCommit, hqueue, hmay, hworker']

theorem State.clocked_serving (h : s.avs.tripped = false) (o : Out) : s.clocked o = o := by
  rw [State.clocked, h]
  rfl

end

/-- Settles O22, from the equation of each step. -/
theorem commitSteps : Obligations.CommitSteps := by
  unfold Obligations.CommitSteps
  intro s c hpower hprep hman hworker
  refine ⟨fun sc hphase hactive hwaiting hvalid => ?_, fun sc a hphase hactive hwaiting hbad hlock => ?_, fun hactive => ?_,
    fun why l r hqueue hidle hactive hwaiting => ?_⟩
  · have hdone := State.validationDone_valid hphase (State.validated_none hactive hwaiting) hvalid
    exact congrArg Host.Outcome.next (hdone.trans (State.queueCommit_alone hactive hwaiting hman rfl))
  · have hdone := State.validationDone_invalid hphase (State.validated_none hactive hwaiting) hbad hlock
    refine ⟨_, congrArg Host.Outcome.next hdone, ?_⟩
    simp [State.rollback]
  · refine ⟨fun sc hof hstage hown => ?_, fun p hstage hp => ?_, fun sc hof hstage hdone hlocal howners => ?_,
      fun sc hof hstage hown hserves hwaiting => ?_⟩
    · exact (State.clocked_serving hpower _).trans
        (congrArg Host.Outcome.next (State.quiesceAll_scope hactive hof hstage hown hworker))
    · exact (State.clocked_serving hpower _).trans (congrArg Host.Outcome.next (State.pageApply_waited hactive hstage hp))
    · exact congrArg Host.Outcome.next (State.commitLastAck_scope hactive hstage hdone hlocal howners hof)
    · have hdone := State.digestPublish_scope hactive hof hstage hown hserves hprep hwaiting
      obtain ⟨hepoch, hactive', hphase, hresult, -, hint⟩ := State.finishCommit_shows (s := s.published c) hof hwaiting
      exact ⟨_, congrArg Host.Outcome.next hdone, hepoch, hactive', hphase, hresult, hint⟩
  · have hstart := State.headframeCommit_alone hqueue hidle hactive hwaiting hworker
    exact congrArg Host.Outcome.next (hstart.trans (State.queueCommit_alone hactive hwaiting hman rfl))

end Sys2Proof.Machine
end

section
/-! PROOF. Descriptor fetches (R74, R76 to R78, R92, O24): a fetch that may happen makes its entry first, and then ends
in one of four ways. -/
namespace Sys2Proof.Machine

section
variable {s : State} {t q : Nat}

/-- A fetch that may happen, its four ends in their order. -/
theorem State.fetch_of_mayFetch (hmay : s.mayFetch t q = true) : s.fetch t q =
    let u := Claims.fetched s t q
    let d := Claims.headDesc s t q
    let e := freeKey 0 s.tally.entries
    if (s.sq t q).fetched < (s.sq t q).abortTo then u.finish e .abortedHost
    else match u.checksBefore t d (if bit (s.sq t q).cfg 19 then some (s.sq t q).seq else none) with
      | .error st => u.finish e st
      | .ok _ => if d.sgl && (d.inLen != 0 || d.outCap != 0) then u else u.admitEntry e := by
  simp only [State.fetch, hmay, Bool.not_true, Bool.false_eq_true, if_false, State.addEntry, State.setSq_tally,
    State.setSq_stamp]
  rfl

theorem exec_descriptorFetch (h : Claims.Serves s t q) : exec (.descriptorFetch t q) s = .next (s.fetch t q) := by
  obtain ⟨ht, hq, -, -, -, hclock⟩ := h
  have hqueue : (decide (t < 256) && decide (q < 64)) = true := by simp [ht, hq]
  exact (s.clocked_running hclock _).trans (congrArg Host.Outcome.next (if_pos hqueue))

/-- The lists of an entry that waits for them (R76): they are read where the function is a bus master, or came with a
spilled operation. -/
theorem exec_sglFetch {f : Nat} {y : Entry} (hclock : s.avs.tripped = false) (hy : s.entry f = some y)
    (hqueued : y.state = .queued) (hwaits : y.sglDone = false) (hown : y.parent = none) :
    exec (.sglFetch f) s = .next (if s.dmaOk y then s.admitEntry f else s.finish f .dmaFault) := by
  have hexec : exec (.sglFetch f) s = s.clocked (.next (match s.entry f with
      | some x =>
        if x.state == .queued && !x.sglDone && x.parent.isNone then
          if s.dmaOk x then s.admitEntry f else s.finish f .dmaFault
        else s
      | none => s)) := rfl
  rw [hexec, s.clocked_running hclock]
  simp [hy, hqueued, hwaits, hown]

end

/-- Settles O24: each end of a fetch by its branch, lists by the bus mastering of their function. -/
theorem descriptorFetch : Obligations.DescriptorFetch := by
  unfold Obligations.DescriptorFetch
  intro s t q hserves hmay x d e u seq
  have ⟨_, _, _, _, _, hclock⟩ := hserves
  have hfetch := (exec_descriptorFetch hserves).trans (congrArg Host.Outcome.next (State.fetch_of_mayFetch hmay))
  refine ⟨fun habort => ?_, fun hgo st hst => ?_, fun hgo k hk => ⟨fun hsgl hdata => ?_, fun hplain => ?_⟩,
    fun f y hy hqueued hwaits hown => ⟨fun hread => ?_, fun hspill hmaster => ?_⟩, s.clocked_running hclock _⟩
  · rw [hfetch, if_pos habort]
  · rw [hfetch, if_neg (Nat.not_lt.mpr hgo), hst]
  · have hlists : (d.sgl && (d.inLen != 0 || d.outCap != 0)) = true := by simpa [hsgl] using hdata
    rw [hfetch, if_neg (Nat.not_lt.mpr hgo), hk]
    exact congrArg Host.Outcome.next (if_pos hlists)
  · have hlists : ¬(d.sgl && (d.inLen != 0 || d.outCap != 0)) = true := by
      obtain h | ⟨hin, hout⟩ := hplain <;> simp [*]
    rw [hfetch, if_neg (Nat.not_lt.mpr hgo), hk]
    exact congrArg Host.Outcome.next (if_neg hlists)
  · have hdma : s.dmaOk y = true := by simpa [State.dmaOk] using hread
    rw [exec_sglFetch hclock hy hqueued hwaits hown, if_pos hdma]
  · have hdma : ¬s.dmaOk y = true := by simp [State.dmaOk, hspill, hmaster]
    rw [exec_sglFetch hclock hy hqueued hwaits hown, if_neg hdma]

end Sys2Proof.Machine
end

section
/-! PROOF. Family 0xF (R90 to R93, O26): NOP, FENCE and ABORT_TAG each by the outcome of its own guard. -/
namespace Sys2Proof.Machine

section
variable {s : State} {e : Nat} {x : Entry}

theorem exec_nopOpcode (hclock : s.avs.tripped = false) (hrun : s.running e .nop = some x) :
    exec (.nopOpcode e) s = .next (s.commitOut e [] 0) := by
  have hexec : exec (.nopOpcode e) s =
      s.clocked (.next (match s.running e .nop with | some _ => s.commitOut e [] 0 | none => s)) := rfl
  rw [hexec, s.clocked_running hclock, hrun]

/-- What a FENCE waits for is all it covers: those descriptors are fetched, and of their operations none but itself is
left in Tally (R91). -/
theorem State.covered_iff : s.covered x = true ↔ ∀ c ∈ x.covers, c.2 ≤ (s.sq x.tenant c.1).fetched ∧
    ∀ p ∈ s.tally.entries, p.2.tenant = x.tenant → p.2.sq = c.1 → p.2.parent = none → p.2.sub < c.2 →
      p.2.order = x.order := by
  simp [State.covered, imp_iff_not_or, or_assoc]

theorem State.fenceOp_of_covered (hx : s.entry e = some x) (hqueued : x.state = .queued) (hlists : x.sglDone = true)
    (hkind : x.desc.kind = some .fence) (hgoes : s.dispatchHeld = false) (hfree : s.fenceFree x = true)
    (hcovered : s.covered x = true) : s.fenceOp e = s.commitOut e [] 0 := by
  simp [State.fenceOp, hx, hqueued, hlists, hkind, hgoes, hfree, hcovered]

theorem State.abortTag_of_queued (hx : s.entry e = some x) (hqueued : x.state = .queued) (hlists : x.sglDone = true)
    (hkind : x.desc.kind = some .abortTag) : s.abortTag e =
      let hit := s.entriesWhere fun y =>
        y.tenant == x.tenant && y.desc.tag == x.desc.auxAddr && decide (y.order < x.order) && y.abortable
      ((s.forEntries hit fun s f => s.endWith f .abortedHost true).commitOut e [] hit.length).nextStamp := by
  simp [State.abortTag, hx, hqueued, hlists, hkind]

end

/-- Settles O26, operation by operation. -/
theorem queueOperations : Obligations.QueueOperations := by
  unfold Obligations.QueueOperations
  intro s e x hclock
  refine ⟨exec_nopOpcode hclock, fun hx hqueued hlists hkind hgoes hfree hcovers => ?_,
    fun hx hqueued hlists hkind => ?_⟩
  · have hfence := State.fenceOp_of_covered hx hqueued hlists hkind hgoes hfree (State.covered_iff.mpr hcovers)
    exact (s.clocked_running hclock _).trans (congrArg Host.Outcome.next hfence)
  · exact (s.clocked_running hclock _).trans (congrArg Host.Outcome.next (State.abortTag_of_queued hx hqueued hlists hkind))

end Sys2Proof.Machine
end

section
/-! PROOF. Queue controls and doorbells (R64, R65, R67, R92, R93, O30): the guard of each control, the error of a queue, and
the head doorbell that puts every SQ of its CQ in error with it. -/
namespace Sys2Proof.Machine

/-! ## The controls of a queue (R65, R92) -/

section
variable {s : State} {req : Requester} {t : Nat}

/-- A function that is served takes part in queue work. -/
theorem State.fnUsable_of_serves {q : Nat} (h : Claims.Serves s t q) : s.fnUsable t = true := by
  obtain ⟨-, -, hready, henabled, hphase, -⟩ := h
  simp [State.fnUsable, Fn.usable, hready, henabled, hphase]

/-- A queue control that reaches its page does its work. -/
theorem State.clocked_gated (hclock : s.avs.tripped = false) (hwrites : Claims.Writes s req (.tnt t)) (off : Nat)
    (f : State → State) : s.clocked (.next (s.gated req (.tnt t) off f)) = .next (f s) := by
  rw [s.clocked_running hclock, State.gated_of_writes hwrites]

theorem State.sqEnable_off (husable : s.fnUsable t = true) (hoff : (s.sq t (s.qsel t)).en = false) :
    s.sqEnable t =
      if sizeOk (s.sq t (s.qsel t)).cfg && (s.cq t (field (s.sq t (s.qsel t)).cfg 13 8)).en &&
          s.sqActive t (s.qsel t) == 0 then
        (s.setSq t (s.qsel t) { s.sq t (s.qsel t) with
          en := true, head := 0, tail := 0, seq := 0, error := false, errCause := 0, fetched := 0, submitted := 0
          abortTo := 0, bells := [] }).uncover t (s.qsel t)
      else s.accessErr (.tnt t) := by
  simp [State.sqEnable, husable, hoff]

theorem State.sqAbort_on (hon : (s.sq t (s.qsel t)).en = true) :
    s.sqAbort t =
      let u := s.setSq t (s.qsel t) { s.sq t (s.qsel t) with abortTo := (s.sq t (s.qsel t)).submitted }
      (u.forEntries (u.entriesWhere fun y => y.tenant == t && y.sq == s.qsel t) fun u e =>
        u.endWith e .abortedHost true).nextStamp := by
  simp only [State.sqAbort, hon]
  rfl

/-- With no record waiting for it there is nothing to write into a CQ. -/
theorem State.drainCq_idle {q : Nat} (h : (s.cq t q).waiting = []) : s.drainCq t q = s := by
  simp [State.drainCq, h, drainFuel]

theorem State.cqEnable_off (husable : s.fnUsable t = true) (hoff : (s.cq t (s.qsel t)).en = false)
    (hsize : sizeOk (s.cq t (s.qsel t)).cfg = true) (hbase : (s.cq t (s.qsel t)).baseWritten = true)
    (hwaiting : (s.cq t (s.qsel t)).waiting = []) :
    s.cqEnable t = s.setCq t (s.qsel t) { s.cq t (s.qsel t) with
      en := true, tail := 0, hostHead := 0, phase := true, error := false, errCause := 0 } := by
  simp only [State.cqEnable, husable, hoff, hsize, hbase]
  exact State.drainCq_idle (by simpa using hwaiting)

/-- Is a CQ named by an SQ that is enabled? -/
def State.cqNamed (s : State) (t q : Nat) : Bool :=
  (List.range 64).any fun r => (s.sq t r).en && field (s.sq t r).cfg 13 8 == q

theorem State.cqNamed_iff {q : Nat} :
    s.cqNamed t q = true ↔ ∃ r < 64, (s.sq t r).en = true ∧ field (s.sq t r).cfg 13 8 = q := by
  simp [State.cqNamed]

theorem State.cqDisable_on (hon : (s.cq t (s.qsel t)).en = true) (hsound : (s.cq t (s.qsel t)).error = false) :
    s.cqDisable t =
      if !s.cqNamed t (s.qsel t) && (s.cq t (s.qsel t)).waiting.isEmpty then
        s.setCq t (s.qsel t) { s.cq t (s.qsel t) with en := false }
      else s.accessErr (.tnt t) := by
  simp only [State.cqDisable, hon, hsound]
  rfl

theorem State.cqDisable_error (hon : (s.cq t (s.qsel t)).en = true) (herror : (s.cq t (s.qsel t)).error = true) :
    s.cqDisable t = (s.setCq t (s.qsel t) { s.cq t (s.qsel t) with en := false, waiting := [] }).forEntries
      (s.cq t (s.qsel t)).waiting fun u e => u.freeEntry e := by
  simp only [State.cqDisable, hon, herror]
  rfl

end

theorem queueControls : Claims.QueueControls := by
  intro s req t q hserves hwrites hq x c
  subst q
  have ⟨_, _, _, _, _, hclock⟩ := hserves
  have husable := State.fnUsable_of_serves hserves
  have hcontrol (off : Nat) (f : State → State) := State.clocked_gated hclock hwrites off f
  refine ⟨fun hoff hsize hcq hidle => ?_, fun hoff hbad => ?_, fun hon => ?_, fun hon => ?_,
    fun hoff hsize hbase hwaiting => ?_, fun hon hsound hwaiting hfree => ?_, fun hon hsound hnamed => ?_,
    fun hon herror => ?_⟩
  · refine (hcontrol _ _).trans (congrArg Host.Outcome.next ((State.sqEnable_off husable hoff).trans (if_pos ?_)))
    simp [x, hsize, hcq, hidle]
  · refine (hcontrol _ _).trans (congrArg Host.Outcome.next ((State.sqEnable_off husable hoff).trans (if_neg ?_)))
    obtain h | h | h := hbad <;> simp [x, h]
  · exact (hcontrol _ _).trans (congrArg Host.Outcome.next (if_pos hon))
  · exact (hcontrol _ _).trans (congrArg Host.Outcome.next (State.sqAbort_on hon))
  · exact (hcontrol _ _).trans (congrArg Host.Outcome.next (State.cqEnable_off husable hoff hsize hbase hwaiting))
  · refine (hcontrol _ _).trans (congrArg Host.Outcome.next ((State.cqDisable_on hon hsound).trans (if_pos ?_)))
    have hnone : s.cqNamed t (s.qsel t) = false :=
      Bool.eq_false_iff.mpr fun h => by
        obtain ⟨r, hr, hen, hfield⟩ := State.cqNamed_iff.mp h
        exact hfree r hr hen hfield
    have hidle : (s.cq t (s.qsel t)).waiting.isEmpty = true := List.isEmpty_iff.mpr hwaiting
    rw [hnone, hidle]
    rfl
  · refine (hcontrol _ _).trans (congrArg Host.Outcome.next ((State.cqDisable_on hon hsound).trans (if_neg ?_)))
    rw [State.cqNamed_iff.mpr hnamed]
    exact Bool.false_ne_true
  · exact (hcontrol _ _).trans (congrArg Host.Outcome.next (State.cqDisable_error hon herror))

/-! ## Queues in error (R64) -/

section
variable (s : State) (t : Nat)

/-- An error and its interrupt are latched in registers, and a message at a function. -/
theorem State.queueAlarm_fields (p : Page) (n : Nat) : ∃ regs fns, (s.setErr p n).setInt p n = { s with regs, fns } := by
  obtain ⟨regs, fns, h⟩ := s.setErrBits_fields p (1#32 <<< n)
  rw [State.setErr, h]
  exact State.setInt_fields _ p n

theorem State.sqFail_sqs (a cause : Nat) : (s.sqFail t a cause).sqs =
    if (s.sq t a).error then s.sqs else (s.setSq t a { s.sq t a with error := true, errCause := cause }).sqs := by
  obtain ⟨regs, fns, h⟩ :=
    (s.setSq t a { s.sq t a with error := true, errCause := cause }).queueAlarm_fields (.tnt t) 16
  unfold State.sqFail
  dsimp only
  split
  · rfl
  · rw [h]

theorem State.sqFail_cqs (a cause : Nat) : (s.sqFail t a cause).cqs = s.cqs := by
  obtain ⟨regs, fns, h⟩ :=
    (s.setSq t a { s.sq t a with error := true, errCause := cause }).queueAlarm_fields (.tnt t) 16
  unfold State.sqFail
  dsimp only
  split
  · rfl
  · rw [h]
    rfl

/-- The queue is in error, with a cause of its own if it was before. -/
theorem State.sqFail_error (a cause : Nat) : ((s.sqFail t a cause).sq t a).error = true := by
  rw [State.sq, State.sqFail_sqs]
  split
  · assumption
  · exact congrArg Sq.error (s.sq_setSq t a _)

/-- Every other queue is as it was; none comes out of error, and none is configured anew. -/
theorem State.sqFail_keeps (a cause r : Nat) : ((s.sqFail t a cause).sq t r).cfg = (s.sq t r).cfg ∧
    ((s.sq t r).error = true → ((s.sqFail t a cause).sq t r).error = true) := by
  rw [State.sq, State.sqFail_sqs]
  split
  · exact ⟨rfl, id⟩
  · rw [State.setSq, Cells.get_set]
    split
    case isTrue hkey => exact ⟨by rw [State.sq, State.sq, hkey], fun _ => rfl⟩
    case isFalse => exact ⟨rfl, id⟩

theorem State.cqFail_sqs (q cause : Nat) : (s.cqFail t q cause).sqs = s.sqs := by
  obtain ⟨regs, fns, h⟩ :=
    (s.setCq t q { s.cq t q with error := true, errCause := cause }).queueAlarm_fields (.tnt t) 17
  unfold State.cqFail
  dsimp only
  split
  · rfl
  · rw [h]
    rfl

theorem State.cqFail_cq {q : Nat} (hsound : (s.cq t q).error = false) (cause : Nat) :
    (s.cqFail t q cause).cq t q = { s.cq t q with error := true, errCause := cause } := by
  obtain ⟨regs, fns, h⟩ :=
    (s.setCq t q { s.cq t q with error := true, errCause := cause }).queueAlarm_fields (.tnt t) 17
  have hfail : s.cqFail t q cause = { s.setCq t q { s.cq t q with error := true, errCause := cause } with regs, fns } := by
    rw [← h]
    exact if_neg (by simp [hsound])
  rw [hfail]
  exact s.cq_setCq t q _

/-- An SQ that names a CQ in error goes into error with it, with ERRCAUSE CQ. -/
def State.failNamer (s : State) (t q r : Nat) : State :=
  if field (s.sq t r).cfg 13 8 == q then s.sqFail t r 5 else s

variable (q : Nat)

theorem State.failNamer_cqs (a : Nat) : (s.failNamer t q a).cqs = s.cqs := by
  unfold State.failNamer
  split
  · exact s.sqFail_cqs t a 5
  · rfl

theorem State.failNamer_keeps (a r : Nat) : ((s.failNamer t q a).sq t r).cfg = (s.sq t r).cfg ∧
    ((s.sq t r).error = true → ((s.failNamer t q a).sq t r).error = true) := by
  unfold State.failNamer
  split
  · exact s.sqFail_keeps t a 5 r
  · exact ⟨rfl, id⟩

theorem State.failNamer_error {r : Nat} (hnames : field (s.sq t r).cfg 13 8 = q) :
    ((s.failNamer t q r).sq t r).error = true := by
  rw [State.failNamer, if_pos (by simpa using hnames)]
  exact s.sqFail_error t r 5

variable (l : List Nat)

/-- The SQs of a list that name the CQ go into error with it, one after the other. -/
def State.failNamers (s : State) (t q : Nat) (l : List Nat) : State := l.foldl (fun s r => s.failNamer t q r) s

theorem State.failNamers_cqs : (s.failNamers t q l).cqs = s.cqs := by
  induction l generalizing s with
  | nil => rfl
  | cons a l ih => exact (ih _).trans (s.failNamer_cqs t q a)

theorem State.failNamers_keeps {r : Nat} (h : (s.sq t r).error = true) :
    ((s.failNamers t q l).sq t r).error = true := by
  induction l generalizing s with
  | nil => exact h
  | cons a l ih => exact ih _ ((s.failNamer_keeps t q a r).2 h)

theorem State.failNamers_error {r : Nat} (hr : r ∈ l) (hnames : field (s.sq t r).cfg 13 8 = q) :
    ((s.failNamers t q l).sq t r).error = true := by
  induction l generalizing s with
  | nil => cases hr
  | cons a l ih =>
    obtain rfl | hr := List.mem_cons.mp hr
    · exact State.failNamers_keeps _ t q l (s.failNamer_error t q hnames)
    · refine ih (s.failNamer t q a) hr ?_
      rw [(s.failNamer_keeps t q a r).1, hnames]

end

/-! ## Doorbells (R67) -/

section
variable {s : State} {t q : Nat} {v : Word}

theorem exec_sqTailDoorbell (h : Claims.Serves s t q) (v : Word) :
    exec (.sqTailDoorbell t q v) s = .next (s.sqBell t q v) := by
  obtain ⟨ht, hq, -, -, -, hclock⟩ := h
  have hqueue : (decide (t < 256) && decide (q < 64)) = true := by simp [ht, hq]
  exact (s.clocked_running hclock _).trans (congrArg Host.Outcome.next (if_pos hqueue))

theorem exec_cqHeadDoorbell (h : Claims.Serves s t q) (v : Word) :
    exec (.cqHeadDoorbell t q v) s = .next (s.cqBell t q v) := by
  obtain ⟨ht, hq, -, -, -, hclock⟩ := h
  have hqueue : (decide (t < 256) && decide (q < 64)) = true := by simp [ht, hq]
  exact (s.clocked_running hclock _).trans (congrArg Host.Outcome.next (if_pos hqueue))

/-- A new tail is taken: descriptors up to it are submitted, and the bell that showed them is noted for fences (R91). -/
def State.takeTail (s : State) (t q p : Nat) : State :=
  let x := s.sq t q
  let n := x.submitted + (Claims.ahead x p - Claims.ahead x x.tail)
  let u := s.setSq t q { x with tail := p, submitted := n, bells := x.bells ++ [(s.tally.nextBell, n)] }
  { u with tally := { u.tally with nextBell := u.tally.nextBell + 1 } }

theorem State.takeTail_sq (p : Nat) : ((s.takeTail t q p).sq t q).tail = p ∧
    ((s.takeTail t q p).sq t q).submitted =
      (s.sq t q).submitted + (Claims.ahead (s.sq t q) p - Claims.ahead (s.sq t q) (s.sq t q).tail) ∧
    ((s.takeTail t q p).sq t q).head = (s.sq t q).head := by
  have hsq : (s.takeTail t q p).sq t q = _ := s.sq_setSq t q _
  rw [hsq]
  exact ⟨rfl, rfl, rfl⟩

/-- A tail doorbell of a queue that takes part. -/
theorem State.sqBell_usable (husable : s.fnUsable t = true) : s.sqBell t q v =
    let x := s.sq t q
    if !x.en then s.setErr (.tnt t) 18
    else if x.error then s
    else if queueSize x.cfg ≤ field v 15 0 then s.sqFail t q 1
    else if Claims.ahead x (field v 15 0) < Claims.ahead x x.tail then s.sqFail t q 2
    else s.takeTail t q (field v 15 0) := by
  have hgo : ¬(!s.fnUsable t) = true := by simp [husable]
  exact if_neg hgo

/-- The CQ goes into error, and with it every SQ that names it, with ERRCAUSE CQ (R67). -/
def State.cqCrash (s : State) (t q cause : Nat) : State :=
  (s.cqFail t q cause).failNamers t q (List.range 64)

theorem State.cqBell_usable (husable : s.fnUsable t = true) : s.cqBell t q v =
    let x := s.cq t q
    let h := field v 15 0
    if !x.en then s.setErr (.tnt t) 18
    else if x.error then s
    else if queueSize x.cfg ≤ h then s.cqCrash t q 1
    else if (x.tail + queueSize x.cfg - x.hostHead) % queueSize x.cfg <
        (h + queueSize x.cfg - x.hostHead) % queueSize x.cfg then s.cqCrash t q 2
    else (s.setCq t q { x with hostHead := h }).drainCq t q := by
  have hgo : ¬(!s.fnUsable t) = true := by simp [husable]
  exact if_neg hgo

end

theorem doorbells : Claims.Doorbells := by
  intro s t q v hserves x c p
  have husable := State.fnUsable_of_serves hserves
  have htail := (exec_sqTailDoorbell hserves v).trans (congrArg Host.Outcome.next (State.sqBell_usable husable))
  have hhead := (exec_cqHeadDoorbell hserves v).trans (congrArg Host.Outcome.next (State.cqBell_usable husable))
  rw [htail, hhead]
  refine ⟨fun hon hsound hin hahead => ?_, fun hon hsound hout => ?_, fun hon hsound hin hback => ?_, fun hoff => ?_,
    fun hon hsound hin hwaiting hahead => ?_, fun hoff => ?_, fun hon hsound hout => ?_⟩
  · rw [if_neg (by simp [x, hon]), if_neg (by simp [x, hsound]), if_neg (Nat.not_le.mpr hin),
      if_neg (Nat.not_lt.mpr hahead)]
    obtain ⟨htaken, hsubmitted, hkept⟩ := State.takeTail_sq (s := s) (t := t) (q := q) p
    exact ⟨_, rfl, htaken, hsubmitted, hkept, rfl, rfl, rfl, rfl⟩
  · rw [if_neg (by simp [x, hon]), if_neg (by simp [x, hsound]), if_pos hout]
  · rw [if_neg (by simp [x, hon]), if_neg (by simp [x, hsound]), if_neg (Nat.not_le.mpr hin), if_pos hback]
  · rw [if_pos (by simp [x, hoff])]
  · rw [if_neg (by simp [c, hon]), if_neg (by simp [c, hsound]), if_neg (Nat.not_le.mpr hin),
      if_neg (Nat.not_lt.mpr hahead)]
    exact congrArg Host.Outcome.next (State.drainCq_idle (by simpa using hwaiting))
  · rw [if_pos (by simp [c, hoff])]
  · rw [if_neg (by simp [c, hon]), if_neg (by simp [c, hsound]), if_pos hout]
    have hcq : (s.cqCrash t q 1).cq t q = { c with error := true, errCause := 1 } := by
      rw [State.cqCrash, State.cq, State.failNamers_cqs]
      exact s.cqFail_cq t hsound 1
    refine ⟨_, rfl, by rw [hcq], by rw [hcq], fun r hr hnames => ?_⟩
    refine State.failNamers_error _ t q _ (List.mem_range.mpr hr) ?_
    rwa [State.sq, s.cqFail_sqs]

/-- Settles O30: each control by its guard, each doorbell by the branch that its pointer takes. -/
theorem queueControlsAndDoorbells : Obligations.QueueControlsAndDoorbells := ⟨queueControls, doorbells⟩

end Sys2Proof.Machine
end

section
/-! PROOF. The end of an operation (R69, R79, R82, R94): what each part of it leaves as it was, and where its record goes.
Units, keys and counters move beside the queues and host memory. -/
namespace Sys2Proof.Machine

/-! ## Counters and latches -/

/-- What counters and latches move beside: the work in hand, the queues, and Lode. -/
structure Holdings where
  work : Workload
  sqs : Cells Sq
  cqs : Cells Cq
  lode : Lode

def State.holdings (s : State) : Holdings where
  work := s.workload
  sqs := s.sqs
  cqs := s.cqs
  lode := s.lode

/-- What no step of a fold changes, the fold does not change. -/
theorem foldl_keeps {α β γ : Type} {f : α → γ} {g : α → β → α} {l : List β}
    (h : ∀ a, ∀ b ∈ l, f (g a b) = f a) (a : α) :
    f (l.foldl g a) = f a := by
  induction l generalizing a with
  | nil => rfl
  | cons b l ih =>
    exact (ih (fun a c hc => h a c (List.mem_cons_of_mem b hc)) _).trans (h a b List.mem_cons_self)

section
variable (s : State)

@[simp] theorem State.holdings_setReg (p : Page) (off : Nat) (v : Word) : (s.setReg p off v).holdings = s.holdings := rfl

@[simp] theorem State.holdings_raiseVector (t v : Nat) : (s.raiseVector t v).holdings = s.holdings := by
  obtain ⟨f, hf⟩ := s.raiseVector_eq t v
  have hwork := s.workload_raiseVector t v
  rw [hf] at hwork ⊢
  exact congrArg (fun w => { s.holdings with work := w }) hwork

@[simp] theorem State.holdings_setInt (p : Page) (n : Nat) : (s.setInt p n).holdings = s.holdings := by
  unfold State.setInt
  dsimp only
  split
  · rfl
  split <;> simp

@[simp] theorem State.holdings_setErr (p : Page) (n : Nat) : (s.setErr p n).holdings = s.holdings := by
  unfold State.setErr State.setErrBits
  dsimp only
  split <;> simp

@[simp] theorem State.holdings_bumpCounter (p : Page) (k d : Nat) : (s.bumpCounter p k d).holdings = s.holdings := by
  unfold State.bumpCounter
  dsimp only
  split <;> simp

@[simp] theorem State.holdings_countIn (p : Page) (num ev t : Nat) (n i : Option Nat) (d : Nat) :
    (s.countIn p num ev t n i d).holdings = s.holdings := by
  unfold State.countIn
  split
  · rfl
  refine foldl_keeps (fun s k _ => ?_) s
  split <;> simp

@[simp] theorem State.holdings_pmu (ev t : Nat) (n i : Option Nat) (d : Nat) :
    (s.pmu ev t n i d).holdings = s.holdings := by
  simp [State.pmu]

end

/-! ## What the host sees -/

/-- What the host sees of Adit: its memory, the queues, and which functions are bus masters (R61). -/
structure HostSide where
  host : Cells Byte
  sqs : Cells Sq
  cqs : Cells Cq
  master : Nat → Bool

def State.hostSide (s : State) : HostSide where
  host := s.host
  sqs := s.sqs
  cqs := s.cqs
  master t := (s.fn t).bme

section
variable (s : State)

theorem State.hostSide_of_holdings {t : State} (h : t.holdings = s.holdings) : t.hostSide = s.hostSide :=
  congrArg (fun h : Holdings => (⟨h.work.host, h.sqs, h.cqs, h.work.master⟩ : HostSide)) h

/-! ### The unit is released (R24, R240, R293) -/

@[simp] theorem State.hostSide_mapEngs (n : Nat) (l : List Nat) (f : Eng → Eng) :
    (s.mapEngs n l f).hostSide = s.hostSide := by
  have hframe : s.mapEngs n l f = { s with engs := (s.mapEngs n l f).engs } := State.putEngs_frame ..
  rw [hframe]
  rfl

@[simp] theorem State.hostSide_setInt (p : Page) (n : Nat) : (s.setInt p n).hostSide = s.hostSide :=
  s.hostSide_of_holdings (s.holdings_setInt p n)

@[simp] theorem State.hostSide_resetStope (n : Nat) : (s.resetStope n).hostSide = s.hostSide := by
  have hengs := s.hostSide_mapEngs n (List.range 16) fun _ => {}
  unfold State.resetStope
  generalize s.mapEngs n (List.range 16) (fun _ => {}) = u at hengs ⊢
  exact hengs

@[simp] theorem State.hostSide_blockReset (p : Page) : (s.blockReset p).hostSide = s.hostSide := by
  unfold State.blockReset
  split
  · exact s.hostSide_resetStope _
  · rfl
  · rfl

@[simp] theorem State.hostSide_unitDrained (p : Page) : (s.unitDrained p).hostSide = s.hostSide := by
  unfold State.unitDrained
  dsimp only
  split <;> simp

@[simp] theorem State.hostSide_stopeSettled (n : Nat) : (s.stopeSettled n).hostSide = s.hostSide := by
  unfold State.stopeSettled
  split <;> simp

@[simp] theorem State.hostSide_samplerSettle (n : Nat) : (s.samplerSettle n).hostSide = s.hostSide := by
  unfold State.samplerSettle
  dsimp only
  split <;> rfl

theorem State.hostSide_endRun (e : Nat) (wipe : Bool) : (s.endRun e wipe).hostSide = s.hostSide := by
  unfold State.endRun
  split
  · rfl
  · extract_lets u v
    have hu : u.hostSide = s.hostSide := State.hostSide_samplerSettle _ _
    have hv : v.hostSide = s.hostSide := hu
    split <;> simp [hv]

theorem State.hostSide_leaveShaft (n e : Nat) (committed : Bool) : (s.leaveShaft n e committed).hostSide = s.hostSide := by
  unfold State.leaveShaft
  extract_lets x lines u count
  split
  · split
    · rfl
    · split
      · split <;> rfl
      · rfl
  · split <;> rfl
  · rfl

@[simp] theorem State.hostSide_releaseUnit (e : Nat) (target : Target) (committed : Bool) :
    (s.releaseUnit e target committed).hostSide = s.hostSide := by
  cases target with
  | stope n first w => exact s.hostSide_endRun e _
  | shaft n => exact s.hostSide_leaveShaft n e committed
  | worker d => rfl
  | none => rfl

end

/-! ## What was reserved is freed (R178, R194, R199) -/

/-- A reading of the state that looks neither at Lode nor at Tally. -/
structure Elsewhere {α : Type} (f : State → α) : Prop where
  lode : ∀ (s : State) (x : Lode), f { s with lode := x } = f s
  tally : ∀ (s : State) (x : Tally), f { s with tally := x } = f s

theorem Elsewhere.hostSide : Elsewhere State.hostSide := ⟨fun _ _ => rfl, fun _ _ => rfl⟩

section
variable {α : Type} {f : State → α} (hf : Elsewhere f) (s : State)
include hf

theorem Elsewhere.dropResv (e : Nat) : f (s.dropResv e) = f s := by
  unfold State.dropResv
  split
  case h_2 => rfl
  case h_1 x _ =>
    extract_lets u mine v lode w
    have hu : f u = f s := by
      dsimp only [u]
      split
      · split
        · exact hf.lode s _
        · rfl
      · rfl
    have hv : f v = f u := by
      refine foldl_keeps (fun s g _ => ?_) u
      split
      · split
        · exact hf.lode s _
        · rfl
      · rfl
    have hw : f w = f v := hf.lode v _
    exact (hf.tally w _).trans (hw.trans (hv.trans hu))

theorem Elsewhere.dropKids (e : Nat) (x : Entry) : f (s.dropKids e x) = f s := by
  unfold State.dropKids
  extract_lets kid tally u
  have hu : f u = f s := hf.tally s _
  split
  · split
    · split
      · exact (hf.tally _ _).trans ((hf.lode u _).trans hu)
      · exact hu
    · exact hu
  · exact hu

theorem Elsewhere.countLost (x : Entry) (st : Status) : f (s.countLost x st) = f s := by
  unfold State.countLost
  extract_lets i
  split
  · split
    · rfl
    · exact hf.lode s _
  · rfl

end

end Sys2Proof.Machine
end

section
/-! PROOF. Completion records (R66, R69, R79, O28 and O55). -/
namespace Sys2Proof.Machine

/-! ## Fields of a byte string -/

@[simp] theorem leBytes_length (n v : Nat) : (leBytes n v).length = n := by
  induction n generalizing v with
  | zero => rfl
  | succ n ih => simp [leBytes, ih]

theorem ofLe_leBytes (n v : Nat) : ofLe (leBytes n v) = v % 256 ^ n := by
  induction n generalizing v with
  | zero => simp [leBytes, ofLe, Nat.mod_one]
  | succ n ih =>
    have hpow : 256 ^ (n + 1) = 2 ^ 8 * 256 ^ n := Nat.pow_succ'
    rw [leBytes, ofLe, ih, BitVec.toNat_ofNat, hpow]
    exact Nat.mod_mul.symm

/-- A field that a number was written to, at the head of what is left of the string. -/
theorem leField_head (n v : Nat) (r : Bytes) : leField (leBytes n v ++ r) 0 n = v % 256 ^ n := by
  have hslice : slice (leBytes n v ++ r) 0 n = leBytes n v := by simp [slice]
  rw [leField, hslice, ofLe_leBytes]

/-- A field past the head lies in the rest. -/
theorem leField_rest {n off : Nat} (h : n ≤ off) (v : Nat) (r : Bytes) (len : Nat) :
    leField (leBytes n v ++ r) off len = leField r (off - n) len := by
  have hdrop : (leBytes n v ++ r).drop off = r.drop (off - n) := by
    simp [List.drop_append, h]
  simp only [leField, slice, hdrop]

theorem Status.code_lt (st : Status) : st.code < 2 ^ 16 := by
  cases st <;> decide

theorem completionRecordLayout : Claims.CompletionRecordLayout := by
  intro x head phase r
  have hr : r = leBytes 8 x.desc.tag ++ (leBytes 2 x.status.code ++ (leBytes 2 x.sq ++ (leBytes 4 x.recordBytes ++
      (leBytes 8 x.stamp ++ (leBytes 4 x.recordInfo ++ (leBytes 2 head ++ (leBytes 1 (b2n phase) ++ [0]))))))) := by
    simp [r, Entry.record]
  have hcode : x.status.code % 256 ^ 2 = x.status.code := Nat.mod_eq_of_lt x.status.code_lt
  have hphase : b2n phase % 256 ^ 1 = if phase then 1 else 0 := by cases phase <;> rfl
  rw [hr]
  refine ⟨by simp, leField_head .., ?_, ?_, ?_, ?_, ?_, ?_, ?_, ?_⟩
  all_goals simp only [leField_rest, leField_head, Nat.reduceLeDiff, Nat.reduceSub, hcode, hphase]
  all_goals rfl

/-! ## Host memory -/

theorem Cells.readBytes_congr {m l : Cells Byte} {a n : Nat}
    (h : ∀ b, a ≤ b → b < a + n → Cells.get byte0 m b = Cells.get byte0 l b) : m.readBytes a n = l.readBytes a n := by
  induction n generalizing a with
  | zero => rfl
  | succ n ih =>
    rw [Cells.readBytes, Cells.readBytes, h a (by omega) (by omega), ih fun b hlo hhi => h b (by omega) (by omega)]

/-- A byte outside a string that is written is as it was. -/
theorem Cells.get_writeBytes_outside {m : Cells Byte} {a b : Nat} {bs : Bytes} (h : b < a ∨ a + bs.length ≤ b) :
    Cells.get byte0 (m.writeBytes a bs) b = Cells.get byte0 m b := by
  rw [Cells.get_writeBytes, if_neg (by omega)]

/-! ## The record goes to its slot (R66, R69, R102) -/

/-- The slot TAIL of a CQ in host memory (R66). -/
def Cq.slot (c : Cq) : Nat := c.baseHi.toNat * 2 ^ 32 + c.baseLo.toNat + 32 * c.tail

/-- The CQ once the record of entry `e` stands in its slot. -/
def Cq.taken (c : Cq) (e : Nat) : Cq :=
  { c with tail := (c.tail + 1) % queueSize c.cfg
           phase := if (c.tail + 1) % queueSize c.cfg = 0 then !c.phase else c.phase
           waiting := without c.waiting e }

section
variable (s : State)

theorem State.sq_congr {s t : State} (h : t.sqs = s.sqs) (u q : Nat) : t.sq u q = s.sq u q := by rw [State.sq, State.sq, h]

theorem State.cq_congr {s t : State} (h : t.cqs = s.cqs) (u q : Nat) : t.cq u q = s.cq u q := by rw [State.cq, State.cq, h]

/-- Raising its interrupt starts a CQ's count anew, and beside that changes only latches. -/
theorem State.moderate_holdings (t q : Nat) : ∃ cqs, (s.moderate t q).holdings = { s.holdings with cqs } ∧
    ∃ n, Cells.get cqDefault cqs (queueKey t q) = { s.cq t q with counted := n } := by
  unfold State.moderate
  extract_lets c
  split
  · exact ⟨_, State.holdings_raiseVector _ t q, 0, s.cq_setCq t q _⟩
  · exact ⟨s.cqs, rfl, c.counted, rfl⟩

/-- The record is counted at its CQ. -/
theorem State.countRecord_holdings (t q : Nat) (x : Entry) :
    ∃ cqs, (s.countRecord t q x).holdings = { s.holdings with cqs } ∧
    ∃ n m, Cells.get cqDefault cqs (queueKey t q) = { s.cq t q with counted := n, firstCounted := m } := by
  unfold State.countRecord
  split
  · extract_lets c d
    obtain ⟨cqs, hholdings, n, hcq⟩ := (s.setCq t q d).moderate_holdings t q
    rw [State.cq_setCq] at hcq
    exact ⟨cqs, hholdings, n, d.firstCounted, hcq⟩
  · exact ⟨s.cqs, rfl, (s.cq t q).counted, (s.cq t q).firstCounted, rfl⟩

/-- Tally without an entry. -/
def Tally.without (x : Tally) (e : Nat) : Tally := { x with entries := Cells.erase x.entries e }

/-- The record in its slot, the CQ gone on, and the entry free. -/
def State.placeRecord (s : State) (e : Nat) (x : Entry) : State :=
  let c := s.cq x.tenant x.cq
  let u := s.hostWrite c.slot (x.record (s.sq x.tenant x.sq).head c.phase)
  { u.setCq x.tenant x.cq (c.taken e) with tally := s.tally.without e }

/-- The work in hand once the record is placed: the record lies in host memory, and the entry is free. -/
def State.recordPlaced (s : State) (e : Nat) (x : Entry) : Workload :=
  { s.workload with
    host := Cells.writeBytes s.host (s.cq x.tenant x.cq).slot
      (x.record (s.sq x.tenant x.sq).head (s.cq x.tenant x.cq).phase)
    tally := s.tally.without e }

theorem State.placeRecord_holdings (e : Nat) (x : Entry) : (s.placeRecord e x).holdings =
    { s.holdings with cqs := (s.placeRecord e x).cqs, work := s.recordPlaced e x } := by
  simp only [State.placeRecord, State.recordPlaced, State.holdings, State.workload, State.setCq, State.hostWrite]
  rfl

theorem State.writeRecord_eq (e : Nat) (x : Entry) : s.writeRecord e x =
    (let u := (s.placeRecord e x).pmu 0x21 x.tenant none none 1
     (if x.status.done then u else u.pmu 0x22 x.tenant none none 1).countRecord x.tenant x.cq x) := rfl

/-- Beside the placing of the record only latches and counters change. -/
theorem State.writeRecord_holdings (e : Nat) (x : Entry) :
    ∃ cqs, (s.writeRecord e x).holdings = { s.holdings with cqs, work := s.recordPlaced e x } ∧
      ∃ n m, Cells.get cqDefault cqs (queueKey x.tenant x.cq) =
        { (s.cq x.tenant x.cq).taken e with counted := n, firstCounted := m } := by
  rw [State.writeRecord_eq]
  extract_lets u
  have hu : (if x.status.done then u else u.pmu 0x22 x.tenant none none 1).holdings = (s.placeRecord e x).holdings := by
    split <;> simp [u]
  obtain ⟨cqs, hholdings, n, m, hcq⟩ := State.countRecord_holdings
    (if x.status.done then u else u.pmu 0x22 x.tenant none none 1) x.tenant x.cq x
  refine ⟨cqs, hholdings.trans (by rw [hu, s.placeRecord_holdings]), n, m, hcq.trans ?_⟩
  have hplaced : (s.placeRecord e x).cq x.tenant x.cq = (s.cq x.tenant x.cq).taken e := State.cq_setCq _ _ _ _
  rw [State.cq_congr (congrArg Holdings.cqs hu), hplaced]

theorem State.writeRecord_host (e : Nat) (x : Entry) : (s.writeRecord e x).host =
    Cells.writeBytes s.host (s.cq x.tenant x.cq).slot (x.record (s.sq x.tenant x.sq).head (s.cq x.tenant x.cq).phase) := by
  obtain ⟨cqs, hholdings, -⟩ := s.writeRecord_holdings e x
  exact (congrArg (fun h : Holdings => h.work.host) hholdings :)

theorem State.writeRecord_cq (e : Nat) (x : Entry) : ∃ n m, (s.writeRecord e x).cq x.tenant x.cq =
    { (s.cq x.tenant x.cq).taken e with counted := n, firstCounted := m } := by
  obtain ⟨cqs, hholdings, n, m, hcq⟩ := s.writeRecord_holdings e x
  have hcqs : (s.writeRecord e x).cqs = cqs := (congrArg Holdings.cqs hholdings :)
  rw [State.cq, hcqs, hcq]
  exact ⟨n, m, rfl⟩

theorem lookup_erase {α : Type} (m : Cells α) (k j : Nat) : lookup (m.erase k) j = if j = k then none else lookup m j := by
  unfold lookup Cells.erase
  rw [List.find?_filter]
  split_ifs with h
  · have hnone : (m.find? fun p => decide ((p.1 != k) = true ∧ (p.1 == j) = true)) = none :=
      List.find?_eq_none.mpr fun p _ => by simp [h]
    rw [hnone]
  · have hpred : (fun p : Nat × α => decide ((p.1 != k) = true ∧ (p.1 == j) = true)) = fun p => p.1 == j := by
      funext p
      by_cases hp : p.1 = j <;> simp [hp, h]
    rw [hpred]

theorem State.writeRecord_entry (e : Nat) (x : Entry) (f : Nat) :
    (s.writeRecord e x).entry f = if f = e then none else s.entry f := by
  obtain ⟨cqs, hholdings, -⟩ := s.writeRecord_holdings e x
  have htally : (s.writeRecord e x).tally = s.tally.without e := (congrArg (fun h : Holdings => h.work.tally) hholdings :)
  rw [State.entry, htally]
  exact lookup_erase s.tally.entries e f

end

theorem Entry.record_length (x : Entry) (head : Nat) (phase : Bool) : (x.record head phase).length = 32 :=
  (completionRecordLayout x head phase).1

theorem recordIsWritten : Claims.RecordIsWritten := by
  intro s e x hx c a t
  obtain ⟨cqs, hholdings, -⟩ := s.writeRecord_holdings e x
  obtain ⟨n, m, hcq⟩ := s.writeRecord_cq e x
  have hhost := s.writeRecord_host e x
  have hlength := x.record_length (s.sq x.tenant x.sq).head c.phase
  have hlode : (s.writeRecord e x).lode = s.lode := (congrArg Holdings.lode hholdings :)
  have hengs : (s.writeRecord e x).engs = s.engs := (congrArg (fun h : Holdings => h.work.engs) hholdings :)
  have hpending : (s.writeRecord e x).pending = s.pending := (congrArg (fun h : Holdings => h.work.pending) hholdings :)
  have htail : ((s.writeRecord e x).cq x.tenant x.cq).tail = (c.tail + 1) % queueSize c.cfg := by
    rw [hcq]
    rfl
  refine ⟨?_, fun b hb => ?_, htail, ?_, fun f hf => ?_, hlode, hengs, hpending⟩
  · rw [State.hostRead, hhost, ← hlength]
    exact Cells.readBytes_writeBytes ..
  · rw [hhost]
    refine Cells.get_writeBytes_outside ?_
    rwa [hlength]
  · rw [State.writeRecord_entry, if_pos rfl]
  · rw [State.writeRecord_entry, if_neg hf]

/-! ## The end of an operation (R82, R94, R95) -/

/-- The entry `x` once its outcome is decided. -/
def Entry.ended (x : Entry) (st : Status) (now : Stamp) : Entry :=
  { x with state := if st.done then .committed else .recordWait, status := st, stamp := now, stopping := none
           target := .none, resv := none, await := .none, sluice := .none }

/-- Before its record is made, what the operation of entry `e` held is given up. -/
def State.letGo (s : State) (e : Nat) (x : Entry) (st : Status) : State :=
  (((if x.state = .dispatched then s.releaseUnit e x.target st.done else s).dropResv e).dropKids e x).countLost x st

/-- The record of entry `e` joins those that wait for its CQ, and what may be written is. -/
def State.queueRecord (s : State) (e : Nat) (x : Entry) : State :=
  let c := s.cq x.tenant x.cq
  (s.setCq x.tenant x.cq { c with waiting := insertRecord s e x c.waiting }).drainCq x.tenant x.cq

section
variable {s : State} {e : Nat} {x : Entry}

/-- The ends of an operation: within a split job, of another device, discarded, or with a record of its own. -/
theorem State.settleOne_of_entry (hx : s.entry e = some x) (st : Status) (now : Stamp) : s.settleOne e st now =
    (let y := x.ended st now
     let v := (s.letGo e x st).setEntry e y
     if y.parent.isSome then { v with tally := v.tally.without e }
     else if y.spilled.isSome then v.spillResult e y (y.spilled.getD 0)
     else if y.discard || !(v.fn y.tenant).bme then v.freeEntry e
     else v.queueRecord e y) := by
  rw [State.settleOne, hx]
  rfl

theorem State.hostSide_letGo (s : State) (e : Nat) (x : Entry) (st : Status) :
    (s.letGo e x st).hostSide = s.hostSide := by
  rw [State.letGo, Elsewhere.hostSide.countLost, Elsewhere.hostSide.dropKids, Elsewhere.hostSide.dropResv]
  split
  · exact s.hostSide_releaseUnit ..
  · rfl

/-- The one record that waits for a CQ goes to its slot if that is free. -/
theorem State.drainCq_one {t q : Nat} (hwaiting : (s.cq t q).waiting = [e]) (hx : s.entry e = some x)
    (hmaster : (s.fn t).bme = true) : s.drainCq t q = if (s.cq t q).open then s.writeRecord e x else s := by
  simp [State.drainCq, drainFuel, hwaiting, hx, hmaster]

/-- An operation of the device's own host, whose outcome is not discarded, ends with its record among those that wait for
its CQ; nothing that the host sees has changed before. -/
theorem State.settle_hosted (hx : s.entry e = some x) (hown : x.parent = none) (hlocal : x.spilled = none)
    (hkept : x.discard = false) (hmaster : (s.fn x.tenant).bme = true) (st : Status) (now : Stamp) :
    s.settle e st now = ((s.letGo e x st).setEntry e (x.ended st now)).queueRecord e (x.ended st now) := by
  have hsettle : s.settle e st now = s.settleOne e st now := by
    rw [State.settle, hx]
    simp only [hown]
  have hbme : (((s.letGo e x st).setEntry e (x.ended st now)).fn x.tenant).bme = true :=
    (congrFun (congrArg HostSide.master (s.hostSide_letGo e x st)) x.tenant).trans hmaster
  have hgoes : ¬(x.discard || !(((s.letGo e x st).setEntry e (x.ended st now)).fn x.tenant).bme) = true := by
    simp [hkept, hbme]
  rw [hsettle, State.settleOne_of_entry hx]
  exact (if_neg (by simp [Entry.ended, hown])).trans ((if_neg (by simp [Entry.ended, hlocal])).trans (if_neg hgoes))

/-- With no record before it, a record goes to its slot if that is free, and waits otherwise. -/
theorem State.queueRecord_idle (hx : s.entry e = some x) (hmaster : (s.fn x.tenant).bme = true)
    (hwaiting : (s.cq x.tenant x.cq).waiting = []) :
    let v := s.setCq x.tenant x.cq { s.cq x.tenant x.cq with waiting := [e] }
    s.queueRecord e x = if (s.cq x.tenant x.cq).open then v.writeRecord e x else v := by
  intro v
  have hcq : v.cq x.tenant x.cq = { s.cq x.tenant x.cq with waiting := [e] } := s.cq_setCq ..
  have hqueue : s.queueRecord e x = v.drainCq x.tenant x.cq := by
    rw [State.queueRecord, hwaiting]
    rfl
  have hdrain : v.drainCq x.tenant x.cq = if (v.cq x.tenant x.cq).open then v.writeRecord e x else v :=
    State.drainCq_one (by rw [hcq]) hx hmaster
  rw [hqueue, hdrain, hcq]
  rfl

end

/-! ## The two ends of a record with none before it -/

/-- An entry whose record goes to the device's own host, with no record before it. -/
structure State.Records (s : State) (e : Nat) (x : Entry) : Prop where
  entry : s.entry e = some x
  own : x.parent = none
  here : x.spilled = none
  kept : x.discard = false
  master : (s.fn x.tenant).bme = true
  first : (s.cq x.tenant x.cq).waiting = []

section
variable {s : State} {e : Nat} {x : Entry} (h : s.Records e x) (st : Status) (now : Stamp)
include h

/-- The state in which its record is the only one that waits, with nothing else that the host sees changed. -/
theorem State.Records.settle : ∃ v : State, v.host = s.host ∧ v.sqs = s.sqs ∧
    v.cq x.tenant x.cq = { s.cq x.tenant x.cq with waiting := [e] } ∧ v.entry e = some (x.ended st now) ∧
    s.settle e st now = if (s.cq x.tenant x.cq).open then v.writeRecord e (x.ended st now) else v := by
  obtain ⟨hx, hown, hhere, hkept, hmaster, hfirst⟩ := h
  obtain ⟨w, hw⟩ : ∃ w, w = (s.letGo e x st).setEntry e (x.ended st now) := ⟨_, rfl⟩
  have hside : w.hostSide = s.hostSide := by
    rw [hw]
    exact s.hostSide_letGo e x st
  have hentry : w.entry e = some (x.ended st now) := by rw [hw, State.entry_setEntry]
  have hcq : w.cq x.tenant x.cq = s.cq x.tenant x.cq := State.cq_congr (congrArg HostSide.cqs hside) _ _
  have hbme : (w.fn x.tenant).bme = true := (congrFun (congrArg HostSide.master hside) x.tenant).trans hmaster
  have hqueue : w.queueRecord e (x.ended st now) = if (w.cq x.tenant x.cq).open then _ else _ :=
    State.queueRecord_idle (x := x.ended st now) hentry hbme ((congrArg Cq.waiting hcq).trans hfirst)
  refine ⟨w.setCq x.tenant x.cq { w.cq x.tenant x.cq with waiting := [e] }, congrArg HostSide.host hside,
    congrArg HostSide.sqs hside, ?_, hentry, ?_⟩
  · rw [State.cq_setCq, hcq]
  · rw [State.settle_hosted hx hown hhere hkept hmaster, ← hw, ← hcq]
    exact hqueue

/-- While the slot is free the record lies in it, the entry is free, and nothing waits (R69). -/
theorem State.Records.written (hopen : (s.cq x.tenant x.cq).open = true) :
    let c := s.cq x.tenant x.cq
    let t := s.settle e st now
    t.host = Cells.writeBytes s.host c.slot ((x.ended st now).record (s.sq x.tenant x.sq).head c.phase) ∧
      t.entry e = none ∧ (t.cq x.tenant x.cq).waiting = [] := by
  obtain ⟨v, hhost, hsqs, hcq, hentry, hsettle⟩ := h.settle st now
  rw [if_pos hopen] at hsettle
  intro c t
  have hsq := State.sq_congr hsqs x.tenant x.sq
  obtain ⟨n, m, htaken⟩ := v.writeRecord_cq e (x.ended st now)
  have hwaiting : ((v.writeRecord e (x.ended st now)).cq x.tenant x.cq).waiting =
      without (v.cq x.tenant x.cq).waiting e := congrArg Cq.waiting htaken
  refine ⟨?_, ?_, ?_⟩
  · have hplaced : t.host = Cells.writeBytes v.host (v.cq x.tenant x.cq).slot
        ((x.ended st now).record (v.sq x.tenant x.sq).head (v.cq x.tenant x.cq).phase) :=
      (congrArg State.host hsettle).trans (v.writeRecord_host e (x.ended st now))
    rw [hplaced, hhost, hsq, hcq]
    rfl
  · rw [show t = _ from hsettle, State.writeRecord_entry, if_pos rfl]
  · rw [show t = _ from hsettle, hwaiting, hcq]
    simp [without]

/-- While it is not, the record waits, and its entry stays (R69). -/
theorem State.Records.waits (hfull : (s.cq x.tenant x.cq).open = false) :
    let t := s.settle e st now
    t.host = s.host ∧ t.cq x.tenant x.cq = { s.cq x.tenant x.cq with waiting := [e] } ∧
      t.entry e = some (x.ended st now) := by
  obtain ⟨v, hhost, -, hcq, hentry, hsettle⟩ := h.settle st now
  rw [hfull, if_neg Bool.false_ne_true] at hsettle
  rw [hsettle]
  exact ⟨hhost, hcq, hentry⟩

end

end Sys2Proof.Machine
end

section
/-! PROOF. Completion records and outputs in host memory (R12, R69, R79, R80, R99, R385, O28, O55). -/
namespace Sys2Proof.Machine

/-! ## The record in host memory -/

section
variable {s : State} {e : Nat} {x : Entry}

/-- The 32 bytes in the slot are the record, and no other byte of host memory changes. -/
theorem State.Records.bytes (h : s.Records e x) (st : Status) (now : Stamp)
    (hopen : (s.cq x.tenant x.cq).open = true) :
    let c := s.cq x.tenant x.cq
    let t := s.settle e st now
    t.hostRead c.slot 32 = (x.ended st now).record (s.sq x.tenant x.sq).head c.phase ∧
      ∀ b, b < c.slot ∨ c.slot + 32 ≤ b → Cells.get byte0 t.host b = Cells.get byte0 s.host b := by
  intro c t
  obtain ⟨hhost, -, -⟩ := h.written st now hopen
  have hlength := (x.ended st now).record_length (s.sq x.tenant x.sq).head c.phase
  refine ⟨?_, fun b hb => ?_⟩
  · rw [State.hostRead, hhost, ← hlength]
    exact Cells.readBytes_writeBytes ..
  · rw [hhost]
    refine Cells.get_writeBytes_outside ?_
    rwa [hlength]

/-! ## The output (R75, R99) -/

theorem State.scatter_frame (s : State) (l : List (Nat × Nat)) (bs : Bytes) :
    s.scatter l bs = { s with host := (s.scatter l bs).host } := by
  induction l generalizing s bs with
  | nil => rfl
  | cons p l ih => exact ih (s.hostWrite p.1 (bs.take p.2)) (bs.drop p.2)

/-- An output touches host memory alone. -/
theorem State.outputTo_frame (s : State) (x : Entry) (off : Nat) (bs : Bytes) :
    s.outputTo x off bs = { s with host := (s.outputTo x off bs).host } := by
  unfold State.outputTo
  split
  · rfl
  split
  · exact s.scatter_frame _ _
  · rfl

/-- Bytes written over a list stay within its entries. -/
theorem State.scatter_host {l : List (Nat × Nat)} {b : Nat} (hb : ∀ p ∈ l, b < p.1 ∨ p.1 + p.2 ≤ b)
    (s : State) (bs : Bytes) :
    Cells.get byte0 (s.scatter l bs).host b = Cells.get byte0 s.host b := by
  induction l generalizing s bs with
  | nil => rfl
  | cons p l ih =>
    have hp := hb p List.mem_cons_self
    have hlength : (bs.take p.2).length ≤ p.2 := List.length_take_le ..
    refine (ih (fun q hq => hb q (List.mem_cons_of_mem p hq)) (s.hostWrite p.1 (bs.take p.2)) (bs.drop p.2)).trans ?_
    exact Cells.get_writeBytes_outside (by omega)

/-- From its first byte on, a list is its entries that hold any. -/
theorem listFrom_zero (l : List (Nat × Nat)) : listFrom l 0 = l.filter fun p => p.2 != 0 := by
  have hfold (acc : List (Nat × Nat)) : (l.foldl (fun (a : Nat × List (Nat × Nat)) p =>
      let drop := Nat.min a.1 p.2
      (a.1 - drop, if drop = p.2 then a.2 else a.2 ++ [(p.1 + drop, p.2 - drop)])) (0, acc)).2 =
        acc ++ l.filter fun p => p.2 != 0 := by
    induction l generalizing acc with
    | nil => simp
    | cons p l ih =>
      have hmin : Nat.min 0 p.2 = 0 := Nat.zero_min _
      simp only [List.foldl_cons, hmin, Nat.sub_zero, Nat.add_zero]
      by_cases hp : p.2 = 0
      · rw [if_pos hp.symm, ih, List.filter_cons_of_neg (by simp [hp])]
      · rw [if_neg (Ne.symm hp), ih, List.filter_cons_of_pos (by simp [hp]), List.append_assoc]
        rfl
  exact hfold []

theorem State.outputTo_contiguous (s : State) (hsgl : x.desc.sgl = false) (bs : Bytes) :
    (s.outputTo x 0 bs).host = Cells.writeBytes s.host x.desc.outAddr bs := by
  unfold State.outputTo
  cases bs with
  | nil => rfl
  | cons b bs => simp [hsgl, State.hostWrite]

theorem State.outputTo_scattered (s : State) (hsgl : x.desc.sgl = true) (bs : Bytes) {b : Nat}
    (hb : ∀ p ∈ x.outList, b < p.1 ∨ p.1 + p.2 ≤ b) :
    Cells.get byte0 (s.outputTo x 0 bs).host b = Cells.get byte0 s.host b := by
  unfold State.outputTo
  split
  · rfl
  · rw [listFrom_zero]
    exact State.scatter_host (fun p hp => hb p (List.mem_of_mem_filter hp)) s bs

/-! ## The commit (R12, R80, R385) -/

/-- The entry as a COMMIT with output leaves it to its end. -/
def Entry.committing (x : Entry) (out : Bytes) (info : Nat) : Entry :=
  { x with outBytes := out.length, output := [], info := info }

theorem State.publish_hosted (hhere : x.spilled = none) (hkept : x.discard = false) (hmaster : (s.fn x.tenant).bme = true)
    (off : Nat) (bs : Bytes) : s.publish e x off bs = s.outputTo x off bs := by
  simp [State.publish, hhere, hkept, hmaster]

/-- A COMMIT whose output fits: the output is written first, and then the operation ends; its record goes to the queue
that was there before. -/
theorem State.commitOut_fits (h : s.Records e x) {out : Bytes} (hfits : out.length ≤ x.desc.outCap) (info : Nat) :
    ∃ w : State, s.commitOut e out info = w.finish e .ok ∧ w.Records e (x.committing out info) ∧
      w.host = ((s.setEntry e (x.committing out info)).outputTo x 0 out).host ∧ w.sqs = s.sqs ∧ w.cqs = s.cqs := by
  obtain ⟨hx, hown, hhere, hkept, hmaster, hfirst⟩ := h
  obtain ⟨u, hu⟩ : ∃ u, u = (s.setEntry e (x.committing out info)).outputTo x 0 out := ⟨_, rfl⟩
  have hframe : u = { s.setEntry e (x.committing out info) with host := u.host } := by
    rw [hu]
    exact State.outputTo_frame _ x 0 out
  have hpublish : (s.setEntry e (x.committing out info)).publish e x 0 out = u :=
    (State.publish_hosted hhere hkept (by exact hmaster) 0 out).trans hu.symm
  obtain ⟨n, hn⟩ : ∃ n, n = (match x.target with | .stope n _ _ => some n | _ => none) := ⟨_, rfl⟩
  have hcommit : s.commitOut e out info = ((u.measure e x).pmu 0x11 x.tenant n none 1).finish e .ok := by
    rw [State.commitOut, hx]
    refine (if_neg (Nat.not_lt.mpr hfits)).trans ?_
    rw [hn, ← hpublish]
    rfl
  obtain ⟨w, hw⟩ : ∃ w, w = (u.measure e x).pmu 0x11 x.tenant n none 1 := ⟨_, rfl⟩
  rw [← hw] at hcommit
  have hholdings : w.holdings = (u.measure e x).holdings := by
    rw [hw]
    exact State.holdings_pmu ..
  have hentry : w.entry e = some (x.committing out info) := by
    refine (State.entry_congr (congrArg (fun h : Holdings => h.work.tally) hholdings) e).trans ?_
    rw [hframe]
    exact State.entry_setEntry s e _
  have hside : w.hostSide = { s.hostSide with host := u.host } := by
    refine (State.hostSide_of_holdings _ hholdings).trans ?_
    rw [hframe]
    rfl
  refine ⟨w, hcommit, ⟨hentry, hown, hhere, hkept, ?_, ?_⟩, ?_, congrArg HostSide.sqs hside,
    congrArg HostSide.cqs hside⟩
  · exact (congrFun (congrArg HostSide.master hside) x.tenant).trans hmaster
  · exact (congrArg Cq.waiting (State.cq_congr (congrArg HostSide.cqs hside) _ _)).trans hfirst
  · rw [← hu]
    exact congrArg HostSide.host hside

/-- A COMMIT whose output does not fit ends the operation with the size in its record. -/
theorem State.commitOut_over (h : s.Records e x) {out : Bytes} (hover : x.desc.outCap < out.length) (info : Nat) :
    s.commitOut e out info = (s.setEntry e { x with outBytes := out.length }).finish e .outputTooSmall := by
  rw [State.commitOut, h.entry]
  exact if_pos hover

/-- The status and the count of a record (R79, R80). -/
theorem Entry.record_fields (x : Entry) (head : Nat) (phase : Bool) :
    leField (x.record head phase) 8 2 = x.status.code ∧ leField (x.record head phase) 12 4 = x.recordBytes % 2 ^ 32 := by
  obtain ⟨-, -, hcode, -, hbytes, -⟩ := completionRecordLayout x head phase
  exact ⟨hcode, hbytes⟩

section
variable (h : s.Records e x) (hopen : (s.cq x.tenant x.cq).open = true) {out : Bytes} (info : Nat)
include h hopen

/-- A COMMIT whose output fits: its record says OK and how much was written, and every byte outside the slot is as the
output left it. -/
theorem State.commitOut_fits_bytes (hfits : out.length ≤ x.desc.outCap) :
    let a := (s.cq x.tenant x.cq).slot
    let t := s.commitOut e out info
    leField (t.hostRead a 32) 8 2 = 0 ∧ leField (t.hostRead a 32) 12 4 = out.length % 2 ^ 32 ∧
      ∀ b, b < a ∨ a + 32 ≤ b → Cells.get byte0 t.host b =
        Cells.get byte0 ((s.setEntry e (x.committing out info)).outputTo x 0 out).host b := by
  intro a t
  obtain ⟨w, hcommit, hrecords, hhost, hsqs, hcqs⟩ := State.commitOut_fits h hfits info
  have hcq : w.cq x.tenant x.cq = s.cq x.tenant x.cq := State.cq_congr hcqs _ _
  have hbytes := hrecords.bytes .ok w.stamp ((congrArg Cq.open hcq).trans hopen)
  rw [show w.cq (x.committing out info).tenant (x.committing out info).cq = _ from hcq] at hbytes
  obtain ⟨hrecord, hother⟩ := hbytes
  have ht : t = w.settle e .ok w.stamp := hcommit
  obtain ⟨hcode, hcount⟩ := ((x.committing out info).ended .ok w.stamp).record_fields
    (w.sq x.tenant x.sq).head (s.cq x.tenant x.cq).phase
  rw [ht, hrecord]
  exact ⟨hcode, hcount, fun b hb => (hother b hb).trans (by rw [hhost])⟩

/-- A COMMIT whose output does not fit: its record says so with the size, and nothing else is written. -/
theorem State.commitOut_over_bytes (hover : x.desc.outCap < out.length) :
    let a := (s.cq x.tenant x.cq).slot
    let t := s.commitOut e out info
    leField (t.hostRead a 32) 8 2 = 0x0106 ∧ leField (t.hostRead a 32) 12 4 = out.length % 2 ^ 32 ∧
      ∀ b, b < a ∨ a + 32 ≤ b → Cells.get byte0 t.host b = Cells.get byte0 s.host b := by
  intro a t
  obtain ⟨w, hw⟩ : ∃ w, w = s.setEntry e { x with outBytes := out.length } := ⟨_, rfl⟩
  have hrecords : w.Records e { x with outBytes := out.length } := by
    obtain ⟨-, hown, hhere, hkept, hmaster, hfirst⟩ := h
    rw [hw]
    exact ⟨State.entry_setEntry .., hown, hhere, hkept, hmaster, hfirst⟩
  have ht : t = w.settle e .outputTooSmall w.stamp := by
    rw [hw]
    exact State.commitOut_over h hover info
  have hhost : w.host = s.host := by rw [hw, State.setEntry_host]
  have hcq : w.cq x.tenant x.cq = s.cq x.tenant x.cq := by
    rw [hw]
    rfl
  have hbytes := hrecords.bytes .outputTooSmall w.stamp ((congrArg Cq.open hcq).trans hopen)
  rw [hcq] at hbytes
  obtain ⟨hrecord, hother⟩ := hbytes
  obtain ⟨hcode, hcount⟩ := (Entry.ended { x with outBytes := out.length } .outputTooSmall w.stamp).record_fields
    (w.sq x.tenant x.sq).head (s.cq x.tenant x.cq).phase
  rw [ht, hrecord]
  exact ⟨hcode, hcount, fun b hb => (hother b hb).trans (by rw [hhost])⟩

end

end

theorem outputIsWritten : Claims.OutputIsWritten := by
  intro s e x out info hx hdispatched hown hhere hkept hmaster hfirst hopen c a t
  have h : s.Records e x := ⟨hx, hown, hhere, hkept, hmaster, hfirst⟩
  refine ⟨fun hfits hsgl hapart => ?_, fun hfits hsgl b hb hlist => ?_, fun hover => ?_⟩
  · obtain ⟨hcode, hcount, hother⟩ := State.commitOut_fits_bytes h hopen info hfits
    have hput := State.outputTo_contiguous (s.setEntry e (x.committing out info)) hsgl out
    refine ⟨?_, hcode, hcount, fun b hb hout => ?_⟩
    · have hread : t.hostRead x.desc.outAddr out.length =
          ((s.setEntry e (x.committing out info)).outputTo x 0 out).hostRead x.desc.outAddr out.length :=
        Cells.readBytes_congr fun b hlo hhi => hother b (show b < a ∨ a + 32 ≤ b by omega)
      rw [hread, State.hostRead, hput]
      exact Cells.readBytes_writeBytes ..
    · refine (hother b hb).trans ?_
      rw [hput]
      exact Cells.get_writeBytes_outside hout
  · obtain ⟨-, -, hother⟩ := State.commitOut_fits_bytes h hopen info hfits
    exact (hother b hb).trans (State.outputTo_scattered _ hsgl out hlist)
  · exact State.commitOut_over_bytes h hopen info hover

/-- Settles O28: the layout field by field, the record by the slot it goes to, the output by what is written before it. -/
theorem recordsAndOutput : Obligations.RecordsAndOutput := ⟨completionRecordLayout, recordIsWritten, outputIsWritten⟩

/-! ## A full queue (R69, O55) -/

theorem Cq.open_iff {c : Cq} (hon : c.en = true) (hsound : c.error = false) :
    c.open = true ↔ (c.tail + 1) % queueSize c.cfg ≠ c.hostHead % queueSize c.cfg := by
  simp [Cq.open, hon, hsound]

/-- STALLED of `TNT_CQ_STS` while a record waits for a full queue (R63). -/
theorem State.showQueue_stalled {s : State} {t q : Nat} (hwaits : (s.cq t q).waiting ≠ [])
    (hstalled : (s.cq t q).stalled = true) (hsound : (s.cq t q).error = false) (htail : (s.cq t q).tail < 65536) :
    bit (s.showQueue t q 0x130) 18 = true := by
  have hwait : (s.cq t q).waiting.isEmpty = false := by simpa using hwaits
  have hphase : b2n (s.cq t q).phase ≤ 1 := by cases (s.cq t q).phase <;> decide
  have hen : b2n (s.cq t q).en ≤ 1 := by cases (s.cq t q).en <;> decide
  have hword : s.showQueue t q 0x130 = num ((s.cq t q).errCause * 2 ^ 28 + 2 ^ 18 + b2n (s.cq t q).phase * 2 ^ 17 +
      b2n (s.cq t q).en * 65536 + (s.cq t q).tail) := by
    simp [State.showQueue, hwait, hstalled, hsound, b2n]
  rw [hword]
  simp only [bit, num, BitVec.getLsbD_ofNat, Nat.testBit_eq_decide_div_mod_eq]
  simp
  omega

/-- Settles O55: the record with none before it is written or waits, as its slot is free or not. -/
theorem recordsWaitForASlot : Obligations.RecordsWaitForASlot := by
  unfold Obligations.RecordsWaitForASlot
  intro s e x st hx hqueued hown hhere hresv hindex hkept hmaster htenant hq c a t hfirst hon hsound htail
  have h : s.Records e x := ⟨hx, hown, hhere, hkept, hmaster, hfirst⟩
  refine ⟨fun hfree => ?_, fun hfull => ?_⟩
  · have hopen := (Cq.open_iff hon hsound).mpr hfree
    obtain ⟨-, hentry, hwaiting⟩ := h.written st s.stamp hopen
    obtain ⟨hrecord, -⟩ := h.bytes st s.stamp hopen
    obtain ⟨hcode, -⟩ := (x.ended st s.stamp).record_fields (s.sq x.tenant x.sq).head c.phase
    exact ⟨hentry, (congrArg (fun r => leField r 8 2) hrecord).trans hcode, hwaiting⟩
  · have hclosed : c.open = false := Bool.eq_false_iff.mpr fun hopen => (Cq.open_iff hon hsound).mp hopen hfull
    obtain ⟨hhost, hcq, hentry⟩ := h.waits st s.stamp hclosed
    change t.cq x.tenant x.cq = { c with waiting := [e] } at hcq
    have hstalled : c.stalled = true := by simpa [Cq.stalled, hon, hsound] using hfull
    have hshows : bit (t.showQueue x.tenant x.cq 0x130) 18 = true :=
      State.showQueue_stalled (by simp [hcq]) (by rw [hcq]; exact hstalled) (by rw [hcq]; exact hsound)
        (by rw [hcq]; exact htail)
    exact ⟨hhost, by rw [hcq], by rw [hcq], hshows, _, hentry, rfl, rfl⟩

end Sys2Proof.Machine
end

section
/-! PROOF. Bus mastering and MSI-X (R61, R101, O25): the messages that go when a function may send, and the queues and
operations of one that is no bus master any more. -/
namespace Sys2Proof.Machine

/-! ## Messages that the PBA holds (R101) -/

/-- The function once the pending messages of its unmasked vectors have gone. -/
def Fn.flushed (f : Fn) : Fn :=
  { f with pba := f.pba.filter (fun v => !f.unmasked.contains v)
           sent := (f.pba.filter fun v => f.unmasked.contains v).foldl (fun m v => bumpAt m v 1) f.sent }

section
variable {s : State} {t : Nat}

theorem State.flushPba_setFn {f : Fn} (hmaster : f.bme = true) (hmask : f.fnMask = false) :
    (s.setFn t f).flushPba t = (s.setFn t f).setFn t f.flushed := by
  have hgoes : (f.bme && !f.fnMask) = true := by simp [hmaster, hmask]
  rw [State.flushPba, State.fn_setFn]
  exact if_pos hgoes

variable (hclock : s.avs.tripped = false) (hready : s.cfgReady = true) (hfn : (s.fn t).enabled = true)
include hclock hready hfn

theorem exec_busMasterEnableSet : exec (.busMasterEnableSet t) s =
    .next ((s.setFn t { s.fn t with bme := true }).flushPba t) :=
  (s.clocked_running hclock _).trans (congrArg Host.Outcome.next (if_pos (by simp [hready, hfn])))

theorem exec_msixUnmask {v : Nat} (hv : v ≤ 64) : exec (.msixUnmask t v) s =
    .next ((s.setFn t { s.fn t with unmasked := withOne (s.fn t).unmasked v }).flushPba t) :=
  (s.clocked_running hclock _).trans (congrArg Host.Outcome.next (if_pos (by simp [hready, hfn, hv])))

end

/-! ## Every queue in error (R61) -/

theorem Cells.get_modify {α : Type} [DecidableEq α] (d : Nat → α) (m : Cells α) (k j : Nat) (g : α → α) :
    Cells.get d (Cells.modify d m k g) j = if j = k then g (Cells.get d m k) else Cells.get d m j := Cells.get_set ..

/-- Changing the records at some keys, each to one that satisfies `P`, leaves every one of them satisfying it. -/
theorem Cells.foldl_modify_all {α : Type} [DecidableEq α] {d : Nat → α} {P : α → Prop} {g : α → α}
    (hg : ∀ x, P (g x)) (key : Nat → Nat) {l : List Nat} {q : Nat} (hq : q ∈ l) (m : Cells α) :
    P (Cells.get d (l.foldl (fun m q => Cells.modify d m (key q) g) m) (key q)) := by
  have hkeeps (l : List Nat) : ∀ m : Cells α, P (Cells.get d m (key q)) →
      P (Cells.get d (l.foldl (fun m q => Cells.modify d m (key q) g) m) (key q)) := by
    induction l with
    | nil => exact fun m h => h
    | cons a l ih =>
      intro m h
      refine ih _ ?_
      simp only [Cells.get_modify]
      split
      · exact hg _
      · exact h
  induction l generalizing m with
  | nil => cases hq
  | cons a l ih =>
    obtain rfl | hq := List.mem_cons.mp hq
    · refine hkeeps l _ ?_
      simp only [Cells.get_modify, if_true]
      exact hg _
    · exact ih hq _

/-- The SQ in error with ERRCAUSE BME. -/
def Sq.noMaster (x : Sq) : Sq := { x with error := true, errCause := 4 }

/-- The CQ in error with ERRCAUSE BME. -/
def Cq.noMaster (x : Cq) : Cq := { x with error := true, errCause := 4 }

section
variable (s : State) (t : Nat) (l : List Nat)

/-- Some SQs of a function in error for want of bus mastering. -/
def State.failSqs (s : State) (t : Nat) (l : List Nat) : State := l.foldl (fun s q => s.setSq t q (s.sq t q).noMaster) s

/-- Some CQs of a function in error for want of bus mastering. -/
def State.failCqs (s : State) (t : Nat) (l : List Nat) : State := l.foldl (fun s q => s.setCq t q (s.cq t q).noMaster) s

theorem State.failSqs_eq : s.failSqs t l =
    { s with sqs := l.foldl (fun m q => Cells.modify sqDefault m (queueKey t q) Sq.noMaster) s.sqs } := by
  induction l generalizing s with
  | nil => rfl
  | cons q l ih => exact ih (s.setSq t q (s.sq t q).noMaster)

theorem State.failCqs_eq : s.failCqs t l =
    { s with cqs := l.foldl (fun m q => Cells.modify cqDefault m (queueKey t q) Cq.noMaster) s.cqs } := by
  induction l generalizing s with
  | nil => rfl
  | cons q l ih => exact ih (s.setCq t q (s.cq t q).noMaster)

theorem State.failQueues_holdings : ((s.failSqs t l).failCqs t l).holdings =
    { s.holdings with
      sqs := l.foldl (fun m q => Cells.modify sqDefault m (queueKey t q) Sq.noMaster) s.sqs
      cqs := l.foldl (fun m q => Cells.modify cqDefault m (queueKey t q) Cq.noMaster) s.cqs } := by
  rw [State.failCqs_eq, State.failSqs_eq]
  rfl

/-- Beside the queues only latches change. -/
theorem State.bmeFail_holdings : (s.bmeFail t).holdings =
    ((s.failSqs t (List.range 64)).failCqs t (List.range 64)).holdings := by
  have hfail : s.bmeFail t = (((((s.failSqs t (List.range 64)).failCqs t (List.range 64)).setErr (.tnt t) 16).setInt
      (.tnt t) 16).setErr (.tnt t) 17).setInt (.tnt t) 17 := rfl
  simp [hfail]

/-- A function that is no bus master: each of its queues is in error, host memory and Tally are as they were. -/
theorem State.bmeFail_reads :
    (∀ q < 64, ((s.bmeFail t).sq t q).error = true ∧ ((s.bmeFail t).sq t q).errCause = 4 ∧
      ((s.bmeFail t).cq t q).error = true ∧ ((s.bmeFail t).cq t q).errCause = 4) ∧
    (s.bmeFail t).workload = s.workload := by
  have hfail := (s.bmeFail_holdings t).trans (s.failQueues_holdings t (List.range 64))
  have hlist (q : Nat) (hq : q < 64) : q ∈ List.range 64 := List.mem_range.mpr hq
  generalize s.bmeFail t = u, List.range 64 = l at hfail hlist
  refine ⟨fun q hq => ?_, (congrArg Holdings.work hfail :)⟩
  have hsq := Cells.foldl_modify_all (d := sqDefault) (P := fun x => x.error = true ∧ x.errCause = 4) (g := Sq.noMaster)
    (fun _ => ⟨rfl, rfl⟩) (queueKey t) (hlist q hq) s.sqs
  have hcq := Cells.foldl_modify_all (d := cqDefault) (P := fun x => x.error = true ∧ x.errCause = 4) (g := Cq.noMaster)
    (fun _ => ⟨rfl, rfl⟩) (queueKey t) (hlist q hq) s.cqs
  have hsqs : u.sqs = _ := congrArg Holdings.sqs hfail
  have hcqs : u.cqs = _ := congrArg Holdings.cqs hfail
  rw [State.sq, State.cq, hsqs, hcqs]
  exact ⟨hsq.1, hsq.2, hcq⟩

end

/-! ## The entries of a function (R61) -/

section
variable {s : State}

theorem mem_insertAdmitted {a b : Nat × Entry} {l : List (Nat × Entry)} : b ∈ insertAdmitted a l ↔ b = a ∨ b ∈ l := by
  induction l with
  | nil => simp [insertAdmitted]
  | cons c l ih =>
    unfold insertAdmitted
    split
    · rw [List.mem_cons, ih, List.mem_cons]
      tauto
    · exact List.mem_cons

theorem State.mem_entriesWhere {p : Entry → Bool} {e : Nat} :
    e ∈ s.entriesWhere p ↔ ∃ x, (e, x) ∈ s.tally.entries ∧ p x = true := by
  have hsorted (l : List (Nat × Entry)) (a : Nat × Entry) : a ∈ l.foldr insertAdmitted [] ↔ a ∈ l := by
    induction l with
    | nil => rfl
    | cons b l ih => rw [List.foldr_cons, mem_insertAdmitted, ih, List.mem_cons]
  simp [State.entriesWhere, hsorted]

theorem Cells.le_of_mem {α : Type} {m : Cells α} {lo k : Nat} {v : α} (h : Cells.risingFrom lo m = true)
    (hm : (k, v) ∈ m) : lo ≤ k := by
  induction m generalizing lo with
  | nil => cases hm
  | cons p m ih =>
    obtain ⟨j, w⟩ := p
    simp only [Cells.risingFrom, Bool.and_eq_true, decide_eq_true_eq] at h
    obtain hp | hm := List.mem_cons.mp hm
    · cases hp
      exact h.1
    · have := ih h.2 hm
      omega

/-- In a table whose keys rise, a key is listed once. -/
theorem lookup_eq_some_iff {α : Type} {m : Cells α} {lo k : Nat} {v : α} (h : Cells.risingFrom lo m = true) :
    lookup m k = some v ↔ (k, v) ∈ m := by
  induction m generalizing lo with
  | nil => simp [lookup]
  | cons p m ih =>
    obtain ⟨j, w⟩ := p
    simp only [Cells.risingFrom, Bool.and_eq_true, decide_eq_true_eq] at h
    by_cases hk : j = k
    · subst hk
      have hnot : (j, v) ∉ m := fun hm => by
        have := Cells.le_of_mem h.2 hm
        omega
      simp [lookup, hnot, eq_comm]
    · have hskip : lookup ((j, w) :: m) k = lookup m k := by simp [lookup, hk]
      rw [hskip, ih h.2, List.mem_cons]
      simp [Ne.symm hk]

/-- The entry's outcome is discarded when it comes. -/
def Entry.discarded (x : Entry) : Entry := { x with discard := true }

/-- Entries of a list whose outcomes are discarded. -/
def State.discardAll (s : State) (l : List Nat) : State := s.forEntries l fun s e => s.modEntry e Entry.discarded

theorem State.entry_modEntry (s : State) (a e : Nat) (f : Entry → Entry) :
    (s.modEntry a f).entry e = if e = a then (s.entry e).map f else s.entry e := by
  unfold State.modEntry
  split
  case h_1 x hx =>
    split
    case isTrue h => rw [h, State.entry_setEntry, hx, Option.map_some]
    case isFalse h => exact s.entry_setEntry_other _ h
  case h_2 hx =>
    split
    case isTrue h => rw [h, hx, Option.map_none]
    case isFalse => rfl

theorem State.entry_discardAll (s : State) (l : List Nat) (e : Nat) :
    (s.discardAll l).entry e = if e ∈ l then (s.entry e).map Entry.discarded else s.entry e := by
  induction l generalizing s with
  | nil => simp [State.discardAll, State.forEntries]
  | cons a l ih =>
    have hrest : (s.discardAll (a :: l)).entry e = ((s.modEntry a Entry.discarded).discardAll l).entry e := rfl
    rw [hrest, ih, State.entry_modEntry]
    by_cases ha : e = a <;> by_cases hl : e ∈ l <;> cases s.entry e <;> simp [ha, hl, Entry.discarded]

/-- Every operation of a function, and no other, has its outcome discarded. -/
theorem State.entry_discardTenant (hrising : Cells.risingFrom 0 s.tally.entries = true) {e : Nat} {x : Entry}
    (hx : s.entry e = some x) (t : Nat) : (s.discardAll (s.entriesWhere fun x => x.tenant == t)).entry e =
      some { x with discard := x.discard || x.tenant == t } := by
  have hlisted : e ∈ s.entriesWhere (fun x => x.tenant == t) ↔ x.tenant = t := by
    rw [State.mem_entriesWhere]
    constructor
    · rintro ⟨y, hy, htenant⟩
      have hyx : y = x := Option.some.inj (((lookup_eq_some_iff hrising).mpr hy).symm.trans hx)
      simpa [hyx] using htenant
    · exact fun htenant => ⟨x, (lookup_eq_some_iff hrising).mp hx, by simpa using htenant⟩
  rw [State.entry_discardAll, hx, Option.map_some]
  by_cases htenant : x.tenant = t
  · have hflag : (x.discard || x.tenant == t) = true := by simp [htenant]
    rw [if_pos (hlisted.mpr htenant), hflag]
    rfl
  · have hflag : (x.discard || x.tenant == t) = x.discard := by simp [htenant]
    rw [if_neg (mt hlisted.mp htenant), hflag]

theorem State.hostSide_discardAll (s : State) (l : List Nat) : (s.discardAll l).hostSide = s.hostSide := by
  refine foldl_keeps (fun s e _ => ?_) s
  unfold State.modEntry
  split <;> rfl

end

/-! ## The clear of Bus Master Enable -/

/-- With no outcome of the function decided, its queues go into error and the outcomes to come are discarded. -/
theorem State.bmeClear_undecided {s : State} {t : Nat} (hmaster : (s.fn t).bme = true)
    (hopen : ∀ p ∈ s.tally.entries, p.2.tenant = t → p.2.decided = false) :
    ∃ u : State, u = (s.setFn t { s.fn t with bme := false }).bmeFail t ∧
      s.bmeClear t = u.discardAll (u.entriesWhere fun x => x.tenant == t) := by
  refine ⟨_, rfl, ?_⟩
  obtain ⟨u, hu⟩ : ∃ u, u = (s.setFn t { s.fn t with bme := false }).bmeFail t := ⟨_, rfl⟩
  have hentries : u.tally = s.tally := by
    rw [hu]
    exact congrArg Workload.tally (State.bmeFail_reads _ t).2
  have hnone : u.entriesWhere (fun x => x.tenant == t && x.decided) = [] := by
    refine List.eq_nil_iff_forall_not_mem.mpr fun e he => ?_
    obtain ⟨x, hx, hdecided⟩ := State.mem_entriesWhere.mp he
    obtain ⟨htenant, hdone⟩ : x.tenant = t ∧ x.decided = true := by simpa using hdecided
    have := hopen (e, x) (hentries ▸ hx) htenant
    simp [hdone] at this
  have hclear : s.bmeClear t =
      (let v := u.forEntries (u.entriesWhere fun x => x.tenant == t && x.decided) fun s e => s.freeEntry e
       v.forEntries (v.entriesWhere fun x => x.tenant == t) fun s e => s.modEntry e Entry.discarded) := by
    rw [hu]
    exact if_neg (by simp [hmaster])
  rw [hclear, hnone, ← hu]
  rfl

/-- Settles O25: messages by the flush of the PBA, the clear of Bus Master Enable by its queues and its entries. -/
theorem busMasteringAndVectors : Obligations.BusMasteringAndVectors := by
  unfold Obligations.BusMasteringAndVectors
  intro s t hready hfn hclock f sent
  refine ⟨fun hmask => ?_, fun v hv hmaster hmask => ?_, fun hmaster hrising hopen => ?_⟩
  · exact (exec_busMasterEnableSet hclock hready hfn).trans (congrArg Host.Outcome.next (State.flushPba_setFn rfl hmask))
  · exact (exec_msixUnmask hclock hready hfn hv).trans
      (congrArg Host.Outcome.next (State.flushPba_setFn hmaster hmask))
  · obtain ⟨u, hu, hclear⟩ := State.bmeClear_undecided hmaster hopen
    obtain ⟨hqueues, hwork⟩ := (s.setFn t { s.fn t with bme := false }).bmeFail_reads t
    rw [← hu] at hqueues hwork
    have hside := u.hostSide_discardAll (u.entriesWhere fun x => x.tenant == t)
    rw [← hclear] at hside
    have hentries : u.tally = s.tally := congrArg Workload.tally hwork
    have hoff : (u.fn t).bme = false :=
      (congrFun (congrArg Workload.master hwork) t).trans (congrArg Fn.bme (s.fn_setFn t _))
    have hhost : u.host = s.host := congrArg Workload.host hwork
    refine ⟨_, s.clocked_running hclock _, (congrFun (congrArg HostSide.master hside) t).trans hoff, fun q hq => ?_,
      fun e x hx => ?_, (congrArg HostSide.host hside).trans hhost⟩
    · rw [State.sq_congr (congrArg HostSide.sqs hside :) t q, State.cq_congr (congrArg HostSide.cqs hside :) t q]
      exact hqueues q hq
    · rw [hclear]
      exact State.entry_discardTenant (hentries ▸ hrising) ((State.entry_congr hentries e).trans hx) t

end Sys2Proof.Machine
end

section
/-! PROOF. Timed ends (R83, R88, R102, R122, R254, O29): each timed step by its guard. -/
namespace Sys2Proof.Machine

/-! ## Timed ends -/

section
variable {s : State} {e : Nat} {x : Entry}

theorem State.entropyTimeout_waiting (hx : s.entry e = some x) (hwaits : x.state = .waitEntropy)
    (hfirst : x.waitAt < x.deadline) : s.entropyTimeout e = (s.advanceTo x.waitAt).finish e .noEntropy := by
  simp [State.entropyTimeout, hx, hwaits, hfirst]

theorem State.holdRelease_held (hx : s.entry e = some x) (hheld : x.state = .hold) :
    s.holdRelease e = (s.advanceTo x.releaseAt).finish e x.status := by
  simp [State.holdRelease, hx, hheld]

theorem State.eqtRelease_waiting (hx : s.entry e = some x) (hdispatched : x.state = .dispatched)
    (hgoes : x.stopping = none) (hwaits : x.await = .eqt) : s.eqtRelease e =
      ((s.advanceTo x.releaseAt).setEntry e { x with await := .none }).commitOut e x.output x.info := by
  simp [State.eqtRelease, hx, Entry.live, hdispatched, hgoes, hwaits]

/-- A deadline ends an operation that waits (R88). -/
theorem State.deadlineExpiry_waiting (hx : s.entry e = some x) (hwaits : x.state = .queued ∨ x.state = .waitEntropy) :
    s.deadlineExpiry e = ((s.advanceTo x.deadline).finish e .deadlineExpired).nextStamp := by
  have hx' : (s.advanceTo x.deadline).entry e = some x := hx
  obtain h | h := hwaits <;> simp [State.deadlineExpiry, State.endWith, hx, hx', Entry.decided, h]

/-- It does not affect one that is held or committed. -/
theorem State.deadlineExpiry_over (hx : s.entry e = some x) (hover : x.state = .hold ∨ x.state = .committed) :
    s.deadlineExpiry e = s := by
  obtain h | h := hover <;> simp [State.deadlineExpiry, hx, Entry.decided, h]

theorem exec_cqIrqTimer (hclock : s.avs.tripped = false) {t q : Nat} (ht : t < 256) (hq : q < 64)
    (hon : bit (s.cq t q).irq 0 = true) (htimer : field (s.cq t q).irq 31 16 ≠ 0) (hcounted : (s.cq t q).counted ≠ 0) :
    exec (.cqIrqTimer t q) s =
      .next ((s.advanceTo ((s.cq t q).firstCounted + field (s.cq t q).irq 31 16 * 1000)).raiseCq t q) := by
  have hqueue : (decide (t < 256) && decide (q < 64)) = true := by simp [ht, hq]
  have hruns : (bit (s.cq t q).irq 0 && field (s.cq t q).irq 31 16 != 0 && (s.cq t q).counted != 0) = true := by
    simp [hon, htimer, hcounted]
  exact (s.clocked_running hclock _).trans (congrArg Host.Outcome.next ((if_pos hqueue).trans (if_pos hruns)))

end

theorem timedCompletions : Claims.TimedCompletions := by
  intro s e x hclock hx
  refine ⟨fun hwaits hfirst => ?_, fun hheld => ?_, fun hdispatched hgoes hwaits => ?_, fun hwaits => ?_,
    fun hover => ?_, fun t q => exec_cqIrqTimer hclock⟩
  all_goals refine (s.clocked_running hclock _).trans (congrArg Host.Outcome.next ?_)
  · exact State.entropyTimeout_waiting hx hwaits hfirst
  · exact State.holdRelease_held hx hheld
  · exact State.eqtRelease_waiting hx hdispatched hgoes hwaits
  · exact State.deadlineExpiry_waiting hx hwaits
  · exact State.deadlineExpiry_over hx hover

end Sys2Proof.Machine
end

section
/-! PROOF. An engine out of use (R339): once it is reset and runs nothing, the end of an operation leaves it as it is while its
Stope is not drained. -/
namespace Sys2Proof.Machine

/-- Engine `i` of Stope `n` is `g`, and the Stope is not drained (R41). -/
structure Stands (n i : Nat) (g : Eng) (s : State) : Prop where
  eng : s.eng n i = g
  undrained : s.draining (.stp n) = false

namespace Stands
variable {n i : Nat} {g : Eng} {s t u : State}

/-! ## Changes beside engines and registers -/

/-- Only fields other than the engines and the registers differ. -/
theorem upd
    {stamp edge freeNext flaws prims flips latches host pending txn dir fns sqs cqs tally hdf lode cny ent ctxs dgs slc
     shafts stopes runs kstQueue samplers lcc zdp rst spdms avs bwNext}
    (h : Stands n i g s) :
    Stands n i g { s with
      stamp, edge, freeNext, flaws, prims, flips, latches, host, pending, txn, dir, fns, sqs, cqs, tally, hdf, lode, cny,
      ent, ctxs, dgs, slc, shafts, stopes, runs, kstQueue, samplers, lcc, zdp, rst, spdms, avs, bwNext } :=
  ⟨h.eng, h.undrained⟩

theorem ite {c : Prop} {inst : Decidable c} (ht : Stands n i g t) (hu : Stands n i g u) :
    Stands n i g (if c then t else u) := by
  split
  exacts [ht, hu]

theorem foldl {β : Type} {f : State → β → State} {l : List β} (h : Stands n i g s)
    (hf : ∀ s, ∀ x ∈ l, Stands n i g s → Stands n i g (f s x)) : Stands n i g (l.foldl f s) := by
  induction l generalizing s with
  | nil => exact h
  | cons x l ih =>
    exact ih (hf s x List.mem_cons_self h) fun s y hy => hf s y (List.mem_cons_of_mem x hy)

/-! ## Latches and counters -/

/-- A register other than `CTL` changes (R41). -/
theorem setReg {p : Page} {off : Nat} {v : Word} (h : Stands n i g s) (hoff : 0x008 ≠ off % 0x1000) :
    Stands n i g (s.setReg p off v) :=
  ⟨h.eng, (congrArg (bit · 1) (s.reg_setReg_offset v hoff)).trans h.undrained⟩

theorem raiseVector {t v : Nat} (h : Stands n i g s) : Stands n i g (s.raiseVector t v) := .ite h.upd h.upd

theorem setInt {p : Page} {k : Nat} (h : Stands n i g s) : Stands n i g (s.setInt p k) :=
  have hset {v : Word} : Stands n i g (s.setReg p 0x01C v) := h.setReg (by decide)
  .ite h (.ite hset.raiseVector hset)

theorem setErr {p : Page} {k : Nat} (h : Stands n i g s) : Stands n i g (s.setErr p k) :=
  have hset {v : Word} : Stands n i g (s.setReg p.first 0x010 v) := h.setReg (by decide)
  .ite hset hset.setInt

theorem logEvent {kind cls tenant block unit d0 st d1 : Nat} (h : Stands n i g s) :
    Stands n i g (s.logEvent kind cls tenant block unit d0 st d1) :=
  .ite h.upd.setInt h.upd

/-- No page has more than 16 counters (R522). -/
theorem bumpCounter {p : Page} {k d : Nat} (hk : k < 16) (h : Stands n i g s) : Stands n i g (s.bumpCounter p k d) := by
  have hlo {v : Word} : Stands n i g (s.setReg p (0x180 + 8 * k) v) := h.setReg (by omega)
  have hhi {v w : Word} : Stands n i g ((s.setReg p (0x180 + 8 * k) v).setReg p (0x184 + 8 * k) w) :=
    hlo.setReg (by omega)
  exact .ite hhi (hhi.setReg (by decide)).setInt

theorem countIn {p : Page} {num ev t d : Nat} {m j : Option Nat} (hnum : num ≤ 16) (h : Stands n i g s) :
    Stands n i g (s.countIn p num ev t m j d) :=
  .ite h <| h.foldl fun _ _ hk h => .ite (h.bumpCounter ((List.mem_range.mp hk).trans_le hnum)) h

theorem pmu {ev t d : Nat} {m j : Option Nat} (h : Stands n i g s) : Stands n i g (s.pmu ev t m j d) :=
  (h.countIn (by decide)).countIn (by decide)

theorem dropFlaws {p : FlawAt → Bool} (h : Stands n i g s) : Stands n i g (s.dropFlaws p) := h.upd

/-! ## Records (R66, R69, R102) -/

theorem hostWrite {a : Nat} {bs : Bytes} (h : Stands n i g s) : Stands n i g (s.hostWrite a bs) := h.upd

theorem setCq {t q : Nat} {c : Cq} (h : Stands n i g s) : Stands n i g (s.setCq t q c) := h.upd

theorem moderate {t q : Nat} (h : Stands n i g s) : Stands n i g (s.moderate t q) := .ite h.upd.raiseVector h

theorem countRecord {t q : Nat} {x : Entry} (h : Stands n i g s) : Stands n i g (s.countRecord t q x) :=
  .ite h.upd.moderate h

theorem writeRecord {e : Nat} {x : Entry} (h : Stands n i g s) : Stands n i g (s.writeRecord e x) := by
  rw [State.writeRecord_eq]
  have hplaced : Stands n i g (s.placeRecord e x) := h.hostWrite.setCq.upd
  exact (Stands.ite hplaced.pmu hplaced.pmu.pmu).countRecord

theorem drainFuel {t q fuel : Nat} (h : Stands n i g s) : Stands n i g (Machine.drainFuel t q fuel s) := by
  induction fuel generalizing s with
  | zero => exact h
  | succ fuel ih =>
    unfold Machine.drainFuel
    dsimp only
    split
    · refine .ite ?_ h
      split
      exacts [ih h.writeRecord, ih h.upd]
    · exact h

theorem queueRecord {e : Nat} {x : Entry} (h : Stands n i g s) : Stands n i g (s.queueRecord e x) := h.upd.drainFuel

/-! ## What was reserved, and the manager's result -/

/-- What is freed in Lode and Tally lies elsewhere. -/
theorem elsewhere : Elsewhere (Stands n i g) := ⟨fun _ _ => propext ⟨.upd, .upd⟩, fun _ _ => propext ⟨.upd, .upd⟩⟩

theorem dropResv {e : Nat} (h : Stands n i g s) : Stands n i g (s.dropResv e) := by rwa [elsewhere.dropResv]

theorem dropKids {e : Nat} {x : Entry} (h : Stands n i g s) : Stands n i g (s.dropKids e x) := by
  rwa [elsewhere.dropKids]

theorem countLost {x : Entry} {st : Status} (h : Stands n i g s) : Stands n i g (s.countLost x st) := by
  rwa [elsewhere.countLost]

theorem spillResult {e token : Nat} {x : Entry} (h : Stands n i g s) : Stands n i g (s.spillResult e x token) :=
  .ite h.upd (.ite h.upd (.ite h.upd h.upd))

/-! ## The unit is released (R240, R293) -/

theorem leaveShaft {m e : Nat} {committed : Bool} (h : Stands n i g s) : Stands n i g (s.leaveShaft m e committed) := by
  unfold State.leaveShaft
  dsimp only
  split
  · split
    · exact h.upd
    split
    exacts [.ite h.upd h.upd, h.upd]
  · exact .ite h.upd h.upd
  · exact h.upd

theorem samplerSettle {m : Nat} (h : Stands n i g s) : Stands n i g (s.samplerSettle m) := .ite h.upd h

/-- Other engines get their records. -/
theorem mapEngs {m : Nat} {l : List Nat} {f : Eng → Eng} (hl : ∀ j ∈ l, engKey n i ≠ engKey m j) (h : Stands n i g s) :
    Stands n i g (s.mapEngs m l f) := by
  have hframe : s.mapEngs m l f = { s with engs := (s.mapEngs m l f).engs } := State.putEngs_frame ..
  refine ⟨(State.eng_putEngs_other s _ m l hl).trans h.eng, ?_⟩
  rw [hframe]
  exact h.undrained

section
variable (hi : i < 16)
include hi

/-- Another Stope is reset (R446). -/
theorem resetStope {m : Nat} (hm : m ≠ n) (h : Stands n i g s) : Stands n i g (s.resetStope m) := by
  have hother : ∀ j ∈ List.range 16, engKey n i ≠ engKey m j := by
    intro j hj
    have hj16 := List.mem_range.mp hj
    simp only [engKey]
    omega
  have hengs : Stands n i g (s.mapEngs m (List.range 16) fun _ => {}) := h.mapEngs hother
  unfold State.resetStope
  generalize s.mapEngs m (List.range 16) (fun _ => {}) = u at hengs ⊢
  exact hengs.upd

/-- A Stope settles: one that is reset then is drained, so another (R41, R513). -/
theorem stopeSettled {m : Nat} (h : Stands n i g s) : Stands n i g (s.stopeSettled m) := by
  unfold State.stopeSettled
  split
  case isFalse => exact h
  case isTrue hdrained =>
    have hm : m ≠ n := by
      rintro rfl
      simp [h.undrained] at hdrained
    exact .ite (h.setInt.resetStope hi hm) h.setInt

variable (hoff : g.run = none)
include hoff

/-- The engines of a run are released: the engine is none of them, since it runs nothing. -/
theorem endRun {e : Nat} {wipe : Bool} (h : Stands n i g s) : Stands n i g (s.endRun e wipe) := by
  unfold State.endRun
  split
  case h_1 => exact h
  case h_2 r _ =>
    extract_lets u v
    have hv : Stands n i g v := h.upd.samplerSettle.upd
    refine .ite (hv.stopeSettled hi) (.stopeSettled hi (hv.mapEngs fun j hj hkey => ?_))
    have hruns : (v.eng r.stope j).run = some e := by simpa using (List.mem_filter.mp hj).2
    have hsame : v.eng r.stope j = g := (congrArg (Cells.get engDefault v.engs) hkey.symm).trans hv.eng
    rw [hsame, hoff] at hruns
    cases hruns

theorem releaseUnit {e : Nat} {target : Target} {committed : Bool} (h : Stands n i g s) :
    Stands n i g (s.releaseUnit e target committed) := by
  cases target with
  | stope m first w => exact h.endRun hi hoff
  | shaft m => exact h.leaveShaft
  | worker d => exact h
  | none => exact h

/-! ## The operation ends (R82, R94, R339) -/

theorem freeEntry {e : Nat} (h : Stands n i g s) : Stands n i g (s.freeEntry e) := by
  unfold State.freeEntry
  split
  · extract_lets u v w
    have hu : Stands n i g u := h.dropResv.dropKids
    have hv : Stands n i g v := .ite hu.countLost hu
    have hw : Stands n i g w := .ite (hv.releaseUnit hi hoff) hv
    exact hw.upd
  · exact h

theorem letGo {e : Nat} {x : Entry} {st : Status} (h : Stands n i g s) : Stands n i g (s.letGo e x st) :=
  (Stands.ite (h.releaseUnit hi hoff) h).dropResv.dropKids.countLost

theorem settleOne {e : Nat} {st : Status} {now : Stamp} (h : Stands n i g s) : Stands n i g (s.settleOne e st now) := by
  cases hx : s.entry e with
  | none =>
    rw [State.settleOne, hx]
    exact h
  | some x =>
    rw [State.settleOne_of_entry hx]
    have hv : Stands n i g ((s.letGo e x st).setEntry e (x.ended st now)) := (h.letGo hi hoff).upd
    exact .ite hv.upd (.ite hv.spillResult (.ite (hv.freeEntry hi hoff) hv.queueRecord))

theorem finish {e : Nat} {st : Status} (h : Stands n i g s) : Stands n i g (s.finish e st) := by
  have hone := h.settleOne (e := e) (st := st) (now := s.stamp) hi hoff
  unfold State.finish State.settle
  dsimp only
  split
  · exact h
  split
  · exact hone
  split
  exacts [.ite (hone.settleOne hi hoff) hone, hone]

theorem requeue {e : Nat} (h : Stands n i g s) : Stands n i g (s.requeue e) := by
  unfold State.requeue
  split
  exacts [h, (h.releaseUnit hi hoff).upd]

theorem endStopped {e : Nat} {how : StopEnd} (h : Stands n i g s) : Stands n i g (s.endStopped e how) := by
  cases how with
  | status st => exact h.finish hi hoff
  | requeue => exact h.requeue hi hoff
  | free => exact h.freeEntry hi hoff

theorem engineAck {e : Nat} (h : Stands n i g s) : Stands n i g (s.engineAck e) := by
  unfold State.engineAck
  split
  · split
    exacts [(Stands.ite h.pmu h).endStopped hi hoff, h]
  · exact h

end
end Stands

end Sys2Proof.Machine
end

section
/-! PROOF. Stops (R339, O29): the operation whose engines acknowledged, and the engine that did not. -/
namespace Sys2Proof.Machine

/-- What an engine is once it is reset (R339, R340): its self-test runs, and its counts and fault record stay. -/
def Eng.afterReset (g : Eng) : Eng :=
  { mode := 8, resets := g.resets + 1, restarts := g.restarts, fault := g.fault, faddr := g.faddr, fpc := g.fpc
    fstamp := g.fstamp, fop := g.fop }

/-- Engine `i` of Stope `n` is reset, counted and recorded at the end of its `TO` (R339). -/
def State.engineFailed (s : State) (n i : Nat) (timeout : Stamp) : State :=
  let u := ((s.advanceTo timeout).setEng n i (s.eng n i).afterReset).dropFlaws (FlawAt.inLocal n [i])
  let v := (u.setErr (.stp n) 5).setErr (.eng n (i / 2)) (20 + i % 2)
  v.logEvent 0x000C 1 deviceTenant 0x0040 n i v.stamp ((s.eng n i).resets + 1)

/-- Does an engine of Stope `n` still run entry `e`? -/
def State.stillRuns (s : State) (n e : Nat) : Bool := (List.range 16).any fun j => (s.eng n j).run == some e

section
variable {s : State} {n i e : Nat} {x : Entry} {how : StopEnd}

theorem State.engineAck_stopped {m first w : Nat} (hx : s.entry e = some x) (htarget : x.target = .stope m first w)
    (hstopping : x.stopping = some how) (hends : how ≠ .requeue) : s.engineAck e = s.endStopped e how := by
  simp [State.engineAck, hx, htarget, hstopping, hends]

theorem State.engineReset_stopping (hmode : (s.eng n i).mode = 5) (hrun : (s.eng n i).run = some e)
    (hx : s.entry e = some x) (hstopping : x.stopping.isSome = true) :
    s.engineReset n i =
      let w := s.engineFailed n i (x.stopAt + x.stopTo)
      if w.stillRuns n e then w else w.engineAck e := by
  have hgoes : ¬(decide ((s.eng n i).mode ≠ 5) || !x.stopping.isSome) = true := by simp [hmode, hstopping]
  simp only [State.engineReset, hrun, hx, if_neg hgoes]
  rfl

/-- The end of its `TO` changes no engine but the one that is reset, and drains no Stope. -/
theorem Stands.engineFailed {m j : Nat} {g : Eng} {timeout : Stamp}
    (h : Stands m j g (s.setEng n i (s.eng n i).afterReset)) : Stands m j g (s.engineFailed n i timeout) := by
  have hadvanced : Stands m j g ((s.advanceTo timeout).setEng n i (s.eng n i).afterReset) := h.upd
  unfold State.engineFailed
  exact hadvanced.dropFlaws.setErr.setErr.logEvent

/-- After the `TO` of an engine that did not acknowledge, either another engine still runs the operation, and the other
engines are as they were, or the operation ends; the engine stays as its reset left it. -/
theorem State.engineReset_stands (hi : i < 16) (hmode : (s.eng n i).mode = 5) (hrun : (s.eng n i).run = some e)
    (hx : s.entry e = some x) (hstopping : x.stopping.isSome = true) (hundrained : s.draining (.stp n) = false) :
    Stands n i (s.eng n i).afterReset (s.engineReset n i) ∧
      ∀ j, j < 16 → j ≠ i → (s.eng n j).run ≠ some e ∨ (s.engineReset n i).eng n j = s.eng n j := by
  rw [State.engineReset_stopping hmode hrun hx hstopping]
  extract_lets w
  have hreset : Stands n i (s.eng n i).afterReset w :=
    Stands.engineFailed ⟨s.eng_setEng n i _, hundrained⟩
  have hothers : ∀ j, j ≠ i → w.eng n j = s.eng n j := fun j hj =>
    (Stands.engineFailed ⟨s.eng_setEng_other n _ (fun hkey => hj (Nat.add_left_cancel hkey)), hundrained⟩).eng
  split
  case isTrue => exact ⟨hreset, fun j _ hj => .inr (hothers j hj)⟩
  case isFalse hlast =>
    refine ⟨hreset.engineAck hi rfl, fun j hj16 hj => .inl fun hruns => hlast ?_⟩
    rw [State.stillRuns, List.any_eq_true]
    exact ⟨j, List.mem_range.mpr hj16, by simp [hothers j hj, hruns]⟩

end

theorem engineStops : Claims.EngineStops := by
  intro s hclock
  refine ⟨fun e x n f w how hx htarget hstopping hends => ?_,
    fun n i e x hn hi hmode hrun hx hstopping hundrained => ?_, fun n i pass hn hi hmode => ?_,
    fun n i pass hout => ?_⟩
  · have hack := State.engineAck_stopped hx htarget hstopping hends
    exact (s.clocked_running hclock _).trans (congrArg Host.Outcome.next hack)
  · have hengine : (decide (n < 64) && decide (i < 16)) = true := by simp [hn, hi]
    obtain ⟨hstands, hothers⟩ := State.engineReset_stands hi hmode hrun hx hstopping hundrained
    refine ⟨s.engineReset n i, (s.clocked_running hclock _).trans (if_pos hengine), hothers, ?_⟩
    rw [hstands.eng]
    exact ⟨rfl, rfl, rfl⟩
  · have hengine : (decide (n < 64) && decide (i < 16)) = true := by simp [hn, hi]
    exact (s.clocked_running hclock _).trans ((if_pos hengine).trans (congrArg Host.Outcome.next (if_pos hmode)))
  · have hno : ¬(decide (n < 64) && decide (i < 16)) = true := by simpa using hout
    exact (s.clocked_running hclock _).trans (if_neg hno)

/-- Settles O29: each timed step by its guard; the engine that did not acknowledge runs nothing once it is reset, and then
the end of its operation leaves it alone while its Stope is not drained. -/
theorem timedEnds : Obligations.TimedEnds := ⟨timedCompletions, engineStops⟩

end Sys2Proof.Machine
end

section
/-! PROOF. A kernel that runs (R112, R120, R130, R230, R235, R257), for every table of operations: with its randomness there
and its checks passed it answers its outcome, and a draw that succeeds hands its bytes on. -/
namespace Sys2Proof.Machine

section
variable {s : State} {e : Nat} {x : Entry}

/-- A kernel that has the randomness it needs and no failing check does its work (R130, R230). -/
theorem State.kernel_of_running {k : OpKind} {fails : State → Entry → List Status} {act : State → Entry → State}
    (hrun : s.running e k = some x) (hmask : needsEntropy k x.desc.options = true → s.maskOk e x = true)
    (hpass : fails s x = []) : s.kernel e k fails act = act s x := by
  have hdry : (needsEntropy k x.desc.options && !s.maskOk e x) = false := by
    rw [Bool.and_eq_false_imp]
    intro hneeds
    rw [hmask hneeds, Bool.not_true]
  simp [State.kernel, hrun, hdry, hpass, lowest]

/-! ## Draws (R120, R257) -/

theorem State.withDraw_of_has {len : Nat} {f : State → Bytes → State} (h : Claims.has false len s x = true) :
    s.withDraw e x len f = f (Claims.after false len s x) (Claims.val false [] len s x) := by
  obtain ⟨bs, hbs⟩ := Option.isSome_iff_exists.mp h
  unfold State.withDraw
  split
  next t b hdraw => simp [Claims.after, Claims.val, hdraw]
  next t hdraw => simp [hdraw] at hbs

/-- A value that its option supplies, or that is drawn. -/
theorem State.seedOr_of_has {given : Bool} {bs : Bytes} {len : Nat} {f : State → Bytes → State}
    (h : Claims.has given len s x = true) :
    s.seedOr e x given bs len f = f (Claims.after given len s x) (Claims.val given bs len s x) := by
  cases given with
  | true => rfl
  | false => exact State.withDraw_of_has h

theorem State.blindCurve_of_has {pp : Nat} {f : State → State} (h : Claims.has false (Claims.blindLen pp) s x = true) :
    s.blindCurve e x pp f = f (Claims.after false (Claims.blindLen pp) s x) :=
  State.withDraw_of_has h

/-- The blinding of a point multiplication is drawn after the operation's own value (R235). -/
theorem State.seedOr_blindCurve_of_has {pp : Nat} {given : Bool} {bs : Bytes} {len : Nat} {f : State → Bytes → State}
    (h : Claims.hasBlind pp given len s x = true) :
    (s.seedOr e x given bs len fun s r => s.blindCurve e x pp fun s => f s r) =
      f (Claims.afterBlind pp given len s x) (Claims.val given bs len s x) := by
  obtain ⟨hown, hblind⟩ := Bool.and_eq_true_iff.mp h
  rw [State.seedOr_of_has hown, State.blindCurve_of_has hblind, Claims.afterBlind]

end

end Sys2Proof.Machine

namespace Sys2Proof.Claims
open Sys2Proof.Machine

/-- A row's operation completes: what `Operates` says of each row of a table. -/
def OpRow.Completes (row : OpRow) : Prop := Operates [row]

theorem operates_nil : Operates [] := List.forall_mem_nil _

theorem operates_cons {row : OpRow} {rows : List OpRow} (h : row.Completes) (hrest : Operates rows) :
    Operates (row :: rows) :=
  List.forall_mem_cons.mpr ⟨h row (List.mem_singleton_self row), hrest⟩

theorem operates_append {rows rows' : List OpRow} (h : Operates rows) (h' : Operates rows') : Operates (rows ++ rows') :=
  List.forall_mem_append.mpr ⟨h, h'⟩

/-- An operation whose command runs its kernel completes when what its row asks for passes the kernel's checks and leads
the kernel's work to the row's outcome. -/
theorem OpRow.completes_of_kernel {row : OpRow} {fails : State → Entry → List Status} {act : Nat → State → Entry → State}
    (hexec : ∀ s e, exec (row.cmd e) s = s.clocked (.next (s.kernel e row.kind fails (act e))))
    (hpass : ∀ s e x, row.fits s e x = true → fails s x = [])
    (hact : ∀ s e x, row.fits s e x = true → act e s x = row.result s e x) : row.Completes := by
  intro r hr s e x hclock hrun hmask hfits
  obtain rfl := List.mem_singleton.mp hr
  rw [hexec, s.clocked_running hclock, State.kernel_of_running hrun hmask (hpass s e x hfits), hact s e x hfits]

/-! ## Checks of keys by value (R112, R161) -/

theorem keyCheck_passes {byValue ok : Bool} {st : Status} (h : (!byValue || ok) = true) :
    (if byValue && !ok then [st] else []) = [] := by
  cases byValue with
  | false => rfl
  | true =>
    obtain rfl : ok = true := h
    rfl

theorem pointChecks_pass {byValue : Bool} {fails : List Status} (h : (!byValue || fails.isEmpty) = true) :
    (if byValue then fails else []) = [] := by
  cases byValue with
  | false => rfl
  | true => exact List.isEmpty_iff.mp h

end Sys2Proof.Claims
end

section
/-! PROOF. ML-KEM, ML-DSA, their expansions and the composites (R110 to R137, O11): each operation's row by its kernel. A
key generation, EXPAND and EVICT are one lemma each, for whichever family has them. -/
namespace Sys2Proof.Claims
open Sys2Proof.Machine

/-! ## Key generation (R110, R115, R235) -/

/-- The seed as its option leaves it, given or drawn, makes the pair that the row names. -/
theorem keyPair_seed (x : Entry) (s : State) :
    (let alg := opAlg x.desc.opcode
     let r := val (x.desc.opt 0) (slice x.aux 32 (seedLen alg)) (drawLen alg) s x
     keyPair alg (if x.desc.opt 0 then r else drawnSeed alg r)) = pairFrom x s := by
  unfold pairFrom
  cases x.desc.opt 0 <;> rfl

/-- The seed that is given or drawn, and the blinding that a curve's pair takes, lead to the pair and its check. -/
theorem keygenRow_completes {cmd : Nat → Instr} {k : OpKind} {ok : Entry → Bool}
    (hexec : ∀ s e, exec (cmd e) s = s.clocked (.next (s.keygen e k)))
    (hseed : ∀ x, ok x = true → k = .ecKeygen →
      (!(x.desc.opt 0 && ecNist (pp x)) || scalarOk (pp x) (slice x.aux 32 (ecSizes (pp x)).1)) = true) :
    (keygenRow cmd k ok).Completes := by
  refine OpRow.completes_of_kernel hexec (fun s e x hfits => ?checks) fun s e x hfits => ?outcome
  all_goals obtain ⟨hok, hdraws⟩ := Bool.and_eq_true_iff.mp hfits
  case checks =>
    refine if_neg fun hfails => ?_
    simp only [Bool.and_eq_true, beq_iff_eq, Bool.not_eq_true'] at hfails
    obtain ⟨⟨⟨hk, hgiven⟩, hnist⟩, hrange⟩ := hfails
    simpa [pp, hgiven, hnist, hrange] using hseed x hok hk
  case outcome =>
    simp only [keygenRow, ← keyPair_seed]
    by_cases hcurve : opFamily (opAlg x.desc.opcode) = 8
    case pos =>
      simp only [hcurve, State.blindPair, beq_self_eq_true, if_true] at hdraws ⊢
      rw [State.seedOr_blindCurve_of_has hdraws]
    case neg =>
      simp only [hcurve, State.blindPair, beq_iff_eq, if_false] at hdraws ⊢
      rw [State.seedOr_of_has hdraws]

/-! ## Expansions (R126, R127) -/

/-- EXPAND uses the expansion that is resident, one stored while its kernel ran among them (log 30), or stores its own. -/
theorem expandRow_completes {cmd : Nat → Instr} {k : OpKind}
    (hexec : ∀ s e, exec (cmd e) s = s.clocked (.next (s.expand e k))) : (expandRow cmd k).Completes := by
  refine OpRow.completes_of_kernel hexec (fun _ _ _ _ => rfl) fun s e x _ => ?_
  simp only [expandRow, State.resident, Bool.and_eq_true, beq_iff_eq, bne_iff_ne]

theorem evictRow_completes {cmd : Nat → Instr} {k : OpKind}
    (hexec : ∀ s e, exec (cmd e) s = s.clocked (.next (s.evict e k))) : (evictRow cmd k).Completes :=
  OpRow.completes_of_kernel hexec (fun _ _ _ _ => rfl) fun _ _ _ _ => rfl

/-! ## ML-KEM (R110 to R114, R126, R127) -/

theorem kemRows_operate : Operates (latticeRows.take 6) := by
  refine operates_cons (keygenRow_completes (fun _ _ => rfl) fun _ _ hk => nomatch hk) <| operates_cons ?encaps <|
    operates_cons ?decaps <| operates_cons ?ekcheck <| operates_cons (expandRow_completes fun _ _ => rfl) <|
    operates_cons (evictRow_completes fun _ _ => rfl) operates_nil
  case encaps =>
    refine OpRow.completes_of_kernel (fun _ _ => rfl) (fun s e x hfits => ?_) fun s e x hfits => ?_
    all_goals obtain ⟨hkey, hdraw⟩ := Bool.and_eq_true_iff.mp hfits
    · exact keyCheck_passes hkey
    · exact State.seedOr_of_has hdraw
  case decaps => exact OpRow.completes_of_kernel (fun _ _ => rfl) (fun _ _ _ _ => rfl) fun _ _ _ _ => rfl
  case ekcheck => exact OpRow.completes_of_kernel (fun _ _ => rfl) (fun _ _ _ hfits => if_pos hfits) fun _ _ _ _ => rfl

/-! ## ML-DSA (R115 to R124, R126, R127) -/

theorem dsaRows_operate : Operates ((latticeRows.drop 6).take 6) := by
  refine operates_cons (keygenRow_completes (fun _ _ => rfl) fun _ _ hk => nomatch hk) <| operates_cons ?sign <|
    operates_cons ?wrongLength <| operates_cons ?verify <| operates_cons (expandRow_completes fun _ _ => rfl) <|
    operates_cons (evictRow_completes fun _ _ => rfl) operates_nil
  case sign =>
    refine OpRow.completes_of_kernel (fun _ _ => rfl) (fun _ _ _ _ => rfl) fun s e x hfits => ?_
    obtain ⟨hlen, hdraw⟩ := Bool.and_eq_true_iff.mp hfits
    exact (if_neg (by simpa using hlen)).trans (State.seedOr_of_has hdraw)
  case wrongLength =>
    refine OpRow.completes_of_kernel (fun _ _ => rfl) (fun _ _ _ _ => rfl) fun s e x hfits => ?_
    simp only [Bool.and_eq_true] at hfits
    obtain ⟨⟨hlen, hmu⟩, hdraw⟩ := hfits
    exact (if_pos hlen).trans ((State.withDraw_of_has hmu).trans (State.seedOr_of_has hdraw))
  case verify =>
    exact OpRow.completes_of_kernel (fun _ _ => rfl) (fun _ _ _ hlen => if_neg (by simpa using hlen)) fun _ _ _ _ => rfl

/-! ## Composites (R133 to R137) -/

theorem compositeRows_operate : Operates (latticeRows.drop 12) := by
  refine operates_cons ?encaps <| operates_cons ?decaps <| operates_cons ?sign <| operates_cons ?verify operates_nil
  case encaps =>
    refine OpRow.completes_of_kernel (fun _ _ => rfl) (fun s e x hfits => ?_) fun s e x hfits => ?_
    all_goals
      obtain ⟨hkeys, hdraws⟩ := Bool.and_eq_true_iff.mp hfits
      obtain ⟨hlattice, hcurve⟩ := Bool.and_eq_true_iff.mp hkeys
    · exact List.append_eq_nil_iff.mpr ⟨keyCheck_passes hlattice, pointChecks_pass hcurve⟩
    · exact State.seedOr_blindCurve_of_has (given := false) (bs := []) hdraws
  case decaps =>
    refine OpRow.completes_of_kernel (fun _ _ => rfl) (fun s e x hfits => ?_) fun s e x hfits => ?_
    all_goals obtain ⟨hpoint, hblind⟩ := Bool.and_eq_true_iff.mp hfits
    · exact if_pos hpoint
    · exact State.blindCurve_of_has hblind
  case sign =>
    refine OpRow.completes_of_kernel (fun _ _ => rfl) (fun s e x hfits => ?_) fun s e x hfits => ?_
    all_goals obtain ⟨hlen, hdraws⟩ := Bool.and_eq_true_iff.mp hfits
    · exact if_neg (by simpa using hlen)
    · exact State.seedOr_blindCurve_of_has hdraws
  case verify =>
    refine OpRow.completes_of_kernel (fun _ _ => rfl) (fun s e x hfits => ?_) fun _ _ _ _ => rfl
    obtain ⟨hlen, hcurve⟩ := Bool.and_eq_true_iff.mp hfits
    simp only [Bool.not_eq_true'] at hlen
    simp only [hlen, Bool.not_false, Bool.and_true]
    exact pointChecks_pass hcurve

/-- Settles O11: the rows of ML-KEM, of ML-DSA and of the composites, each by its kernel. -/
theorem latticeOperations : Obligations.LatticeOperations :=
  operates_append kemRows_operate (operates_append dsaRows_operate compositeRows_operate)

end Sys2Proof.Claims
end

section
/-! PROOF. SLH-DSA, Classic McEliece, HQC and elliptic curves (R142 to R161, R171, O12): each operation's row by its kernel.
Encapsulation and decapsulation are one lemma each, for both code-based families. -/
namespace Sys2Proof.Claims
open Sys2Proof.Machine

/-! ## SLH-DSA (R142 to R148) -/

/-- What an operation draws does not depend on its input. -/
theorem seedOr_withInput (s : State) (e : Nat) (x : Entry) (input : Bytes) (given : Bool) (bs : Bytes) (len : Nat)
    (f : State → Bytes → State) : s.seedOr e { x with input := input } given bs len f = s.seedOr e x given bs len f := rfl

theorem slhRows_operate : Operates (classicRows.take 3) := by
  refine operates_cons (keygenRow_completes (fun _ _ => rfl) fun _ _ hk => nomatch hk) <| operates_cons ?sign <|
    operates_cons ?verify operates_nil
  case sign =>
    refine OpRow.completes_of_kernel (fun _ _ => rfl) (fun s e x hfits => ?_) fun s e x hfits => ?_
    all_goals
      simp only [Bool.and_eq_true, beq_iff_eq] at hfits
      obtain ⟨⟨hlen, hchannel⟩, hdraw⟩ := hfits
    · exact if_pos hlen
    · have hserved : ¬(decide (x.desc.mode = 0) && x.sluice == .none && s.freeChannel.isNone) = true := by
        simpa [or_iff_not_imp_left, Option.isSome_iff_ne_none] using hchannel
      refine (if_neg hserved).trans ?_
      by_cases hpure : x.desc.mode = 0
      case pos =>
        simp only [hpure, if_true]
        exact (seedOr_withInput ..).trans (State.seedOr_of_has hdraw)
      case neg =>
        simp only [hpure, if_false]
        exact State.seedOr_of_has hdraw
  case verify =>
    exact OpRow.completes_of_kernel (fun _ _ => rfl) (fun _ _ _ hlen => if_pos hlen) fun _ _ _ _ => rfl

/-! ## Classic McEliece and HQC (R149 to R155) -/

theorem codeEncapsRow_completes {cmd : Nat → Instr} {k : OpKind}
    (hexec : ∀ s e, exec (cmd e) s = s.clocked (.next (s.codeEncaps e k))) : (codeEncapsRow cmd k).Completes := by
  refine OpRow.completes_of_kernel hexec (fun s e x hfits => ?_) fun s e x hfits => ?_
  all_goals obtain ⟨hkey, hdraw⟩ := Bool.and_eq_true_iff.mp hfits
  · exact keyCheck_passes hkey
  · exact State.withDraw_of_has hdraw

theorem codeDecapsRow_completes {cmd : Nat → Instr} {k : OpKind}
    (hexec : ∀ s e, exec (cmd e) s = s.clocked (.next (s.codeDecaps e k))) : (codeDecapsRow cmd k).Completes :=
  OpRow.completes_of_kernel hexec (fun _ _ _ _ => rfl) fun _ _ _ _ => rfl

theorem codeRows_operate : Operates ((classicRows.drop 3).take 6) := by
  refine operates_cons ?keygen <| operates_cons (codeEncapsRow_completes fun _ _ => rfl) <|
    operates_cons (codeDecapsRow_completes fun _ _ => rfl) <|
    operates_cons (keygenRow_completes (fun _ _ => rfl) fun _ _ hk => nomatch hk) <|
    operates_cons (codeEncapsRow_completes fun _ _ => rfl) <|
    operates_cons (codeDecapsRow_completes fun _ _ => rfl) operates_nil
  case keygen =>
    refine OpRow.completes_of_kernel (fun _ _ => rfl) (fun _ _ _ _ => rfl) fun s e x hdraw => ?_
    refine (State.seedOr_of_has hdraw).trans ?_
    by_cases hpin : x.desc.opt 1 = true <;> simp only [hpin, Bool.false_eq_true, if_true, if_false]

/-! ## Elliptic curves (R156 to R161, R171) -/

/-- The checks of an EdDSA context: the auxiliary lengths agree, and its mode admits the context's (R159, R171). -/
theorem contextChecks_pass {lensAgree : Prop} [Decidable lensAgree] {ctxBad : Bool} (hlens : lensAgree)
    (hctx : (!ctxBad) = true) :
    (if lensAgree then [] else [Status.lengthMismatch]) ++ (if ctxBad then [Status.valueRange] else []) = [] := by
  rw [if_pos hlens, if_neg (by simpa using hctx), List.append_nil]

/-- The nonce drawn for a signature is a draw of its own where DET does not supply it (R158). -/
theorem val_unless_given {α : Type} (given : Bool) (bs : Bytes) (len : Nat) (s : State) (x : Entry) (supplied : α)
    (f : Bytes → α) :
    (if given then supplied else f (val given bs len s x)) = if given then supplied else f (val false [] len s x) := by
  cases given <;> rfl

/-- The message an EdDSA signature covers: a digest formed in flight only in the pre-hash mode (R159). -/
theorem edMessage_eq (x : Entry) :
    (if x.desc.mode = 1 then (if x.desc.opt 3 then x.input else x.digest) else x.input) =
      if x.desc.mode = 1 ∧ x.desc.opt 3 = false then x.digest else x.input := by
  by_cases hprehash : x.desc.mode = 1 <;> cases x.desc.opt 3 <;> simp [hprehash]

theorem curveRows_operate : Operates (classicRows.drop 9) := by
  refine operates_cons (keygenRow_completes (fun _ _ => rfl) fun _ hok _ => hok) <| operates_cons ?sign <|
    operates_cons ?verify <| operates_cons ?agree <| operates_cons ?pkcheck operates_nil
  case sign =>
    refine OpRow.completes_of_kernel (fun _ _ => rfl) (fun s e x hfits => ?checks) fun s e x hfits => ?outcome
    case checks =>
      by_cases hnist : ecNist (pp x) = true
      case pos => exact if_pos hnist
      case neg =>
        simp only [hnist, Bool.false_eq_true, if_false, Bool.and_eq_true, beq_iff_eq] at hfits
        obtain ⟨⟨hlens, hctx⟩, _⟩ := hfits
        exact (if_neg hnist).trans (contextChecks_pass hlens hctx)
    case outcome =>
      by_cases hnist : ecNist (pp x) = true <;> simp only [hnist, Bool.false_eq_true, if_true, if_false] at hfits ⊢
      case pos =>
        refine (if_pos hnist).trans ((State.seedOr_blindCurve_of_has hfits).trans ?_)
        simp only [pp, val_unless_given (f := scalarFrom (opParam x.desc.opcode))]
      case neg =>
        obtain ⟨_, hblind⟩ := Bool.and_eq_true_iff.mp hfits
        refine (if_neg hnist).trans ((State.blindCurve_of_has hblind).trans ?_)
        simp only [edMessage_eq]
        rfl
  case verify =>
    refine OpRow.completes_of_kernel (fun _ _ => rfl) (fun s e x hfits => ?_) fun _ _ _ _ => rfl
    obtain ⟨hpoint, hmode⟩ := Bool.and_eq_true_iff.mp hfits
    refine List.append_eq_nil_iff.mpr ⟨ite_eq_right_iff.mpr fun hkey => ?_, ite_eq_left_iff.mpr fun hedwards => ?_⟩
    · simpa [hkey, pp] using hpoint
    · obtain ⟨hlens, hctx⟩ := Bool.and_eq_true_iff.mp ((Bool.or_eq_true_iff.mp hmode).resolve_left hedwards)
      exact contextChecks_pass hlens hctx
  case agree =>
    refine OpRow.completes_of_kernel (fun _ _ => rfl) (fun s e x hfits => ?_) fun s e x hfits => ?_
    all_goals obtain ⟨hpoint, hblind⟩ := Bool.and_eq_true_iff.mp hfits
    · exact List.isEmpty_iff.mp hpoint
    · exact State.blindCurve_of_has hblind
  case pkcheck =>
    exact OpRow.completes_of_kernel (fun _ _ => rfl) (fun _ _ _ hpoint => List.isEmpty_iff.mp hpoint) fun _ _ _ _ => rfl

/-- Settles O12: the rows of SLH-DSA, of the code-based schemes and of the curves, each by its kernel. -/
theorem hashCodeAndCurveOperations : Obligations.HashCodeAndCurveOperations :=
  operates_append slhRows_operate (operates_append codeRows_operate curveRows_operate)

end Sys2Proof.Claims
end

section
/-! PROOF. RSA, hashes, MACs, key derivation, AES-GCM and random bytes (R162 to R170, O13): each operation's row by its
kernel. -/
namespace Sys2Proof.Claims
open Sys2Proof.Machine

/-! ## RSA (R162 to R166, R233) -/

section
variable {s : State} {e : Nat} {x : Entry}

/-- An operation with a secret RSA key computes on the blinding values its Shaft job holds, or on those it draws (R233). -/
theorem blindRsa_of_has {f : State → State} (h : has (s.blindHeld e x) (16 + rsaK (opParam x.desc.opcode)) s x = true) :
    s.blindRsa e x f = f (after (s.blindHeld e x) (16 + rsaK (opParam x.desc.opcode)) s x) :=
  State.seedOr_of_has (bs := []) (f := fun s _ => f s) h

/-- A signature's blinding is drawn after its salt (R164, R233). -/
theorem seedOr_blindRsa_of_has {given : Bool} {bs : Bytes} {len : Nat} {f : State → Bytes → State}
    (h : hasRsa given len s e x = true) :
    (s.seedOr e x given bs len fun s r => s.blindRsa e x fun s => f s r) =
      f (afterRsa given len s e x) (val given bs len s x) := by
  obtain ⟨hown, hblind⟩ := Bool.and_eq_true_iff.mp h
  rw [State.seedOr_of_has hown, blindRsa_of_has hblind, afterRsa]

theorem rsaKeyFails_of_ok (h : rsaKeyOk x = true) : rsaKeyFails x = [] := keyCheck_passes h

end

theorem rsaRows_operate : Operates (symmetricRows.take 5) := by
  refine operates_cons ?keygen <| operates_cons ?sign <| operates_cons ?verify <| operates_cons ?encrypt <|
    operates_cons ?decrypt operates_nil
  case keygen =>
    exact OpRow.completes_of_kernel (fun _ _ => rfl) (fun _ _ _ _ => rfl) fun _ _ _ hdraw => State.withDraw_of_has hdraw
  case sign =>
    exact OpRow.completes_of_kernel (fun _ _ => rfl) (fun _ _ _ _ => rfl) fun _ _ _ hdraws => seedOr_blindRsa_of_has hdraws
  case verify =>
    exact OpRow.completes_of_kernel (fun _ _ => rfl) (fun _ _ _ hkey => rsaKeyFails_of_ok hkey) fun _ _ _ _ => rfl
  case encrypt =>
    refine OpRow.completes_of_kernel (fun _ _ => rfl) (fun s e x hfits => ?_) fun s e x hfits => ?_
    all_goals
      simp only [Bool.and_eq_true] at hfits
      obtain ⟨⟨hlabel, hkey⟩, hdraw⟩ := hfits
    · exact List.append_eq_nil_iff.mpr ⟨if_pos hlabel, rsaKeyFails_of_ok hkey⟩
    · exact State.withDraw_of_has hdraw
  case decrypt =>
    refine OpRow.completes_of_kernel (fun _ _ => rfl) (fun s e x hfits => ?_) fun s e x hfits => ?_
    all_goals
      simp only [Bool.and_eq_true] at hfits
      obtain ⟨⟨⟨hlabel, hrange⟩, hpadding⟩, hblind⟩ := hfits
    · have hnotOut := ne_true_of_eq_false (congrArg not hrange)
      exact List.append_eq_nil_iff.mpr ⟨if_pos hlabel, (if_neg hnotOut).trans (if_pos hpadding)⟩
    · exact blindRsa_of_has hblind

/-! ## Hashes, MACs and key derivation (R167, R168) -/

/-- A verification's verdict is that of the equality of the two tags (R168). -/
theorem verdict_of_eq (s : State) (e info : Nat) (tag tag' : Bytes) :
    (if tag = tag' then s.commitOut e [] info else s.commitReject e info) = verdict (tag == tag') s e info := by
  simp only [verdict, beq_iff_eq]

theorem macRows_operate : Operates ((symmetricRows.drop 5).take 6) := by
  refine operates_cons ?hash <| operates_cons ?hmac <| operates_cons ?hmacVerify <| operates_cons ?kmac <|
    operates_cons ?kmacVerify <| operates_cons ?kdf operates_nil
  case hash =>
    exact OpRow.completes_of_kernel (fun _ _ => rfl) (fun _ _ _ hlen => if_neg (by simpa using hlen)) fun _ _ _ _ => rfl
  case hmac => exact OpRow.completes_of_kernel (fun _ _ => rfl) (fun _ _ _ _ => rfl) fun _ _ _ _ => rfl
  case hmacVerify =>
    exact OpRow.completes_of_kernel (fun _ _ => rfl) (fun _ _ _ _ => rfl) fun _ _ _ _ => verdict_of_eq ..
  case kmac =>
    exact OpRow.completes_of_kernel (fun _ _ => rfl) (fun _ _ _ hlen => if_pos (beq_iff_eq.mp hlen)) fun _ _ _ _ => rfl
  case kmacVerify =>
    exact OpRow.completes_of_kernel (fun _ _ => rfl) (fun _ _ _ _ => rfl) fun _ _ _ _ => verdict_of_eq ..
  case kdf =>
    exact OpRow.completes_of_kernel (fun _ _ => rfl) (fun _ _ _ hlen => if_pos (beq_iff_eq.mp hlen)) fun _ _ _ _ => rfl

/-! ## AES-GCM and random bytes (R169, R170) -/

/-- The way of `State.randomOp` to a generate call (R170): with PR it reseeds its Stope's DRBG first, and ends as NO_ENTROPY
where that fails. -/
def renewThen (s : State) (e : Nat) (x : Entry) (generate : State → State) : State :=
  if x.desc.opt 0 then
    match x.target with
    | .stope m _ _ => match s.reseedStope m with | (s, true) => generate s | (s, false) => s.finish e .noEntropy
    | _ => generate s
  else generate s

theorem renewThen_of_renewed {s : State} {e : Nat} {x : Entry} {generate : State → State} (h : (renewed s x).1 = true) :
    renewThen s e x generate = generate (renewed s x).2 := by
  unfold renewThen
  unfold renewed at h ⊢
  by_cases hpr : x.desc.opt 0 = true
  case neg => simp [hpr]
  case pos =>
    cases htarget : x.target with
    | stope m first w =>
      simp only [hpr, htarget, if_true] at h ⊢
      split
      next t hreseeded => rw [hreseeded]
      next t hdry => simp [hdry] at h
    | shaft _ | worker _ | none => simp [hpr]

theorem gcmAndRandomRows_operate : Operates (symmetricRows.drop 11) := by
  refine operates_cons ?gcmSeal <| operates_cons ?gcmOpen <| operates_cons ?random operates_nil
  case gcmSeal =>
    exact OpRow.completes_of_kernel (fun _ _ => rfl) (fun _ _ _ _ => rfl) fun _ _ _ hdraw => State.seedOr_of_has hdraw
  case gcmOpen => exact OpRow.completes_of_kernel (fun _ _ => rfl) (fun _ _ _ _ => rfl) fun _ _ _ _ => rfl
  case random =>
    refine OpRow.completes_of_kernel (fun _ _ => rfl) (fun _ _ _ _ => rfl) fun s e x hfits => ?_
    obtain ⟨hrenewed, hdraw⟩ := Bool.and_eq_true_iff.mp hfits
    exact (renewThen_of_renewed hrenewed).trans (State.withDraw_of_has hdraw)

/-- Settles O13: the rows of RSA, of the hashes and their kin, and of AES-GCM and RANDOM, each by its kernel. -/
theorem rsaAndSymmetricOperations : Obligations.RsaAndSymmetricOperations :=
  operates_append rsaRows_operate (operates_append macRows_operate gcmAndRandomRows_operate)

end Sys2Proof.Claims
end

section
/-! PROOF. Stateful signatures (R175 to R194, R555, O15): each operation's row by its kernel. -/
namespace Sys2Proof.Machine

section
variable {s : State} {e i : Nat} {x : Entry} {f : Stateful}

/-- An operation that runs stands in Tally. -/
theorem State.entry_of_running {k : OpKind} (h : s.running e k = some x) : s.entry e = some x := by
  unfold State.running at h
  split at h
  case h_1 y hy => exact hy.trans (Option.ite_none_right_eq_some.mp h).2
  case h_2 => exact nomatch h

theorem State.modStf_of_stateful (h : (s.obj i).stf = some f) (g : Stateful → Stateful) :
    s.modStf i g = s.setObj i { s.obj i with stf := some (g f) } := by
  simp only [State.modStf, h]

/-- A signature's first commit point leads to what it has reserved (R186). -/
theorem State.reserve_of_has
    (h : (x.index.isSome || Claims.has (opFamily x.desc.opcode == 5) (stfN (opParam x.desc.opcode)) s x) = true) :
    (if x.index.isSome then s
      else s.seedOr e x (opFamily x.desc.opcode = 5) [] (stfN (opParam x.desc.opcode)) fun s c =>
        (s.modEntry e fun x => { x with output := c }).reserveFor' e) = Claims.reserved s e x := by
  unfold Claims.reserved
  by_cases hindex : x.index.isSome = true
  · rw [if_pos hindex, if_pos hindex]
  · rw [if_neg hindex, if_neg hindex]
    exact State.seedOr_of_has ((Bool.or_eq_true_iff.mp h).resolve_left hindex)

/-- A cache build that its share has room for starts (R190, R191). -/
theorem State.startCache_of_room (he : s.entry e = some x) (hf : (s.obj (handleIndex x.desc.key)).stf = some f)
    (hroom : s.granFixed x.tenant + cacheGranules (opFamily (s.obj (handleIndex x.desc.key)).attr.alg)
      (opParam (s.obj (handleIndex x.desc.key)).attr.alg) f.levels ≤ s.share x.tenant) :
    s.startCache e =
      let a := (s.obj (handleIndex x.desc.key)).attr.alg
      let g := cacheGranules (opFamily a) (opParam a) f.levels
      let t := (s.evictFor x.tenant g).modStf (handleIndex x.desc.key) fun f =>
        { f with cache := 1, cacheGran := g, cacheBy := some x.order }
      (t.setEntry e { x with await := .cache (handleIndex x.desc.key), kids := 0
                             part := stfChunks (opFamily a) (opParam a) f.levels }).startChunks e := by
  simp only [State.startCache, he, hf, if_neg (Nat.not_lt.mpr hroom)]

end

end Sys2Proof.Machine

namespace Sys2Proof.Claims
open Sys2Proof.Machine

/-- An operation whose command runs its kernel completes, where what its kernel's work leads to depends on the entry that
runs. -/
theorem OpRow.completes_of_kernel_running {row : OpRow} {fails : State → Entry → List Status}
    {act : Nat → State → Entry → State}
    (hexec : ∀ s e, exec (row.cmd e) s = s.clocked (.next (s.kernel e row.kind fails (act e))))
    (hpass : ∀ s e x, row.fits s e x = true → fails s x = [])
    (hact : ∀ s e x, s.entry e = some x → row.fits s e x = true → act e s x = row.result s e x) : row.Completes := by
  intro r hr s e x hclock hrun hmask hfits
  obtain rfl := List.mem_singleton.mp hr
  rw [hexec, s.clocked_running hclock, State.kernel_of_running hrun hmask (hpass s e x hfits),
    hact s e x (State.entry_of_running hrun) hfits]

/-! ## Key generation, signing and verification (R178, R186, R555) -/

theorem signatureRows_operate : Operates (statefulRows.take 3) := by
  refine operates_cons ?keygen <| operates_cons ?sign <| operates_cons ?verify operates_nil
  case keygen =>
    refine OpRow.completes_of_kernel (fun _ _ => rfl) (fun _ _ _ _ => rfl) fun s e x hfits => ?_
    obtain ⟨hwhole, hseed⟩ := Bool.and_eq_true_iff.mp hfits
    have hnotPart : ¬x.parent.isSome = true := by simpa using hwhole
    simp only [if_neg hnotPart]
    exact State.seedOr_of_has hseed
  case sign =>
    refine OpRow.completes_of_kernel (fun _ _ => rfl) (fun _ _ _ _ => rfl) fun s e x hfits => ?_
    obtain ⟨hdraw, hreserved⟩ := Bool.and_eq_true_iff.mp hfits
    simp only [State.reserve_of_has hdraw]
    cases hy : (reserved s e x).entry e with
    | none => simp [hy] at hreserved
    | some y =>
      simp only [hy, Bool.and_eq_true, Bool.not_eq_true'] at hreserved
      obtain ⟨⟨hopen, hindex⟩, hchannel⟩ := hreserved
      obtain ⟨n, hn⟩ := Option.isSome_iff_exists.mp hindex
      have hgoes : ¬(y.sluice == .none && (reserved s e x).freeChannel.isNone) = true := by
        simpa [Option.isSome_iff_ne_none, imp_iff_not_or] using hchannel
      simp only [hopen, hn, if_neg hgoes, Bool.false_eq_true, if_false]
      rfl
  case verify => exact OpRow.completes_of_kernel (fun _ _ => rfl) (fun _ _ _ _ => rfl) fun _ _ _ _ => rfl

/-! ## Query, floor and cache (R191, R193, R194) -/

theorem stateRows_operate : Operates (statefulRows.drop 3) := by
  refine operates_cons ?query <| operates_cons ?setfloor <| operates_cons ?cache operates_nil
  case query =>
    refine OpRow.completes_of_kernel (fun _ _ => rfl) (fun _ _ _ _ => rfl) fun s e x hstateful => ?_
    obtain ⟨f, hf⟩ := Option.isSome_iff_exists.mp hstateful
    simp only [keyOf] at hf ⊢
    simp only [hf, Option.getD_some]
  case setfloor =>
    refine OpRow.completes_of_kernel (fun _ _ => rfl) (fun s e x hfits => ?_) fun s e x hfits => ?_
    all_goals
      obtain ⟨f, hf⟩ : ∃ f, (s.obj (handleIndex x.desc.key)).stf = some f :=
        Option.ne_none_iff_exists'.mp fun hnone => by simp [keyOf, hnone] at hfits
      simp only [keyOf, hf, decide_eq_true_eq] at hfits ⊢
    · exact if_neg (Nat.not_lt.mpr hfits)
    · simp only [Option.getD_some, State.modStf_of_stateful hf]
      cases f.unknown <;> rfl
  case cache =>
    refine OpRow.completes_of_kernel_running (fun _ _ => rfl) (fun _ _ _ _ => rfl) fun s e x he hfits => ?_
    obtain ⟨f, hf⟩ : ∃ f, (s.obj (handleIndex x.desc.key)).stf = some f :=
      Option.ne_none_iff_exists'.mp fun hnone => by simp [keyOf, hnone] at hfits
    simp only [keyOf, hf, Option.getD_some, Bool.or_eq_true, beq_iff_eq] at hfits ⊢
    by_cases hready : f.cache = 2
    · rw [if_pos hready, if_pos hready]
    by_cases hbuilding : f.cache = 1
    · rw [if_neg hready, if_neg hready, if_pos hbuilding, if_pos hbuilding]
    have hroom := of_decide_eq_true (hfits.resolve_left (not_or.mpr ⟨hready, hbuilding⟩))
    rw [if_neg hready, if_neg hready, if_neg hbuilding, if_neg hbuilding, State.startCache_of_room he hf hroom]

/-- Settles O15: the rows of key generation, signing and verification, and of query, floor and cache, each by its kernel. -/
theorem statefulOperations : Obligations.StatefulOperations :=
  operates_append signatureRows_operate stateRows_operate

end Sys2Proof.Claims
end

section
/-! PROOF. The flash stores of Lode (R178 to R192, R216 to R220, O16): what each event does where its guard holds. -/
namespace Sys2Proof.Machine

/-! ## Lease writes (R184, R185) -/

/-- The record position a lease write takes, and the erase that a sector's 32nd record starts (R184). -/
def State.putLease (s : State) (w : LeaseWrite) (r : LeaseRec) : State :=
  let b := (s.leaseFlash w).getD false
  let recs := (s.sector b w.slot).recs ++ [r]
  s.setSector b w.slot { s.sector b w.slot with recs := recs, erasing := decide (32 ≤ recs.length) }

/-- A lease record has been read back well: the pending pair of the anchor is the committed one (R185). -/
def State.anchorLease (s : State) (w : LeaseWrite) (b : Bool) : State :=
  { s with lode := { s.lode with
    leaseActive := none, lastSlotB := Cells.set (fun _ => true) s.lode.lastSlotB w.slot b
    anchor := { s.lode.anchor with seqC := s.lode.anchor.seqP, digC := s.lode.anchor.digP } } }

section
variable {s : State} {w : LeaseWrite}

theorem State.leaseStart_of_request (hidle : s.lode.leaseActive = none)
    (hfirst : s.lode.leaseQueue.find? (fun w => !w.waitRetry) = some w) (hflash : (s.leaseFlash w).isSome = true)
    (hkey : s.lode.leaseKey.isSome = true) :
    let a := s.lode.anchor
    s.leaseStart = { s with lode := { s.lode with
      leaseActive := some w, leaseQueue := s.lode.leaseQueue.erase w
      anchor := { a with seqP := a.seqC + 1, digP := s.leaseDigest (some (s.leaseRecord w)) } } } := by
  have hgoes : ¬((s.leaseFlash w).isNone || s.lode.leaseKey.isNone) = true := by
    simp [← Option.not_isSome, hflash, hkey]
  simp only [State.leaseStart, hidle, hfirst, if_neg hgoes, Option.isSome_none, Bool.false_eq_true, if_false]

theorem State.leaseDone_good (hactive : s.lode.leaseActive = some w) :
    s.leaseDone true = ((s.putLease w (s.leaseRecord w)).anchorLease w ((s.leaseFlash w).getD false)).leaseApply w
      (s.leaseRecord w) := by
  simp only [State.leaseDone, hactive, if_true]
  rfl

theorem State.leaseDone_again (hactive : s.lode.leaseActive = some w) (htries : w.tries < 2) :
    s.leaseDone false =
      let u := s.putLease w { s.leaseRecord w with mac := [] }
      { u with lode := { u.lode with leaseActive := some { w with tries := w.tries + 1 } } } := by
  simp only [State.leaseDone, hactive, Bool.false_eq_true, if_false, if_pos htries]
  rfl

end

/-! ## Key records (R217, R220) -/

/-- The draw of an IV moves the entropy source and the free values only. -/
theorem State.drawCentral_frame (s : State) (cls len : Nat) :
    ∃ n f, (s.drawCentral cls len).1 = { s with ent := n, freeNext := f } := by
  unfold State.drawCentral
  split
  · exact s.centralFor_frame cls len
  · exact ⟨_, _, rfl⟩

/-- The records of an index once a new one stands: the newest of those before it stays (log 30). -/
def State.keepRecord (s : State) (w : StoreWrite) (r : KeyRecord) : State :=
  let ws := s.lode.writes.erase w
  { s with lode := { s.lode with
    writes := ws, recordSeq := r.seq, storeRetry := ws.any fun v => v.failed
    records := (s.lode.records.filter fun q => handleIndex q.handle != w.index) ++
      (newestRecord (s.lode.records.filter fun q => handleIndex q.handle == w.index)).toList ++ [r] } }

/-- The record that a write programs, but for its blob. -/
def State.recordFor (s : State) (w : StoreWrite) (key : Bytes) : KeyRecord :=
  { handle := w.handle, seq := s.lode.recordSeq + 1, marker := w.marker, obj := w.obj, under := key }

section
variable {s : State} {w : StoreWrite} {key : Bytes}

theorem State.recordOf_marker (hkey : s.lode.storageKey = some key) (hmarker : w.marker = true) :
    s.recordOf w = (s, some (s.recordFor w key)) := by
  simp only [State.recordOf, hkey, hmarker, if_true, State.recordFor]

theorem State.recordOf_drawn {iv : Bytes} (hkey : s.lode.storageKey = some key) (hmarker : w.marker = false)
    (hiv : (s.drawCentral 3 12).2 = some iv) :
    s.recordOf w = ((s.drawCentral 3 12).1,
      some { s.recordFor w key with blob := recordBlob key iv w.obj w.handle (s.lode.recordSeq + 1) }) := by
  obtain ⟨u, hdraw⟩ : ∃ u, s.drawCentral 3 12 = (u, some iv) := ⟨_, Prod.ext rfl hiv⟩
  simp only [State.recordOf, hkey, hmarker, hdraw, Bool.false_eq_true, if_false, State.recordFor]

theorem State.storeWritten_marker {r : KeyRecord} (hmarker : w.marker = true) :
    s.storeWritten w r = s.keepRecord w r := by
  unfold State.storeWritten
  split
  · rfl
  · exact if_pos hmarker

/-- An update of an object that stands completes with its record (R220). -/
theorem State.storeWritten_update {r : KeyRecord} {e : Nat} {x : Entry} (hmarker : w.marker = false)
    (hentry : w.entry = some e) (hunstaged : s.lode.staged.any (fun g => g.entry == e) = false)
    (hx : s.entry e = some x) (hawait : x.await = .keyRecord) :
    s.storeWritten w r = ((s.keepRecord w r).setEntry e { x with await := .none }).commitOut e [] 0 := by
  have hx' : (s.keepRecord w r).entry e = some x := hx
  have hstays : (x.await == Await.keyRecord) = true := beq_iff_eq.mpr hawait
  unfold State.keepRecord at hx' ⊢
  simp only [State.storeWritten, hentry, hmarker, hunstaged, hx', Bool.false_eq_true, if_false, if_pos hstays]

section
variable {h : Nat} (hfind : s.lode.writes.find? (fun w => w.handle == h && !w.failed) = some w)
include hfind

theorem State.keyRecordDone_of_record {ok : Bool} {u : State} {r : KeyRecord} (hrecord : s.recordOf w = (u, some r)) :
    s.keyRecordDone h ok = if ok then (u.storeWritten w r).removalCheck (handleTenant h) else u.storeFailed w := by
  simp only [State.keyRecordDone, hfind, hrecord]

theorem State.keyRecordDone_marker (hkey : s.lode.storageKey = some key) (hmarker : w.marker = true) :
    s.keyRecordDone h true = (s.keepRecord w (s.recordFor w key)).removalCheck (handleTenant h) := by
  rw [State.keyRecordDone_of_record hfind (State.recordOf_marker hkey hmarker), if_pos rfl,
    State.storeWritten_marker hmarker]

theorem State.keyRecordDone_markerFailed (hkey : s.lode.storageKey = some key) (hmarker : w.marker = true) :
    s.keyRecordDone h false = s.storeFailed w :=
  State.keyRecordDone_of_record hfind (State.recordOf_marker hkey hmarker)

/-- The record of an updated object takes an IV, and its operation completes with it (R220). -/
theorem State.keyRecordDone_update {e : Nat} {x : Entry} {iv : Bytes} (hkey : s.lode.storageKey = some key)
    (hmarker : w.marker = false) (hiv : (s.drawCentral 3 12).2 = some iv) (hentry : w.entry = some e)
    (hunstaged : s.lode.staged.any (fun g => g.entry == e) = false) (hx : s.entry e = some x)
    (hawait : x.await = .keyRecord) :
    s.keyRecordDone h true =
      ((((s.drawCentral 3 12).1.keepRecord w
          { s.recordFor w key with blob := recordBlob key iv w.obj w.handle (s.lode.recordSeq + 1) }).setEntry e
        { x with await := .none }).commitOut e [] 0).removalCheck (handleTenant h) := by
  have hrecord := State.recordOf_drawn hkey hmarker hiv
  rw [State.keyRecordDone_of_record hfind hrecord, if_pos rfl]
  obtain ⟨n, f, hdraw⟩ := s.drawCentral_frame 3 12
  rw [State.storeWritten_update hmarker hentry ?_ ?_ hawait]
  · rw [hdraw]
    exact hunstaged
  · rw [hdraw]
    exact hx

end

end

/-! ## Swaps and destructions (R216, R217) -/

section
variable {s : State} {e : Nat} {x : Entry}

theorem State.keySwap_of_written {g : Staged} (hstaged : s.lode.staged.find? (fun g => g.entry == e && g.replace) = some g)
    (hwritten : g.written = true) (hentry : (s.entry e).isSome = true) : s.keySwap e = s.swapKey g := by
  simp only [State.keySwap, hstaged, hwritten, hentry, Bool.and_self, if_true]

/-- A destruction completes once no holder runs on, no marker is to be written and no worker is still to acknowledge. -/
theorem State.destroyComplete_of_done (hx : s.entry e = some x) (hlive : x.live = true) (hawait : x.await = .holders)
    (hholders : ∀ p ∈ s.lode.holders, p.1 = e → s.holding p.2 = false)
    (hmarkers : ∀ w ∈ s.lode.writes, w.marker = true → w.entry ≠ some e)
    (hpurges : ∀ q ∈ s.zdp.purges, q.2.2 ≠ some e) :
    s.destroyComplete e =
      ({ s with lode := { s.lode with holders := s.lode.holders.filter fun p => p.1 != e } }.setEntry e
        { x with await := .none }).commitOut e [] 0 := by
  have hheld : (s.lode.holders.any fun p => p.1 == e && s.holding p.2) = false := by
    simpa [List.any_eq_false] using hholders
  have hmarked : (s.lode.writes.any fun w => w.marker && w.entry == some e) = false := by
    simpa [List.any_eq_false] using hmarkers
  have hpurged : (s.zdp.purges.any fun q => q.2.2 == some e) = false := by
    simpa [List.any_eq_false] using hpurges
  simp only [State.destroyComplete, hx, hlive, hawait, hheld, hmarked, hpurged, beq_self_eq_true, Bool.or_self,
    Bool.not_false, Bool.and_self, if_true]

end

/-! ## Chunks and cache builds (R178, R191) -/

section
variable {s : State} {k e : Nat} {c x : Entry}

/-- A part of a key generation ends: its entry is free, and the parent goes on unless recomputed leaves differ (R178). -/
theorem State.chunkDone_of_parent (hc : s.entry k = some c) (hlive : c.live = true) (hstarted : c.started = true)
    (hparent : c.parent = some e) (hx : (s.freeEntry k).entry e = some x) (horder : x.order = c.spillToken) :
    s.chunkDone k =
      if c.leaves.isEmpty ||
          Config.holds (.recompute (opFamily x.desc.opcode) (opParam x.desc.opcode)) (x.output :: c.leaves.map (leBytes 8)) then
        (((s.freeEntry k).setEntry e { x with
          kids := x.kids - 1
          doneBy := if c.leaves.isEmpty then (c.chunk, c.onStope) :: x.doneBy else x.doneBy }).startChunks e).splitNext e
            c.onStope
      else (s.freeEntry k).finish e .keyCheckFail := by
  simp only [State.chunkDone, hc, hlive, hstarted, hparent, hx, horder, Bool.not_true, Bool.or_self, bne_self_eq_false,
    Bool.false_eq_true, if_false, Bool.not_eq_true', ← Bool.not_eq_true, ite_not]

end

/-- The end of an entry's wait for a cache: an STF_CACHE completes, a signature goes on (R191). -/
def State.cacheReady (s : State) (e : Nat) : State :=
  match s.entry e with
  | some x =>
    let u := s.setEntry e { x with await := .none }
    if x.desc.kind = some .stfCache then u.commitOut e [] 0 else u
  | none => s

/-- A cache build whose parts have all ended leaves the cache ready (R191). -/
theorem State.cacheDone_of_built {s : State} {i : Nat} {f : Stateful} (hf : (s.obj i).stf = some f)
    (hbuilding : f.cache = 1) (hby : f.cacheBy.isSome = true)
    (hparts : ∀ e ∈ s.entriesWhere (fun x => x.await == .cache i), ∀ x, s.entry e = some x → x.kids = 0 ∧ x.part = 0) :
    s.cacheDone i =
      (s.setObj i { s.obj i with stf := some { f with cache := 2, cacheBy := none } }).forEntries
        (s.entriesWhere fun x => x.await == .cache i) State.cacheReady := by
  simp only [State.cacheDone, hf, State.modStf_of_stateful hf]
  refine (if_neg fun hstays => ?_).trans rfl
  obtain hended | hbusy := Bool.or_eq_true_iff.mp hstays
  · simp [hbuilding, ← Option.not_isSome, hby] at hended
  · obtain ⟨e, he, hpart⟩ := List.any_eq_true.mp hbusy
    split at hpart
    next x hx => simp [hparts e he x hx] at hpart
    next => exact nomatch hpart

/-! ## The power-up pass (R192) -/

/-- Does the table's digest match the committed pair or the pending one, or hold the table nothing (R192)? -/
def State.leasesFound (s : State) : Bool :=
  s.lode.leaseKey.isSome && ((List.range 1024).all (fun n => (s.inForce n).isNone) ||
    s.leaseDigest none == s.lode.anchor.digC || s.leaseDigest none == s.lode.anchor.digP)

/-- The stateful keys after the power-up pass: each above its recorded frontier, or each LEASE_UNKNOWN. -/
def State.resumeLeases (s : State) : State :=
  if s.leasesFound then s.forEntries (s.objectsWhere fun o => o.isStf) fun s i => s.leaseResume i
  else s.forEntries (s.objectsWhere fun o => o.isStf) fun s i => s.leaseUnknown i

/-- The power-up pass has ended. -/
def State.leasesUp (s : State) : State := { s with lode := { s.lode with leaseReady := true } }

/-- Where no record in force has lost its key, the power-up pass retires none (R192). -/
theorem State.leasePowerup_of_owned {s : State}
    (howned : ∀ n < 1024, s.resumeLeases.slotOwner n = none → s.resumeLeases.inForce n = none) :
    s.leasePowerup = s.resumeLeases.leasesUp := by
  have hfound : (s.lode.leaseKey.isSome && (!((List.range 1024).any fun n => (s.inForce n).isSome) ||
      s.leaseDigest none == s.lode.anchor.digC || s.leaseDigest none == s.lode.anchor.digP)) = s.leasesFound := by
    simp only [State.leasesFound, List.not_any_eq_all_not, Option.not_isSome]
  simp only [State.leasePowerup, hfound]
  refine congrArg State.leasesUp ?_
  refine List.foldlRecOn (motive := fun t => t = s.resumeLeases) (List.range 1024) _ rfl fun t ht n hn => ?_
  subst ht
  split
  next r hnone hr => exact nomatch hr.symm.trans (howned n (List.mem_range.mp hn) hnone)
  next => rfl

/-! ## The events -/

theorem State.clocked_next {s o t : State} (hclock : s.avs.tripped = false) (h : o = t) : s.clocked (.next o) = .next t :=
  (s.clocked_running hclock _).trans (congrArg Host.Outcome.next h)

/-- Settles O16: each event of the flash stores by what its operation does where its guard holds. -/
theorem flashStoreEvents : Obligations.FlashStoreEvents := by
  intro s hclock
  refine ⟨?leaseStart, ?leaseDone, State.clocked_next hclock rfl, State.clocked_next hclock rfl, ?erase, ?keyRecord, ?swap,
    ?destroy, ?chunk, ?cache, ?powerup⟩
  case leaseStart =>
    exact fun w hidle hfirst hflash hkey =>
      State.clocked_next hclock (State.leaseStart_of_request hidle hfirst hflash hkey)
  case leaseDone =>
    exact fun w hactive => ⟨State.clocked_next hclock (State.leaseDone_good hactive),
      fun htries => State.clocked_next hclock (State.leaseDone_again hactive htries)⟩
  case erase => exact fun b n herasing => State.clocked_next hclock (if_pos herasing)
  case keyRecord =>
    intro h w key hfind hkey seq r kept
    refine ⟨fun hmarker => ?_, fun e x iv hmarker hiv hentry hunstaged hx hawait => State.clocked_next hclock ?_⟩
    · exact ⟨State.clocked_next hclock (State.keyRecordDone_marker hfind hkey hmarker),
        State.clocked_next hclock (State.keyRecordDone_markerFailed hfind hkey hmarker)⟩
    · rw [State.keyRecordDone_update hfind hkey hmarker hiv hentry hunstaged hx hawait]
      obtain ⟨n, f, hdraw⟩ := s.drawCentral_frame 3 12
      rw [hdraw]
      rfl
  case swap =>
    exact fun e g hstaged hwritten hentry => State.clocked_next hclock (State.keySwap_of_written hstaged hwritten hentry)
  case destroy =>
    exact fun e x hx hlive hawait hholders hmarkers hpurges =>
      State.clocked_next hclock (State.destroyComplete_of_done hx hlive hawait hholders hmarkers hpurges)
  case chunk =>
    intro k e c x hc hlive hstarted hparent hx horder
    have hdone := State.chunkDone_of_parent hc hlive hstarted hparent hx horder
    refine ⟨fun hleaves => State.clocked_next hclock ?_, fun hleaves => State.clocked_next hclock ?_⟩
    all_goals simpa [hleaves] using hdone
  case cache =>
    exact fun i f hf hbuilding hby hparts =>
      State.clocked_next hclock (State.cacheDone_of_built hf hbuilding hby hparts)
  case powerup =>
    intro hwaits hreleased hrestored keys found t howned
    refine State.clocked_next hclock ((if_neg ?_).trans (State.leasePowerup_of_owned howned))
    simp [hwaits, hreleased, hrestored]

end Sys2Proof.Machine
end

section
/-! PROOF. Key management (R206 to R217, R552, O14): each operation's row by its kernel. -/
namespace Sys2Proof.Claims
open Sys2Proof.Machine

section
variable {s : State} {e : Nat} {x : Entry}

/-- Where an ALG's pair is one of a curve, its blinding is drawn; no other pair draws any (R235). -/
theorem blindPair_of_has {alg : Nat} {f : State → State}
    (h : opFamily alg = 8 → has false (blindLen (opParam alg)) s x = true) :
    s.blindPair e x alg f = f (if opFamily alg = 8 then after false (blindLen (opParam alg)) s x else s) := by
  unfold State.blindPair
  by_cases hcurve : opFamily alg = 8
  case pos => simp only [if_pos hcurve, State.blindCurve_of_has (h hcurve)]
  case neg => simp only [if_neg hcurve]

/-- A fresh pair draws its own value, then what it is blinded with (R157, R235). -/
theorem withDraw_blindPair_of_has {alg len : Nat} {f : State → Bytes → State} (h : hasPair alg len s x = true) :
    (s.withDraw e x len fun s r => s.blindPair e x alg fun s => f s r) =
      f (afterPair alg len s x) (val false [] len s x) := by
  unfold hasPair at h
  unfold afterPair State.blindPair
  by_cases hcurve : opFamily alg = 8
  case pos =>
    simp only [if_pos hcurve] at h ⊢
    exact State.seedOr_blindCurve_of_has (given := false) (bs := []) h
  case neg =>
    simp only [if_neg hcurve] at h ⊢
    exact State.withDraw_of_has h

end

/-! ## Information, import and generation (R206, R208, R212) -/

theorem objectRows_operate : Operates (keyRows.take 4) := by
  refine operates_cons ?info <| operates_cons ?exported <| operates_cons ?imported <| operates_cons ?generated operates_nil
  case info => exact OpRow.completes_of_kernel (fun _ _ => rfl) (fun _ _ _ _ => rfl) fun _ _ _ _ => rfl
  case exported => exact OpRow.completes_of_kernel (fun _ _ => rfl) (fun _ _ _ _ => rfl) fun _ _ _ _ => rfl
  case imported =>
    refine OpRow.completes_of_kernel (fun _ _ => rfl) (fun s e x hfits => ?_) fun _ _ _ _ => rfl
    obtain ⟨hlen, hpublic⟩ := Bool.and_eq_true_iff.mp hfits
    exact (if_neg (by simpa using hlen)).trans (List.isEmpty_iff.mp hpublic)
  case generated =>
    exact OpRow.completes_of_kernel (fun _ _ => rfl) (fun _ _ _ _ => rfl) fun _ _ _ hdraw => State.withDraw_of_has hdraw

/-! ## Wrapping and unwrapping (R209 to R211) -/

theorem blobRows_operate : Operates ((keyRows.drop 4).take 2) := by
  refine operates_cons ?wrap <| operates_cons ?unwrap operates_nil
  case wrap =>
    refine OpRow.completes_of_kernel (fun _ _ => rfl) (fun _ _ _ _ => rfl) fun s e x hfits => ?_
    obtain ⟨hbound, hdraw⟩ := Bool.and_eq_true_iff.mp hfits
    obtain ⟨kek, hkek⟩ := Option.isSome_iff_exists.mp hbound
    simp only [hkek, wrapResult, pp] at hdraw ⊢
    by_cases hsym : opParam x.desc.opcode = 1 <;> simp only [hsym, if_true, if_false] at hdraw ⊢
    all_goals exact State.withDraw_of_has hdraw
  case unwrap =>
    refine OpRow.completes_of_kernel (fun _ _ => rfl) (fun s e x hfits => ?_) fun _ _ _ _ => rfl
    cases hkek : x.bound2 with
    | none => rfl
    | some kek =>
      simp only [hkek] at hfits
      exact List.isEmpty_iff.mp hfits

/-! ## Replacement, destruction, derivation and usage bits (R212 to R217, R552) -/

theorem changeRows_operate : Operates (keyRows.drop 6) := by
  refine operates_cons ?replace <| operates_cons ?destroy <| operates_cons ?derive <| operates_cons ?clear operates_nil
  case replace =>
    refine OpRow.completes_of_kernel (fun _ _ => rfl) (fun s e x hfits => ?_) fun s e x hfits => ?_
    all_goals obtain ⟨hchecks, hsource⟩ := Bool.and_eq_true_iff.mp hfits
    · exact List.isEmpty_iff.mp hchecks
    · simp only [Bool.or_eq_true, Bool.and_eq_true, beq_iff_eq] at hsource
      obtain (hpublic | ⟨hblob, hbound⟩) | ⟨hfresh, hdraw⟩ := hsource
      · simp only [hpublic, keyOf]
      · obtain ⟨kek, hkek⟩ := Option.isSome_iff_exists.mp hbound
        simp only [hblob, hkek]
      · simp only [hfresh]
        by_cases hpair : (keyOf s x).attr.kind = kindKeypair
        · refine (if_pos hpair).trans (Eq.trans ?_ (if_pos hpair).symm)
          exact withDraw_blindPair_of_has ((if_pos hpair).symm.trans hdraw)
        · refine (if_neg hpair).trans (Eq.trans ?_ (if_neg hpair).symm)
          exact State.withDraw_of_has ((if_neg hpair).symm.trans hdraw)
  case destroy => exact OpRow.completes_of_kernel (fun _ _ => rfl) (fun _ _ _ _ => rfl) fun _ _ _ _ => rfl
  case derive =>
    refine OpRow.completes_of_kernel (fun _ _ => rfl) (fun _ _ _ _ => rfl) fun s e x hfits => ?_
    simp only [Bool.or_eq_true, bne_iff_ne, ne_eq] at hfits
    by_cases hpair : (derivedBase s x).attr.kind = kindKeypair
    case pos =>
      have hblind := fun hcurve => hfits.resolve_left fun h => h.elim (absurd hpair) (absurd hcurve)
      exact (if_pos hpair).trans ((blindPair_of_has hblind).trans (if_pos hpair).symm)
    case neg => exact (if_neg hpair).trans (if_neg hpair).symm
  case clear =>
    exact OpRow.completes_of_kernel (fun _ _ => rfl) (fun _ _ _ _ => rfl) fun _ _ _ _ => rfl

/-- Settles O14: the rows that create and describe objects, those of blobs, and those that change objects, each by its
kernel. -/
theorem keyManagement : Obligations.KeyManagement :=
  operates_append objectRows_operate (operates_append blobRows_operate changeRows_operate)

end Sys2Proof.Claims
end

section
/-! PROOF. What an event reports and where the boot stands (R41, R437, R451, R504): a report adds to the log and to the
latches, a step of the boot's phase leaves every other status bit. -/
namespace Sys2Proof.Machine

/-! ## Reports -/

/-- `t` is `s` with reports added: `ERR` and `INTSTS` bits, the messages they send, and records in Headframe's log. -/
structure Reported (s t : State) : Prop where
  frame : ∃ regs fns hdf, t = { s with regs, fns, hdf }
  reg : ∀ (p : Page) (off : Nat), off % 0x1000 ≠ 0x010 → off % 0x1000 ≠ 0x01C → t.reg p off = s.reg p off
  latched : ∀ (p : Page) (off n : Nat), bit (s.reg p off) n = true → bit (t.reg p off) n = true
  wdtRun : t.hdf.wdtRun = s.hdf.wdtRun

theorem Hdf.append_wdtRun (h : Hdf) (r : EventRec) : (h.append r).wdtRun = h.wdtRun := by
  unfold Hdf.append
  split
  · dsimp only
    split <;> rfl
  · rfl

theorem Hdf.sendNext_wdtRun (h : Hdf) (thr : Nat) (now : Stamp) : (h.sendNext thr now).wdtRun = h.wdtRun := by
  unfold Hdf.sendNext
  split
  · rfl
  split <;> rfl

namespace Reported
variable {s t u : State}

theorem refl (s : State) : Reported s s :=
  ⟨⟨_, _, _, rfl⟩, fun _ _ _ _ => rfl, fun _ _ _ h => h, rfl⟩

theorem trans (h : Reported s t) (h' : Reported t u) : Reported s u := by
  obtain ⟨⟨regs, fns, hdf, hu⟩, hreg', hlatched', hrun'⟩ := h'
  obtain ⟨⟨_, _, _, ht⟩, hreg, hlatched, hrun⟩ := h
  exact ⟨⟨regs, fns, hdf, by rw [hu, ht]⟩, fun p off he hi => (hreg' p off he hi).trans (hreg p off he hi),
    fun p off n hn => hlatched' p off n (hlatched p off n hn), hrun'.trans hrun⟩

theorem ite {c : Prop} {inst : Decidable c} (ht : Reported s t) (hu : Reported s u) : Reported s (if c then t else u) := by
  split
  exacts [ht, hu]

theorem foldl {β : Type} {f : State → β → State} (hf : ∀ s b, Reported s (f s b)) (l : List β) (s : State) :
    Reported s (l.foldl f s) := by
  induction l generalizing s with
  | nil => exact refl s
  | cons b l ih => exact (hf s b).trans (ih (f s b))

/-- A latch keeps its bits and takes others. -/
theorem latch (s : State) (p : Page) {off : Nat} (hoff : off = 0x010 ∨ off = 0x01C) (bits : Word) :
    Reported s (s.setReg p off (s.reg p off ||| bits)) := by
  refine ⟨⟨_, _, _, rfl⟩, fun q i herr hint => ?_, fun q i n hn => ?_, rfl⟩
  · refine s.reg_setReg_offset _ ?_
    obtain rfl | rfl := hoff <;> assumption
  · by_cases hkey : q.key i = p.key off
    · have hsame (t : State) : t.reg q i = t.reg p off := by rw [State.reg, State.reg, hkey]
      rw [hsame] at hn ⊢
      rw [State.reg_setReg]
      simp only [bit] at hn
      simp [bit, hn]
    · rwa [s.reg_setReg_other _ hkey]

theorem raiseVector (s : State) (t v : Nat) : Reported s (s.raiseVector t v) := by
  obtain ⟨f, hf⟩ := s.raiseVector_eq t v
  rw [hf]
  exact ⟨⟨_, _, _, rfl⟩, fun _ _ _ _ => rfl, fun _ _ _ h => h, rfl⟩

theorem setInt (s : State) (p : Page) (n : Nat) : Reported s (s.setInt p n) :=
  have hlatch := latch s p (.inr rfl) (1#32 <<< n)
  .ite (refl s) <| .ite (hlatch.trans (raiseVector ..)) hlatch

theorem setErr (s : State) (p : Page) (n : Nat) : Reported s (s.setErr p n) :=
  have hlatch := latch s p.first (.inl rfl) (1#32 <<< n)
  .ite hlatch (hlatch.trans (setInt ..))

theorem logEvent (s : State) (kind cls tenant block unit d0 st d1 : Nat) :
    Reported s (s.logEvent kind cls tenant block unit d0 st d1) := by
  have hlog {r : EventRec} {thr next : Nat} :
      Reported s { s with hdf := { (s.hdf.append r).sendNext thr s.stamp with nextSeq := next } } :=
    ⟨⟨_, _, _, rfl⟩, fun _ _ _ _ => rfl, fun _ _ _ hn => hn, (Hdf.sendNext_wdtRun ..).trans (Hdf.append_wdtRun ..)⟩
  exact .ite (hlog.trans (setInt ..)) hlog

theorem bootEvent (s : State) (cls cause : Nat) : Reported s (s.bootEvent cls cause) := logEvent ..

/-! What a report leaves. -/

theorem rst (h : Reported s t) : t.rst = s.rst := by
  obtain ⟨_, _, _, rfl⟩ := h.frame
  rfl

theorem lode (h : Reported s t) : t.lode = s.lode := by
  obtain ⟨_, _, _, rfl⟩ := h.frame
  rfl

theorem tally (h : Reported s t) : t.tally = s.tally := by
  obtain ⟨_, _, _, rfl⟩ := h.frame
  rfl

/-- The status register is no latch. -/
theorem status (h : Reported s t) : t.reg .rst 0x104 = s.reg .rst 0x104 := h.reg _ _ (by decide) (by decide)

end Reported

theorem State.bit_setErr (s : State) (p : Page) {n : Nat} (hn : n < 32) : bit ((s.setErr p n).reg p.first 0x010) n = true := by
  obtain ⟨herr, -⟩ := errorBitsLatch s p (1#32 <<< n)
  have herr : (s.setErr p n).reg p.first 0x010 = s.reg p.first 0x010 ||| 1#32 <<< n := herr
  rw [herr]
  simp [bit, hn]

/-! ## The boot's status (R437, R451) -/

theorem testBit_of_lt_pow {n k i : Nat} (hn : n < 2 ^ k) (hi : k ≤ i) : n.testBit i = false :=
  Nat.testBit_lt_two_pow (hn.trans_le (Nat.pow_le_pow_right (by decide) hi))

theorem testBit_field (v : Word) (hi lo i : Nat) :
    (field v hi lo).testBit i = (decide (i < hi + 1 - lo) && bit v (lo + i)) := by
  simp [field, bit, Nat.testBit_mod_two_pow, Nat.testBit_shiftRight, BitVec.testBit_toNat]

/-- A status bit after some bits are cleared and others set. -/
theorem State.bit_putSts (s : State) (clear set : Nat) {n : Nat} (hn : n < 32) :
    bit ((s.putSts clear set).reg .rst 0x104) n = (bit (s.reg .rst 0x104) n && !clear.testBit n || set.testBit n) := by
  rw [State.putSts, State.reg_setReg]
  simp only [bit, BitVec.getLsbD_or, BitVec.getLsbD_and, BitVec.getLsbD_not, BitVec.getLsbD_ofNat, hn, decide_true,
    Bool.true_and]

theorem State.bit_putSts_set (s : State) (clear : Nat) {set n : Nat} (hn : n < 32) (hset : set.testBit n = true) :
    bit ((s.putSts clear set).reg .rst 0x104) n = true := by
  rw [s.bit_putSts _ _ hn, hset, Bool.or_true]

theorem State.testBit_bootPhase (s : State) (i : Nat) : s.bootPhase.testBit i = (decide (i < 4) && bit (s.reg .rst 0x104) i) := by
  rw [State.bootPhase, State.regField, testBit_field, Nat.zero_add]

theorem State.bootPhase_setPhase (s : State) {n : Nat} (hn : n < 2 ^ 4) : (s.setPhase n).bootPhase = n := by
  refine Nat.eq_of_testBit_eq fun i => ?_
  rw [State.testBit_bootPhase, State.setPhase]
  by_cases hi : i < 4
  · have hclear : Nat.testBit 0xF i = true := by
      revert i
      decide
    simp [State.bit_putSts _ _ _ (show i < 32 by omega), hi, hclear]
  · simp [hi, testBit_of_lt_pow hn (not_lt.mp hi)]

/-- A step that only sets higher status bits leaves the phase. -/
theorem State.bootPhase_putSts_high (s : State) {set : Nat} (h : ∀ i < 4, set.testBit i = false) :
    (s.putSts 0 set).bootPhase = s.bootPhase := by
  refine Nat.eq_of_testBit_eq fun i => ?_
  rw [State.testBit_bootPhase, State.testBit_bootPhase]
  by_cases hi : i < 4
  · simp [State.bit_putSts _ _ _ (show i < 32 by omega), h i hi]
  · simp [hi]

theorem State.bootPhase_congr {s t : State} (h : t.reg .rst 0x104 = s.reg .rst 0x104) : t.bootPhase = s.bootPhase := by
  rw [State.bootPhase, State.bootPhase, State.regField, State.regField, h]

/-- `RST_STRAP` names the source an image came from in bits 5:4 (R455). -/
theorem field_bootSource (v : Word) {k : Nat} (hk : k < 2 ^ 2) :
    field ((v &&& 0xFFFFFFCF#32) ||| BitVec.ofNat 32 (k * 16)) 5 4 = k := by
  refine Nat.eq_of_testBit_eq fun i => ?_
  rw [testBit_field]
  by_cases hi : i < 2
  · have hmask : (0xFFFFFFCF#32).getLsbD (4 + i) = false := by
      revert i
      decide
    have hwide : 4 + i < 32 := by omega
    have hplace : (k * 16).testBit (4 + i) = k.testBit i := by
      rw [Nat.testBit_mul_two_pow (i := 4)]
      simp
    simp only [bit, BitVec.getLsbD_or, BitVec.getLsbD_and, BitVec.getLsbD_ofNat, hmask, hwide, hplace, hi]
    simp
  · simp [hi, testBit_of_lt_pow hk (not_lt.mp hi)]

/-! ## A step of the phase -/

/-- `t` is `s` with its boot phase moved: the Stopes and the commits that a phase starts, and no status bit lost. -/
structure PhaseMoved (s t : State) : Prop where
  frame : ∃ regs stopes txn, t = { s with regs, stopes, txn }
  reg : ∀ (p : Page) (off : Nat), off % 0x1000 ≠ 0x104 → t.reg p off = s.reg p off
  status : ∀ n, 4 ≤ n → bit (s.reg .rst 0x104) n = true → bit (t.reg .rst 0x104) n = true

namespace PhaseMoved
variable {s t u : State}

theorem refl (s : State) : PhaseMoved s s := ⟨⟨_, _, _, rfl⟩, fun _ _ _ => rfl, fun _ _ h => h⟩

theorem trans (h : PhaseMoved s t) (h' : PhaseMoved t u) : PhaseMoved s u := by
  obtain ⟨⟨regs, stopes, txn, hu⟩, hreg', hstatus'⟩ := h'
  obtain ⟨⟨_, _, _, ht⟩, hreg, hstatus⟩ := h
  exact ⟨⟨regs, stopes, txn, by rw [hu, ht]⟩, fun p off hne => (hreg' p off hne).trans (hreg p off hne),
    fun n hn hbit => hstatus' n hn (hstatus n hn hbit)⟩

theorem ite {c : Prop} {inst : Decidable c} (ht : PhaseMoved s t) (hu : PhaseMoved s u) :
    PhaseMoved s (if c then t else u) := by
  split
  exacts [ht, hu]

theorem foldl {β : Type} {f : State → β → State} (hf : ∀ s b, PhaseMoved s (f s b)) (l : List β) (s : State) :
    PhaseMoved s (l.foldl f s) := by
  induction l generalizing s with
  | nil => exact refl s
  | cons b l ih => exact (hf s b).trans (ih (f s b))

theorem setStope (s : State) (n : Nat) (x : Stope) : PhaseMoved s (s.setStope n x) :=
  ⟨⟨_, _, _, rfl⟩, fun _ _ _ => rfl, fun _ _ h => h⟩

theorem setPhase (s : State) (n : Nat) : PhaseMoved s (s.setPhase n) := by
  refine ⟨⟨_, _, _, rfl⟩, fun p off hne => s.reg_setReg_offset _ hne, fun m hm hbit => ?_⟩
  have hlow : Nat.testBit 0xF m = false := testBit_of_lt_pow (by decide) hm
  rw [State.setPhase, State.bit_putSts _ _ _ (BitVec.lt_of_getLsbD hbit), hbit, hlow]
  rfl

theorem katCheck (s : State) : PhaseMoved s s.katCheck := by
  refine .ite ⟨⟨_, _, _, rfl⟩, fun p off hne => s.reg_setReg_offset _ hne, fun n _ hbit => ?_⟩ (refl s)
  have hset : State.reg (s.setReg .rst 0x104 (setBit (s.reg .rst 0x104) 29)) .rst 0x104 = setBit (s.reg .rst 0x104) 29 :=
    s.reg_setReg ..
  refine (congrArg (bit · n) hset).trans ?_
  simp only [bit] at hbit
  simp [bit, setBit, hbit]

theorem startTests (s : State) : PhaseMoved s s.startTests :=
  ((setPhase s 7).trans (foldl (fun s _ => .ite (refl s) (setStope ..)) _ _)).trans (katCheck _)

theorem settlePhase (s : State) : PhaseMoved s s.settlePhase :=
  have hload (s : State) : PhaseMoved s (if s.rst.packs.isEmpty then s.startTests else s) := .ite (startTests s) (refl s)
  .ite (.ite (((setPhase s 5).trans (setPhase _ 6)).trans (hload _)) (setPhase s 5)) <|
    .ite ((setPhase s 6).trans (hload _)) (refl s)

theorem rst (h : PhaseMoved s t) : t.rst = s.rst := by
  obtain ⟨_, _, _, rfl⟩ := h.frame
  rfl

theorem lcc (h : PhaseMoved s t) : t.lcc = s.lcc := by
  obtain ⟨_, _, _, rfl⟩ := h.frame
  rfl

end PhaseMoved

end Sys2Proof.Machine
end

section
/-! PROOF. The boot (R219, R221, R439, R448 to R453, O43): each of its events by the equation of its command where its
guards hold, and by what that state shows. -/
namespace Sys2Proof.Machine

/-! ## A boot that stops (R452) -/

/-- The boot has stopped: PHASE 9, D3 to D8 in reset, and no entry left. -/
def State.BootStopped (t : State) : Prop :=
  t.bootPhase = 9 ∧ t.rst.stopped = true ∧ t.tally = {} ∧ ∀ d, 3 ≤ d → d ≤ 8 → t.released d = false

theorem State.resetUpper_eq (s : State) : ∃ b : State, b.tally = {} ∧ s.resetUpper = b.putSts 0xE001F800 0 :=
  ⟨_, rfl, rfl⟩

theorem State.bootFail_stopped (s : State) : s.bootFail.BootStopped := by
  obtain ⟨b, htally, hupper⟩ := s.resetUpper_eq
  have hstatus : s.bootFail.reg .rst 0x104 = (s.resetUpper.setPhase 9).reg .rst 0x104 :=
    (s.resetUpper.setPhase 9).reg_setReg_offset (p := .rst) (off := 0x140) 2 (by decide)
  refine ⟨(State.bootPhase_congr hstatus).trans (State.bootPhase_setPhase _ (by decide)), rfl, ?_, fun d hlow hhigh => ?_⟩
  · exact (congrArg State.tally hupper).trans htally
  · have hcleared : Nat.testBit 0xE001F800 (8 + d) = true ∧ Nat.testBit 9 (8 + d) = false := by
      interval_cases d <;> decide
    have hwide : 8 + d < 32 := by omega
    rw [State.released, hstatus, State.setPhase, State.bit_putSts _ _ _ hwide, hupper, State.bit_putSts _ _ _ hwide]
    simp [hcleared]

/-! ## BIST (R439, R452) -/

section
variable {s : State} {pages : List Page} {cores links : List Nat}

/-- Is the page one of a Stope or of a Shaft? -/
def Page.isUnit : Page → Bool
  | .stp n => decide (n < 64)
  | .shf n => decide (n < 8)
  | _ => false

/-- What BIST takes out of service. -/
def State.afterBist (s : State) (pages : List Page) (cores links : List Nat) : State :=
  let bad := pages.filter fun p => p.isUnit && !s.dir.disabled.contains p
  { s with
    dir := { s.dir with disabled := s.dir.disabled ++ bad }
    dgs := { s.dgs with dead := (s.dgs.dead ++ cores.filter fun n => decide (n < 16)).eraseDups }
    zdp := { s.zdp with deadLinks := (s.zdp.deadLinks ++ links.filter fun n => decide (n < 4)).eraseDups }
    rst := { s.rst with bistDone := true, bistOk := true } }

/-- The directory published anew names the same units out of service. -/
theorem State.rewriteDirectory_settled (s : State) : ∃ seq published digest,
    s.rewriteDirectory.settleDirectory = { s with dir := { s.dir with seq, published, digest } } := by
  unfold State.settleDirectory
  split <;> exact ⟨_, _, _, rfl⟩

theorem State.bistEnds_fatal (hreleased : s.released 3 = true) (hfirst : s.rst.bistDone = false) :
    s.bistEnds pages cores links true = s.bootFail := by
  simp [State.bistEnds, hreleased, hfirst]

theorem State.bistEnds_reported (hreleased : s.released 3 = true) (hfirst : s.rst.bistDone = false) :
    Reported (s.afterBist pages cores links).rewriteDirectory.settleDirectory (s.bistEnds pages cores links false) := by
  have hgoes : ¬(!s.released 3 || s.rst.bistDone) = true := by simp [hreleased, hfirst]
  unfold State.bistEnds
  rw [if_neg hgoes, if_neg Bool.false_ne_true]
  exact ((Reported.foldl (fun _ _ => .logEvent ..) _ _).trans (Reported.foldl (fun _ _ => .logEvent ..) _ _)).trans
    (Reported.foldl (fun _ _ => .logEvent ..) _ _)

theorem State.afterBist_disabled {p : Page} (hp : p ∈ pages) (hunit : p.isUnit = true) (cores links : List Nat) :
    p ∈ (s.afterBist pages cores links).dir.disabled := by
  by_cases hold : p ∈ s.dir.disabled
  · exact List.mem_append_left _ hold
  · refine List.mem_append_right _ (List.mem_filter.mpr ⟨hp, ?_⟩)
    rw [Bool.and_eq_true]
    exact ⟨hunit, by simpa using hold⟩

/-- BIST that finds nothing fatal leaves the units it names out of service. -/
theorem State.bistEnds_shows (hreleased : s.released 3 = true) (hfirst : s.rst.bistDone = false) :
    let t := s.bistEnds pages cores links false
    t.rst.bistDone = true ∧ t.rst.bistOk = true ∧ (∀ n < 64, Page.stp n ∈ pages → t.outOfService (.stp n) = true) ∧
      (∀ n < 8, Page.shf n ∈ pages → t.outOfService (.shf n) = true) ∧ (∀ n < 16, n ∈ cores → n ∈ t.dgs.dead) ∧
      (∀ n < 4, n ∈ links → n ∈ t.zdp.deadLinks) := by
  intro t
  obtain ⟨seq, published, digest, hdirectory⟩ := (s.afterBist pages cores links).rewriteDirectory_settled
  obtain ⟨regs, fns, hdf, ht⟩ := (State.bistEnds_reported (pages := pages) (cores := cores) (links := links)
    hreleased hfirst).frame
  have ht : t = _ := ht.trans (by rw [hdirectory])
  rw [ht]
  refine ⟨rfl, rfl, fun n hn hp => ?_, fun n hn hp => ?_, fun n hn hcore => ?_, fun n hn hlink => ?_⟩
  · exact List.contains_iff_mem.mpr (State.afterBist_disabled hp (decide_eq_true hn) cores links)
  · exact List.contains_iff_mem.mpr (State.afterBist_disabled hp (decide_eq_true hn) cores links)
  · simp [State.afterBist, hn, hcore]
  · simp [State.afterBist, hn, hlink]

end

/-! ## The boot image (R448, R452, R510) -/

section
variable {s : State}

theorem State.imageBad_last (h : s.flashOrder.length ≤ s.rst.tried + 1) : s.imageBad.BootStopped := by
  have hlast : s.imageBad =
      State.bootFail { s with rst := { s.rst with tried := s.rst.tried + 1, header := [], packs := [] } } :=
    if_neg (Nat.not_lt.mpr h)
  rw [hlast]
  exact State.bootFail_stopped _

/-- An invalid image falls back to the other flash, which the status and the error register show. -/
theorem State.imageBad_fallback (h : s.rst.tried + 1 < s.flashOrder.length) (hruns : s.rst.stopped = false) :
    s.imageBad.rst.tried = s.rst.tried + 1 ∧ s.imageBad.rst.stopped = false ∧
      bit (s.imageBad.reg .rst 0x104) 25 = true ∧ bit (s.imageBad.reg .rst 0x010) 18 = true := by
  let u : State := { s with rst := { s.rst with tried := s.rst.tried + 1, header := [], packs := [] } }
  have hnext : s.imageBad = u.fallback 1 := if_pos h
  have herror := Reported.setErr (u.putSts 0 0x2000000) .rst 18
  have hlogged := Reported.bootEvent ((u.putSts 0 0x2000000).setErr .rst 18) 2 1
  have hreported := herror.trans hlogged
  rw [hnext]
  refine ⟨congrArg Rst.tried hreported.rst, (congrArg Rst.stopped hreported.rst).trans hruns, ?_,
    hlogged.latched _ _ _ (State.bit_setErr _ .rst (by decide))⟩
  refine (congrArg (bit · 25) hreported.status).trans ?_
  exact State.bit_putSts_set _ _ (by decide) (by decide)

/-- A valid header is taken, with the flash it came from (R448, R451 step 4). -/
def State.takeHeader (s : State) (source : Nat) (h : Bytes) (l : List BootPack) : State :=
  let u : State := { s with rst := { s.rst with header := h, packs := packTable h l } }
  (u.setReg .rst 0x114 ((s.reg .rst 0x114 &&& 0xFFFFFFCF#32) ||| BitVec.ofNat 32 (source * 16))).measureItem 2 (h.take 128)

theorem State.takeHeader_source {k : Nat} (hk : k < 2 ^ 2) (h : Bytes) (l : List BootPack) :
    (s.takeHeader k h l).regField .rst 0x114 5 4 = k := by
  have hreg : (s.takeHeader k h l).reg .rst 0x114 =
      (s.reg .rst 0x114 &&& 0xFFFFFFCF#32) ||| BitVec.ofNat 32 (k * 16) := Cells.get_set_same ..
  rw [State.regField, hreg, field_bootSource _ hk]

theorem State.headerRead_of_turn (hreleased : s.released 3 = true) (hruns : s.rst.stopped = false)
    (hload : s.rst.fwLoaded = false) (hheader : s.rst.header = []) (hwdt : s.hdf.wdtRun < 3) {b : Bool} {h : Bytes}
    {l : List BootPack} (hturn : (s.flashOrder.drop s.rst.tried).head? = some b) :
    s.headerRead b h l = if s.headerOk h then (s.takeHeader (b2n b) h l).setPhase 2 else s.imageBad := by
  have hgoes : ¬(!s.released 3 || s.rst.stopped || s.rst.fwLoaded || !s.rst.header.isEmpty) = true := by
    simp [hreleased, hruns, hload, hheader]
  have hcalm : ¬3 ≤ s.hdf.wdtRun := Nat.not_le.mpr hwdt
  unfold State.headerRead
  rw [if_neg hgoes, if_neg fun hstrap => hcalm hstrap.2, if_neg (not_not.mpr hturn)]
  simp only [if_neg fun hfirst : s.rst.tried = 0 ∧ 3 ≤ s.hdf.wdtRun => hcalm hfirst.2]
  cases s.headerOk h <;> rfl

/-! ## The firmware (R447, R451, R452) -/

/-- The ownership record of the first slot, where it is valid and in force (R468). -/
theorem State.evalOwner_slotA {b : Bytes} (hslot : s.lcc.slotA = some b) (hmac : (s.ownRecOf b).macOk = true)
    (hcount : (s.ownRecOf b).count = s.lcc.ownCount) (howned : (s.ownRecOf b).owned = true) :
    s.evalOwner.lcc.ownState = 1 ∧ s.evalOwner.lcc.ownKey = (s.ownRecOf b).keyId := by
  simp [State.evalOwner, hslot, hmac, hcount, howned, b2n]

/-- The ownership in force is the life-cycle controller's; a lost owner is reported. -/
theorem State.evalOwner_reported (s : State) : ∃ lcc, Reported { s with lcc } s.evalOwner := by
  unfold State.evalOwner
  dsimp only
  split
  · exact ⟨_, .refl _⟩
  · exact ⟨_, .refl _⟩
  split
  · exact ⟨_, .refl _⟩
  · exact ⟨_, .setErr ..⟩

/-- The state in which the firmware starts, before the ownership is evaluated. -/
def State.firmwareStart (s : State) (h image : Bytes) : State :=
  let u : State := { s with rst := { s.rst with fwLoaded := true, fwDigest := sha384 image } }
  ((u.measureItem 3 image).setReg .rst 0x118 (BitVec.ofNat 32 (leField h 8 4))).setPhase 4

/-- What the firmware's start leaves of the reset controller and its registers. -/
theorem State.firmwareRuns_shows (s : State) (h image : Bytes) :
    (s.firmwareRuns h image).rst = (s.firmwareStart h image).rst ∧
      (s.firmwareRuns h image).lcc = (s.firmwareStart h image).evalOwner.lcc ∧
      ∀ off, off % 0x1000 ≠ 0x010 → off % 0x1000 ≠ 0x01C → off % 0x1000 ≠ 0x104 →
        (s.firmwareRuns h image).reg .rst off = (s.firmwareStart h image).reg .rst off := by
  obtain ⟨lcc, howner⟩ := (s.firmwareStart h image).evalOwner_reported
  have hmoved : PhaseMoved (s.firmwareStart h image).evalOwner (s.firmwareRuns h image) := .settlePhase _
  exact ⟨hmoved.rst.trans howner.rst, hmoved.lcc,
    fun off herr hint hsts => (hmoved.reg _ _ hsts).trans (howner.reg _ _ herr hint)⟩

theorem State.firmwareRuns_version (s : State) (h image : Bytes) :
    (s.firmwareRuns h image).reg .rst 0x118 = BitVec.ofNat 32 (leField h 8 4) := by
  obtain ⟨-, -, hreg⟩ := s.firmwareRuns_shows h image
  rw [hreg _ (by decide) (by decide) (by decide)]
  exact (State.reg_setReg_offset _ _ (by decide)).trans (State.reg_setReg ..)

theorem State.firmwareLoaded_valid {image : Bytes} (hheader : s.rst.header ≠ []) (hload : s.rst.fwLoaded = false)
    (hlen : image.length = leField s.rst.header 16 4) (hdigest : sha384 image = slice s.rst.header 48 48) :
    s.firmwareLoaded image = s.firmwareRuns s.rst.header image := by
  simp [State.firmwareLoaded, hheader, hload, hlen, hdigest]

theorem State.firmwareLoaded_wrongLength {image : Bytes} (hheader : s.rst.header ≠ []) (hload : s.rst.fwLoaded = false)
    (hlen : image.length ≠ leField s.rst.header 16 4) : s.firmwareLoaded image = s.imageBad := by
  simp [State.firmwareLoaded, hheader, hload, hlen]

theorem State.recovery_of_valid {h image : Bytes} {l : List BootPack} (hreleased : s.released 2 = true)
    (hload : s.rst.fwLoaded = false) (hlife : s.lcc.state ≠ 3) (hstopped : s.rst.stopped = true)
    (hvalid : s.headerOk h = true) (hlen : image.length = leField h 16 4) (hdigest : sha384 image = slice h 48 48) :
    s.recovery h image l =
      (State.takeHeader { s with rst := { s.rst with stopped := false } } 2 h l).firmwareRuns h image := by
  have hwaits : ¬(!s.released 2 || s.rst.fwLoaded || s.lcc.state == 3 ||
      !(decide (s.regField .rst 0x114 1 0 = 3) || s.rst.stopped)) = true := by
    simp [hreleased, hload, hlife, hstopped]
  have himage : (s.headerOk h && image.length == leField h 16 4 && sha384 image == slice h 48 48) = true := by
    simp [hvalid, hlen, hdigest]
  unfold State.recovery
  rw [if_neg hwaits, if_pos himage]
  rfl

end

/-! ## Device keys and readiness (R219, R451, R453) -/

section
variable {s : State}

theorem State.configReady_shows (hreleased : s.released 7 = true) (hwaits : s.cfgReady = false) :
    s.configReady.cfgReady = true ∧ s.configReady.reg .rst 0x124 = BitVec.ofNat 32 s.stamp ∧
      s.configReady.reg .rst 0x128 = BitVec.ofNat 32 (s.stamp / 2 ^ 32) := by
  let u := s.putSts 0 0x40000000
  let v := u.setReg .rst 0x124 (BitVec.ofNat 32 s.stamp)
  let w := v.setReg .rst 0x128 (BitVec.ofNat 32 (s.stamp / 2 ^ 32))
  have hready : s.configReady = w.settlePhase := by
    simp only [State.configReady, hreleased, hwaits]
    rfl
  have hmoved := PhaseMoved.settlePhase w
  rw [hready]
  refine ⟨hmoved.status 30 (by decide) ?_, ?_, ?_⟩
  · have hstatus : w.reg .rst 0x104 = u.reg .rst 0x104 :=
      (v.reg_setReg_offset _ (by decide)).trans (u.reg_setReg_offset _ (by decide))
    rw [hstatus]
    exact State.bit_putSts_set _ _ (by decide) (by decide)
  · exact (hmoved.reg _ _ (by decide)).trans ((v.reg_setReg_offset _ (by decide)).trans (u.reg_setReg ..))
  · exact (hmoved.reg _ _ (by decide)).trans (v.reg_setReg ..)

theorem State.fullReady_shows (hphase : s.bootPhase = 7) (hcommitted : s.rst.bootCommitted = true) :
    s.fullReady.bootPhase = 8 ∧ bit (s.fullReady.reg .rst 0x104) 31 = true ∧
      s.fullReady.reg .rst 0x12C = BitVec.ofNat 32 s.stamp ∧ s.fullReady.hdf.wdtRun = 0 ∧
      bit (s.fullReady.reg .rst 0x01C) 16 = true := by
  let u := (s.setPhase 8).putSts 0 0x80000000
  let v := u.setReg .rst 0x12C (BitVec.ofNat 32 s.stamp)
  let w : State := v.setReg .rst 0x130 (BitVec.ofNat 32 (s.stamp / 2 ^ 32))
  let z : State := { w with hdf := { w.hdf with wdtRun := 0 } }
  have hfull : s.fullReady = (z.setInt .rst 16).bootEvent 0 3 := if_pos ⟨hphase, hcommitted⟩
  have hlogged := Reported.bootEvent (z.setInt .rst 16) 0 3
  have hreported := (Reported.setInt z .rst 16).trans hlogged
  have hstatus : s.fullReady.reg .rst 0x104 = u.reg .rst 0x104 := by
    rw [hfull, hreported.status]
    exact (v.reg_setReg_offset _ (by decide)).trans (u.reg_setReg_offset _ (by decide))
  refine ⟨?_, ?_, ?_, ?_, ?_⟩
  · rw [State.bootPhase_congr hstatus, State.bootPhase_putSts_high _ (by decide), State.bootPhase_setPhase _ (by decide)]
  · rw [hstatus]
    exact State.bit_putSts_set _ _ (by decide) (by decide)
  · rw [hfull, hreported.reg _ _ (by decide) (by decide)]
    exact (v.reg_setReg_offset _ (by decide)).trans (u.reg_setReg ..)
  · rw [hfull, hreported.wdtRun]
  · rw [hfull]
    exact hlogged.latched _ _ _ (z.bit_setInt .rst (by decide))

end

/-! ## The boot packs (R451 step 11, R452) -/

section
variable {s : State} {k mask n : Nat} {p : Pack}

/-- A boot pack goes into each Stope of its mask; whether every one took it. -/
def State.installAll (s : State) (mask : Nat) (p : Pack) : State × Bool :=
  ((List.range 64).filter fun n => mask.testBit n).foldl
    (fun (r : State × Bool) n => let q := r.1.bootInstall n p; (q.1, r.2 && q.2)) (s, true)

/-- A pack that every Stope of its mask took is counted; another is reported. -/
def State.notePack (r : State × Bool) : State :=
  if r.2 then
    r.1.setReg .rst 0x114 ((r.1.reg .rst 0x114 &&& 0xFFFF#32) |||
      BitVec.ofNat 32 (satAdd 0xFFFF (field (r.1.reg .rst 0x114) 31 16) 1 * 65536))
  else (r.1.setErr .rst 19).bootEvent 2 2

theorem State.bootInstall_frame (s : State) (n : Nat) (p : Pack) : ∃ stopes, (s.bootInstall n p).1 = { s with stopes } := by
  unfold State.bootInstall
  dsimp only
  split
  · exact ⟨_, rfl⟩
  split
  · exact ⟨_, rfl⟩
  split <;> exact ⟨_, rfl⟩

theorem State.rst_installAll : (s.installAll mask p).1.rst = s.rst := by
  refine List.foldlRecOn (motive := fun r : State × Bool => r.1.rst = s.rst) _ _ rfl fun r hr n _ => ?_
  obtain ⟨stopes, hframe⟩ := r.1.bootInstall_frame n p
  rw [hframe]
  exact hr

theorem State.rst_notePack (r : State × Bool) : (State.notePack r).rst = r.1.rst := by
  unfold State.notePack
  split
  · rfl
  · exact ((Reported.setErr ..).trans (Reported.bootEvent ..)).rst

/-- A pack of one Stope goes into that Stope's store alone. -/
theorem State.installAll_single (hn : n < 64) : s.installAll (2 ^ n) p = s.bootInstall n p := by
  have hmask : (List.range 64).filter (fun m => (2 ^ n).testBit m) = [n] := by
    have hcount : (List.range 64).count n = 1 := List.count_eq_one_of_mem List.nodup_range (List.mem_range.mpr hn)
    simp only [Nat.testBit_two_pow, eq_comm (a := n)]
    rw [List.filter_eq, hcount]
    rfl
  rw [State.installAll, hmask]
  simp

theorem State.bootInstall_fits {st : Store} (hserves : s.outOfService (.stp n) = false)
    (hroom : (s.stope n).store.packs.length < 4) (hchecks : s.packResult n p.image false = 0)
    (hstore : (s.stope n).store.install p = some st) :
    s.bootInstall n p = (s.setStope n { s.stope n with store := st }, true) := by
  simp [State.bootInstall, hserves, hroom, hchecks, hstore]

/-- Pack `k` measured, installed and counted, and the next one awaited. -/
def State.packLoaded (s : State) (k mask : Nat) (p : Pack) : State :=
  let u := State.notePack ((s.measureItem (4 + k) p.image).installAll mask p)
  { u with rst := { u.rst with packNext := k + 1 } }

theorem State.bootPack_of_turn (hpack : s.rst.packs[k]? = some (mask, p)) (hphase : s.bootPhase = 6)
    (hturn : s.rst.packNext = k) : s.bootPack k =
      if k + 1 = s.rst.packs.length then (s.packLoaded k mask p).startTests else s.packLoaded k mask p := by
  have hrst : (State.notePack ((s.measureItem (4 + k) p.image).installAll mask p)).rst = (s.measureItem (4 + k) p.image).rst :=
    (State.rst_notePack _).trans State.rst_installAll
  have hlength := congrArg (fun r : Rst => r.packs.length) hrst
  have hgoes : ¬(s.bootPhase ≠ 6 ∨ s.rst.packNext ≠ k) := by simp [hphase, hturn]
  unfold State.bootPack
  simp only [hpack]
  rw [if_neg hgoes]
  show (if k + 1 = (State.notePack ((s.measureItem (4 + k) p.image).installAll mask p)).rst.packs.length then _ else _) = _
  rw [hrst]
  rfl

theorem State.rst_packLoaded : (s.packLoaded k mask p).rst =
    { (s.measureItem (4 + k) p.image).rst with packNext := k + 1 } := by
  unfold State.packLoaded
  dsimp only
  rw [State.rst_notePack, State.rst_installAll]

theorem State.rst_bootPack (hpack : s.rst.packs[k]? = some (mask, p)) (hphase : s.bootPhase = 6)
    (hturn : s.rst.packNext = k) : (s.bootPack k).rst = { (s.measureItem (4 + k) p.image).rst with packNext := k + 1 } := by
  rw [State.bootPack_of_turn hpack hphase hturn]
  split
  · exact (PhaseMoved.startTests _).rst.trans State.rst_packLoaded
  · exact State.rst_packLoaded

/-- The store of the one Stope a pack is for. -/
theorem State.packLoaded_store {st : Store} (hn : n < 64) (hserves : s.outOfService (.stp n) = false)
    (hroom : (s.stope n).store.packs.length < 4) (hchecks : s.packResult n p.image false = 0)
    (hstore : (s.stope n).store.install p = some st) : ((s.packLoaded k (2 ^ n) p).stope n).store = st := by
  have hfits : (s.measureItem (4 + k) p.image).bootInstall n p = _ := State.bootInstall_fits hserves hroom hchecks hstore
  unfold State.packLoaded
  rw [State.installAll_single hn, hfits]
  exact congrArg Stope.store (State.stope_setStope (s.measureItem (4 + k) p.image) n _)

end

/-! ## Persistent objects (R221) -/

section
variable {s : State} {r : KeyRecord} {key : Bytes}

theorem State.wakeRestored_of_empty (h : s.tally.entries = []) : s.wakeRestored = s := by
  simp [State.wakeRestored, State.entriesWhere, State.forEntries, h]

theorem State.liveRecords_good (hrecords : s.lode.records = [r]) (hgood : (r.tagOk && r.under == key) = true)
    (hmarker : r.marker = false) : s.goodRecords key = [r] ∧ s.liveRecords key = [r] := by
  have hkept : s.goodRecords key = [r] := by simp [State.goodRecords, hrecords, hgood]
  exact ⟨hkept, by simp [State.liveRecords, hkept, newestRecord, hmarker]⟩

theorem State.liveRecords_bad (hrecords : s.lode.records = [r]) (hbad : (r.tagOk && r.under == key) = false) :
    s.goodRecords key = [] ∧ s.liveRecords key = [] := by
  have hnone : s.goodRecords key = [] := by simp [State.goodRecords, hrecords, hbad]
  exact ⟨hnone, by simp [State.liveRecords, hnone]⟩

/-- The restore's outcome in `LOD_STORE`: how many records failed. -/
def State.noteRestore (s : State) (bad : Nat) : State :=
  { s with lode := { s.lode with restoreDone := true, restorePartial := bad != 0, restoreFail := Nat.min 0xFFFF bad } }

/-- Lode's keys are there, the restore is still to come, and nothing waits for it. -/
structure State.RestoreDue (s : State) : Prop where
  released : s.released 4 = true
  firmware : s.rst.fwLoaded = true
  masked : s.lode.maskKey.isSome = true
  due : s.restoring = true
  idle : s.tally.entries = []

theorem State.RestoreDue.goes (h : s.RestoreDue) :
    ¬(!s.released 4 || !s.rst.fwLoaded || s.lode.maskKey.isNone || !s.restoring) = true := by
  have hmask : s.lode.maskKey.isNone = false := by simpa [Option.isSome_iff_ne_none] using h.masked
  simp [h.released, h.firmware, hmask, h.due]

/-- The end of a restore that no entry waits for. -/
def State.restoreEnd (s : State) (bad live : Nat) : State :=
  let t := if bad = 0 then s else s.setErr .lod 17
  (t.setInt .lod 16).logEvent 0x000F (if bad = 0 then 0 else 1) deviceTenant 0x0020 0 t.lodStore t.stamp live

theorem State.restoreEnd_reported (s : State) (bad live : Nat) : Reported s (s.restoreEnd bad live) :=
  ((Reported.ite (.refl s) (.setErr ..)).trans (.setInt ..)).trans (.logEvent ..)

/-- The restore's interrupt is shown, and its error where a record failed. -/
theorem State.restoreEnd_shows (s : State) (bad live : Nat) : bit ((s.restoreEnd bad live).reg .lod 0x01C) 16 = true ∧
    (bad ≠ 0 → bit ((s.restoreEnd bad live).reg .lod 0x010) 17 = true) := by
  let t := if bad = 0 then s else s.setErr .lod 17
  have hlogged : Reported (t.setInt .lod 16) (s.restoreEnd bad live) := .logEvent ..
  refine ⟨hlogged.latched _ _ _ (t.bit_setInt .lod (by decide)), fun hbad => ?_⟩
  have hfailed : t = s.setErr .lod 17 := if_neg hbad
  refine ((Reported.setInt t .lod 16).trans hlogged).latched _ _ _ ?_
  rw [hfailed]
  exact s.bit_setErr .lod (by decide)

theorem State.persistRestore_ends (h : s.RestoreDue) (hkey : s.lode.storageKey = some key) (hroot : s.lode.rootLost = false)
    {bad : Nat} {live : List KeyRecord} {t : State} (hbad : s.lode.records.length - (s.goodRecords key).length = bad)
    (hlive : s.liveRecords key = live) (hrestored : live.foldl (fun s r => s.restoreOne r) s = t)
    (hidle : t.tally.entries = []) : s.persistRestore = (t.noteRestore bad).restoreEnd bad live.length := by
  have hwake := State.wakeRestored_of_empty (s := (t.noteRestore bad).restoreEnd bad live.length)
    (by rwa [((t.noteRestore bad).restoreEnd_reported bad live.length).tally])
  rw [← hwake]
  unfold State.persistRestore
  rw [if_neg h.goes]
  simp only [hkey, hroot, hbad, hlive, hrestored]
  rfl

/-- Without the root key nothing is restored. -/
theorem State.persistRestore_none (h : s.RestoreDue) (hlost : s.lode.storageKey = none ∨ s.lode.rootLost = true) :
    s.persistRestore = s.restoreNone := by
  unfold State.persistRestore
  rw [if_neg h.goes]
  split
  · rfl
  · rfl
  next hkey hroot => simp [hkey, hroot] at hlost

theorem State.restoreNone_shows (hidle : s.tally.entries = []) :
    s.restoreNone.restoring = false ∧ s.restoreNone.lode.rootLost = true ∧ s.restoreNone.lode.objs = s.lode.objs := by
  let t := if s.lode.rootLost then s else ({ s with lode := { s.lode with rootLost := true } }).setInt .lod 17
  let u : State := { t with lode := { t.lode with restoreDone := true } }
  have ht : t.lode = { s.lode with rootLost := true } ∧ t.tally = s.tally := by
    by_cases hroot : s.lode.rootLost = true
    · have hsame : t = s := if_pos hroot
      rw [hsame, ← hroot]
      exact ⟨rfl, rfl⟩
    · have hset := Reported.setInt { s with lode := { s.lode with rootLost := true } } .lod 17
      have hlost : t = ({ s with lode := { s.lode with rootLost := true } } : State).setInt .lod 17 := if_neg hroot
      rw [hlost]
      exact ⟨hset.lode, hset.tally⟩
  obtain ⟨hlode, htally⟩ := ht
  have hlogged := Reported.logEvent u 0x000F 1 deviceTenant 0x0020 0 u.lodStore u.stamp 0
  have hend : s.restoreNone = u.logEvent 0x000F 1 deviceTenant 0x0020 0 u.lodStore u.stamp 0 :=
    State.wakeRestored_of_empty (by rw [hlogged.tally]; exact (congrArg Tally.entries htally).trans hidle)
  have hu : u.lode = { s.lode with rootLost := true, restoreDone := true } := by
    show { t.lode with restoreDone := true } = _
    rw [hlode]
  rw [hend, State.restoring, hlogged.lode, hu]
  exact ⟨rfl, rfl, rfl⟩

end

/-- Settles O43: each event of the boot in the order of R451. -/
theorem boot : Obligations.Boot := by
  unfold Obligations.Boot
  intro s hclock stopped
  refine ⟨?bist, ?header, ?firmware, ?recovery, ?endOfLife, ?keys, ?config, ?pack, ?full, ?early, ?owner, ?restore, ?none⟩
  case bist =>
    intro hreleased hfirst pages cores links
    exact ⟨⟨_, State.clocked_next hclock rfl, State.bistEnds_shows hreleased hfirst⟩,
      ⟨_, State.clocked_next hclock (State.bistEnds_fatal hreleased hfirst), s.bootFail_stopped⟩⟩
  case header =>
    intro hreleased hruns hload hheader hwdt b h l hturn
    have hread := State.headerRead_of_turn (l := l) (h := h) hreleased hruns hload hheader hwdt hturn
    refine ⟨fun hvalid => ?_, fun hbad hnext => ?_, fun hbad hlast => ?_⟩
    · rw [if_pos hvalid] at hread
      refine ⟨_, congrArg Host.Outcome.next hread, rfl, rfl, State.bootPhase_setPhase _ (by decide), ?_⟩
      rw [State.regField, State.setPhase, State.putSts, State.reg_setReg_offset _ _ (by decide)]
      exact State.takeHeader_source (by cases b <;> decide) h l
    · rw [if_neg (by simp [hbad])] at hread
      exact ⟨_, congrArg Host.Outcome.next hread, State.imageBad_fallback hnext hruns⟩
    · rw [if_neg (by simp [hbad])] at hread
      exact ⟨_, congrArg Host.Outcome.next hread, State.imageBad_last hlast⟩
  case firmware =>
    intro hheader hload image
    refine ⟨fun hlen hdigest => ?_, fun hlen hlast => ?_⟩
    · obtain ⟨hrst, hlcc, -⟩ := s.firmwareRuns_shows s.rst.header image
      refine ⟨_, congrArg Host.Outcome.next (State.firmwareLoaded_valid hheader hload hlen hdigest), ?_, ?_,
        State.firmwareRuns_version .., fun b hslot hmac hcount howned => ?_⟩
      · rw [hrst]
        rfl
      · rw [hrst]
        rfl
      · rw [hlcc]
        exact State.evalOwner_slotA hslot hmac hcount howned
    · exact ⟨_, congrArg Host.Outcome.next (State.firmwareLoaded_wrongLength hheader hload hlen), State.imageBad_last hlast⟩
  case recovery =>
    intro hreleased hload hlife hstopped h image l hvalid hlen hdigest
    let u : State := State.takeHeader { s with rst := { s.rst with stopped := false } } 2 h l
    obtain ⟨hrst, -, hreg⟩ := u.firmwareRuns_shows h image
    refine ⟨_, congrArg Host.Outcome.next
      (State.recovery_of_valid hreleased hload hlife hstopped hvalid hlen hdigest), ?_, ?_, ?_⟩
    · rw [hrst]
      rfl
    · rw [hrst]
      rfl
    · have hstart : (u.firmwareStart h image).reg .rst 0x114 = u.reg .rst 0x114 :=
        (State.reg_setReg_offset _ _ (by decide)).trans (State.reg_setReg_offset _ _ (by decide))
      rw [State.regField, hreg _ (by decide) (by decide) (by decide), hstart]
      exact State.takeHeader_source (by decide) h l
  case endOfLife =>
    intro hlife h image l
    exact congrArg Host.Outcome.next (if_pos (by simp [hlife]))
  case keys =>
    intro k hsecret hload hreleased hfirst hlife
    refine State.clocked_next hclock ?_
    have hstate : s.lcc.state ≠ 0 ∧ s.lcc.state ≠ 3 := by omega
    simp [State.keysDerived, hsecret, hload, hreleased, hfirst, hstate]
  case config =>
    exact fun hreleased hwaits => ⟨_, State.clocked_next hclock rfl, State.configReady_shows hreleased hwaits⟩
  case pack =>
    intro k mask p hpack hphase hturn
    have hrst := State.rst_bootPack hpack hphase hturn
    refine ⟨_, State.clocked_next hclock rfl, ?_, ?_, fun n hn st hmask hmore hserves hroom hchecks hstore => ?_⟩
    · rw [hrst]
    · rw [hrst]
      exact (lookup_put ..).trans (if_pos rfl)
    · subst hmask
      rw [State.bootPack_of_turn hpack hphase hturn, if_neg (Nat.ne_of_lt hmore)]
      exact State.packLoaded_store hn hserves hroom hchecks hstore
  case full =>
    exact fun hphase hcommitted => ⟨_, State.clocked_next hclock rfl, State.fullReady_shows hphase hcommitted⟩
  case early => exact fun hphase => State.clocked_next hclock (if_neg fun h => hphase h.1)
  case owner =>
    intro k hpending hload hsecret q r u
    refine congrArg Host.Outcome.next ?_
    cases hflash : s.rst.lastOwnerB <;> simp [State.ownerRecord, hsecret, hpending, hload, hflash, u, r, q]
  case restore =>
    intro key r hkey hroot hreleased hload hmask hwaits hrecords hidle
    have hdue : s.RestoreDue := ⟨hreleased, hload, hmask, hwaits, hidle⟩
    refine ⟨fun htag hunder hmarker => ?_, fun hfails => ?_⟩
    · obtain ⟨hgood, hlive⟩ := State.liveRecords_good hrecords (key := key) (by simp [htag, hunder]) hmarker
      have hend := State.persistRestore_ends hdue hkey hroot (bad := 0) (by simp [hrecords, hgood]) hlive rfl hidle
      have hreported := State.restoreEnd_reported ((s.restoreOne r).noteRestore 0) 0 1
      obtain ⟨hint, -⟩ := State.restoreEnd_shows ((s.restoreOne r).noteRestore 0) 0 1
      refine ⟨_, State.clocked_next hclock hend, ?_, ?_, hint, ?_⟩
      · exact congrArg Lode.restoreDone hreported.lode
      · exact congrArg Lode.restoreFail hreported.lode
      · have hobj : (((s.restoreOne r).noteRestore 0).restoreEnd 0 1).obj (handleIndex r.handle) =
            (s.restoreOne r).obj (handleIndex r.handle) :=
          (congrArg (fun x : Lode => Cells.get objDefault x.objs (handleIndex r.handle)) hreported.lode).trans rfl
        have hback := hobj.trans (State.obj_setObj ..)
        exact ⟨congrArg Obj.present hback, congrArg Obj.gen hback, congrArg Obj.tenant hback, congrArg Obj.held hback⟩
    · have hbad : (r.tagOk && r.under == key) = false := by
        obtain h | h := hfails <;> simp [h]
      obtain ⟨hgood, hlive⟩ := State.liveRecords_bad hrecords hbad
      have hend := State.persistRestore_ends hdue hkey hroot (bad := 1) (by simp [hrecords, hgood]) hlive rfl hidle
      have hreported := State.restoreEnd_reported (s.noteRestore 1) 1 0
      obtain ⟨-, herror⟩ := State.restoreEnd_shows (s.noteRestore 1) 1 0
      exact ⟨_, State.clocked_next hclock hend, congrArg Lode.restoreDone hreported.lode,
        congrArg Lode.restoreFail hreported.lode, congrArg Lode.restorePartial hreported.lode, herror (by decide),
        (congrArg Lode.objs hreported.lode).trans rfl⟩
  case none =>
    intro hlost hreleased hload hmask hwaits hidle
    exact ⟨_, State.clocked_next hclock (State.persistRestore_none ⟨hreleased, hload, hmask, hwaits, hidle⟩ hlost),
      State.restoreNone_shows hidle⟩

end Sys2Proof.Machine
end

section
/-! PROOF. The noise cells (R250, R251): which cells a report, a verdict and an exclusion change, and how many are healthy
after them. -/
namespace Sys2Proof.Machine

/-! ## Reports beside the entropy source -/

namespace Reported
variable {s t : State}

theorem stamp (h : Reported s t) : t.stamp = s.stamp := by
  obtain ⟨_, _, _, rfl⟩ := h.frame
  rfl

theorem ent (h : Reported s t) : t.ent = s.ent := by
  obtain ⟨_, _, _, rfl⟩ := h.frame
  rfl

/-- A report and a change of the source do not meet. -/
theorem mapEnt (h : Reported s t) (f : Ent → Ent) : Reported { s with ent := f s.ent } { t with ent := f t.ent } := by
  obtain ⟨⟨regs, fns, hdf, rfl⟩, hreg, hlatched, hrun⟩ := h
  exact ⟨⟨regs, fns, hdf, rfl⟩, hreg, hlatched, hrun⟩

theorem entEvent (s : State) (cls cell cause : Nat) : Reported s (s.entEvent cls cell cause) := logEvent ..

end Reported

/-! ## Changes of cells -/

theorem State.cell_congr {s t : State} (h : t.ent.cells = s.ent.cells) (c : Nat) : t.cell c = s.cell c := by
  rw [State.cell, State.cell, h]

theorem State.cell_setCell_other (s : State) {c d : Nat} (x : Cell) (h : d ≠ c) : (s.setCell c x).cell d = s.cell d :=
  Cells.get_set_other _ _ _ h

/-- `t` is `s` with other cells and another count of exclusions, and with reports added. -/
def CellsMoved (s t : State) : Prop :=
  ∃ cells n, Reported { s with ent := { s.ent with cells := cells, failCells := n } } t

namespace CellsMoved
variable {s t u : State}

theorem refl (s : State) : CellsMoved s s := ⟨s.ent.cells, s.ent.failCells, .refl s⟩

theorem trans (h : CellsMoved s t) (h' : CellsMoved t u) : CellsMoved s u := by
  obtain ⟨cells, n, h'⟩ := h'
  obtain ⟨_, _, h⟩ := h
  exact ⟨cells, n, (h.mapEnt fun x => { x with cells := cells, failCells := n }).trans h'⟩

theorem ite {c : Prop} {inst : Decidable c} (ht : CellsMoved s t) (hu : CellsMoved s u) :
    CellsMoved s (if c then t else u) := by
  split
  exacts [ht, hu]

theorem foldl {β : Type} {f : State → β → State} (hf : ∀ s b, CellsMoved s (f s b)) (l : List β) (s : State) :
    CellsMoved s (l.foldl f s) := by
  induction l generalizing s with
  | nil => exact refl s
  | cons b l ih => exact (hf s b).trans (ih (f s b))

theorem setCell (s : State) (c : Nat) (x : Cell) : CellsMoved s (s.setCell c x) := ⟨_, s.ent.failCells, .refl _⟩

/-! What is left as it was. -/

theorem ent (h : CellsMoved s t) : ∃ cells n, t.ent = { s.ent with cells := cells, failCells := n } := by
  obtain ⟨cells, n, h⟩ := h
  exact ⟨cells, n, h.ent⟩

theorem stamp (h : CellsMoved s t) : t.stamp = s.stamp := by
  obtain ⟨_, _, h⟩ := h
  exact h.stamp

theorem tally (h : CellsMoved s t) : t.tally = s.tally := by
  obtain ⟨_, _, h⟩ := h
  exact h.tally

theorem phase (h : CellsMoved s t) : t.ent.phase = s.ent.phase := by
  obtain ⟨_, _, h⟩ := h.ent
  rw [h]

theorem attempt (h : CellsMoved s t) : t.ent.attempt = s.ent.attempt := by
  obtain ⟨_, _, h⟩ := h.ent
  rw [h]

theorem stage (h : CellsMoved s t) : t.ent.stage = s.ent.stage := by
  obtain ⟨_, _, h⟩ := h.ent
  rw [h]

theorem entReady (h : CellsMoved s t) : t.entReady = s.entReady := by rw [State.entReady, State.entReady, h.phase]

end CellsMoved

/-! ## Exclusion (R250, R251) -/

/-- An exclusion changes its cell and the count of exclusions, and is reported. -/
theorem State.excludeCell_reported (s : State) (c cause : Nat) : ∃ x n, x.cstate = 3 ∧ x.cause = cause ∧ x.excl = true ∧
    Reported { s with ent := { s.ent with cells := Cells.set cellDefault s.ent.cells c x, failCells := n } }
      (s.excludeCell c cause) := by
  unfold State.excludeCell
  extract_lets _ x u v _ w
  have hu : Reported s u := .setErr ..
  split
  case isTrue hexcl =>
    refine ⟨{ x with cstate := 3, cause := cause }, s.ent.failCells, rfl, rfl, hexcl, ?_⟩
    exact hu.mapEnt fun y => { y with cells := Cells.set cellDefault y.cells c { x with cstate := 3, cause := cause } }
  case isFalse =>
    let z : Cell := { x with cstate := 3, cause := cause, excl := true, exclCount := satAdd 0xFFFF x.exclCount 1 }
    refine ⟨z, satAdd 0xFFFF s.ent.failCells 1, rfl, rfl, rfl, ?_⟩
    exact ((hu.mapEnt fun y => { y with
      cells := Cells.set cellDefault y.cells c z
      failCells := satAdd 0xFFFF y.failCells 1 }).trans (.setInt w .ent 16)).trans (.entEvent ..)

theorem CellsMoved.excludeCell (s : State) (c cause : Nat) : CellsMoved s (s.excludeCell c cause) := by
  obtain ⟨_, n, -, -, -, h⟩ := s.excludeCell_reported c cause
  exact ⟨_, n, h⟩

theorem State.cell_excludeCell_other (s : State) {c d : Nat} (cause : Nat) (h : d ≠ c) :
    (s.excludeCell c cause).cell d = s.cell d := by
  obtain ⟨x, n, -, -, -, hreported⟩ := s.excludeCell_reported c cause
  exact (State.cell_congr (congrArg Ent.cells hreported.ent) d).trans (Cells.get_set_other _ _ _ h)

theorem State.cell_excludeCell (s : State) (c cause : Nat) : ((s.excludeCell c cause).cell c).cstate = 3 ∧
    ((s.excludeCell c cause).cell c).cause = cause ∧ ((s.excludeCell c cause).cell c).excl = true := by
  obtain ⟨x, n, hstate, hcause, hexcl, hreported⟩ := s.excludeCell_reported c cause
  have hcell : (s.excludeCell c cause).cell c = x :=
    (State.cell_congr (congrArg Ent.cells hreported.ent) c).trans (Cells.get_set_same ..)
  rw [hcell]
  exact ⟨hstate, hcause, hexcl⟩

/-! ## All cells in turn -/

section
variable {f : State → Nat → State} (hf : ∀ s c d, d ≠ c → (f s c).cell d = s.cell d)
include hf

theorem State.cell_foldl_other {l : List Nat} {c : Nat} (hc : c ∉ l) (s : State) : (l.foldl f s).cell c = s.cell c := by
  induction l generalizing s with
  | nil => rfl
  | cons a l ih =>
    obtain ⟨ha, hl⟩ : c ≠ a ∧ c ∉ l := by simpa using hc
    exact (ih hl (f s a)).trans (hf s a c ha)

/-- A pass over the cells in which each step changes its own cell only finds every cell as the pass began. -/
theorem State.cell_foldl {l : List Nat} (hl : l.Nodup) {c : Nat} (hc : c ∈ l) (s : State) :
    ∃ u, u.cell c = s.cell c ∧ (l.foldl f s).cell c = (f u c).cell c := by
  induction l generalizing s with
  | nil => cases hc
  | cons a l ih =>
    obtain ⟨ha, hl⟩ := List.nodup_cons.mp hl
    by_cases hca : c = a
    · subst c
      exact ⟨s, rfl, State.cell_foldl_other hf ha (f s a)⟩
    · obtain ⟨u, hu, hlast⟩ := ih hl ((List.mem_cons.mp hc).resolve_left hca) (f s a)
      exact ⟨u, hu.trans (hf s a c hca), hlast⟩

/-- As `cell_foldl`, for the eight cells. -/
theorem State.cell_foldl_all {c : Nat} (hc : c < 8) (s : State) :
    ∃ u, u.cell c = s.cell c ∧ ((List.range 8).foldl f s).cell c = (f u c).cell c :=
  State.cell_foldl hf List.nodup_range (List.mem_range.mpr hc) s

end

theorem CellsMoved.mapCells (s : State) (f : Nat → Cell → Cell) : CellsMoved s (s.mapCells f) :=
  .foldl (fun _ _ => .setCell ..) _ s

theorem State.cell_mapCells (s : State) (f : Nat → Cell → Cell) {c : Nat} (hc : c < 8) :
    (s.mapCells f).cell c = f c (s.cell c) := by
  obtain ⟨u, hu, hlast⟩ := State.cell_foldl_all (f := fun s c => s.setCell c (f c (s.cell c)))
    (fun s _ _ => s.cell_setCell_other _) hc s
  exact hlast.trans ((u.cell_setCell c _).trans (by rw [hu]))

/-! ## The end of settling (R253) -/

/-- A settled cell goes to test, or is excluded without samples. -/
def State.settleCell (dead : List Nat) (s : State) (c : Nat) : State :=
  if dead.contains c then s.excludeCell c 4 else s.setCell c { s.cell c with cstate := 1 }

theorem CellsMoved.settleCell (dead : List Nat) (s : State) (c : Nat) : CellsMoved s (s.settleCell dead c) :=
  .ite (.excludeCell ..) (.setCell ..)

theorem State.cell_settleCell_other (dead : List Nat) (s : State) (c d : Nat) (h : d ≠ c) :
    (s.settleCell dead c).cell d = s.cell d := by
  unfold State.settleCell
  split
  · exact s.cell_excludeCell_other 4 h
  · exact s.cell_setCell_other _ h

theorem execEntSettleDone_of_settling {s : State} (h : s.ent.at 0 = true) (dead : List Nat) : execEntSettleDone dead s =
    .next ((List.range 8).foldl (State.settleCell dead)
      { s.advanceTo (s.ent.since + 2500000) with ent := { s.ent with stage := 1 } }) :=
  congrArg Host.Outcome.next (if_pos h)

/-! ## Verdicts (R250) -/

/-- Does a cell under test pass: one the verdicts say nothing of does? -/
def Verdicts.passed (v : Verdicts) (c : Nat) : Bool :=
  match v.find? fun p => p.cell == c with
  | some p => p.verdict.2.2.isNone
  | none => true

/-- Is a cell healthy once the cells under test have their verdicts? -/
def State.passes (s : State) (v : Verdicts) (c : Nat) : Bool :=
  (s.cell c).cstate == 2 || ((s.cell c).cstate == 1 && v.passed c)

/-- How many cells are healthy then. -/
def State.passing (s : State) (v : Verdicts) : Nat := ((List.range 8).filter (s.passes v)).length

/-- A cell under test gets its verdict. -/
def State.takeVerdict (v : Verdicts) (s : State) (c : Nat) : State :=
  if (s.cell c).cstate ≠ 1 then s
  else match v.find? fun p => p.cell == c with
    | some p =>
      let r := p.verdict
      let s := s.setCell c { s.cell c with health := r.1, aptMax := Nat.max (s.cell c).aptMax r.2.1, waiting := [] }
      match r.2.2 with
      | some cause => s.excludeCell c cause
      | none => s.setCell c { s.cell c with cstate := 2, excl := false }
    | none => s.setCell c { s.cell c with cstate := 2, excl := false, health := {}, waiting := [] }

theorem State.cellVerdicts_eq (s : State) (v : Verdicts) :
    s.cellVerdicts v = (List.range 8).foldl (State.takeVerdict v) s := rfl

/-- The verdict of a cell changes that cell only, and leaves it healthy if it passes. -/
theorem State.takeVerdict_shows (v : Verdicts) (s : State) (c : Nat) : CellsMoved s (s.takeVerdict v c) ∧
    (∀ d, d ≠ c → (s.takeVerdict v c).cell d = s.cell d) ∧ (((s.takeVerdict v c).cell c).cstate == 2) = s.passes v c := by
  unfold State.takeVerdict State.passes Verdicts.passed
  split
  case isTrue hother => exact ⟨.refl s, fun _ _ => rfl, by simp [hother]⟩
  case isFalse htest =>
    obtain htest : (s.cell c).cstate = 1 := not_not.mp htest
    split
    case h_1 p _ =>
      extract_lets r _ u
      have hu : CellsMoved s u := .setCell ..
      have hother {d : Nat} (hd : d ≠ c) : u.cell d = s.cell d := s.cell_setCell_other _ hd
      split
      case h_1 cause hfails =>
        obtain ⟨hstate, -, -⟩ := u.cell_excludeCell c cause
        refine ⟨hu.trans (.excludeCell ..), fun d hd => (u.cell_excludeCell_other cause hd).trans (hother hd), ?_⟩
        simp [hstate, htest, show p.verdict.2.2 = some cause from hfails]
      case h_2 hpasses =>
        refine ⟨hu.trans (.setCell ..), fun d hd => (u.cell_setCell_other _ hd).trans (hother hd), ?_⟩
        simp [htest, show p.verdict.2.2 = none from hpasses]
    case h_2 => exact ⟨.setCell .., fun d hd => s.cell_setCell_other _ hd, by simp [htest]⟩

theorem CellsMoved.cellVerdicts (s : State) (v : Verdicts) : CellsMoved s (s.cellVerdicts v) :=
  .foldl (fun s c => (s.takeVerdict_shows v c).1) _ s

theorem State.healthyCells_cellVerdicts (s : State) (v : Verdicts) : (s.cellVerdicts v).healthyCells = s.passing v := by
  refine congrArg List.length (List.filter_congr fun c hc => ?_)
  obtain ⟨u, hu, hlast⟩ := State.cell_foldl_all (f := State.takeVerdict v) (fun s c => (s.takeVerdict_shows v c).2.1)
    (List.mem_range.mp hc) s
  obtain ⟨-, -, hpasses⟩ := u.takeVerdict_shows v c
  rw [State.cellVerdicts_eq, hlast, hpasses, State.passes, State.passes, hu]

/-- Where one cell is no longer healthy and the others are as they were, there is one healthy cell less. -/
theorem State.healthyCells_lost {s t : State} {c : Nat} (hc : c < 8) (hwas : (s.cell c).cstate = 2)
    (hnow : (t.cell c).cstate ≠ 2) (hothers : ∀ d, d ≠ c → t.cell d = s.cell d) :
    t.healthyCells = s.healthyCells - 1 := by
  let healthy := (List.range 8).filter fun d => (s.cell d).cstate == 2
  have hmem : c ∈ healthy := List.mem_filter.mpr ⟨List.mem_range.mpr hc, by simp [hwas]⟩
  have hnodup : healthy.Nodup := List.nodup_range.filter _
  have hleft : ((List.range 8).filter fun d => (t.cell d).cstate == 2) = healthy.erase c := by
    rw [hnodup.erase_eq_filter, List.filter_filter]
    refine List.filter_congr fun d _ => ?_
    by_cases hd : d = c
    · subst d
      simp [hnow]
    · simp [hothers d hd, hd]
  rw [State.healthyCells, hleft, List.length_erase_of_mem hmem]
  rfl

end Sys2Proof.Machine
end

section
/-! PROOF. Total failure (R259, R230): the work that ends with it leaves the failed source as it is. A Stope that is reset on
the way loses generators; nothing seeds one. -/
namespace Sys2Proof.Machine

/-- The source is `x` but for the Stopes' generators, with no masking generator in a Stope or in Lode (R230). -/
structure Down (x : Ent) (s : State) : Prop where
  ent : { s.ent with stopes := [] } = x
  mrgs : s.ent.mrgs = []
  mask : s.lode.maskGen = false

namespace Down
variable {x : Ent} {s t u : State}

/-! ## Changes beside the source -/

/-- Only fields other than the source and Lode differ. -/
theorem upd
    {stamp edge freeNext flaws prims flips latches host pending regs txn dir fns sqs cqs tally hdf cny ctxs dgs slc shafts
     stopes engs runs kstQueue samplers lcc zdp rst spdms avs bwNext}
    (h : Down x s) :
    Down x { s with
      stamp, edge, freeNext, flaws, prims, flips, latches, host, pending, regs, txn, dir, fns, sqs, cqs, tally, hdf, cny,
      ctxs, dgs, slc, shafts, stopes, engs, runs, kstQueue, samplers, lcc, zdp, rst, spdms, avs, bwNext } :=
  ⟨h.ent, h.mrgs, h.mask⟩

/-- Lode changes, but not its masking generator. -/
theorem withLode {lode : Lode} (h : Down x s) (hmask : lode.maskGen = s.lode.maskGen) : Down x { s with lode := lode } :=
  ⟨h.ent, h.mrgs, hmask.trans h.mask⟩

theorem ite {c : Prop} {inst : Decidable c} (ht : Down x t) (hu : Down x u) : Down x (if c then t else u) := by
  split
  exacts [ht, hu]

theorem foldl {β : Type} {f : State → β → State} {l : List β} (h : Down x s) (hf : ∀ s b, Down x s → Down x (f s b)) :
    Down x (l.foldl f s) := by
  induction l generalizing s with
  | nil => exact h
  | cons b l ih => exact ih (hf s b h)

theorem report (h : Down x s) (hr : Reported s t) : Down x t := by
  obtain ⟨_, _, _, rfl⟩ := hr.frame
  exact h.upd

theorem raiseVector {t v : Nat} (h : Down x s) : Down x (s.raiseVector t v) := h.report (.raiseVector ..)

theorem setInt {p : Page} {n : Nat} (h : Down x s) : Down x (s.setInt p n) := h.report (.setInt ..)

theorem setErr {p : Page} {n : Nat} (h : Down x s) : Down x (s.setErr p n) := h.report (.setErr ..)

theorem setReg {p : Page} {off : Nat} {v : Word} (h : Down x s) : Down x (s.setReg p off v) := h.upd

theorem bumpCounter {p : Page} {k d : Nat} (h : Down x s) : Down x (s.bumpCounter p k d) :=
  .ite h.setReg.setReg h.setReg.setReg.setReg.setInt

theorem pmu {ev t d : Nat} {n i : Option Nat} (h : Down x s) : Down x (s.pmu ev t n i d) :=
  have count {p : Page} {num : Nat} {s : State} (h : Down x s) : Down x (s.countIn p num ev t n i d) :=
    .ite h <| h.foldl fun _ _ h => .ite h.bumpCounter h
  count (count h)

/-! ## The unit is released (R240, R293) -/

theorem mapEngs {n : Nat} {l : List Nat} {f : Eng → Eng} (h : Down x s) : Down x (s.mapEngs n l f) :=
  h.foldl fun _ _ h => h.upd

/-- A Stope that is reset has no generator (R261). -/
theorem resetStope {n : Nat} (h : Down x s) : Down x (s.resetStope n) := by
  have hengs : Down x (s.mapEngs n (List.range 16) fun _ => {}) := h.mapEngs
  unfold State.resetStope
  generalize s.mapEngs n (List.range 16) (fun _ => {}) = u at hengs ⊢
  have hmrgs : Cells.set mrgDefault u.ent.mrgs n {} = u.ent.mrgs := by
    rw [hengs.mrgs]
    rfl
  refine ⟨Eq.trans ?_ hengs.ent, hmrgs.trans hengs.mrgs, hengs.mask⟩
  exact congrArg (fun m => ({ u.ent with stopes := [], mrgs := m } : Ent)) hmrgs

theorem stopeSettled {n : Nat} (h : Down x s) : Down x (s.stopeSettled n) :=
  .ite (.ite h.setInt.resetStope h.setInt) h

theorem endRun {e : Nat} {wipe : Bool} (h : Down x s) : Down x (s.endRun e wipe) := by
  unfold State.endRun
  split
  case h_1 => exact h
  case h_2 r _ =>
    extract_lets u v
    have hu : Down x u := .ite h.upd h.upd
    have hv : Down x v := hu.upd
    exact .ite hv.stopeSettled hv.mapEngs.stopeSettled

theorem leaveShaft {n e : Nat} {committed : Bool} (h : Down x s) : Down x (s.leaveShaft n e committed) := by
  unfold State.leaveShaft
  dsimp only
  split
  · split
    · exact h.upd
    split
    exacts [.ite h.upd h.upd, h.upd]
  · exact .ite h.upd h.upd
  · exact h.upd

theorem releaseUnit {e : Nat} {target : Target} {committed : Bool} (h : Down x s) :
    Down x (s.releaseUnit e target committed) := by
  cases target with
  | stope n first w => exact h.endRun
  | shaft n => exact h.leaveShaft
  | worker d => exact h
  | none => exact h

/-! ## What was reserved is freed (R178, R194, R199) -/

theorem dropResv {e : Nat} (h : Down x s) : Down x (s.dropResv e) := by
  unfold State.dropResv
  split
  case h_2 => exact h
  case h_1 y _ =>
    extract_lets u mine v lode w
    have hu : Down x u := by
      dsimp only [u]
      split
      · split
        exacts [h.withLode rfl, h]
      · exact h
    have hv : Down x v := by
      refine hu.foldl fun s g h => ?_
      split
      exacts [.ite (h.withLode rfl) h, h]
    have hw : Down x w := hv.withLode rfl
    exact hw.upd

theorem setObj {i : Nat} {o : Obj} (h : Down x s) : Down x (s.setObj i o) := h.withLode rfl

theorem dropKids {e : Nat} {y : Entry} (h : Down x s) : Down x (s.dropKids e y) := by
  unfold State.dropKids
  extract_lets kid tally u
  have hu : Down x u := h.upd
  split
  · split
    · exact .ite hu.setObj.upd hu
    · exact hu
  · exact hu

theorem countLost {y : Entry} {st : Status} (h : Down x s) : Down x (s.countLost y st) := by
  unfold State.countLost
  dsimp only
  split
  exacts [.ite h h.setObj, h]

/-! ## The operation ends (R69, R82, R94) -/

theorem setCq {t q : Nat} {c : Cq} (h : Down x s) : Down x (s.setCq t q c) := h.upd

theorem hostWrite {a : Nat} {bs : Bytes} (h : Down x s) : Down x (s.hostWrite a bs) := h.upd

theorem moderate {t q : Nat} (h : Down x s) : Down x (s.moderate t q) := .ite h.setCq.raiseVector h

theorem countRecord {t q : Nat} {y : Entry} (h : Down x s) : Down x (s.countRecord t q y) := .ite h.setCq.moderate h

theorem writeRecord {e : Nat} {y : Entry} (h : Down x s) : Down x (s.writeRecord e y) := by
  rw [State.writeRecord_eq]
  have hplaced : Down x (s.placeRecord e y) := h.hostWrite.setCq.upd
  exact (Down.ite hplaced.pmu hplaced.pmu.pmu).countRecord

theorem drainFuel {t q fuel : Nat} (h : Down x s) : Down x (Machine.drainFuel t q fuel s) := by
  induction fuel generalizing s with
  | zero => exact h
  | succ fuel ih =>
    unfold Machine.drainFuel
    dsimp only
    split
    · refine .ite ?_ h
      split
      exacts [ih h.writeRecord, ih h.upd]
    · exact h

theorem queueRecord {e : Nat} {y : Entry} (h : Down x s) : Down x (s.queueRecord e y) := h.upd.drainFuel

theorem spillResult {e token : Nat} {y : Entry} (h : Down x s) : Down x (s.spillResult e y token) :=
  .ite h.upd (.ite h.upd (.ite h.upd h.upd))

theorem freeEntry {e : Nat} (h : Down x s) : Down x (s.freeEntry e) := by
  unfold State.freeEntry
  split
  · extract_lets u v w
    have hu : Down x u := h.dropResv.dropKids
    have hv : Down x v := .ite hu.countLost hu
    have hw : Down x w := .ite hv.releaseUnit hv
    exact hw.upd
  · exact h

theorem settleOne {e : Nat} {st : Status} {now : Stamp} (h : Down x s) : Down x (s.settleOne e st now) := by
  cases hy : s.entry e with
  | none =>
    rw [State.settleOne, hy]
    exact h
  | some y =>
    rw [State.settleOne_of_entry hy]
    have hgone : Down x (s.letGo e y st) := (Down.ite h.releaseUnit h).dropResv.dropKids.countLost
    have hv : Down x ((s.letGo e y st).setEntry e (y.ended st now)) := hgone.upd
    exact .ite hv.upd (.ite hv.spillResult (.ite hv.freeEntry hv.queueRecord))

theorem finish {e : Nat} {st : Status} (h : Down x s) : Down x (s.finish e st) := by
  unfold State.finish State.settle
  dsimp only
  split
  · exact h
  split
  · exact h.settleOne
  split
  exacts [.ite h.settleOne.settleOne h.settleOne, h.settleOne]

/-! ## Contexts are cleared (R273) -/

theorem setCtx {t c : Nat} {y : Ctx} (h : Down x s) : Down x (s.setCtx t c y) := h.upd

theorem dgsClearWhere {p : Ctx → Bool} {b : Nat} (h : Down x s) : Down x (s.dgsClearWhere p b) :=
  h.foldl fun s k h =>
    have hdropped : Down x (s.dropCore (k / 1024) (k % 1024)) := h.upd
    hdropped.setCtx.setCtx.setErr

end Down

/-- The source at the stamp of its total failure, but for the Stopes' generators (R259). -/
def State.downEnt (s : State) : Ent :=
  { s.ent with
    phase := 4, attempt := 0, stage := 0, central := {}, stopes := [], mrgs := [], queue := [], pool := []
    failStamp := s.stamp, failTotal := satAdd 0xFFFF s.ent.failTotal 1 }

/-- Total failure: what ends with it leaves the source down. -/
theorem State.entFail_down (s : State) (startup : Bool) : Down s.downEnt (s.entFail startup) := by
  unfold State.entFail
  extract_lets _ u _ v w y z
  have hv : Down s.downEnt v := ⟨rfl, rfl, rfl⟩
  have hw : Down s.downEnt w := hv.dgsClearWhere
  have hy : Down s.downEnt y := hw.foldl fun _ _ h => h.finish
  have hz : Down s.downEnt z := hy.foldl fun _ _ h => h.upd
  exact hz.setErr.setInt.report (.entEvent ..)

end Sys2Proof.Machine
end

section
/-! PROOF. The generators (R229, R253, R255 to R258): what a draw, a reseed and a served request make of them, and the start of
all of them. -/
namespace Sys2Proof.Machine

/-! ## Draws and requests -/

section
variable {s : State}

@[simp] theorem State.gen_setGen (s : State) (n : Nat) (g : Gen) : (s.setGen n g).gen n = g := Cells.get_set_same ..

@[simp] theorem State.mrg_setMrg (s : State) (n : Nat) (m : Mrg) : (s.setMrg n m).mrg n = m := Cells.get_set_same ..

/-- A reseed of the central DRBG takes three blocks of the pool; what the pool lacks are free values (R248, R255). -/
theorem State.centralReseed_live (hlive : s.ent.central.live = true) : ∃ n extra, s.centralReseed =
    { s with
      freeNext := n
      ent := { s.ent with
        pool := s.ent.pool.drop 3
        central := s.ent.central.reseeded ((s.ent.pool.take 3).flatten ++ extra)
          (if s.ent.central.persLater then s.persValue else []) s.stamp } } ∧
    (3 ≤ s.ent.pool.length → extra = []) := by
  refine ⟨_, (s.freshBytes (16 * (3 - (s.ent.pool.take 3).length))).2, if_pos hlive, fun hfull => ?_⟩
  have hnone : 16 * (3 - (s.ent.pool.take 3).length) = 0 := by
    rw [List.length_take]
    omega
  rw [hnone]
  rfl

/-- Instantiated, with the source not failed, the central DRBG serves a request, after the reseed that goes before it. -/
theorem State.centralFor_granted (hlive : s.ent.central.live = true) (hphase : s.ent.phase ≠ 4) (cls len : Nat) :
    ∃ n pool g bs, s.centralFor cls len =
        ({ s with freeNext := n, ent := { s.ent with pool := pool, central := g } }, some bs) ∧ g.live = true ∧
      g.requests = (if cls ≤ 2 || s.ent.central.due 100000 s.stamp then 0 else s.ent.central.requests) + 1 := by
  have hask (n : Nat) (pool : List Bytes) (g : Gen) (hg : g.live = true) :
      ({ s with freeNext := n, ent := { s.ent with pool := pool, central := g } } : State).askCentral len =
        ({ s with freeNext := n, ent := { s.ent with pool := pool, central := g.stepped len [] } },
          some (g.give len [])) := if_neg (by simp [hg, hphase])
  unfold State.centralFor
  split
  case isTrue =>
    obtain ⟨n, extra, hreseed, -⟩ := State.centralReseed_live hlive
    rw [hreseed]
    exact ⟨_, _, _, _, hask _ _ _ hlive, hlive, rfl⟩
  case isFalse => exact ⟨_, _, _, _, hask _ _ _ hlive, hlive, rfl⟩

/-- A generator serves the request that is next in its order (R258). -/
theorem State.serveGen_next {g : Nat} {r : DrbgReq} (h : Claims.NextAt s g r) :
    s.serveGen g = (Claims.served s r).serveUse r.use := by
  unfold State.serveGen
  rw [show nextReq g s.ent.queue = some r from h]
  rfl

/-- With nothing waiting, a class 1 request is served at once. -/
theorem State.reseedNow_of_empty (hqueue : s.ent.queue = []) (g : Nat) (u : DrbgUse) : s.reseedNow g u = s.serveUse u := by
  let r : DrbgReq := { gen := g, cls := 1, use := u }
  have hasked : (s.askGen r).ent.queue = [r] := congrArg (· ++ [r]) hqueue
  have hnext : Claims.NextAt (s.askGen r) g r := by
    rw [Claims.NextAt, hasked]
    exact if_pos rfl
  have hserved : Claims.served (s.askGen r) r = s := by
    have hempty : (s.askGen r).ent.queue.erase r = s.ent.queue := by
      rw [hasked, hqueue]
      simp
    exact congrArg (fun q => ({ s with ent := { s.ent with queue := q } } : State)) hempty
  have h := State.serveGen_next hnext
  rwa [hserved] at h

/-- A Stope's masking generator is seeded from its DRBG (R229). -/
theorem State.seedMrg_live {n : Nat} (hlive : (s.gen n).live = true) (hphase : s.ent.phase ≠ 4) :
    s.seedMrg n = (s.setGen n ((s.gen n).stepped 32 [])).setMrg n { valid := true, seededAt := s.stamp } := by
  unfold State.seedMrg State.askStope
  simp only [hlive, if_neg hphase, if_true]
  rfl

end

/-! ## Every generator is started (R253) -/

/-- `t` is `s` after draws: the source's phase and the central DRBG stand, and Tally, the registers and the clock are as they
were. -/
structure Drawn (s t : State) : Prop where
  frame : ∃ ent fns lode cny freeNext, t = { s with ent, fns, lode, cny, freeNext }
  phase : t.ent.phase = s.ent.phase
  live : s.ent.central.live = true → t.ent.central.live = true

namespace Drawn
variable {r s t u : State}

theorem refl (s : State) : Drawn s s := ⟨⟨_, _, _, _, _, rfl⟩, rfl, id⟩

theorem ite {c : Prop} {inst : Decidable c} (ht : Drawn r t) (hu : Drawn r u) : Drawn r (if c then t else u) := by
  split
  exacts [ht, hu]

theorem foldl {β : Type} {f : State → β → State} {l : List β} (h : Drawn r s) (hf : ∀ s b, Drawn r s → Drawn r (f s b)) :
    Drawn r (l.foldl f s) := by
  induction l generalizing s with
  | nil => exact h
  | cons b l ih => exact ih (hf s b h)

/-- The state of a draw that answers a pair, once the pair is taken apart. -/
theorem fst {α : Type} {p : State × α} {b : α} (h : Drawn r p.1) (hp : p = (t, b)) : Drawn r t := by
  subst hp
  exact h

/-- The source changes, but not its phase, nor does a central DRBG that is instantiated cease to be. -/
theorem withEnt {ent : Ent} (h : Drawn r s) (hphase : ent.phase = s.ent.phase)
    (hlive : s.ent.central.live = true → ent.central.live = true) : Drawn r { s with ent := ent } := by
  obtain ⟨⟨_, _, _, _, _, rfl⟩, hp, hl⟩ := h
  exact ⟨⟨_, _, _, _, _, rfl⟩, hphase.trans hp, fun h => hlive (hl h)⟩

/-- Only functions, Lode, Canary and the free values differ. -/
theorem upd {fns lode cny freeNext} (h : Drawn r s) : Drawn r { s with fns, lode, cny, freeNext } := by
  obtain ⟨⟨_, _, _, _, _, rfl⟩, hp, hl⟩ := h
  exact ⟨⟨_, _, _, _, _, rfl⟩, hp, hl⟩

theorem setGen {n : Nat} {g : Gen} (h : Drawn r s) : Drawn r (s.setGen n g) := h.withEnt rfl id

theorem setMrg {n : Nat} {m : Mrg} (h : Drawn r s) : Drawn r (s.setMrg n m) := h.withEnt rfl id

theorem centralReseed (h : Drawn r s) : Drawn r s.centralReseed := .ite (h.upd.withEnt rfl id) h

theorem askCentral {len : Nat} (h : Drawn r s) : Drawn r (s.askCentral len).1 := by
  unfold State.askCentral
  split
  exacts [h, h.withEnt rfl id]

theorem centralFor {cls len : Nat} (h : Drawn r s) : Drawn r (s.centralFor cls len).1 :=
  (Drawn.ite h.centralReseed h).askCentral

theorem drawCentral {cls len : Nat} (h : Drawn r s) : Drawn r (s.drawCentral cls len).1 := by
  unfold State.drawCentral
  split
  exacts [h.centralFor, h]

theorem askStope {n len : Nat} {extra : Bytes} (h : Drawn r s) : Drawn r (s.askStope n len extra).1 := by
  unfold State.askStope
  dsimp only
  split
  exacts [h.setGen, h]

theorem reseedStope {n : Nat} (h : Drawn r s) : Drawn r (s.reseedStope n).1 := by
  unfold State.reseedStope
  split
  next hdraw => exact (h.centralFor.fst hdraw).setGen
  next hdraw => exact (h.centralFor.fst hdraw).setGen

theorem seedMrg {n : Nat} (h : Drawn r s) : Drawn r (s.seedMrg n) := by
  unfold State.seedMrg
  dsimp only
  split
  · exact h.setMrg
  split
  next hdraw => exact (h.askStope.fst hdraw).setMrg
  next hdraw => exact (h.askStope.fst hdraw).setMrg

theorem seedMask (h : Drawn r s) : Drawn r s.seedMask := by
  unfold State.seedMask
  split
  next hdraw => exact (h.centralFor.fst hdraw).upd
  next hdraw => exact (h.centralFor.fst hdraw).upd

theorem serveUse {use : DrbgUse} (h : Drawn r s) : Drawn r (s.serveUse use) := by
  cases use with
  | reseedStope n => exact h.reseedStope
  | reseedMrg n => exact h.seedMrg
  | reseedLode => exact h.seedMask
  | refill t =>
    unfold State.serveUse
    dsimp only
    split
    next hdraw => exact (h.drawCentral.fst hdraw).upd
    next hdraw => exact h.drawCentral.fst hdraw

theorem served {q : DrbgReq} (h : Drawn r s) : Drawn r (Claims.served s q) := h.withEnt rfl id

theorem reseedNow {g : Nat} {use : DrbgUse} (h : Drawn r s) : Drawn r (s.reseedNow g use) := by
  have hasked : Drawn r (s.askGen { gen := g, cls := 1, use := use }) := h.withEnt rfl id
  unfold State.reseedNow State.serveGen
  split
  exacts [hasked.served.serveUse, hasked]

theorem newRootKey (h : Drawn r s) : Drawn r s.newRootKey := by
  unfold State.newRootKey
  split
  next hdraw => exact (h.centralFor.fst hdraw).upd
  next hdraw => exact h.centralFor.fst hdraw

theorem instantiateStope {n : Nat} (h : Drawn r s) : Drawn r (s.instantiateStope n) := by
  unfold State.instantiateStope
  split
  · split
    next hdraw => exact (h.centralFor.fst hdraw).setGen.reseedNow
    next hdraw => exact h.centralFor.fst hdraw
  · exact h

theorem instantiateCentral (s : State) : Drawn s s.instantiateCentral := ⟨⟨_, _, _, _, _, rfl⟩, rfl, fun _ => rfl⟩

theorem trans (h : Drawn s t) (h' : Drawn t u) : Drawn s u := by
  obtain ⟨⟨_, _, _, _, _, hu⟩, hp', hl'⟩ := h'
  obtain ⟨⟨_, _, _, _, _, rfl⟩, hp, hl⟩ := h
  exact ⟨⟨_, _, _, _, _, hu⟩, hp'.trans hp, fun h => hl' (hl h)⟩

end Drawn

/-- Steps 3 to 5 of R253 leave the central DRBG instantiated. -/
theorem State.instantiateAll_drawn (s : State) : Drawn s s.instantiateAll ∧ s.instantiateAll.ent.central.live = true := by
  have hall : Drawn s.instantiateCentral s.instantiateAll := by
    unfold State.instantiateAll
    extract_lets r _ _ _ u v w
    have hu : Drawn s.instantiateCentral u := (Drawn.refl _).centralFor.upd
    have hv : Drawn s.instantiateCentral v := hu.reseedNow
    have hw : Drawn s.instantiateCentral w := .ite hv.newRootKey hv
    exact hw.foldl fun _ _ h => h.instantiateStope
  exact ⟨(Drawn.instantiateCentral s).trans hall, hall.live rfl⟩

/-! ## READY (R253) -/

theorem State.askRefill_frame (s : State) (t : Nat) : ∃ q, s.askRefill t = { s with ent := { s.ent with queue := q } } := by
  unfold State.askRefill
  split
  exacts [⟨_, rfl⟩, ⟨_, rfl⟩]

theorem State.askRefills_frame (l : List Nat) (s : State) :
    ∃ q, l.foldl (fun s t => s.askRefill t) s = { s with ent := { s.ent with queue := q } } := by
  induction l generalizing s with
  | nil => exact ⟨_, rfl⟩
  | cons t l ih =>
    obtain ⟨q, hq⟩ := s.askRefill_frame t
    obtain ⟨q', hrest⟩ := ih (s.askRefill t)
    exact ⟨q', hrest.trans (by rw [hq])⟩

/-- An entry that waits for the source returns to QUEUED. -/
def Entry.woken (x : Entry) : Entry := { x with state := .queued, waitAt := 0 }

/-- Entries of a list return to QUEUED. -/
def State.wakeAll (s : State) (l : List Nat) : State := s.forEntries l fun s e => s.modEntry e Entry.woken

theorem State.wakeAll_frame (s : State) (l : List Nat) : ∃ entries, s.wakeAll l = s.withEntries entries := by
  induction l generalizing s with
  | nil => exact ⟨s.tally.entries, rfl⟩
  | cons e l ih =>
    obtain ⟨entries, hrest⟩ := ih (s.modEntry e Entry.woken)
    have hone : ∃ entries, s.modEntry e Entry.woken = s.withEntries entries := by
      unfold State.modEntry
      split
      exacts [⟨_, rfl⟩, ⟨s.tally.entries, rfl⟩]
    obtain ⟨_, hone⟩ := hone
    exact ⟨entries, hrest.trans (by rw [hone]; rfl)⟩

theorem State.entry_wakeAll (s : State) (l : List Nat) (e : Nat) :
    (s.wakeAll l).entry e = if e ∈ l then (s.entry e).map Entry.woken else s.entry e := by
  induction l generalizing s with
  | nil => simp [State.wakeAll, State.forEntries]
  | cons a l ih =>
    have hrest : (s.wakeAll (a :: l)).entry e = ((s.modEntry a Entry.woken).wakeAll l).entry e := rfl
    rw [hrest, ih, State.entry_modEntry]
    by_cases ha : e = a <;> by_cases hl : e ∈ l <;> cases s.entry e <;> simp [ha, hl, Entry.woken]

/-- Every entry that waits for the source is woken. -/
theorem State.entry_wakeEntropy (s : State) {e : Nat} {x : Entry} (hx : s.entry e = some x)
    (hwaits : x.state = .waitEntropy) : s.wakeEntropy.entry e = some x.woken := by
  have hmem : (e, x) ∈ s.tally.entries := by
    unfold State.entry lookup at hx
    split at hx
    case h_1 p hp =>
      obtain rfl : p.2 = x := Option.some.inj hx
      obtain rfl : p.1 = e := by simpa using List.find?_some hp
      exact List.mem_of_find?_eq_some hp
    case h_2 => cases hx
  have hlisted : e ∈ s.entriesWhere fun x => x.state == .waitEntropy :=
    State.mem_entriesWhere.mpr ⟨x, hmem, by simp [hwaits]⟩
  refine (s.entry_wakeAll _ e).trans ?_
  rw [if_pos hlisted, hx, Option.map_some]

/-- READY: the source is up, its interrupt is raised, and the entries that waited for it are QUEUED. -/
theorem State.entBecomesReady_shows (s : State) :
    (s.entBecomesReady.ent.phase = 2 ∨ s.entBecomesReady.ent.phase = 3) ∧
    s.entBecomesReady.ent.central = s.ent.central ∧ s.entBecomesReady.ent.attempt = 0 ∧
    bit (s.entBecomesReady.reg .ent 0x01C) 18 = true ∧
    ∀ e x, s.entry e = some x → x.state = .waitEntropy → s.entBecomesReady.entry e = some x.woken := by
  let u : State := { s with ent := { s.ent with phase := if s.healthyCells = 8 then 2 else 3, attempt := 0, stage := 0 } }
  let v : State := (u.setInt .ent 18).entEvent 0 0 0
  have hv : Reported u v := (Reported.setInt ..).trans (.entEvent ..)
  have hbit : bit (v.reg .ent 0x01C) 18 = true :=
    (Reported.entEvent (u.setInt .ent 18) 0 0 0).latched _ _ _ (u.bit_setInt .ent (by decide))
  have hwoken {e : Nat} {x : Entry} (hx : s.entry e = some x) (hwaits : x.state = .waitEntropy) :
      v.wakeEntropy.entry e = some x.woken := v.entry_wakeEntropy ((State.entry_congr hv.tally e).trans hx) hwaits
  obtain ⟨entries, hframe⟩ := v.wakeAll_frame (v.entriesWhere fun x => x.state == .waitEntropy)
  obtain ⟨q, hq⟩ := State.askRefills_frame (0 :: v.wakeEntropy.fns.map fun p => p.1) v.wakeEntropy
  have hready : s.entBecomesReady = { v.wakeEntropy with ent := { v.wakeEntropy.ent with queue := q } } := hq
  have hent : v.wakeEntropy.ent = u.ent := (congrArg State.ent hframe).trans hv.ent
  have hregs : v.wakeEntropy.regs = v.regs := (congrArg State.regs hframe :)
  rw [hready]
  refine ⟨?_, ?_, ?_, ?_, fun e x hx hwaits => hwoken hx hwaits⟩
  · show v.wakeEntropy.ent.phase = 2 ∨ v.wakeEntropy.ent.phase = 3
    rw [hent]
    by_cases hall : s.healthyCells = 8
    exacts [.inl (if_pos hall), .inr (if_neg hall)]
  · exact (congrArg Ent.central hent :)
  · exact (congrArg Ent.attempt hent :)
  · exact (congrArg (bit · 18) (State.reg_congr hregs ..)).trans hbit

end Sys2Proof.Machine
end

section
/-! PROOF. The entropy source and the generators (R229, R250 to R262, O35): each command by the equation of what it does. -/
namespace Sys2Proof.Machine

/-! ## Samples of a healthy cell (R248, R249, R251) -/

section
variable {s : State} {c : Nat}

/-- The state once a healthy cell's samples have gone through both tests and the conditioner. -/
def State.sampled (s : State) (c : Nat) (samples : Bytes) : State :=
  let r := healthRun (s.cell c).health (s.cell c).aptMax samples
  let w := conditionFuel (samples.length / 64 + 1) ((s.cell c).waiting ++ r.2.2.1)
  ({ s with ent := { s.ent with pool := s.ent.pool ++ w.2 } } : State).setCell c
    { s.cell c with health := r.1, aptMax := r.2.1, waiting := w.1 }

/-- The state once a cell's samples have failed a test: its block is discarded and the cell excluded. -/
def State.testFailed (s : State) (c : Nat) (samples : Bytes) (cause : Nat) : State :=
  let u := s.sampled c samples
  (u.setCell c { u.cell c with waiting := [] }).excludeCell c cause

theorem State.cellFail_of_healthy (hc : c < 8) (hhealthy : (s.cell c).cstate = 2) (samples : Bytes) :
    s.cellFail c samples =
      match (healthRun (s.cell c).health (s.cell c).aptMax samples).2.2.2 with
      | none => s.sampled c samples
      | some cause =>
        let u := s.testFailed c samples cause
        if !u.entReady then u else if u.healthyCells < 4 then u.entFail false
        else { u with ent := { u.ent with phase := 3 } } := by
  unfold State.cellFail
  rw [if_pos (by simp [hc, hhealthy])]
  rfl

theorem State.cell_sampled_other {d : Nat} (h : d ≠ c) (samples : Bytes) : (s.sampled c samples).cell d = s.cell d :=
  Cells.get_set_other _ _ _ h

theorem CellsMoved.testFailed (samples : Bytes) (cause : Nat) :
    CellsMoved (s.sampled c samples) (s.testFailed c samples cause) :=
  (CellsMoved.setCell ..).trans (.excludeCell ..)

theorem State.cell_testFailed_other {d : Nat} (h : d ≠ c) (samples : Bytes) (cause : Nat) :
    (s.testFailed c samples cause).cell d = s.cell d :=
  (State.cell_excludeCell_other _ cause h).trans ((State.cell_setCell_other _ _ h).trans (State.cell_sampled_other h samples))

theorem State.cell_testFailed (s : State) (c : Nat) (samples : Bytes) (cause : Nat) :
    ((s.testFailed c samples cause).cell c).cstate = 3 ∧ ((s.testFailed c samples cause).cell c).cause = cause ∧
      ((s.testFailed c samples cause).cell c).excl = true := State.cell_excludeCell _ c cause

/-- A cell that fails a test in service is excluded; with fewer than four left the source has failed. -/
theorem State.cellFail_shows (hc : c < 8) (hhealthy : (s.cell c).cstate = 2) {samples : Bytes} {cause : Nat}
    (hfails : (healthRun (s.cell c).health (s.cell c).aptMax samples).2.2.2 = some cause) (hready : s.entReady = true)
    {t : State} (ht : s.cellFail c samples = t) :
    (t.cell c).cstate = 3 ∧ (t.cell c).cause = cause ∧ (t.cell c).excl = true ∧ (4 < s.healthyCells → t.ent.phase = 3) ∧
      (s.healthyCells ≤ 4 → ∃ u : State, Down u.downEnt t) := by
  have hstands := (CellsMoved.testFailed (c := c) samples cause).entReady.trans hready
  obtain ⟨hstate, hcause, hexcl⟩ := s.cell_testFailed c samples cause
  have hlost := State.healthyCells_lost hc hhealthy (by simp [hstate]) fun _ hd =>
    State.cell_testFailed_other hd samples cause
  rw [State.cellFail_of_healthy hc hhealthy, hfails] at ht
  dsimp only at ht
  generalize s.testFailed c samples cause = u at *
  rw [if_neg (by simp [hstands])] at ht
  by_cases hfew : u.healthyCells < 4
  · rw [if_pos hfew] at ht
    have hdown : Down u.downEnt t := ht ▸ u.entFail_down false
    have hcells : t.cell c = u.cell c := State.cell_congr (congrArg Ent.cells hdown.ent :) c
    rw [hcells]
    exact ⟨hstate, hcause, hexcl, fun h => by omega, fun _ => ⟨u, hdown⟩⟩
  · rw [if_neg hfew] at ht
    subst ht
    exact ⟨hstate, hcause, hexcl, fun _ => rfl, fun h => by omega⟩

/-! ## Start-up tests (R250, R253, R260) -/

theorem State.entReady_eq_false_of_at {stage : Nat} (h : s.ent.at stage = true) : s.entReady = false := by
  simp only [Ent.at, Bool.and_eq_true, Bool.or_eq_true, beq_iff_eq] at h
  obtain ⟨hphase | hphase, -⟩ := h <;> simp [State.entReady, hphase]

/-- The end of a start-up's or a restart's tests, by how many cells are healthy. -/
theorem State.startupTestDone_of_testing (h : s.ent.at 1 = true) (v : Verdicts) :
    ∃ u, CellsMoved s u ∧ s.startupTestDone v =
      if 4 ≤ s.passing v then u.instantiateAll.entBecomesReady
      else if s.ent.phase = 1 ∧ s.ent.attempt < 2 then { u with ent := { u.ent with stage := 2, since := s.stamp } }
      else u.entFail true := by
  have hmoved := CellsMoved.cellVerdicts s v
  refine ⟨s.cellVerdicts v, hmoved, ?_⟩
  unfold State.startupTestDone
  rw [if_neg (by simp [State.entReady_eq_false_of_at h]), if_neg (by simp [h])]
  simp only [s.healthyCells_cellVerdicts, hmoved.phase, hmoved.attempt, hmoved.stamp]

end

/-! ## Settling and restart (R251 to R253, R260) -/

/-- Every cell goes to test, and a start-up or a restart begins at the present stamp. -/
theorem State.entSettle_shows (s : State) (phase attempt : Nat) : ∃ u, CellsMoved s u ∧
    (∀ c < 8, u.cell c = { s.cell c with cstate := 1 }) ∧ s.entSettle phase attempt =
      { u with ent := { u.ent with phase := phase, attempt := attempt, stage := 0, since := u.stamp } } :=
  ⟨_, .mapCells s _, fun _ hc => s.cell_mapCells _ hc, rfl⟩

/-- A write of `ENT_CTL` that asks for a restart alone (R260, R263). -/
theorem execEntRestart_of_writes {s : State} {req : Requester} {v : Word} (hw : Claims.Writes s req .ent)
    (hrestart : bit v 0 = true) (hraw : bit v 1 = false) : execEntRestart req v (~~~v) s =
      .next ((s.freshCopy .ent 0x100).setReg .ent 0x100 0).entRestart := by
  obtain ⟨harrives, hfree⟩ := hw
  unfold execEntRestart State.critical
  rw [State.criticalPair_of_arrives harrives (.inl hfree), if_pos rfl]
  simp [State.entCtl, hrestart, hraw]

theorem entropySource : Claims.EntropySource := by
  intro s ready passes good
  have hat {stage : Nat} (hphase : s.ent.phase = 1 ∨ s.ent.phase = 5) (hstage : s.ent.stage = stage) :
      s.ent.at stage = true := by
    obtain h | h := hphase <;> simp [Ent.at, h, hstage]
  have hready (h : ready s) : s.entReady = true := by
    obtain h | h := h <;> simp [State.entReady, h]
  have hgood (v : Verdicts) : good v = s.passing v := rfl
  refine ⟨?settled, ?up, ?again, ?failed, ?retry, ?samples, ?restart, ?retest⟩
  case settled =>
    intro hphase hstage dead
    let u : State := { s.advanceTo (s.ent.since + 2500000) with ent := { s.ent with stage := 1 } }
    have hmoved : CellsMoved u ((List.range 8).foldl (State.settleCell dead) u) := .foldl (.settleCell dead) _ u
    refine ⟨_, execEntSettleDone_of_settling (hat hphase hstage) dead, hmoved.stage, hmoved.stamp, fun c hc hlive => ?_,
      fun c hc hdead => ?_⟩
    all_goals
      obtain ⟨w, -, hlast⟩ := State.cell_foldl_all (State.cell_settleCell_other dead) hc u
      rw [hlast, State.settleCell]
    · rw [if_neg (by simpa using hlive), State.cell_setCell]
    · rw [if_pos (by simpa using hdead)]
      exact w.cell_excludeCell c 4
  case up =>
    intro v hphase hstage hfour
    obtain ⟨u, hmoved, hdone⟩ := State.startupTestDone_of_testing (hat hphase hstage) v
    rw [if_pos (hfour.trans_eq (hgood v))] at hdone
    obtain ⟨hdrawn, hlive⟩ := u.instantiateAll_drawn
    obtain ⟨_, _, _, _, _, hframe⟩ := hdrawn.frame
    have hentry (e : Nat) : u.instantiateAll.entry e = s.entry e :=
      State.entry_congr ((congrArg State.tally hframe).trans hmoved.tally) e
    obtain ⟨hup, hcentral, hattempt, hbit, hwoken⟩ := u.instantiateAll.entBecomesReady_shows
    refine ⟨_, congrArg Host.Outcome.next hdone, hup, (congrArg Gen.live hcentral).trans hlive, hattempt, hbit, fun e x hx hwaits y hy => ?_⟩
    rw [hwoken e x ((hentry e).trans hx) hwaits] at hy
    rw [← Option.some.inj hy]
    rfl
  case again =>
    intro v hphase hstage hattempt hfew
    obtain ⟨u, hmoved, hdone⟩ := State.startupTestDone_of_testing (hat (.inl hphase) hstage) v
    rw [if_neg (Nat.not_le.mpr ((hgood v).symm.trans_lt hfew)), if_pos ⟨hphase, hattempt⟩] at hdone
    exact ⟨_, congrArg Host.Outcome.next hdone, hmoved.phase.trans hphase, rfl, rfl⟩
  case failed =>
    intro v hstage hlast hfew
    have hphase : s.ent.phase = 1 ∨ s.ent.phase = 5 := hlast.imp_left And.left
    have hnomore : ¬(s.ent.phase = 1 ∧ s.ent.attempt < 2) := by omega
    obtain ⟨u, hmoved, hdone⟩ := State.startupTestDone_of_testing (hat hphase hstage) v
    rw [if_neg (Nat.not_le.mpr ((hgood v).symm.trans_lt hfew)), if_neg hnomore] at hdone
    have hent := (u.entFail_down true).ent
    exact ⟨_, congrArg Host.Outcome.next hdone, (congrArg Ent.phase hent :), (congrArg Ent.failStamp hent :).trans hmoved.stamp⟩
  case retry =>
    intro hphase hstage
    obtain ⟨u, hmoved, hcells, hsettled⟩ :=
      (s.advanceTo (s.ent.since + 10000000)).entSettle_shows 1 (s.ent.attempt + 1)
    exact ⟨_, congrArg Host.Outcome.next ((if_pos ⟨hphase, hstage⟩).trans hsettled), hmoved.stamp, rfl, rfl, rfl, rfl, hcells⟩
  case samples =>
    intro c samples hc hhealthy r
    have hfail := State.cellFail_of_healthy hc hhealthy samples
    refine ⟨fun hpass => ?_, fun cause hcause hincluded hserves => ?_⟩
    · have hsampled : s.cellFail c samples = s.sampled c samples := by rwa [hpass] at hfail
      have hcell : (s.sampled c samples).cell c = { s.cell c with
          health := r.1, aptMax := r.2.1, waiting := ((s.sampled c samples).cell c).waiting } := by
        rw [State.sampled, State.cell_setCell]
      refine ⟨_, congrArg Host.Outcome.next hsampled, ?_, ?_, ?_, rfl, ⟨_, rfl⟩⟩
      all_goals rw [hcell]
      exact hhealthy
    · obtain ⟨hstate, hwhy, hexcl, hdegraded, hfailed⟩ := State.cellFail_shows hc hhealthy hcause (hready hserves) rfl
      refine ⟨_, rfl, hstate, hwhy, hexcl, hdegraded, fun hfew => ?_⟩
      obtain ⟨u, hdown⟩ := hfailed hfew
      have hent := hdown.ent
      exact ⟨(congrArg Ent.phase hent :), (congrArg (fun x : Ent => x.central.live) hent :), hdown.mrgs, hdown.mask,
        (congrArg Ent.queue hent :), (congrArg Ent.pool hent :)⟩
  case restart =>
    intro req v hwrites hasked hraw hphase
    obtain ⟨u, hmoved, -, hsettled⟩ := ((s.freshCopy .ent 0x100).setReg .ent 0x100 0).entSettle_shows 5 0
    exact ⟨_, (execEntRestart_of_writes hwrites hasked hraw).trans (congrArg Host.Outcome.next
      ((if_pos hphase).trans hsettled)), rfl, rfl, rfl, hmoved.stamp⟩
  case retest =>
    intro req v hwrites hasked hraw hserves
    have hup : s.ent.phase ≠ 4 := by
      obtain h | h := hserves <;> omega
    refine ⟨_, (execEntRestart_of_writes hwrites hasked hraw).trans (congrArg Host.Outcome.next
      ((if_neg hup).trans (if_pos (hready hserves)))), (CellsMoved.mapCells _ _).phase, fun c hc => ?_⟩
    exact State.cell_mapCells _ (fun _ x => if x.excl then { x with cstate := 1 } else x) hc

/-! ## The generators -/

section
variable {s : State}

/-- A reseed comes by its requests, or else at its time, and beside the clock changes nothing (R255). -/
theorem State.reseedDue_stamp (g : Gen) (period : Nat) :
    (s.reseedDue g period).stamp = if 4096 ≤ g.requests then s.stamp else Nat.max s.stamp (g.seededAt + period) := by
  unfold State.reseedDue
  split <;> rfl

theorem State.reseedDue_frame (g : Gen) (period : Nat) : ∃ stamp edge, s.reseedDue g period = { s with stamp, edge } := by
  unfold State.reseedDue
  split
  exacts [⟨_, _, rfl⟩, ⟨_, _, rfl⟩]

/-- A Stope's DRBG reseeds from the central DRBG (R255). -/
theorem State.reseedStope_granted (hlive : s.ent.central.live = true) (hphase : s.ent.phase ≠ 4) (n : Nat) :
    ∃ seed, ((s.reseedStope n).1.gen n) = (s.gen n).reseeded seed [] s.stamp ∧
      (s.reseedStope n).1.ent.queue = s.ent.queue := by
  obtain ⟨free, pool, g, seed, hgrant, -, -⟩ := State.centralFor_granted hlive hphase 1 48
  unfold State.reseedStope
  rw [hgrant]
  exact ⟨seed, State.gen_setGen .., rfl⟩

/-- Lode's masking generator is seeded from the central DRBG, freshly reseeded (R229, R255). -/
theorem State.seedMask_granted (hlive : s.ent.central.live = true) (hphase : s.ent.phase ≠ 4) :
    s.seedMask.lode.maskGen = true ∧ s.seedMask.lode.maskAt = s.stamp ∧ s.seedMask.stamp = s.stamp ∧
      s.seedMask.ent.central.requests = 1 := by
  obtain ⟨free, pool, g, seed, hgrant, -, hrequests⟩ := State.centralFor_granted hlive hphase 1 32
  unfold State.seedMask
  rw [hgrant]
  exact ⟨rfl, rfl, rfl, hrequests⟩

/-- The words that a tenant's buffer lacks are drawn from the central DRBG (R262). -/
theorem State.refill_granted (hlive : s.ent.central.live = true) (hready : s.entReady = true) (t : Nat) :
    ∃ words free pool g, s.serveUse (.refill t) =
        ({ s with freeNext := free, ent := { s.ent with pool := pool, central := g } } : State).setFn t
          { s.fn t with entBuf := (s.fn t).entBuf ++ words } ∧ words.length = 16 - (s.fn t).entBuf.length ∧
      g.requests = (if s.ent.central.due 100000 s.stamp then 0 else s.ent.central.requests) + 1 := by
  have hphase : s.ent.phase ≠ 4 := by
    intro h
    simp [State.entReady, h] at hready
  obtain ⟨free, pool, g, bs, hgrant, -, hrequests⟩ :=
    State.centralFor_granted hlive hphase 5 (4 * (16 - (s.fn t).entBuf.length))
  have hdraw : s.drawCentral 5 (4 * (16 - (s.fn t).entBuf.length)) = _ := (if_pos hready).trans hgrant
  refine ⟨(List.range (16 - (s.fn t).entBuf.length)).map fun k => BitVec.ofNat 32 (leField bs (4 * k) 4), free, pool, g,
    ?_, by simp, hrequests⟩
  unfold State.serveUse
  simp only [hdraw]
  rfl

/-- A read of `ENT_DATA` asks for a refill, and beside the request and the tenant's own record changes nothing (R262). -/
theorem State.entRead_word {t : Nat} {w : Word} {rest : List Word} (hbuf : (s.fn t).entBuf = w :: rest) :
    ∃ q, (s.entRead t).1 = ({ s with ent := { s.ent with queue := q } } : State).setFn t
      { s.fn t with entBuf := rest, tDrawn := ((s.fn t).tDrawn + 1) % 2 ^ 32 } := by
  unfold State.entRead
  simp only [hbuf]
  exact State.askRefill_frame _ t

/-- A read of an empty buffer underruns. -/
theorem State.entRead_empty {t : Nat} (hbuf : (s.fn t).entBuf = []) : ∃ q, (s.entRead t).1 =
    ({ s with ent := { s.ent with queue := q } } : State).setFn t { s.fn t with entUnderrun := true } := by
  unfold State.entRead
  simp only [hbuf]
  exact State.askRefill_frame _ t

end

theorem generators : Claims.Generators := by
  intro s
  refine ⟨?central, ?served, ?refill, ?read, ?scheduled⟩
  case central =>
    intro hlive
    have hstamp := s.reseedDue_stamp s.ent.central 100000
    obtain ⟨stamp, edge, hframe⟩ := s.reseedDue_frame s.ent.central 100000
    rw [hframe] at hstamp
    obtain ⟨free, extra, hreseed, hextra⟩ := State.centralReseed_live (s := { s with stamp, edge }) hlive
    have hexec : execCentralDrbgReseed s = .next ({ s with stamp, edge } : State).centralReseed :=
      congrArg Host.Outcome.next ((if_pos hlive).trans (by rw [hframe]))
    rw [hreseed] at hexec
    refine ⟨_, hexec, hstamp, rfl, hlive, rfl, rfl, rfl, rfl, fun hpool => ?_⟩
    have hnone : extra = [] := hextra hpool
    rw [hnone, List.append_nil]
    rfl
  case served =>
    intro g n hnext hlive hphase
    let u := Claims.served s { gen := g, cls := 1, use := .reseedMrg n }
    have hseeded := State.seedMrg_live (s := u) hlive hphase
    exact ⟨_, congrArg Host.Outcome.next ((State.serveGen_next hnext).trans hseeded), State.mrg_setMrg .., rfl, congrArg Gen.requests (State.gen_setGen ..)⟩
  case refill =>
    intro t r hr hnext hlive hready
    subst hr
    obtain ⟨words, free, pool, g, hserved, hlength, hrequests⟩ :=
      State.refill_granted (s := Claims.served s { gen := 64, cls := 5, use := .refill t }) hlive hready t
    have hexec : execEntRefill t s = .next (s.serveGen 64) := by
      unfold execEntRefill
      rw [show nextReq 64 s.ent.queue = _ from hnext]
      exact congrArg Host.Outcome.next (if_pos rfl)
    have hwords : words.length = 16 - (s.fn t).entBuf.length := hlength
    have hfull (n : Nat) : n + (16 - n) = max 16 n := by omega
    refine ⟨_, hexec.trans (congrArg Host.Outcome.next ((State.serveGen_next hnext).trans hserved)), rfl, ?_, ?_, hrequests⟩
    all_goals rw [State.fn_setFn]
    · show ((s.fn t).entBuf ++ words).length = _
      rw [List.length_append, hwords]
      exact hfull _
    · exact List.take_left
  case read =>
    intro req t hbus hreach ht
    have hexec : execEntDataRead req t s = .next (s.entRead t).1 :=
      congrArg Host.Outcome.next (if_pos (by simp [hbus, hreach, ht]))
    refine ⟨fun w rest hbuf => ?_, fun hbuf => ?_⟩
    · obtain ⟨q, hread⟩ := State.entRead_word hbuf
      rw [hread] at hexec
      refine ⟨_, hexec, ?_, ?_, rfl⟩
      all_goals rw [State.fn_setFn]
    · obtain ⟨q, hread⟩ := State.entRead_empty hbuf
      rw [hread] at hexec
      refine ⟨_, hexec, ?_, ?_⟩
      all_goals rw [State.fn_setFn]
      exact hbuf
  case scheduled =>
    intro hclock hphase hcentral hqueue
    refine ⟨fun n hn hlive => ?_, fun n hn hvalid hlive => ?_, fun hmask => ?_⟩
    · obtain ⟨stamp, edge, hframe⟩ := s.reseedDue_frame (s.gen n) s.reseedPeriod
      let u : State := { s with stamp, edge }
      obtain ⟨seed, hgen, hleft⟩ := State.reseedStope_granted (s := u) hcentral hphase n
      have hserved : u.reseedNow 64 (.reseedStope n) = (u.reseedStope n).1 :=
        State.reseedNow_of_empty (s := u) hqueue 64 (.reseedStope n)
      refine ⟨_, State.clocked_next hclock ((if_pos (by simp [hn, hlive])).trans (by rw [hframe]; exact hserved)), ?_, ?_, ?_,
        hleft.trans hqueue⟩
      all_goals rw [hgen]
      exacts [rfl, rfl, hlive]
    · let u := s.advanceTo ((s.mrg n).seededAt + s.mrgPeriod n)
      have hserved : u.reseedNow n (.reseedMrg n) = u.seedMrg n := State.reseedNow_of_empty (s := u) hqueue n _
      rw [State.seedMrg_live (s := u) hlive hphase] at hserved
      exact ⟨_, State.clocked_next hclock ((if_pos (by simp [hn, hvalid])).trans hserved), State.mrg_setMrg .., rfl, hqueue⟩
    · let u := s.advanceTo (s.lode.maskAt + maskPeriod)
      have hserved : u.reseedNow 64 .reseedLode = u.seedMask := State.reseedNow_of_empty (s := u) hqueue 64 _
      obtain ⟨hseeded, hat, hstamp, hrequests⟩ := State.seedMask_granted (s := u) hcentral hphase
      exact ⟨_, State.clocked_next hclock ((if_pos hmask).trans hserved), hseeded, hat.trans hstamp.symm, hstamp, hrequests⟩

/-- Settles O35: the source by its cells and what total failure leaves, the generators by the draws they grant. -/
theorem entropyAndGenerators : Obligations.EntropyAndGenerators := ⟨entropySource, generators⟩

end Sys2Proof.Machine
end

section
/-! PROOF. What the end of an operation passes by (R69, R82, R94): the directory of units (R36), Headframe's records and
counts (R504, R513), and whatever else none of its parts writes. -/
namespace Sys2Proof.Machine

/-- `P` looks at nothing that the end of an operation writes. -/
def PassedBy (P : State → Prop) : Prop :=
  ∀ {s : State} {freeNext flaws host regs fns cqs tally lode ent zdp shafts stopes engs runs samplers}, P s →
    P { s with freeNext, flaws, host, regs, fns, cqs, tally, lode, ent, zdp, shafts, stopes, engs, runs, samplers }

/-- Such a property holds of `s`. -/
structure Apart (P : State → Prop) (s : State) : Prop where
  passed : PassedBy P
  holds : P s

namespace Apart
variable {P : State → Prop} {s t u : State}

theorem upd {freeNext flaws host regs fns cqs tally lode ent zdp shafts stopes engs runs samplers} (h : Apart P s) :
    Apart P { s with
      freeNext, flaws, host, regs, fns, cqs, tally, lode, ent, zdp, shafts, stopes, engs, runs, samplers } :=
  ⟨h.passed, h.passed h.holds⟩

theorem ite {c : Prop} {inst : Decidable c} (ht : Apart P t) (hu : Apart P u) : Apart P (if c then t else u) := by
  split
  exacts [ht, hu]

theorem foldl {β : Type} {f : State → β → State} {l : List β} (h : Apart P s) (hf : ∀ s b, Apart P s → Apart P (f s b)) :
    Apart P (l.foldl f s) := by
  induction l generalizing s with
  | nil => exact h
  | cons b l ih => exact ih (hf s b h)

/-! ## Latches and counters -/

theorem setInt {p : Page} {n : Nat} (h : Apart P s) : Apart P (s.setInt p n) := by
  obtain ⟨regs, fns, hset⟩ := s.setInt_fields p n
  rw [hset]
  exact h.upd

theorem setReg {p : Page} {off : Nat} {v : Word} (h : Apart P s) : Apart P (s.setReg p off v) := h.upd

theorem bumpCounter {p : Page} {k d : Nat} (h : Apart P s) : Apart P (s.bumpCounter p k d) :=
  .ite h.setReg.setReg h.setReg.setReg.setReg.setInt

theorem pmu {ev t d : Nat} {n i : Option Nat} (h : Apart P s) : Apart P (s.pmu ev t n i d) :=
  have count {p : Page} {num : Nat} {s : State} (h : Apart P s) : Apart P (s.countIn p num ev t n i d) :=
    .ite h <| h.foldl fun _ _ h => .ite h.bumpCounter h
  count (count h)

/-! ## The unit is released (R240, R293) -/

theorem mapEngs {n : Nat} {l : List Nat} {f : Eng → Eng} (h : Apart P s) : Apart P (s.mapEngs n l f) :=
  h.foldl fun _ _ h => h.upd

theorem resetStope {n : Nat} (h : Apart P s) : Apart P (s.resetStope n) := by
  have hengs : Apart P (s.mapEngs n (List.range 16) fun _ => {}) := h.mapEngs
  unfold State.resetStope
  generalize s.mapEngs n (List.range 16) (fun _ => {}) = u at hengs ⊢
  exact hengs.upd

theorem stopeSettled {n : Nat} (h : Apart P s) : Apart P (s.stopeSettled n) :=
  .ite (.ite h.setInt.resetStope h.setInt) h

theorem endRun {e : Nat} {wipe : Bool} (h : Apart P s) : Apart P (s.endRun e wipe) := by
  unfold State.endRun
  split
  case h_1 => exact h
  case h_2 r _ =>
    extract_lets u v
    have hu : Apart P u := .ite h.upd h.upd
    have hv : Apart P v := hu.upd
    exact .ite hv.stopeSettled hv.mapEngs.stopeSettled

theorem leaveShaft {n e : Nat} {committed : Bool} (h : Apart P s) : Apart P (s.leaveShaft n e committed) := by
  unfold State.leaveShaft
  dsimp only
  split
  · split
    · exact h.upd
    split
    exacts [.ite h.upd h.upd, h.upd]
  · exact .ite h.upd h.upd
  · exact h.upd

theorem releaseUnit {e : Nat} {target : Target} {committed : Bool} (h : Apart P s) :
    Apart P (s.releaseUnit e target committed) := by
  cases target with
  | stope n first w => exact h.endRun
  | shaft n => exact h.leaveShaft
  | worker d => exact h
  | none => exact h

/-! ## The operation ends (R69, R82, R94) -/

/-- What is freed in Lode and Tally lies elsewhere. -/
theorem elsewhere : Elsewhere (Apart P) := ⟨fun _ _ => propext ⟨.upd, .upd⟩, fun _ _ => propext ⟨.upd, .upd⟩⟩

theorem letGo {e : Nat} {x : Entry} {st : Status} (h : Apart P s) : Apart P (s.letGo e x st) := by
  rw [State.letGo, elsewhere.countLost, elsewhere.dropKids, elsewhere.dropResv]
  exact .ite h.releaseUnit h

theorem moderate {t q : Nat} (h : Apart P s) : Apart P (s.moderate t q) := .ite (.ite h.upd h.upd) h

theorem setCq {t q : Nat} {c : Cq} (h : Apart P s) : Apart P (s.setCq t q c) := h.upd

theorem writeRecord {e : Nat} {x : Entry} (h : Apart P s) : Apart P (s.writeRecord e x) := by
  rw [State.writeRecord_eq]
  have hmoved : Apart P (s.hostWrite (s.cq x.tenant x.cq).slot
      (x.record (s.sq x.tenant x.sq).head (s.cq x.tenant x.cq).phase)) := h.upd
  have hplaced : Apart P (s.placeRecord e x) := hmoved.setCq.upd
  have hcounted {t q : Nat} {y : Entry} {s : State} (h : Apart P s) : Apart P (s.countRecord t q y) :=
    .ite h.setCq.moderate h
  exact hcounted (.ite hplaced.pmu hplaced.pmu.pmu)

theorem drainFuel {t q fuel : Nat} (h : Apart P s) : Apart P (Machine.drainFuel t q fuel s) := by
  induction fuel generalizing s with
  | zero => exact h
  | succ fuel ih =>
    unfold Machine.drainFuel
    dsimp only
    split
    · refine .ite ?_ h
      split
      exacts [ih h.writeRecord, ih h.upd]
    · exact h

theorem spillResult {e token : Nat} {x : Entry} (h : Apart P s) : Apart P (s.spillResult e x token) :=
  .ite h.upd (.ite h.upd (.ite h.upd h.upd))

theorem freeEntry {e : Nat} (h : Apart P s) : Apart P (s.freeEntry e) := by
  unfold State.freeEntry
  split
  case h_1 x _ =>
    extract_lets u v w
    have hu : Apart P u := by rwa [elsewhere.dropKids, elsewhere.dropResv]
    have hv : Apart P v := .ite (by rwa [elsewhere.countLost]) hu
    have hw : Apart P w := .ite hv.releaseUnit hv
    exact hw.setCq.upd
  case h_2 => exact h

theorem settleOne {e : Nat} {st : Status} {now : Stamp} (h : Apart P s) : Apart P (s.settleOne e st now) := by
  cases hx : s.entry e with
  | none =>
    rw [State.settleOne, hx]
    exact h
  | some x =>
    rw [State.settleOne_of_entry hx]
    have hv : Apart P ((s.letGo e x st).setEntry e (x.ended st now)) := h.letGo.upd
    exact .ite hv.upd (.ite hv.spillResult (.ite hv.freeEntry hv.setCq.drainFuel))

theorem finish {e : Nat} {st : Status} (h : Apart P s) : Apart P (s.finish e st) := by
  unfold State.finish State.settle
  dsimp only
  split
  · exact h
  split
  · exact h.settleOne
  split
  exacts [.ite h.settleOne.settleOne h.settleOne, h.settleOne]

end Apart

/-- Directory and Headframe's own state after operations end. -/
theorem State.finishAll_frame (s : State) (l : List Nat) (st : Status) :
    (s.forEntries l fun s e => s.finish e st).dir = s.dir ∧ (s.forEntries l fun s e => s.finish e st).hdf = s.hdf := by
  have hstart : Apart (fun t => t.dir = s.dir ∧ t.hdf = s.hdf) s := ⟨fun h => h, rfl, rfl⟩
  exact (hstart.foldl fun _ _ h => h.finish).holds

end Sys2Proof.Machine
end

section
/-! PROOF. Units that change hands (R241, R402, R403): what the registers of the owners are written beside, and what of its
last owner a Stope is cleared of. -/
namespace Sys2Proof.Machine

/-! ## Owners (R402) -/

namespace Drawn
variable {s t : State}

theorem beside (h : Drawn s t) : t.engs = s.engs ∧ t.host = s.host ∧ t.regs = s.regs := by
  obtain ⟨_, _, _, _, _, rfl⟩ := h.frame
  exact ⟨rfl, rfl, rfl⟩

end Drawn

/-- A search that would not find what is written at `k` finds what it found. -/
theorem Cells.find?_set {α : Type} [DecidableEq α] (d : Nat → α) (m : Cells α) {k : Nat} {p : Nat × α → Bool}
    (hk : ∀ v, p (k, v) = false) (v : α) : (Cells.set d m k v).find? p = m.find? p := by
  unfold Cells.set
  split
  · have hkept : (fun q : Nat × α => decide ((q.1 != k) = true ∧ p q = true)) = p := by
      funext q
      by_cases hq : q.1 = k
      · simp [← hq ▸ hk q.2]
      · simp [hq]
    rw [Cells.erase, List.find?_filter, hkept]
  · induction m with
    | nil => simp [Cells.put, hk]
    | cons q r ih =>
      obtain ⟨j, w⟩ := q
      simp only [Cells.put]
      split
      · simp [List.find?_cons, hk]
      split
      case isTrue heq => simp [heq ▸ hk, hk]
      case isFalse => simp [List.find?_cons, ih]

section
variable (s : State)

/-- A register that is no administrator's exclusive selection names no owner. -/
theorem State.stopeOwner_setReg {p : Page} {off : Nat} (v : Word)
    (h : p.key off < 0x900000 ∨ 0xA00000 ≤ p.key off ∨ off % 0x1000 ≠ 0x164 ∧ off % 0x1000 ≠ 0x168) (n : Nat) :
    (s.setReg p off v).stopeOwner n = s.stopeOwner n := by
  have hoff : p.key off % 0x1000 = off % 0x1000 := p.key_mod off
  unfold State.stopeOwner State.exclusiveAt
  have hsel : (if n < 32 then 0x164 else 0x168) = 0x164 ∨ (if n < 32 then 0x164 else 0x168) = 0x168 := ite_eq_or_eq ..
  generalize (if n < 32 then 0x164 else 0x168) = sel at hsel ⊢
  have hmiss (w : Word) : (decide (0x900000 ≤ p.key off) && decide (p.key off < 0xA00000) && p.key off % 0x1000 == sel &&
      bit w (n % 32)) = false := by
    simp only [Bool.and_eq_false_iff, decide_eq_false_iff_not, beq_eq_false_iff_ne]
    omega
  rw [State.setReg, Cells.find?_set regDefault s.regs hmiss]

theorem State.stopeOwner_congr {t : State} (h : t.regs = s.regs) (n : Nat) : t.stopeOwner n = s.stopeOwner n := by
  rw [State.stopeOwner, State.stopeOwner, State.exclusiveAt, State.exclusiveAt, h]

theorem State.stopeOwner_setInt (p : Page) (b n : Nat) : (s.setInt p b).stopeOwner n = s.stopeOwner n := by
  obtain ⟨h, -⟩ | h := s.regs_setInt p b
  · exact s.stopeOwner_congr h n
  · exact (State.stopeOwner_congr _ h n).trans (s.stopeOwner_setReg _ (.inr (.inr (by decide))) n)

theorem State.stopeOwner_undrainUnit (p : Page) (n : Nat) : (s.undrainUnit p).stopeOwner n = s.stopeOwner n :=
  s.stopeOwner_setReg _ (.inr (.inr (by decide))) n

/-! ## The monitor (R523, R525) -/

/-- The owners of the Stopes, and the state without what the monitor shows in registers and keeps in samplers. -/
def State.besideMonitor : State × (Nat → Option Nat) := ({ s with regs := [], samplers := [] }, s.stopeOwner)

variable {s} in
theorem State.besideMonitor_fields {t : State} (h : t.besideMonitor = s.besideMonitor) :
    t.engs = s.engs ∧ t.lode = s.lode ∧ t.host = s.host ∧ ∀ n, t.stopeOwner n = s.stopeOwner n :=
  ⟨congrArg (·.1.engs) h, congrArg (·.1.lode) h, congrArg (·.1.host) h, congrFun (congrArg Prod.snd h)⟩

/-- A page of the monitor holds no owner. -/
theorem State.besideMonitor_clearScoped {p : Page} (hp : ∀ off, p.key off < 0x900000 ∨ 0xA00000 ≤ p.key off) (k n : Nat) :
    (s.clearScoped p k n).besideMonitor = s.besideMonitor := by
  have hset (s : State) (off : Nat) (v : Word) : (s.setReg p off v).besideMonitor = s.besideMonitor :=
    congrArg (Prod.mk _) (funext (s.stopeOwner_setReg v ((hp off).imp_right .inl)))
  unfold State.clearScoped
  dsimp only
  split
  · rw [hset, hset, hset]
  · rfl

theorem State.besideMonitor_clearMonitor (n : Nat) : (s.clearMonitor n).besideMonitor = s.besideMonitor := by
  have hdevice (off : Nat) : Page.key .pmu off < 0x900000 ∨ 0xA00000 ≤ Page.key .pmu off := by
    simp only [Page.key, Page.base]
    omega
  have htenant (t off : Nat) : Page.key (.tpmu t) off < 0x900000 ∨ 0xA00000 ≤ Page.key (.tpmu t) off := by
    simp only [Page.key, Page.base]
    omega
  have hsampler (s : State) (x : Sampler) : (s.setSampler n x).besideMonitor = s.besideMonitor := rfl
  unfold State.clearMonitor
  extract_lets u v
  have hu : u.besideMonitor = s.besideMonitor :=
    foldl_keeps (fun s k _ => s.besideMonitor_clearScoped hdevice k n) s
  have hv : v.besideMonitor = u.besideMonitor := by
    refine foldl_keeps (fun s t _ => ?_) u
    split
    · exact foldl_keeps (fun s k _ => s.besideMonitor_clearScoped (htenant t) k n) s
    · rfl
  exact (hsampler v _).trans (hv.trans hu)

theorem State.entries_clearMonitor (n : Nat) : ((s.clearMonitor n).sampler n).entries = [] :=
  congrArg Sampler.entries (State.sampler_setSampler ..)

/-! ## A generator's reseed leaves the keys in Lode (R229, R255) -/

theorem State.objs_serveUse (u : DrbgUse) : (s.serveUse u).lode.objs = s.lode.objs := by
  have hdrawn {p : State × Option Bytes} {t : State} {o : Option Bytes} (h : p.1.lode = s.lode) (hp : p = (t, o)) :
      t.lode.objs = s.lode.objs := congrArg Lode.objs ((congrArg (·.1.lode) hp).symm.trans h)
  have hcentral (cls len : Nat) : (s.centralFor cls len).1.lode = s.lode := by
    obtain ⟨ent, free, h⟩ := s.centralFor_frame cls len
    rw [h]
  cases u with
  | reseedStope n =>
    unfold State.serveUse State.reseedStope
    dsimp only
    split
    all_goals next h => exact (hdrawn (hcentral ..) h :)
  | reseedMrg n =>
    have hstope : (s.askStope n 32 []).1.lode = s.lode := by
      unfold State.askStope
      dsimp only
      split <;> rfl
    unfold State.serveUse State.seedMrg
    dsimp only
    split
    · rfl
    split
    all_goals next h => exact (hdrawn hstope h :)
  | reseedLode =>
    unfold State.serveUse State.seedMask
    dsimp only
    split
    all_goals next h => exact (hdrawn (hcentral ..) h :)
  | refill t =>
    have hdraw (cls len : Nat) : (s.drawCentral cls len).1.lode = s.lode := by
      obtain ⟨ent, free, h⟩ := s.drawCentral_frame cls len
      rw [h]
    unfold State.serveUse
    dsimp only
    split
    all_goals next h => exact (hdrawn (hdraw ..) h :)

theorem State.objs_reseedNow (g : Nat) (u : DrbgUse) : (s.reseedNow g u).lode.objs = s.lode.objs := by
  unfold State.reseedNow State.serveGen
  split
  · exact State.objs_serveUse _ _
  · rfl

/-! ## A Stope is cleared and serves (R241, R403) -/

/-- In `u` Stope `n` has nothing left of the owner it had in `s`; keys, host memory and the owners are as they were. -/
structure Emptied (n : Nat) (s u : State) : Prop where
  loc : ∀ i < 16, (u.eng n i).loc = []
  sampled : (u.sampler n).entries = []
  objs : u.lode.objs = s.lode.objs
  host : u.host = s.host
  owner : ∀ m, u.stopeOwner m = s.stopeOwner m

/-- What is neither in the engines, the samplers, Lode and host memory nor the owners does not count. -/
theorem Emptied.congr {s t u : State} {n : Nat} (h : Emptied n s u)
    (hfields : t.engs = u.engs ∧ t.samplers = u.samplers ∧ t.lode = u.lode ∧ t.host = u.host)
    (howner : ∀ m, t.stopeOwner m = u.stopeOwner m) : Emptied n s t := by
  obtain ⟨hengs, hsamplers, hlode, hhost⟩ := hfields
  refine ⟨fun i hi => ?_, ?_, ?_, hhost.trans h.host, fun m => (howner m).trans (h.owner m)⟩
  · rw [State.eng_congr hengs]
    exact h.loc i hi
  · rw [State.sampler, hsamplers]
    exact h.sampled
  · rw [hlode]
    exact h.objs

theorem State.mapEngs_frame (n : Nat) (l : List Nat) (f : Eng → Eng) : ∃ engs, s.mapEngs n l f = { s with engs } :=
  ⟨_, State.putEngs_frame ..⟩

theorem State.eng_mapEngs_mem {n i : Nat} {l : List Nat} (f : Eng → Eng) (h : i ∈ l) :
    ∃ x, (s.mapEngs n l f).eng n i = f x := by
  obtain ⟨u, hu⟩ := s.eng_putEngs_mem (fun s i => f (s.eng n i)) n l h
  exact ⟨u.eng n i, hu⟩

/-- An engine without its local memory (R241). -/
def Eng.emptied (x : Eng) : Eng := { x with loc := [], locTenant := 0 }

/-- A Stope's generators that are instantiated are reseeded, its DRBG and then its MRG (R241). -/
def State.reseedUnit (s : State) (n : Nat) : State :=
  if (s.gen n).live then (s.reseedNow 64 (.reseedStope n)).reseedNow n (.reseedMrg n) else s

theorem State.drawn_reseedUnit (n : Nat) : Drawn s (s.reseedUnit n) := .ite (Drawn.refl s).reseedNow.reseedNow (.refl s)

theorem State.objs_reseedUnit (n : Nat) : (s.reseedUnit n).lode.objs = s.lode.objs := by
  unfold State.reseedUnit
  split
  · rw [State.objs_reseedNow, State.objs_reseedNow]
  · rfl

theorem State.handUnit_stope (n : Nat) : s.handUnit (.stp n) =
    (((s.mapEngs n (List.range 16) Eng.emptied).dropFlaws (FlawAt.inLocal n (List.range 16))).reseedUnit n).clearMonitor n :=
  rfl

theorem State.emptied_handUnit (n : Nat) : Emptied n s (s.handUnit (.stp n)) := by
  rw [s.handUnit_stope]
  have hwiped {i : Nat} (hi : i < 16) : (((s.mapEngs n (List.range 16) Eng.emptied).dropFlaws
      (FlawAt.inLocal n (List.range 16))).eng n i).loc = [] := by
    obtain ⟨x, hx⟩ := s.eng_mapEngs_mem Eng.emptied (List.mem_range.mpr hi)
    rw [State.eng_congr (State.dropFlaws_engs ..), hx]
    rfl
  obtain ⟨engs, flaws, hframe⟩ : ∃ engs flaws, (s.mapEngs n (List.range 16) Eng.emptied).dropFlaws
      (FlawAt.inLocal n (List.range 16)) = { s with engs, flaws } := by
    obtain ⟨engs, hframe⟩ := s.mapEngs_frame n (List.range 16) Eng.emptied
    exact ⟨_, _, by rw [hframe]; rfl⟩
  generalize (s.mapEngs n (List.range 16) Eng.emptied).dropFlaws (FlawAt.inLocal n (List.range 16)) = u at *
  obtain ⟨hengs, hlode, hhost, howner⟩ := State.besideMonitor_fields ((u.reseedUnit n).besideMonitor_clearMonitor n)
  obtain ⟨hengs', hhost', hregs'⟩ := (u.drawn_reseedUnit n).beside
  have hobjs' := u.objs_reseedUnit n
  have hsampled := (u.reseedUnit n).entries_clearMonitor n
  subst hframe
  exact {
    loc := fun i hi => (congrArg Eng.loc (State.eng_congr (hengs.trans hengs') n i)).trans (hwiped hi)
    sampled := hsampled
    objs := (congrArg Lode.objs hlode).trans hobjs'
    host := hhost.trans hhost'
    owner := fun m => (howner m).trans (s.stopeOwner_congr hregs' m) }

/-- A unit's new owner is told that the unit is its own (R403 step 4). -/
def State.tellOwner (s : State) (owner : Option Nat) : State :=
  match owner with
  | some t => (s.setInt (.tnt t) 19).setInt (.tntA t) 19
  | none => s

theorem State.tellOwner_fields (owner : Option Nat) : ∃ regs fns, s.tellOwner owner = { s with regs, fns } := by
  cases owner with
  | none => exact ⟨_, _, rfl⟩
  | some t =>
    obtain ⟨_, _, hown⟩ := s.setInt_fields (.tnt t) 19
    obtain ⟨regs, fns, hadmin⟩ := (s.setInt (.tnt t) 19).setInt_fields (.tntA t) 19
    exact ⟨regs, fns, hadmin.trans (by rw [hown])⟩

theorem State.stopeOwner_tellOwner (owner : Option Nat) (n : Nat) : (s.tellOwner owner).stopeOwner n = s.stopeOwner n := by
  cases owner with
  | none => rfl
  | some t => exact (State.stopeOwner_setInt ..).trans (State.stopeOwner_setInt ..)

theorem State.draining_tellOwner (owner : Option Nat) (p : Page) : (s.tellOwner owner).draining p = s.draining p := by
  have hctl : 0x008 % 0x1000 ∉ statusLatches := by decide
  cases owner with
  | none => rfl
  | some t =>
    exact congrArg (bit · 1) ((State.reg_setInt hctl _ (.tntA t) 19).trans (State.reg_setInt hctl s (.tnt t) 19))

theorem State.draining_undrainUnit (p : Page) : (s.undrainUnit p).draining p = false := by
  rw [State.draining, State.undrainUnit, State.reg_setReg]
  simp [bit, clearBit]

/-- A drained Stope whose owner has not changed again serves it. -/
theorem State.unitHandover_of_drained {n : Nat} (hhands : (s.stope n).handover = true)
    (hdrained : s.draining (.stp n) = true) (hidle : s.stopeIdle n = true) (howner : s.stopeOwner n = (s.stope n).handTo) :
    s.unitHandover (.stp n) =
      (let u := ((s.handUnit (.stp n)).undrainUnit (.stp n)).tellOwner (s.stope n).handTo
       u.setStope n { u.stope n with handover := false, handTo := none }) := by
  have hstill : (((s.handUnit (.stp n)).undrainUnit (.stp n)).tellOwner (s.stope n).handTo).stopeOwner n =
      (s.stope n).handTo := calc
    _ = ((s.handUnit (.stp n)).undrainUnit (.stp n)).stopeOwner n := State.stopeOwner_tellOwner ..
    _ = (s.handUnit (.stp n)).stopeOwner n := State.stopeOwner_undrainUnit ..
    _ = (s.stope n).handTo := ((s.emptied_handUnit n).owner n).trans howner
  unfold State.unitHandover
  dsimp only
  rw [if_pos (by simp [hhands, hdrained, hidle])]
  exact if_pos hstill

theorem State.unitHandover_shows {n : Nat} (hhands : (s.stope n).handover = true)
    (hdrained : s.draining (.stp n) = true) (hidle : s.stopeIdle n = true) (howner : s.stopeOwner n = (s.stope n).handTo) :
    ((s.unitHandover (.stp n)).stope n).handover = false ∧ (s.unitHandover (.stp n)).draining (.stp n) = false ∧
      Emptied n s (s.unitHandover (.stp n)) := by
  have hempty := s.emptied_handUnit n
  rw [s.unitHandover_of_drained hhands hdrained hidle howner]
  generalize s.handUnit (.stp n) = u at *
  have hctl := u.stopeOwner_undrainUnit (.stp n)
  have hserves := u.draining_undrainUnit (.stp n)
  have hundrained : Emptied n s (u.undrainUnit (.stp n)) :=
    hempty.congr ⟨u.setReg_engs .., u.setReg_samplers .., u.setReg_lode .., u.setReg_host ..⟩ hctl
  generalize u.undrainUnit (.stp n) = v at *
  have howners := v.stopeOwner_tellOwner (s.stope n).handTo
  have hdraining := v.draining_tellOwner (s.stope n).handTo (.stp n)
  obtain ⟨regs, fns, htell⟩ := v.tellOwner_fields (s.stope n).handTo
  rw [htell] at howners hdraining ⊢
  have htold : Emptied n s { v with regs, fns } := hundrained.congr ⟨rfl, rfl, rfl, rfl⟩ howners
  exact ⟨congrArg Stope.handover (State.stope_setStope ..), hdraining.trans hserves,
    htold.congr ⟨rfl, rfl, rfl, rfl⟩ fun _ => rfl⟩

end
end Sys2Proof.Machine
end

section
/-! PROOF. Units out of service (R36, R509, R513): what disabling a unit leaves, and the corrected errors that lead to it. -/
namespace Sys2Proof.Machine

/-! ## Headframe's counts of block-level resets (R513) -/

theorem Hdf.append_eccResets (h : Hdf) (r : EventRec) : (h.append r).eccResets = h.eccResets := by
  unfold Hdf.append
  split
  · dsimp only
    split <;> rfl
  · rfl

theorem Hdf.sendNext_eccResets (h : Hdf) (thr : Nat) (now : Stamp) : (h.sendNext thr now).eccResets = h.eccResets := by
  unfold Hdf.sendNext
  split
  · rfl
  split <;> rfl

section
variable (s : State)

/-- An event record leaves the units as they are: the directory, the digest cores and their counts of resets. -/
theorem State.logEvent_beside (kind cls tenant block unit d0 st d1 : Nat) :
    (s.logEvent kind cls tenant block unit d0 st d1).dir = s.dir ∧
      (s.logEvent kind cls tenant block unit d0 st d1).dgs = s.dgs ∧
      (s.logEvent kind cls tenant block unit d0 st d1).hdf.eccResets = s.hdf.eccResets := by
  have hlog : ((s.hdf.append { kind, cls, tenant, block, unit, seq := s.hdf.nextSeq % 2 ^ 32, detail0 := d0 % 2 ^ 32
                               stamp := st, detail1 := d1 % 2 ^ 64 }).sendNext
      (field (s.regAtE .hdf 0x130) 1 0) s.stamp).eccResets = s.hdf.eccResets :=
    (Hdf.sendNext_eccResets ..).trans (Hdf.append_eccResets ..)
  unfold State.logEvent
  extract_lets h r h' u
  split
  · obtain ⟨regs, fns, hset⟩ := u.setInt_fields .hdf 16
    rw [hset]
    exact ⟨rfl, rfl, hlog⟩
  · exact ⟨rfl, rfl, hlog⟩

/-! ## Disabling a unit (R36, R509) -/

theorem State.disableUnit_shows {p : Page} (hserves : s.outOfService p = false) (cause : Nat) :
    (s.disableUnit p cause).outOfService p = true ∧ (s.disableUnit p cause).hdf.eccResets = s.hdf.eccResets := by
  unfold State.disableUnit
  rw [if_neg (by simp [hserves])]
  extract_lets dir txn u v
  obtain ⟨hdir, -, hresets⟩ := u.logEvent_beside 0x000D 2 deviceTenant p.typeCode p.instanceNo cause s.stamp 0
  obtain ⟨hdir', hhdf⟩ := v.finishAll_frame
    (v.entriesWhere fun x => x.state == .dispatched && x.target.isOn p) .abortedReset
  refine ⟨?_, (congrArg Hdf.eccResets hhdf).trans hresets⟩
  rw [State.outOfService, hdir', hdir]
  simp [u]

/-! ## Corrected errors (R513) -/

theorem State.stopeIdle_congr {t : State} (hengs : t.engs = s.engs) (hruns : t.runs = s.runs) (n : Nat) :
    t.stopeIdle n = s.stopeIdle n := by
  simp only [State.stopeIdle, State.eng_congr hengs, hruns]

/-- A Stope that is at work is asked to drain, and no more happens yet. -/
theorem State.drainUnit_busy {n : Nat} (hbusy : s.stopeIdle n = false) :
    s.drainUnit (.stp n) = s.setReg (.stp n) 0x008 (setBit (s.reg (.stp n) 0x008) 1) := by
  have hstays (v : Word) : (s.setReg (.stp n) 0x008 v).stopeIdle n = false :=
    (s.stopeIdle_congr (s.setReg_engs ..) (s.setReg_runs ..) n).trans hbusy
  simp only [State.drainUnit, hstays, Bool.false_eq_true, if_false]

/-- A reset of a unit for its corrected errors is counted, and those errors are forgotten. -/
def State.countReset (s : State) (u : EccUnit) : State :=
  { s with hdf := { s.hdf with
    eccResets := bumpAt s.hdf.eccResets u.key 1, eccCount := s.hdf.eccCount.filter fun q => q.1 != u.key } }

theorem State.countAt_countReset (u : EccUnit) :
    countAt (s.countReset u).hdf.eccResets u.key = countAt s.hdf.eccResets u.key + 1 := by
  simp [State.countReset, countAt, bumpAt]

/-- Headframe's own state and the digest cores out of service: a core that takes a context leaves both. -/
def State.besideCores : Hdf × List Nat := (s.hdf, s.dgs.dead)

theorem State.besideCores_coreTake (c : Nat) : (s.coreTake c).besideCores = s.besideCores := by
  unfold State.coreTake
  split
  · rfl
  split <;> rfl

theorem State.besideCores_resetCore (n : Nat) : (s.resetCore n).besideCores = s.besideCores := by
  have hfed (s : State) : s.feedCores.besideCores = s.besideCores := foldl_keeps (fun s c _ => s.besideCores_coreTake c) s
  exact hfed _

variable {s}

theorem State.eccThreshold_within {u : EccUnit} (h : s.eccExceeded u = false) : s.eccThreshold u = s := by
  unfold State.eccThreshold
  exact if_pos (by simp [h])

section
variable {n : Nat}

theorem State.eccThreshold_stope (hn : n < 64) (hserves : s.outOfService (.stp n) = false)
    (hcounts : s.hdf.eccPending.contains n = false) (hexceeds : s.eccExceeded (.stope n) = true) :
    let t := s.countReset (.stope n)
    (2 ≤ countAt s.hdf.eccResets n → s.eccThreshold (.stope n) = t.disableUnit (.stp n) 4) ∧
    (countAt s.hdf.eccResets n < 2 → s.eccThreshold (.stope n) =
      ({ t with hdf := { t.hdf with eccPending := t.hdf.eccPending ++ [n] } } : State).drainUnit (.stp n)) := by
  have hgo : ¬(!(EccUnit.stope n).exists || s.outOfService (.stp n) || s.hdf.eccPending.contains n ||
      !s.eccExceeded (.stope n)) = true := by
    rw [hserves, hcounts, hexceeds]
    simp [EccUnit.exists, hn]
  unfold State.countReset
  exact ⟨fun hthird => (if_neg hgo).trans (if_pos (decide_eq_true hthird)),
    fun hfirst => (if_neg hgo).trans (if_neg (mt of_decide_eq_true (Nat.not_le.mpr hfirst)))⟩

theorem State.eccThreshold_core (hn : n < 16) (hserves : s.outOfService .dgs = false)
    (hcounts : s.hdf.eccPending.contains (128 + n) = false) (hexceeds : s.eccExceeded (.core n) = true) :
    let t := (s.countReset (.core n)).resetCore n
    (2 ≤ countAt s.hdf.eccResets (128 + n) → s.eccThreshold (.core n) =
      ({ t with dgs := { t.dgs with dead := withOne s.dgs.dead n } } : State).logEvent 0x000D 2 deviceTenant
        Page.dgs.typeCode n 4 s.stamp 0) ∧
    (countAt s.hdf.eccResets (128 + n) < 2 → s.eccThreshold (.core n) = t) := by
  have hgo : ¬(!(EccUnit.core n).exists || s.outOfService .dgs || s.hdf.eccPending.contains (128 + n) ||
      !s.eccExceeded (.core n)) = true := by
    rw [hserves, hcounts, hexceeds]
    simp [EccUnit.exists, hn]
  unfold State.countReset
  intro t
  refine ⟨fun hthird => (if_neg hgo).trans ((if_pos (decide_eq_true hthird)).trans ?_),
    fun hfirst => (if_neg hgo).trans (if_neg (mt of_decide_eq_true (Nat.not_le.mpr hfirst)))⟩
  dsimp only [t]

end
end

theorem contains_withOne (l : List Nat) (n : Nat) : (withOne l n).contains n = true := by
  unfold withOne
  split
  · assumption
  · simp

theorem unitsOutOfService : Claims.UnitsOutOfService := by
  intro s n hclock
  refine ⟨fun hn hserves => ⟨?unresponsive, fun hcounts hexceeds => ⟨?drains, ?third⟩⟩, ?core, ?within, ?hands⟩
  case unresponsive =>
    obtain ⟨hout, -⟩ := s.disableUnit_shows hserves 3
    exact ⟨_, State.clocked_next hclock (if_pos (by simp [State.mayHang, hn])), hout⟩
  case drains =>
    intro hfirst hbusy
    obtain ⟨-, hdrains⟩ := State.eccThreshold_stope hn hserves hcounts hexceeds
    exact State.clocked_next hclock ((hdrains hfirst).trans (State.drainUnit_busy _ hbusy))
  case third =>
    intro hthird
    obtain ⟨hdisables, -⟩ := State.eccThreshold_stope hn hserves hcounts hexceeds
    obtain ⟨hout, hresets⟩ := (s.countReset (.stope n)).disableUnit_shows hserves 4
    exact ⟨_, State.clocked_next hclock (hdisables hthird), hout,
      (congrArg (countAt · n) hresets).trans (s.countAt_countReset (.stope n))⟩
  case core =>
    intro hn hserves hcounts hexceeds
    obtain ⟨hthird, hfirst⟩ := State.eccThreshold_core hn hserves hcounts hexceeds
    obtain ⟨hhdf, hdead⟩ := Prod.mk.inj ((s.countReset (.core n)).besideCores_resetCore n)
    have hcount : countAt (s.countReset (.core n)).hdf.eccResets (128 + n) = countAt s.hdf.eccResets (128 + n) + 1 :=
      s.countAt_countReset (.core n)
    rw [← hhdf] at hcount
    generalize (s.countReset (.core n)).resetCore n = t at *
    by_cases hmany : 2 ≤ countAt s.hdf.eccResets (128 + n)
    · let u : State := { t with dgs := { t.dgs with dead := withOne s.dgs.dead n } }
      obtain ⟨-, hdgs, hresets⟩ := u.logEvent_beside 0x000D 2 deviceTenant Page.dgs.typeCode n 4 s.stamp 0
      refine ⟨_, State.clocked_next hclock (hthird hmany), (congrArg (countAt · (128 + n)) hresets).trans hcount, ?_⟩
      rw [hdgs]
      exact iff_of_true (contains_withOne ..) (.inr hmany)
    · refine ⟨_, State.clocked_next hclock (hfirst (Nat.not_le.mp hmany)), hcount, ?_⟩
      rw [hdead]
      simp [hmany, State.countReset]
  case within => exact fun u h => State.clocked_next hclock (State.eccThreshold_within h)
  case hands =>
    intro _ hhands hdrained hidle howner
    obtain ⟨hserves, hundrained, hempty⟩ := s.unitHandover_shows hhands hdrained hidle howner
    exact ⟨_, State.clocked_next hclock rfl, hserves, hundrained, hempty.loc, hempty.sampled, hempty.objs, hempty.host⟩

end Sys2Proof.Machine
end

section
/-! PROOF. The Shafts (R291 to R300, O34): a checkpoint, the end of a job, of a wipe, of a stop and of a self-test, each by
the equation of its command where its guard holds. -/
namespace Sys2Proof.Machine

section
variable {s : State} {n e : Nat} {x : Entry}

/-! ## Yielding (R296 to R299) -/

/-- A main job past one more checkpoint. -/
def ShaftJob.passed (m : ShaftJob) : ShaftJob := { m with checkpoints := (m.checkpoints + 1) % 2 ^ 32 }

/-- A Shaft whose main job `m` gives way to `j`. -/
def Shaft.yieldTo (h : Shaft) (m j : ShaftJob) (now : Stamp) : Shaft :=
  { h with
    main := some { m.passed with yields := satAdd 0xFFFF m.yields 1 }, candidate := none, innerFrom := now
    yieldTotal := satAdd 0xFFFF h.yieldTotal 1, inner := some j }

theorem State.lode_blindJob (s : State) (j : ShaftJob) : (s.blindJob j).1.lode = s.lode := by
  obtain ⟨ent, free, hdraw⟩ := s.drawCentral_frame 3 (16 + rsaK j.set)
  have hlode : (s.drawCentral 3 (16 + rsaK j.set)).1.lode = s.lode := by rw [hdraw]
  unfold State.blindJob
  split
  · split
    all_goals next h => exact (congrArg (·.1.lode) h).symm.trans hlode
  · rfl

/-- A change of an entry that is counted as an event leaves the Shafts, host memory and Lode. -/
theorem State.modEntry_pmu_beside (s : State) (e : Nat) (f : Entry → Entry) (ev t : Nat) (n i : Option Nat) (d : Nat) :
    ((s.modEntry e f).pmu ev t n i d).shafts = s.shafts ∧ ((s.modEntry e f).pmu ev t n i d).host = s.host ∧
      ((s.modEntry e f).pmu ev t n i d).lode = s.lode := by
  obtain ⟨l, hmod⟩ : ∃ l, s.modEntry e f = s.withEntries l := by
    unfold State.modEntry
    split
    exacts [⟨_, rfl⟩, ⟨s.tally.entries, rfl⟩]
  have hcounted := (s.withEntries l).holdings_pmu ev t n i d
  rw [hmod]
  exact ⟨congrArg (·.work.shafts) hcounted, congrArg (·.work.host) hcounted, congrArg Holdings.lode hcounted⟩

section
variable {m : ShaftJob} (hmain : (s.shaft n).main = some m) (hinner : (s.shaft n).inner = none)
  (hclean : (s.shaft n).wipeYield = 0)
include hmain hinner hclean

theorem State.checkpoint_alone (hnone : (s.shaft n).candidate = none) :
    s.checkpoint n = s.setShaft n { s.shaft n with main := some m.passed } := by
  simp only [State.checkpoint, hmain, hinner, hclean, hnone, ne_eq, not_true, if_false]
  rfl

variable (hcandidate : (s.shaft n).candidate = some e) (hx : s.entry e = some x)
include hcandidate hx

theorem State.checkpoint_kept (hkept : m.exclusive = true ∨ s.draining (.shf n) = true) :
    s.checkpoint n = s.setShaft n { s.shaft n with main := some m.passed } := by
  have hstays : (m.exclusive || s.draining (.shf n)) = true := by simpa using hkept
  simp only [State.checkpoint, hmain, hinner, hclean, hcandidate, hx, hstays, ne_eq, not_true, if_false, if_true]
  rfl

theorem State.checkpoint_yields (hshared : m.exclusive = false) (hopen : s.draining (.shf n) = false) :
    ∃ j, j.entry = e ∧ j.started = s.stamp ∧ (s.checkpoint n).shaft n = (s.shaft n).yieldTo m j s.stamp ∧
      (s.checkpoint n).host = s.host ∧ (s.checkpoint n).lode = s.lode := by
  have hgives : (m.exclusive || s.draining (.shf n)) = false := by simp [hshared, hopen]
  simp only [State.checkpoint, hmain, hinner, hclean, hcandidate, hx, hgives, ne_eq, not_true, if_false, Bool.false_eq_true]
  generalize hblind : s.blindJob _ = b
  obtain ⟨hwork, hentry, hstarted⟩ := hblind ▸ s.blindJob_frame _
  have hlode : b.1.lode = s.lode := hblind ▸ s.lode_blindJob _
  refine ⟨b.2, hentry, hstarted, ?_⟩
  generalize hshaft : State.setShaft b.1 _ _ = u
  have hyields : u.shaft n = (s.shaft n).yieldTo m b.2 s.stamp := by
    rw [← hshaft, State.shaft_setShaft, Shaft.yieldTo, hclean]
    rfl
  obtain ⟨hhost, hlode⟩ : u.host = s.host ∧ u.lode = s.lode := by
    rw [← hshaft]
    exact ⟨congrArg Workload.host hwork, hlode⟩
  obtain ⟨hshafts, hhost', hlode'⟩ := u.modEntry_pmu_beside m.entry
    (fun y => { y with info := satAdd 0xFFFF m.yields 1 }) 0x28
    (match u.entry m.entry with | some y => y.tenant | none => 0) none none 1
  exact ⟨(State.shaft_congr hshafts n).trans hyields, hhost'.trans hhost, hlode'.trans hlode⟩

end

/-! ## The end of a job (R291, R234, R301) -/

theorem State.shaftCommit_of_running {inner : Bool} {j : ShaftJob} {k : OpKind}
    (hjob : (if inner then (s.shaft n).inner else (s.shaft n).main) = some j) (hrun : s.running j.entry k = some x)
    (hkind : x.desc.kind = some k) (pass : Bool) : s.shaftCommit n inner pass =
      if j.kind = 1 ∧ pass = false then s.resultCheckFail n j.entry j.kind else s.shaftWork j.entry k := by
  simp only [State.shaftCommit, hjob, State.entry_of_running hrun, hkind, hrun, Bool.and_eq_true, beq_iff_eq,
    Bool.not_eq_true']

/-! ## The end of a wipe (R293, R294, R298) -/

theorem State.shaftSettled_of_open (h : s.draining (.shf n) = false) : s.shaftSettled n = s :=
  if_neg (by simp [h])

section
variable (hpart : (s.shaft n).wipeAll = false) (hopen : s.draining (.shf n) = false)
include hpart hopen

theorem State.wipeDone_yield (hwipe : (s.shaft n).wipeYield ≠ 0) : s.wipeDone n true = s.setShaft n { s.shaft n with
    wipeYield := 0
    main := (s.shaft n).main.map fun m => { m with yielded := m.yielded + (s.stamp - (s.shaft n).innerFrom) } } := by
  have hsettled (h : Shaft) : (s.setShaft n h).shaftSettled n = s.setShaft n h := State.shaftSettled_of_open hopen
  simp only [State.wipeDone, hpart, Bool.false_eq_true, if_false, if_true, if_neg hwipe, hsettled, ite_self]
  cases (s.shaft n).main <;> rfl

theorem State.wipeDone_main (hwipe : (s.shaft n).wipeMain ≠ 0) (hnone : (s.shaft n).candidate = none) :
    s.wipeDone n false = s.setShaft n { s.shaft n with wipeMain := 0 } := by
  have hdropped (h : Shaft) (hn : h.candidate = none) : (s.setShaft n h).dropCandidate n = s.setShaft n h := by
    simp only [State.dropCandidate, State.shaft_setShaft, hn]
  have hsettled (h : Shaft) : (s.setShaft n h).shaftSettled n = s.setShaft n h := State.shaftSettled_of_open hopen
  simp only [State.wipeDone, hpart, Bool.false_eq_true, if_false, if_neg hwipe, hdropped, hnone, hsettled, ite_self]

end

/-! ## A stop (R300) -/

theorem State.shaftAck_of_stopping {how : StopEnd} (hx : s.entry e = some x) (htarget : x.target = .shaft n)
    (hstop : x.stopping = some how) : s.shaftAck e = s.endStopped e how := by
  simp only [State.shaftAck, hx, htarget, hstop]

theorem exec_shaftStopTimeout {how : StopEnd} (hclock : s.avs.tripped = false) (hx : s.entry e = some x)
    (htarget : x.target = .shaft n) (hstop : x.stopping = some how) : exec (.shaftStopTimeout e) s =
      .next (((s.advanceTo (x.stopAt + x.stopTo)).setErr (.shf n) 5).endStopped e how) := by
  have hwork := (s.advanceTo (x.stopAt + x.stopTo)).workload_setErr (.shf n) 5
  have hentry : ((s.advanceTo (x.stopAt + x.stopTo)).setErr (.shf n) 5).entry e = some x :=
    (State.entry_congr (congrArg Workload.tally hwork) e).trans hx
  rw [← State.shaftAck_of_stopping hentry htarget hstop]
  refine State.clocked_next hclock ?_
  simp only [hx, htarget, hstop]

/-! ## A self-test (R290, R446) -/

theorem State.unitServes_of_unpending {p : Page} (h : s.hdf.eccPending.contains (eccKey p) = false) : s.unitServes p = s :=
  if_neg (Bool.eq_false_iff.mp h)

theorem State.selftestDone_passed (htest : (s.shaft n).test = 1) (h : s.hdf.eccPending.contains (64 + n) = false) :
    s.selftestDone n true = s.setShaft n { s.shaft n with test := 2, wipeAll := false } :=
  (if_neg (not_not.mpr htest)).trans (State.unitServes_of_unpending h)

theorem State.selftestDone_failed (htest : (s.shaft n).test = 1) : s.selftestDone n false =
    (s.setShaft n { s.shaft n with test := 3, wipeAll := false }).disableUnit (.shf n) 2 := if_neg (not_not.mpr htest)

end

theorem shaftJobs : Claims.ShaftJobs := by
  intro s n hclock hn h
  refine ⟨fun m hmain hinner hclean => ⟨?alone, ?yields, ?kept⟩, ?commit, ?wipeYield, ?wipeMain, ?stop, ?passed, ?failed⟩
  case alone =>
    exact fun hnone => State.clocked_next hclock ((if_pos hn).trans (State.checkpoint_alone hmain hinner hclean hnone))
  case yields =>
    intro e x hcandidate hx hshared hopen
    obtain ⟨j, hentry, hstarted, hshaft, hhost, hlode⟩ :=
      State.checkpoint_yields hmain hinner hclean hcandidate hx hshared hopen
    exact ⟨_, j, _, State.clocked_next hclock (if_pos hn), congrArg Shaft.inner hshaft, hentry, hstarted,
      congrArg Shaft.candidate hshaft, congrArg Shaft.main hshaft, rfl, rfl, congrArg Shaft.innerFrom hshaft,
      congrArg Shaft.yieldTotal hshaft, hhost, hlode⟩
  case kept =>
    exact fun e x hcandidate hx hkept => State.clocked_next hclock
      ((if_pos hn).trans (State.checkpoint_kept hmain hinner hclean hcandidate hx hkept))
  case commit =>
    intro inner pass j x k hjob hrun hkind
    have hcommit := State.shaftCommit_of_running hjob hrun hkind pass
    have hworks (hsound : j.kind ≠ 1 ∨ pass = true) : exec (.shaftCommit n inner pass) s =
        s.clocked (.next (s.shaftWork j.entry k)) := by
      have hpasses : ¬(j.kind = 1 ∧ pass = false) := by
        rintro ⟨hprivate, hfails⟩
        simp [hprivate, hfails] at hsound
      rw [s.clocked_running hclock]
      exact State.clocked_next hclock ((if_pos hn).trans (hcommit.trans (if_neg hpasses)))
    refine ⟨fun hprivate hfails => ?_, ?_, fun hsound => ⟨?_, ?_, ?_, ?_, ?_, ?_⟩⟩
    · rw [if_pos ⟨hprivate, hfails⟩, hprivate] at hcommit
      exact ⟨_, State.clocked_next hclock ((if_pos hn).trans hcommit), rfl⟩
    · rintro hsound rfl
      exact hworks hsound
    all_goals
      rintro rfl
      exact hworks hsound
  case wipeYield =>
    exact fun hpart hwipe hopen => State.clocked_next hclock ((if_pos hn).trans (State.wipeDone_yield hpart hopen hwipe))
  case wipeMain =>
    exact fun hpart hwipe hnone hopen =>
      State.clocked_next hclock ((if_pos hn).trans (State.wipeDone_main hpart hopen hwipe hnone))
  case stop =>
    exact fun e x how hx htarget hstop => ⟨State.clocked_next hclock (State.shaftAck_of_stopping hx htarget hstop),
      _, exec_shaftStopTimeout hclock hx htarget hstop, rfl⟩
  case passed =>
    exact fun htest hserves => State.clocked_next hclock ((if_pos hn).trans (State.selftestDone_passed htest hserves))
  case failed =>
    exact fun htest => State.clocked_next hclock ((if_pos hn).trans (State.selftestDone_failed htest))

/-- Settles O34: the Shafts by their checkpoints, wipes, stops and tests, the units by what disabling, resetting and handing
over one leaves. -/
theorem shaftsAndService : Obligations.ShaftsAndService := ⟨shaftJobs, unitsOutOfService⟩

end Sys2Proof.Machine
end

section
/-! PROOF. Where an engine stands (R321 to R324): a slot that completes answers its effect and the step to the next slot, and a
table of instructions completes when each of them does. -/
namespace Sys2Proof.Machine

section
variable {s u : State} {n i slot op e : Nat} {r : Run} {f : State → At → Did}

/-- A slot that completes is over, and one that holds its word leaves the state it names. -/
theorem State.issue_stands (h : Claims.Stands s n i slot op e r) :
    (∀ u, f (Claims.issued s n i slot e) (Claims.place s n i slot e r) = .ok u →
      s.issue n i slot op f = u.endSlot n i e (Claims.wordOf s n i)) ∧
    ∀ u, f (Claims.issued s n i slot e) (Claims.place s n i slot e r) = .hold u → s.issue n i slot op f = u := by
  obtain ⟨-, -, hclock, hruns, hrun, hmode, hslot, hworks, hlegal, hop⟩ := h
  have hissue := State.issue_eq (f := f) hclock hruns hrun (by simpa using hmode) hslot hworks
    (fun hfirst => (hlegal hfirst).1) (fun hfirst => (hlegal hfirst).2) hop
  refine ⟨fun u hd => hissue.trans ?_, fun u hd => hissue.trans ?_⟩ <;>
  · unfold Claims.issued Claims.wordOf at hd
    change f _ (s.at_ n i slot e r) = _ at hd
    simp only [hd, Claims.wordOf]

theorem State.issue_ok (h : Claims.Stands s n i slot op e r)
    (hd : f (Claims.issued s n i slot e) (Claims.place s n i slot e r) = .ok u) :
    s.issue n i slot op f = u.endSlot n i e (Claims.wordOf s n i) := (State.issue_stands h).1 u hd

theorem State.issue_hold (h : Claims.Stands s n i slot op e r)
    (hd : f (Claims.issued s n i slot e) (Claims.place s n i slot e r) = .hold u) : s.issue n i slot op f = u :=
  (State.issue_stands h).2 u hd

/-- What makes a row of a table complete: its command issues its opcode at its slot, where it does what the row says. -/
def Answers (slot : Nat) (row : Claims.Row) : Prop :=
  ∃ f : State → At → Did, (∀ s n i, exec (row.cmd n i) s = engineCmd n i (s.issue n i slot row.op f)) ∧
    ∀ s a, row.needs s a = true → f s a = .ok (row.result s a)

/-- A table completes row by row. -/
theorem completes_of_answers {slot : Nat} {rows : List Claims.Row} (h : rows.Forall (Answers slot)) :
    Claims.Completes slot rows := by
  intro row hrow s n i e r hstands hneeds
  obtain ⟨f, hexec, hdoes⟩ := List.forall_iff_forall_mem.mp h row hrow
  obtain ⟨hn, hi, -⟩ := id hstands
  rw [hexec, engineCmd_next hn hi, State.issue_ok hstands (hdoes _ _ hneeds)]

end
end Sys2Proof.Machine
end

section
/-! PROOF. Scalar arithmetic (R322, R326, R349, O1 and O2): each instruction writes its result to sd, and a write to sd is all
that its word changes beside the engine's place in it. -/
namespace Sys2Proof.Machine

/-- A row that always completes by writing `g` to sd. -/
def WritesSd (row : Claims.Row) : Prop :=
  ∃ g : At → BitVec 64, row.needs = (fun _ _ => true) ∧ row.result = Claims.toSd g ∧
    ∀ s n i, exec (row.cmd n i) s = engineCmd n i (s.scalar n i row.op g)

theorem WritesSd.answers {row : Claims.Row} (h : WritesSd row) : Answers 0 row := by
  obtain ⟨g, -, hresult, hexec⟩ := h
  refine ⟨fun s a => putS s a (g a), hexec, fun s a _ => ?_⟩
  rw [hresult]
  rfl

/-- A row of the table by the model's own operation on sa and sb, or on sa and the immediate. -/
theorem writesSd {cmd : Nat → Nat → Instr} {op : Nat} (g : At → BitVec 64)
    (hexec : ∀ s n i, exec (cmd n i) s = engineCmd n i (s.scalar n i op g)) :
    WritesSd ⟨cmd, op, fun _ _ => true, Claims.toSd g⟩ := ⟨g, rfl, rfl, hexec⟩

theorem aluRows_writeSd : ∀ row ∈ Claims.aluRows, WritesSd row := by
  simp only [Claims.aluRows, List.forall_mem_cons, List.not_mem_nil, false_imp_iff, implies_true, and_true]
  and_intros <;> exact writesSd _ fun _ _ _ => rfl

/-- Settles O1: each instruction issues as the write of its value to sd. -/
theorem scalarArithmetic : Obligations.ScalarArithmetic :=
  completes_of_answers (List.forall_iff_forall_mem.mpr fun row hrow => (aluRows_writeSd row hrow).answers)

/-! ## What the first slot of a word changes (R322, R338, R520) -/

section
variable (s : State)

/-- The state without its engines and without what the begin of a word counts: registers and functions, which counters and
latches move, the record of a step in its run, and the sampler's words. -/
def State.still : State := { s with regs := [], fns := [], runs := [], samplers := [], engs := [] }

@[simp] theorem State.still_setReg (p : Page) (off : Nat) (v : Word) : (s.setReg p off v).still = s.still := rfl

@[simp] theorem State.still_setInt (p : Page) (n : Nat) : (s.setInt p n).still = s.still := by
  obtain ⟨regs, fns, h⟩ := s.setInt_fields p n
  rw [h]
  rfl

theorem State.still_bumpCounter (p : Page) (k d : Nat) : (s.bumpCounter p k d).still = s.still := by
  unfold State.bumpCounter
  dsimp only
  split <;> simp

theorem State.still_pmu (ev t : Nat) (n i : Option Nat) (d : Nat) : (s.pmu ev t n i d).still = s.still := by
  have hcount (s : State) (p : Page) (num : Nat) : (s.countIn p num ev t n i d).still = s.still := by
    unfold State.countIn
    split
    · rfl
    refine foldl_keeps (fun s k _ => ?_) s
    split
    · exact State.still_bumpCounter ..
    · rfl
  exact (hcount ..).trans (hcount ..)

end

/-- `t` is `s` but for engine `i` of Stope `n`, which is `x`, and for what the begin of a word counts. -/
structure EngineMoved (n i : Nat) (x : Eng) (s t : State) : Prop where
  eng : t.eng n i = x
  others : ∀ m j, engKey m j ≠ engKey n i → t.eng m j = s.eng m j
  still : t.still = s.still

/-- The engine is written again. -/
theorem EngineMoved.setEng {n i : Nat} {x : Eng} {s t : State} (h : EngineMoved n i x s t) (y : Eng) :
    EngineMoved n i y s (t.setEng n i y) :=
  ⟨t.eng_setEng n i y, fun m j hkey => (t.eng_setEng_other n y hkey).trans (h.others m j hkey), h.still⟩

/-- Its registers are written again. -/
theorem EngineMoved.modRegs {n i : Nat} {x : Eng} {s t : State} (h : EngineMoved n i x s t) (f : Regs → Regs) :
    EngineMoved n i { x with regs := f x.regs } s (t.setEng n i { t.eng n i with regs := f (t.eng n i).regs }) := by
  rw [h.eng]
  exact h.setEng _

/-- What no engine is part of does not change. -/
theorem EngineMoved.keeps {n i : Nat} {x : Eng} {s t : State} {α : Type} (h : EngineMoved n i x s t) (f : State → α) :
    f t.still = f s.still := congrArg f h.still

/-- The engine as its word begins: its registers are what the word's slots read (R322). -/
def Eng.begun (g : Eng) (stepAt : Stamp) : Eng := { g with old := g.regs, npc := (g.pc + 1) % 4096, stepAt := stepAt }

theorem State.beginWord_moved (s : State) (n i e : Nat) (w : BitVec 128) :
    ∃ stepAt, EngineMoved n i ((s.eng n i).begun stepAt) s (s.beginWord n i e w) := by
  refine ⟨if wordStep w then s.stamp else (s.eng n i).stepAt, ?_⟩
  unfold State.beginWord
  extract_lets g u v t x y
  have hu : EngineMoved n i ((s.eng n i).begun (if wordStep w then s.stamp else (s.eng n i).stepAt)) s u :=
    ⟨s.eng_setEng n i _, fun m j hkey => s.eng_setEng_other n _ hkey, rfl⟩
  have hv : v.engs = u.engs ∧ v.still = u.still := by
    dsimp only [v]
    split
    · split <;> exact ⟨rfl, rfl⟩
    · exact ⟨rfl, rfl⟩
  have hy : y.engs = v.engs ∧ y.still = v.still := by
    dsimp only [y]
    split <;> exact ⟨rfl, rfl⟩
  have hpmu : (y.pmu 0x02 t (some n) (some i) 1).engs = y.engs := congrArg Workload.engs (y.workload_pmu ..)
  have hengs := State.eng_congr (hpmu.trans (hy.1.trans hv.1))
  exact ⟨(hengs n i).trans hu.eng, fun m j hkey => (hengs m j).trans (hu.others m j hkey),
    (State.still_pmu ..).trans (hy.2.trans (hv.2.trans hu.still))⟩

/-- The state in which the first slot of a word executes. -/
theorem issued_moved (s : State) (n i e : Nat) :
    ∃ stepAt, EngineMoved n i ((s.eng n i).begun stepAt) s (Claims.issued s n i 0 e) :=
  s.beginWord_moved n i e (Claims.wordOf s n i)

/-- After a slot without a trap the engine stands at the next one (R321, R323). -/
theorem State.endSlot_untrapped {s : State} {n i e : Nat} (hrun : (s.eng n i).run = some e)
    (htrapped : (s.eng n i).trapped = false) (w : BitVec 128) :
    ∃ mode slot pc, s.endSlot n i e w = s.setEng n i { s.eng n i with mode, slot, pc } := by
  simp only [State.endSlot, hrun, htrapped, ne_eq, not_true_eq_false, if_false, Bool.false_eq_true]
  split
  · exact ⟨_, _, (s.eng n i).pc, rfl⟩
  · exact ⟨_, _, _, rfl⟩

/-! ## The frame -/

theorem Regs.getS_setS_other {r : Regs} {k d : Nat} (v : BitVec 64) (h : k ≠ d) : (r.setS d v).getS k = r.getS k := by
  unfold Regs.setS
  split
  · rfl
  · simp [Regs.getS, Cells.get_set_other _ _ v h]

theorem Regs.getS_zero (r : Regs) : r.getS 0 = 0 := if_pos rfl

/-- A write to an s register changes the s registers alone. -/
theorem Regs.setS_frame (r : Regs) (d : Nat) (v : BitVec 64) : ∃ x, r.setS d v = { r with s := x } := by
  unfold Regs.setS
  split <;> exact ⟨_, rfl⟩

theorem engKey_ne {n m i j : Nat} (hi : i < 16) (hj : j < 16) (h : m ≠ n ∨ j ≠ i) : engKey m j ≠ engKey n i := by
  unfold engKey
  omega

/-- Once a write to sd has ended, the engine has its new registers and stands elsewhere in its kernel. -/
theorem State.scalar_moved {s : State} {n i e : Nat} {r : Run} (g : At → BitVec 64) (hrun : (s.eng n i).run = some e)
    (htrapped : (s.eng n i).trapped = false) (w : BitVec 128) :
    let a := Claims.place s n i 0 e r
    ∃ x : Eng, EngineMoved n i x s ((Claims.toSd g (Claims.issued s n i 0 e) a).endSlot n i e w) ∧
      x.regs = (s.eng n i).regs.setS (sSd a.x) (g a) ∧ x.loc = (s.eng n i).loc ∧ x.run = some e := by
  intro a
  obtain ⟨stepAt, hbegun⟩ := issued_moved s n i e
  have hwritten : EngineMoved n i { (s.eng n i).begun stepAt with regs := (s.eng n i).regs.setS (sSd a.x) (g a) } s
      (Claims.toSd g (Claims.issued s n i 0 e) a) := hbegun.modRegs fun regs => regs.setS (sSd a.x) (g a)
  obtain ⟨mode, slot, pc, hend⟩ := (Claims.toSd g (Claims.issued s n i 0 e) a).endSlot_untrapped
    ((congrArg Eng.run hwritten.eng).trans hrun) ((congrArg Eng.trapped hwritten.eng).trans htrapped) w
  rw [hend, hwritten.eng]
  exact ⟨_, hwritten.setEng _, rfl, rfl, hrun⟩

/-- Settles O2: the word begins, sd is written and the slot ends, each a change of the engine and of counters. -/
theorem scalarArithmeticFrame : Obligations.ScalarArithmeticFrame := by
  intro row hrow s n i e r hstands htrapped
  obtain ⟨g, hneeds, hresult, -⟩ := aluRows_writeSd row hrow
  have hexec := scalarArithmetic row hrow s n i e r hstands (by rw [hneeds])
  obtain ⟨hn, hi, -, hrun, -⟩ := hstands
  rw [hresult] at hexec
  obtain ⟨x, hmoved, hregs, hloc, hruns⟩ := s.scalar_moved (r := r) g hrun htrapped (Claims.wordOf s n i)
  obtain ⟨sfile, hsd⟩ :=
    (s.eng n i).regs.setS_frame (sSd (slotOf (Claims.wordOf s n i) 0)) (g (Claims.place s n i 0 e r))
  refine ⟨_, hexec, fun k hk => ?_, Regs.getS_zero _, ?_⟩
  · rw [hmoved.eng, hregs]
    exact Regs.getS_setS_other _ hk
  rw [hmoved.eng, hregs.trans hsd]
  exact ⟨rfl, rfl, rfl, rfl, rfl, rfl, rfl, rfl, hloc, hruns,
    fun m j hj hother => hmoved.others m j (engKey_ne hi hj hother), hmoved.keeps State.lode,
    hmoved.keeps (·.tally.entries), hmoved.keeps State.host, hmoved.keeps State.pending⟩

end Sys2Proof.Machine
end

section
/-! PROOF. Scalar loads, stores, branches and control values (R309, R310, R325, R350, O3): what an access that passes its checks
goes on with, and where a branch inside its extent leads. -/
namespace Sys2Proof.Machine

section
variable {s : State} {a : At}

/-- An access that meets no error it cannot correct goes on in the state its restarts leave (R334). -/
theorem State.reading_of_reads {masked : Bool} {len : Nat} {els : List (Nat × Nat)} {numbered : Bool} {f : State → Did}
    (h : Claims.reads s a masked len els = true) :
    s.reading a masked len els numbered f = f (Claims.read s a masked len els) := by
  have hnone : (s.meet a.n a.i 3 (s.flawsIn a masked len els)).2 = none := Option.isNone_iff_eq_none.mp h
  unfold State.reading State.meeting Claims.read
  generalize s.meet a.n a.i 3 (s.flawsIn a masked len els) = q at hnone ⊢
  obtain ⟨u, _⟩ := q
  cases hnone
  rfl

theorem answers_loadRow {cmd : Nat → Nat → Instr} {op len : Nat}
    (hexec : ∀ s n i, exec (cmd n i) s = engineCmd n i (s.scalarLoad n i op len)) :
    Answers 0 (Claims.loadRow cmd op len) := by
  refine ⟨_, hexec, fun s a hneeds => ?_⟩
  obtain ⟨hpasses, hreads⟩ := Bool.and_eq_true_iff.mp hneeds
  rw [eq_of_beq hpasses]
  exact State.reading_of_reads hreads

theorem answers_storeRow {cmd : Nat → Nat → Instr} {op len : Nat}
    (hexec : ∀ s n i, exec (cmd n i) s = engineCmd n i (s.scalarStore n i op len)) :
    Answers 0 (Claims.storeRow cmd op len) := by
  refine ⟨_, hexec, fun s a hneeds => ?_⟩
  obtain ⟨hpasses, hclean⟩ := Bool.and_eq_true_iff.mp hneeds
  rw [eq_of_beq hpasses]
  dsimp only
  rw [List.isEmpty_iff.mp hclean]
  rfl

/-! ## Branches (R325, R350) -/

/-- A target inside the extent is where the engine goes on. -/
theorem State.branchTo_inExtent {target : Nat} (h : Claims.inExtent s a target = true) (link : Option Nat) :
    s.branchTo a target link = .ok (match link with
      | some d => (Claims.jump s a target).modRegs a fun r => r.setS d (BitVec.ofNat 64 (a.pc + 1))
      | none => Claims.jump s a target) := by
  obtain ⟨hlo, hhi⟩ := Bool.and_eq_true_iff.mp h
  exact if_pos ⟨of_decide_eq_true hlo, of_decide_eq_true hhi⟩

/-- A branch that is not taken, or whose target lies inside the extent. -/
theorem State.branch_ok {takes : Bool} {target : Nat} (h : (!takes || Claims.inExtent s a target) = true) :
    (if takes then s.branchTo a target none else .ok s) = Did.ok (if takes then Claims.jump s a target else s) := by
  cases takes with
  | false => rfl
  | true => exact State.branchTo_inExtent h none

theorem answers_branchRow {cmd : Nat → Nat → Instr} {op : Nat} {rel : BitVec 64 → BitVec 64 → Bool}
    (hexec : ∀ s n i, exec (cmd n i) s = engineCmd n i (s.branch n i op rel)) :
    Answers 0 (Claims.branchRow cmd op rel) := ⟨_, hexec, fun _ _ hneeds => State.branch_ok hneeds⟩

end

/-- Settles O3: loads and stores by their checks, branches by their extent, control values by their codes. -/
theorem scalarMemoryAndControl : Obligations.ScalarMemoryAndControl := by
  refine completes_of_answers ⟨answers_loadRow fun _ _ _ => rfl, answers_loadRow fun _ _ _ => rfl,
    answers_storeRow fun _ _ _ => rfl, answers_storeRow fun _ _ _ => rfl, answers_branchRow fun _ _ _ => rfl,
    answers_branchRow fun _ _ _ => rfl, answers_branchRow fun _ _ _ => rfl, answers_branchRow fun _ _ _ => rfl,
    answers_branchRow fun _ _ _ => rfl, answers_branchRow fun _ _ _ => rfl,
    ⟨_, fun _ _ _ => rfl, fun _ _ hneeds => State.branch_ok hneeds⟩,
    ⟨_, fun _ _ _ => rfl, fun _ _ hneeds => State.branchTo_inExtent hneeds _⟩,
    ⟨_, fun _ _ _ => rfl, fun _ _ hneeds => State.branchTo_inExtent hneeds _⟩,
    ⟨_, fun _ _ _ => rfl, fun _ _ hneeds => State.branchTo_inExtent hneeds _⟩,
    ⟨_, fun _ _ _ => rfl, fun s a hneeds => ?getc⟩, ⟨_, fun _ _ _ => rfl, fun s a hneeds => ?setc⟩,
    ⟨_, fun _ _ _ => rfl, fun s a hneeds => ?mset⟩⟩
  case getc =>
    obtain ⟨q, hq⟩ := Option.isSome_iff_exists.mp hneeds
    simp only [hq]
    rfl
  case setc => exact if_pos (eq_of_beq hneeds)
  case mset => exact if_neg (ne_of_beq_false (Bool.not_eq_true' _ ▸ hneeds))

end Sys2Proof.Machine
end

section
/-! PROOF. Lanes (R227, R309, R328, R329, R354): what the instructions of the V and W slots answer once they find their mask
randomness and a VALID modulus. -/
namespace Sys2Proof.Machine

section
variable {ring : Bool} {s : State} {a : At}

/-- An instruction that is not masked, or that finds its mask randomness, goes on in the state that drew it (R227, R329). -/
theorem State.withMrg_of_masks {f : State → Did} (h : Claims.masks ring s a = true) :
    s.withMrg a ring f = f (Claims.drawn ring s a) := by
  unfold State.withMrg Claims.drawn
  cases hmasked : a.isMasked ring with
  | false => rfl
  | true =>
    have hgives : Claims.mrgGives s a.n = true := by simpa [Claims.masks, hmasked] using h
    obtain ⟨hvalid, hphase⟩ := Bool.and_eq_true_iff.mp hgives
    have hgoes : ¬(!((s.mrgFresh a.n).mrg a.n).valid || (s.mrgFresh a.n).ent.phase == 4) = true := by
      simpa [hvalid] using hphase
    simp only [if_true, if_neg hgoes]
    rfl

/-- A VALID modulus register gives its Q (R309, R353). -/
theorem withQ_of_valid {f : Nat → Did} (h : Claims.validM ring s a = true) : withQ a ring f = f (Claims.qOf ring a) :=
  if_pos (eq_of_beq h)

/-- A conversion finds its arithmetic sharing: modulo 2^32, or modulo the Q of a VALID register. -/
theorem withArith_of_ready {f : Sharing → Did} (h : Claims.arithReady ring s a = true) :
    withArith a ring f = f (Claims.arithOf ring a) := by
  unfold withArith Claims.arithOf
  unfold Claims.arithReady at h
  generalize (if ring then wFn a.x else vFn a.x) = fn at h ⊢
  dsimp only
  cases hq : fn.testBit 0 with
  | false => rfl
  | true =>
    have hvalid : Claims.validM ring s a = true := by simpa [hq] using h
    exact withQ_of_valid (f := fun q => f (.arith q)) hvalid

theorem State.linear_ok {f : List Nat → List Nat → List Nat} (h : Claims.masks ring s a = true) :
    s.linear a ring f = .ok (Claims.toDest ring (Claims.drawn ring s a) a ((a.srcA ring).map2 f (a.srcB ring))) :=
  State.withMrg_of_masks h

theorem State.linear1_ok {f : List Nat → List Nat} (h : Claims.masks ring s a = true) :
    s.linear1 a ring f = .ok (Claims.toDest ring (Claims.drawn ring s a) a ((a.srcA ring).map f)) :=
  State.withMrg_of_masks h

theorem State.bilinear_ok {d : Sharing} {f : List Nat → List Nat → List Nat} (h : Claims.masks ring s a = true) :
    s.bilinear a ring d f = .ok (let q := (Claims.drawn ring s a).product a ring d 32 f; Claims.toDest ring q.1 a q.2) :=
  State.withMrg_of_masks h

theorem State.convert_ok {d d' : Sharing} (h : Claims.masks ring s a = true) :
    s.convert a ring d d' =
      .ok (let q := (Claims.drawn ring s a).reshare d' 32 ((a.srcA ring).value d); Claims.toDest ring q.1 a q.2) :=
  State.withMrg_of_masks h

/-- A gadget with a shared source has fresh shares, one without none (R329). -/
theorem State.gadget_ok {d : Sharing} {f : List Nat → List Nat → List Nat} (h : Claims.masks ring s a = true) :
    s.gadget a ring d f = .ok (
      let v := f ((a.srcA ring).value d) ((a.srcB ring).value d)
      if a.shA ring || a.shB ring then
        let q := (Claims.drawn ring s a).reshare d 32 v
        Claims.toDest ring q.1 a q.2
      else Claims.toPlain ring (Claims.drawn ring s a) a v) := by
  refine (State.withMrg_of_masks h).trans ?_
  dsimp only
  split <;> rfl

/-- A selection with a shared source has fresh shares, one without its sources' lanes (R354). -/
theorem State.select_ok {pick : Nat → Bool} (h : Claims.masks ring s a = true) :
    s.select a ring pick = .ok (
      let t := (a.srcA ring).map2 (fun x y => mergeBits pick y x) (a.srcB ring)
      let q := if a.shA ring || a.shB ring then (Claims.drawn ring s a).refreshed a t else (Claims.drawn ring s a, t)
      Claims.toDest ring q.1 a q.2) := by
  refine (State.withMrg_of_masks h).trans ?_
  dsimp only
  split <;> rfl

/-- The carry out of a masked sum is a free value, that of a plain one is the sum's (R352). -/
theorem State.carry_ok {cmd : Nat → Nat → Instr} {op : Nat} {f : Nat → Nat → Nat → Nat × Bool}
    (h : Claims.masks false s a = true) : s.carry a f = .ok ((Claims.carryRow cmd op f).result s a) := by
  refine (State.withMrg_of_masks h).trans ?_
  dsimp only [Claims.carryRow]
  generalize a.isMasked false = masked
  cases masked <;> rfl

/-- A conversion as its row says it (R353). -/
theorem State.convert_arith_ok {cmd : Nat → Nat → Instr} {op : Nat} {d d' : Sharing → Sharing}
    (h : (Claims.arithReady ring s a && Claims.masks ring s a) = true) :
    (withArith a ring fun m => s.convert a ring (d m) (d' m)) = .ok ((Claims.convertRow ring cmd op
      (fun a => d (Claims.arithOf ring a)) (fun a => d' (Claims.arithOf ring a)) (Claims.arithReady ring)).result s a) := by
  obtain ⟨hready, hmasks⟩ := Bool.and_eq_true_iff.mp h
  exact (withArith_of_ready hready).trans (State.convert_ok hmasks)

end

/-- A modular instruction does its work with the Q of a VALID register (R353). -/
theorem answers_modular {ring : Bool} {slot : Nat} {row : Claims.Row} {f : Nat → State → At → Did}
    (hexec : ∀ s n i, exec (row.cmd n i) s =
      engineCmd n i (s.issue n i slot row.op fun s a => withQ a ring fun q => f q s a))
    (hdoes : ∀ s a, row.needs s a = true → f (Claims.qOf ring a) s a = .ok (row.result s a)) :
    Answers slot (row.modular ring) := by
  refine ⟨_, hexec, fun s a hneeds => ?_⟩
  obtain ⟨hvalid, hneeds⟩ := Bool.and_eq_true_iff.mp hneeds
  exact (withQ_of_valid hvalid).trans (hdoes s a hneeds)

end Sys2Proof.Machine
end

section
/-! PROOF. The V slot (R322, R328, R352 to R354, O4): each instruction by the shape of its operands. -/
namespace Sys2Proof.Machine

/-- Settles O4: arithmetic, products and accumulators, the modular forms, comparisons, moves, predicates and conversions in
the order of the table. -/
theorem vectorInstructions : Obligations.VectorInstructions := 
  completes_of_answers ⟨
    -- wrapping arithmetic and bits
    ⟨_, fun _ _ _ => rfl, fun _ _ => State.linear_ok⟩, ⟨_, fun _ _ _ => rfl, fun _ _ => State.linear_ok⟩,
    ⟨_, fun _ _ _ => rfl, fun _ _ => State.bilinear_ok⟩, ⟨_, fun _ _ _ => rfl, fun _ _ => State.gadget_ok⟩,
    ⟨_, fun _ _ _ => rfl, fun _ _ => State.linear_ok⟩,
    ⟨_, fun _ _ _ => rfl, fun _ _ => State.linear1_ok⟩, ⟨_, fun _ _ _ => rfl, fun _ _ => State.linear1_ok⟩,
    ⟨_, fun _ _ _ => rfl, fun _ _ => State.linear1_ok⟩, ⟨_, fun _ _ _ => rfl, fun _ _ => State.linear1_ok⟩,
    ⟨_, fun _ _ _ => rfl, fun _ _ => State.linear1_ok⟩, ⟨_, fun _ _ _ => rfl, fun _ _ => State.linear1_ok⟩,
    ⟨_, fun _ _ _ => rfl, fun _ _ => State.linear1_ok⟩,
    -- products and accumulators
    ⟨_, fun _ _ _ => rfl, fun _ _ => State.bilinear_ok⟩,
    ⟨_, fun _ _ _ => rfl, fun _ _ => State.withMrg_of_masks⟩, ⟨_, fun _ _ _ => rfl, fun _ _ => State.withMrg_of_masks⟩,
    ⟨_, fun _ _ _ => rfl, fun _ _ => State.withMrg_of_masks⟩, ⟨_, fun _ _ _ => rfl, fun _ _ => State.withMrg_of_masks⟩,
    ⟨_, fun _ _ _ => rfl, fun _ _ => State.withMrg_of_masks⟩,
    ⟨_, fun _ _ _ => rfl, fun _ _ => State.carry_ok⟩, ⟨_, fun _ _ _ => rfl, fun _ _ => State.carry_ok⟩,
    -- modular arithmetic
    answers_modular (fun _ _ _ => rfl) fun _ _ => State.linear_ok,
    answers_modular (fun _ _ _ => rfl) fun _ _ => State.linear_ok,
    answers_modular (fun _ _ _ => rfl) fun _ _ => State.bilinear_ok,
    answers_modular (fun _ _ _ => rfl) fun _ _ => State.linear1_ok,
    -- comparisons, selection and moves
    ⟨_, fun _ _ _ => rfl, fun _ _ => State.withMrg_of_masks⟩, ⟨_, fun _ _ _ => rfl, fun _ _ => State.withMrg_of_masks⟩,
    ⟨_, fun _ _ _ => rfl, fun _ _ => State.withMrg_of_masks⟩, ⟨_, fun _ _ _ => rfl, fun _ _ => State.select_ok⟩,
    ⟨_, fun _ _ _ => rfl, fun _ _ _ => rfl⟩, ⟨_, fun _ _ _ => rfl, fun _ _ _ => rfl⟩,
    ⟨_, fun _ _ _ => rfl, fun _ _ _ => rfl⟩,
    ⟨_, fun _ _ _ => rfl, fun _ _ => State.linear1_ok⟩, ⟨_, fun _ _ _ => rfl, fun _ _ => State.linear1_ok⟩,
    -- predicates
    ⟨_, fun _ _ _ => rfl, fun _ _ _ => rfl⟩, ⟨_, fun _ _ _ => rfl, fun _ _ _ => rfl⟩,
    ⟨_, fun _ _ _ => rfl, fun _ _ _ => rfl⟩, ⟨_, fun _ _ _ => rfl, fun _ _ _ => rfl⟩,
    ⟨_, fun _ _ _ => rfl, fun _ _ _ => rfl⟩, ⟨_, fun _ _ _ => rfl, fun _ _ _ => rfl⟩,
    ⟨_, fun _ _ _ => rfl, fun _ _ _ => rfl⟩,
    -- conversions of shares
    ⟨_, fun _ _ _ => rfl, fun _ _ => State.convert_arith_ok⟩, ⟨_, fun _ _ _ => rfl, fun _ _ => State.convert_arith_ok⟩,
    ⟨_, fun _ _ _ => rfl, fun _ _ => State.convert_ok⟩⟩

end Sys2Proof.Machine
end

section
/-! PROOF. Empty slots, barriers, breakpoints and engines that do not exist (R8, R9, R324, R331, R332, O10). -/
namespace Sys2Proof.Machine

theorem nopSlots : Claims.NopSlots := by
  intro slot _ row hrow s n i e r hstands _
  obtain rfl := List.mem_singleton.mp hrow
  obtain ⟨hn, hi, -, -, -, -, rfl, -⟩ := id hstands
  exact (engineCmd_next hn hi).trans (congrArg Host.Outcome.next (State.issue_ok hstands rfl))

/-! ## What a write to an engine keeps -/

section
variable {s : State} {n i : Nat} {α : Type} {p : Eng → α}

/-- What the new record shows as the old one did, every engine shows as before. -/
theorem State.setEng_keeps {x : Eng} (h : p x = p (s.eng n i)) (m j : Nat) :
    p ((s.setEng n i x).eng m j) = p (s.eng m j) := by
  by_cases hkey : engKey m j = engKey n i
  · have hsame (t : State) : t.eng m j = t.eng n i := by rw [State.eng, State.eng, hkey]
    rw [hsame, hsame, State.eng_setEng, h]
  · rw [s.eng_setEng_other n x hkey]

theorem State.mapEngs_keeps {l : List Nat} {f : Eng → Eng} (h : ∀ x, p (f x) = p x) (m j : Nat) :
    p ((s.mapEngs n l f).eng m j) = p (s.eng m j) :=
  foldl_keeps (f := fun s : State => p (s.eng m j)) (fun _ _ _ => State.setEng_keeps (h _) m j) s

/-- The end of a slot changes no engine's barrier. -/
theorem State.atBar_endSlot {e : Nat} (w : BitVec 128) (m j : Nat) :
    ((s.endSlot n i e w).eng m j).atBar = (s.eng m j).atBar := by
  have hhalt (s : State) : ((s.haltEngines e).eng m j).atBar = (s.eng m j).atBar := by
    unfold State.haltEngines
    split
    · rfl
    · refine State.mapEngs_keeps (p := Eng.atBar) ?_ m j
      exact fun _ => rfl
  have hset {x : Eng} (hx : x.atBar = (s.eng n i).atBar) : ((s.setEng n i x).eng m j).atBar = (s.eng m j).atBar :=
    State.setEng_keeps hx m j
  unfold State.endSlot
  dsimp only
  split
  · rfl
  split
  · exact hset rfl
  split
  · exact (hhalt _).trans (hset rfl)
  · exact hset rfl

end

/-! ## Barriers (R331) -/

/-- The engine has arrived at barrier `k` and waits there. -/
def Eng.arrived (g : Eng) (k : Nat) : Eng := { g with bars := bumpAt g.bars k 1, mode := 3, atBar := some k }

/-- One engine of those that the last arrival at barrier `k` frees. -/
def State.freeOne (n e k : Nat) (s : State) (j : Nat) : State :=
  if (s.eng n j).atBar == some k then
    (s.setEng n j { s.eng n j with atBar := none }).endSlot n j e (s.storeWord n (s.eng n j).pc)
  else s

section
variable {s : State} {n i e k : Nat} {r : Run}

/-- An engine that waits at barrier `k` is freed, and the others wait on. -/
theorem State.atBar_freeOne (a j : Nat) : ((s.freeOne n e k a).eng n j).atBar =
    if j = a ∧ (s.eng n a).atBar = some k then none else (s.eng n j).atBar := by
  unfold State.freeOne
  by_cases hwaits : (s.eng n a).atBar = some k
  · rw [if_pos (by simp [hwaits]), State.atBar_endSlot]
    by_cases hj : j = a
    · subst hj
      rw [State.eng_setEng, if_pos ⟨rfl, hwaits⟩]
    · rw [s.eng_setEng_other n _ fun hkey => hj (Nat.add_left_cancel hkey), if_neg fun h => hj h.1]
  · rw [if_neg (by simpa using hwaits), if_neg fun h => hwaits h.2]

/-- After the last arrival no engine of the operation waits at barrier `k`. -/
theorem State.atBar_freed {j : Nat} {l : List Nat}
    (h : (s.eng n j).atBar = none ∨ j ∈ l ∧ (s.eng n j).atBar = some k) :
    ((l.foldl (State.freeOne n e k) s).eng n j).atBar = none := by
  induction l generalizing s with
  | nil => simpa using h
  | cons a l ih =>
    refine ih ?_
    rw [State.atBar_freeOne]
    grind

/-- An arrival at a barrier (R331): once every engine of the operation has come equally often, all go on. -/
theorem exec_barS (h : Claims.Stands s n i 0 0x60 e r) (hk : k = bits (slotOf (Claims.wordOf s n i) 0) 2 0) :
    let u := Claims.issued s n i 0 e
    let waits := u.setEng n i ((u.eng n i).arrived k)
    exec (.barS n i) s = .next (
      if (engSet r.first r.wlog2).all fun j => countAt (waits.eng n j).bars k == countAt (waits.eng n i).bars k
      then (engSet r.first r.wlog2).foldl (State.freeOne n e k) waits else waits) := by
  intro u waits
  subst hk
  obtain ⟨hn, hi, -⟩ := id h
  refine (engineCmd_next hn hi).trans (congrArg Host.Outcome.next (State.issue_hold h ?_))
  exact (apply_ite Did.hold ..).symm

end

/-- The fault record's cause (R340). -/
theorem faultWord_cause (valid : Bool) {cause : Nat} (h : cause ≤ 10) :
    field (faultWord valid none 0 cause) 7 0 = cause ∧ bit (faultWord valid none 0 cause) 31 = true := by
  interval_cases cause <;> cases valid <;> decide

section
variable {s waits : State} {n i e k : Nat} {r : Run} {stepAt : Stamp}
variable (hwaits : EngineMoved n i (((s.eng n i).begun stepAt).arrived k) s waits)
include hwaits

theorem EngineMoved.count_arrived : countAt (waits.eng n i).bars k = countAt (s.eng n i).bars k + 1 := by
  rw [hwaits.eng]
  exact Cells.get_set_same (fun _ => 0) (s.eng n i).bars k (countAt (s.eng n i).bars k + 1)

theorem EngineMoved.same_stope {j : Nat} (hj : j ≠ i) : waits.eng n j = s.eng n j :=
  hwaits.others n j fun hkey => hj (Nat.add_left_cancel hkey)

theorem EngineMoved.word_arrived : waits.storeWord n (waits.eng n i).pc = Claims.wordOf s n i := by
  rw [hwaits.eng]
  exact hwaits.keeps fun u => u.storeWord n (s.eng n i).pc

/-- An operation of one engine waits for no other. -/
theorem EngineMoved.freed_alone : [i].foldl (State.freeOne n e k) waits =
    (waits.setEng n i { waits.eng n i with atBar := none }).endSlot n i e (Claims.wordOf s n i) := by
  rw [← hwaits.word_arrived]
  refine if_pos ?_
  rw [hwaits.eng]
  exact beq_self_eq_true _

/-- Where the others of the operation wait at the barrier, with the last all do, having come equally often. -/
theorem EngineMoved.all_wait (hall : ∀ j, r.first ≤ j → j < r.first + 2 ^ r.wlog2 → j ≠ i →
      countAt (s.eng n j).bars k = countAt (s.eng n i).bars k + 1 ∧ (s.eng n j).atBar = some k ∧ (s.eng n j).run = some e) :
    ∀ j ∈ engSet r.first r.wlog2,
      countAt (waits.eng n j).bars k = countAt (waits.eng n i).bars k ∧ (waits.eng n j).atBar = some k := by
  intro j hj
  by_cases hi : j = i
  · subst hi
    exact ⟨rfl, by rw [hwaits.eng]; rfl⟩
  · obtain ⟨hfirst, hlast⟩ := mem_engSet.mp hj
    obtain ⟨hcount, hbar, -⟩ := hall j hfirst hlast hi
    rw [hwaits.same_stope hi, hwaits.count_arrived]
    exact ⟨hcount, hbar⟩

end

/-- A breakpoint where debugging is permitted (R332, R456). -/
theorem breakpoint {s : State} {n i e : Nat} {r : Run} (hstands : Claims.Stands s n i 0 0x63 e r)
    (hdebug : s.lcc.state ≤ 1 ∨ (s.lcc.state = 2 ∧ s.lcc.grant = 3)) :
    ∃ t, exec (.breakS n i) s = .next t ∧ (t.eng n i).mode = 7 ∧ field (t.eng n i).fault 7 0 = 0x0A ∧
      bit (t.eng n i).fault 31 = true ∧ (t.eng n i).fpc = (s.eng n i).pc ∧ (t.eng n i).fstamp = s.stamp ∧
      (t.eng n i).fop = 0x63 ∧ (t.eng n i).regs = (s.eng n i).regs := by
  obtain ⟨stepAt, hbegun⟩ := issued_moved s n i e
  have hdebuggable : (Claims.issued s n i 0 e).debuggable = true := by
    have hmay : s.debuggable = true := by simpa [State.debuggable] using hdebug
    exact (hbegun.keeps State.debuggable).trans hmay
  have hstamp : (Claims.issued s n i 0 e).stamp = s.stamp := hbegun.keeps State.stamp
  obtain ⟨hn, hi, -⟩ := id hstands
  refine ⟨_, (engineCmd_next hn hi).trans (congrArg Host.Outcome.next (State.issue_hold hstands (if_pos hdebuggable))),
    ?_⟩
  dsimp only [Claims.place]
  rw [State.eng_setEng, hbegun.eng]
  obtain ⟨hcause, hvalid⟩ := faultWord_cause (bit (s.eng n i).fault 31) (cause := 0x0A) (by decide)
  exact ⟨rfl, hcause, hvalid, rfl, hstamp, rfl, rfl⟩

theorem barriersAndBreak : Claims.BarriersAndBreak := by
  intro s n i e r
  refine ⟨fun hstands k hk _ hlo hhi => ?_, breakpoint⟩
  intro mine u waits
  obtain ⟨stepAt, hbegun⟩ := issued_moved s n i e
  have harrived : waits = u.setEng n i ((u.eng n i).arrived k) := by
    simp only [waits, u, Eng.arrived, hbegun.eng, Eng.begun]
  have hwaits : EngineMoved n i (((s.eng n i).begun stepAt).arrived k) s waits := by
    rw [harrived, hbegun.eng]
    exact hbegun.setEng _
  have hexec : exec (.barS n i) s = .next (
      if (engSet r.first r.wlog2).all fun j => countAt (waits.eng n j).bars k == countAt (waits.eng n i).bars k
      then (engSet r.first r.wlog2).foldl (State.freeOne n e k) waits else waits) := by
    rw [harrived]
    exact exec_barS hstands hk
  refine ⟨fun ⟨j, hfirst, hlast, hj, hcount⟩ => ?first, fun hwide => ?alone, fun hall => ?last⟩
  case first =>
    refine hexec.trans (congrArg Host.Outcome.next (if_neg fun hevery => hcount ?_))
    have hsame := List.all_eq_true.mp hevery j (mem_engSet.mpr ⟨hfirst, hlast⟩)
    rw [hwaits.same_stope hj, hwaits.count_arrived] at hsame
    exact eq_of_beq hsame
  case alone =>
    obtain rfl : i = r.first := by
      rw [hwide] at hhi
      omega
    have hset : engSet r.first r.wlog2 = [r.first] := by
      rw [hwide]
      rfl
    rw [hexec, hset, if_pos (by simp), hwaits.freed_alone]
  case last =>
    have hwait := hwaits.all_wait hall
    refine ⟨_, hexec.trans (congrArg Host.Outcome.next (if_pos ?_)), fun j hfirst hlast => ?_⟩
    · exact List.all_eq_true.mpr fun j hj => beq_iff_eq.mpr (hwait j hj).1
    · have hj := mem_engSet.mpr ⟨hfirst, hlast⟩
      exact State.atBar_freed (.inr ⟨hj, (hwait j hj).2⟩)

theorem noSuchEngine : Claims.NoSuchEngine := by
  intro s n i habsent c hc
  simp only [List.mem_cons, List.not_mem_nil, or_false] at hc
  rcases hc with rfl | rfl | rfl | rfl | rfl | rfl | rfl | rfl | rfl <;> exact engineCmd_fault habsent

/-- Settles O10: empty slots issue and end, barriers and breakpoints hold their word, and an absent engine faults. -/
theorem engineEvents : Obligations.EngineEvents := ⟨nopSlots, barriersAndBreak, noSuchEngine⟩

end Sys2Proof.Machine
end

section
/-! PROOF. Clocks, voltage and temperature (R337, R540, R541, R547 to R549, O37): what a Stope's clock goes to, what a poll and
a tick of the loop leave. -/
namespace Sys2Proof.Machine

/-! ## A Stope's clock (R337, R540, R548) -/

/-- `t` is `s` with clocks of Stopes changed and the set point risen. -/
structure Reclocked (s t : State) : Prop where
  avs : ∃ p, s.avs.setPoint ≤ p ∧ t.avs = { s.avs with setPoint := p }
  stope : ∀ m, ∃ c, t.stope m = { s.stope m with clock := c }
  regs : t.regs = s.regs
  host : t.host = s.host

namespace Reclocked
variable {s t u : State}

theorem refl (s : State) : Reclocked s s := ⟨⟨_, le_rfl, rfl⟩, fun _ => ⟨_, rfl⟩, rfl, rfl⟩

theorem trans (h : Reclocked s t) (h' : Reclocked t u) : Reclocked s u := by
  obtain ⟨p, hp, ht⟩ := h.avs
  obtain ⟨q, hq, hu⟩ := h'.avs
  rw [ht] at hu hq
  refine ⟨⟨q, hp.trans hq, hu⟩, fun m => ?_, h'.regs.trans h.regs, h'.host.trans h.host⟩
  obtain ⟨c, hc⟩ := h.stope m
  obtain ⟨d, hd⟩ := h'.stope m
  exact ⟨d, by rw [hd, hc]⟩

/-- What a Stope may run at depends on neither its clock nor the set point. -/
theorem clockFor (h : Reclocked s t) (m : Nat) : t.clockFor m = s.clockFor m := by
  obtain ⟨p, -, hp⟩ := h.avs
  obtain ⟨c, hc⟩ := h.stope m
  rw [State.clockFor, State.clockFor, hp, hc]

theorem target (h : Reclocked s t) (m : Nat) : (t.stope m).clockTarget = (s.stope m).clockTarget := by
  obtain ⟨c, hc⟩ := h.stope m
  rw [hc]

end Reclocked

section
variable (s : State) (n : Nat)

theorem State.raiseFor_fields (mhz : Nat) :
    ∃ p, s.avs.setPoint ≤ p ∧ s.raiseFor mhz = { s with avs := { s.avs with setPoint := p } } := by
  unfold State.raiseFor
  dsimp only
  split
  · exact ⟨_, le_rfl, rfl⟩
  · exact ⟨_, Nat.le_max_left .., rfl⟩

/-- A Stope goes to the clock that it may run at; the others keep theirs. -/
theorem State.applyClock_shows : Reclocked s (s.applyClock n) ∧ ((s.applyClock n).stope n).clock = s.clockFor n ∧
    ∀ m, m ≠ n → (s.applyClock n).stope m = s.stope m := by
  unfold State.applyClock
  extract_lets x c
  split
  case isTrue hsame => exact ⟨.refl s, hsame.symm, fun _ _ => rfl⟩
  case isFalse =>
    obtain ⟨p, hp, hraise⟩ : ∃ p, s.avs.setPoint ≤ p ∧
        (if x.clock < c then s.raiseFor c else s) = { s with avs := { s.avs with setPoint := p } } := by
      split
      exacts [s.raiseFor_fields c, ⟨_, le_rfl, rfl⟩]
    rw [hraise, State.stope_setStope]
    have hother (m : Nat) (hm : m ≠ n) := State.stope_setStope_other { s with avs := { s.avs with setPoint := p } }
      { x with clock := c } hm
    refine ⟨⟨⟨p, hp, rfl⟩, fun m => ?_, rfl, rfl⟩, rfl, hother⟩
    by_cases hm : m = n
    · subst hm
      exact ⟨c, State.stope_setStope ..⟩
    · exact ⟨_, hother m hm⟩

/-- A Stope out of reset follows the limit. -/
def State.followClock (s : State) (n : Nat) : State := if (s.stope n).clockTarget = 0 then s else s.applyClock n

theorem State.reclocked_followClock : Reclocked s (s.followClock n) := by
  unfold State.followClock
  split
  exacts [.refl s, (s.applyClock_shows n).1]

/-- A Stope's own turn sets its clock, another's leaves it. -/
theorem State.clock_followClock (m : Nat) (hout : (s.stope n).clockTarget ≠ 0) :
    ((s.followClock m).stope n).clock = if n = m then s.clockFor n else (s.stope n).clock := by
  obtain ⟨-, hown, hothers⟩ := s.applyClock_shows m
  unfold State.followClock
  by_cases hm : n = m
  · subst hm
    rw [if_neg hout, if_pos rfl, hown]
  · rw [if_neg hm]
    split
    · rfl
    · rw [hothers n hm]

theorem State.reclocked_foldl (l : List Nat) (s : State) : Reclocked s (l.foldl State.followClock s) := by
  induction l generalizing s with
  | nil => exact .refl s
  | cons m l ih => exact (s.reclocked_followClock m).trans (ih _)

/-- Once every Stope has had its turn, each out of reset runs at what it may run at. -/
theorem State.clock_foldl {n : Nat} (l : List Nat) (s : State) (hout : (s.stope n).clockTarget ≠ 0)
    (h : n ∈ l ∨ (s.stope n).clock = s.clockFor n) : ((l.foldl State.followClock s).stope n).clock = s.clockFor n := by
  induction l generalizing s with
  | nil => exact h.resolve_left List.not_mem_nil
  | cons m l ih =>
    have hfirst := s.reclocked_followClock m
    rw [← hfirst.clockFor]
    refine ih (s.followClock m) (by rwa [hfirst.target]) ?_
    rw [hfirst.clockFor, s.clock_followClock n m hout]
    by_cases hm : n = m
    · exact .inr (if_pos hm)
    · rw [if_neg hm]
      exact h.imp_left fun hmem => (List.mem_cons.mp hmem).resolve_left hm

end

section
variable (s : State)

theorem State.reclocked_applyClocks : Reclocked s s.applyClocks := State.reclocked_foldl (List.range 64) s

theorem State.clock_applyClocks {n : Nat} (hn : n < 64) (hout : (s.stope n).clockTarget ≠ 0) :
    (s.applyClocks.stope n).clock = s.clockFor n := State.clock_foldl _ s hout (.inl (List.mem_range.mpr hn))

/-! ## Headframe's clock change (R25, R337, R548) -/

/-- A Stope with the clock that Headframe sets, or the power limit. -/
def ClockSet.on (c : ClockSet) (x : Stope) : Stope :=
  match c with
  | .configured mhz => { x with clockTarget := mhz }
  | .powerLimit mhz => { x with powerLimit := mhz }

theorem exec_stopeClockChange {n : Nat} {c : ClockSet} (hn : n < 64) (hlo : 1000 ≤ c.mhz) (hhi : c.mhz ≤ 2000)
    (hout : (s.stope n).clockTarget ≠ 0) :
    exec (.stopeClockChange n c) s = .next ((s.setStope n (c.on (s.stope n))).applyClock n) :=
  congrArg Host.Outcome.next ((if_pos ⟨hn, hlo, hhi⟩).trans (if_neg hout))

theorem clockChange {n : Nat} {c : ClockSet} (hn : n < 64) (hlo : 1000 ≤ c.mhz) (hhi : c.mhz ≤ 2000)
    (hout : (s.stope n).clockTarget ≠ 0) :
    ∃ t, exec (.stopeClockChange n c) s = .next t ∧
      (∀ mhz, c = .configured mhz → (t.stope n).clockTarget = mhz ∧ (t.stope n).powerLimit = (s.stope n).powerLimit) ∧
      (∀ mhz, c = .powerLimit mhz → (t.stope n).powerLimit = mhz ∧ (t.stope n).clockTarget = (s.stope n).clockTarget) ∧
      (t.stope n).clock = Nat.min (Nat.min (t.stope n).clockTarget (t.stope n).powerLimit)
        (if s.avs.stopped then 1000 else s.avs.limit) ∧
      (∀ m < 64, m ≠ n → t.stope m = s.stope m) ∧ s.avs.setPoint ≤ t.avs.setPoint ∧ t.regs = s.regs ∧
      t.host = s.host := by
  obtain ⟨hmoved, hclock, hothers⟩ := (s.setStope n (c.on (s.stope n))).applyClock_shows n
  obtain ⟨p, hp, havs⟩ := hmoved.avs
  obtain ⟨mhz, hstope⟩ := hmoved.stope n
  rw [State.stope_setStope] at hstope
  have hset : (∀ v, c = .configured v → (c.on (s.stope n)).clockTarget = v ∧
        (c.on (s.stope n)).powerLimit = (s.stope n).powerLimit) ∧
      ∀ v, c = .powerLimit v → (c.on (s.stope n)).powerLimit = v ∧
        (c.on (s.stope n)).clockTarget = (s.stope n).clockTarget :=
    ⟨fun v hv => by subst hv; exact ⟨rfl, rfl⟩, fun v hv => by subst hv; exact ⟨rfl, rfl⟩⟩
  refine ⟨_, exec_stopeClockChange s hn hlo hhi hout, ?_, ?_, ?_, fun m _ hm => ?_, ?_, hmoved.regs, hmoved.host⟩
  · rw [hstope]
    exact hset.1
  · rw [hstope]
    exact hset.2
  · rw [hclock, hstope, State.clockFor, State.stope_setStope]
    rfl
  · exact (hothers m hm).trans (s.stope_setStope_other _ hm)
  · rw [havs]
    exact hp

/-! ## Polls (R547, R548) -/

theorem Avs.poll_hot {a : Avs} {temp : Int} (hhot : throttleAt ≤ temp) :
    (9 ≤ a.hot → (a.poll temp).limit = Nat.max 1000 (a.limit - 50) ∧ (a.poll temp).hot = 0) ∧
      (a.hot < 9 → (a.poll temp).limit = a.limit ∧ (a.poll temp).hot = a.hot + 1) := by
  unfold Avs.poll
  rw [if_pos hhot]
  refine ⟨fun htenth => ?_, fun hearly => ?_⟩
  · rw [if_neg (by omega)]
    exact ⟨rfl, rfl⟩
  · rw [if_pos (by omega)]
    exact ⟨rfl, rfl⟩

theorem Avs.poll_cool {a : Avs} {temp : Int} (hcool : temp ≤ throttleAt - 5) (hlong : 99 ≤ a.cool) :
    (a.poll temp).limit = Nat.min 2000 (a.limit + 50) := by
  unfold Avs.poll
  rw [if_neg (by omega), if_pos hcool, if_neg (by omega)]

theorem Avs.poll_stopped (a : Avs) (temp : Int) : (a.poll temp).stopped = a.stopped := by
  unfold Avs.poll
  split
  · split <;> rfl
  split
  · split <;> rfl
  · rfl

/-- The state in which the Stopes follow what a poll found. -/
def State.polled (temp : Int) : State :=
  let u := s.advanceTo (s.avs.pollAt + 100000)
  { u with avs := { s.avs.poll temp with temp := temp, pollAt := u.stamp } }

variable {s}

theorem exec_thermalPoll {l : List Int} (hup : s.released 2 = true) (hl : l ≠ []) :
    exec (.thermalPoll l) s = .next (s.polled (junction l)).applyClocks :=
  congrArg Host.Outcome.next (if_neg (by simp [hup, hl]))

theorem thermalPolls {l : List Int} (hup : s.released 2 = true) (hl : l ≠ []) :
    ∃ t, exec (.thermalPoll l) s = .next t ∧ t.avs.temp = junction l ∧
      (throttleAt ≤ junction l → 9 ≤ s.avs.hot → t.avs.limit = Nat.max 1000 (s.avs.limit - 50) ∧ t.avs.hot = 0) ∧
      (throttleAt ≤ junction l → s.avs.hot < 9 → t.avs.limit = s.avs.limit ∧ t.avs.hot = s.avs.hot + 1) ∧
      (junction l ≤ throttleAt - 5 → 99 ≤ s.avs.cool → t.avs.limit = Nat.min 2000 (s.avs.limit + 50)) ∧
      (s.avs.stopped = false → ∀ n < 64, (s.stope n).clockTarget ≠ 0 → (t.stope n).clock =
        Nat.min (Nat.min (s.stope n).clockTarget (s.stope n).powerLimit) t.avs.limit) := by
  obtain ⟨p, -, havs⟩ := (s.polled (junction l)).reclocked_applyClocks.avs
  refine ⟨_, exec_thermalPoll hup hl, ?_⟩
  rw [havs]
  refine ⟨rfl, fun hhot => (Avs.poll_hot hhot).1, fun hhot => (Avs.poll_hot hhot).2, Avs.poll_cool,
    fun hruns n hn hout => ?_⟩
  have hlimit : (if (s.avs.poll (junction l)).stopped then 1000 else (s.avs.poll (junction l)).limit) =
      (s.avs.poll (junction l)).limit := if_neg (by simp [Avs.poll_stopped, hruns])
  exact ((s.polled (junction l)).clock_applyClocks hn hout).trans (congrArg (Nat.min _) hlimit)

/-! ## The AVS loop (R540, R541) -/

theorem avsLoopTick_below (hup : s.released 2 = true) (hruns : s.avs.stopped = false) (above : Bool) :
    exec (.avsLoopTick above true) s = .next (
      let t : State := s.advanceTo (s.avs.loopAt + 1000000)
      { t with avs := { t.avs with
        loopAt := t.stamp, unanswered := 0, setPoint := Nat.min 850 (s.avs.setPoint + 10)
        holdUntil := t.stamp + 100000000 } }) :=
  congrArg Host.Outcome.next (if_neg (by simp [hup, hruns]))

theorem avsLoopTick_above (hup : s.released 2 = true) (hruns : s.avs.stopped = false) :
    ∃ t, exec (.avsLoopTick true false) s = .next t ∧ t.avs.setPoint =
      if s.avs.holdUntil ≤ Nat.max s.stamp (s.avs.loopAt + 1000000) then Nat.max 650 (s.avs.setPoint - 5)
      else s.avs.setPoint := by
  refine ⟨_, congrArg Host.Outcome.next (if_neg (by simp [hup, hruns])), ?_⟩
  by_cases hlower : s.avs.holdUntil ≤ Nat.max s.stamp (s.avs.loopAt + 1000000)
  · simp [State.recordClocks, State.advanceTo, hlower]
  · simp [State.recordClocks, State.advanceTo, hlower]

theorem avsFault_regulator (hup : s.released 2 = true) (hruns : s.avs.stopped = false) :
    ∃ t, exec (.avsFault true) s = .next t ∧ t.avs.stopped = true ∧
      ∀ n < 64, (s.stope n).clockTarget ≠ 0 → (t.stope n).clock =
        Nat.min (Nat.min (s.stope n).clockTarget (s.stope n).powerLimit) 1000 := by
  let u : State := { s with avs := { s.avs with unanswered := s.avs.unanswered + 1, stopped := true } }
  obtain ⟨p, -, havs⟩ := u.reclocked_applyClocks.avs
  refine ⟨u.applyClocks, congrArg Host.Outcome.next (if_neg (by simp [hup, hruns])), ?_, fun n hn hout => ?_⟩
  · rw [havs]
  · exact u.clock_applyClocks hn hout

theorem avsFault_unanswered (hup : s.released 2 = true) (hruns : s.avs.stopped = false) (hearly : s.avs.unanswered < 2) :
    exec (.avsFault false) s =
      .next { s with avs := { s.avs with unanswered := s.avs.unanswered + 1, loopAt := s.stamp } } := by
  refine congrArg Host.Outcome.next ((if_neg (by simp [hup, hruns])).trans (if_neg ?_))
  simpa using hearly

end

/-- Settles O37: a clock change by the one Stope it moves, a poll and a fault by the clocks that follow, a tick by its set
point. -/
theorem clocksAndVoltage : Obligations.ClocksAndVoltage := fun s hup =>
  ⟨fun _ _ => clockChange s, fun _ => thermalPolls hup, fun _ hhot => congrArg Host.Outcome.next (if_pos hhot), fun hruns =>
    ⟨avsLoopTick_below hup hruns, avsLoopTick_above hup hruns, avsFault_regulator hup hruns,
      avsFault_unanswered hup hruns⟩⟩

end Sys2Proof.Machine
end

section
/-! PROOF. Traps, the step watchdog and modulus builds (R309, R332, R335, R338, O9): what a trap records, how an operation ends
for one, and the verdict of a build. -/
namespace Sys2Proof.Machine

section
variable {s : State} {n i e : Nat} {r : Run} {x : Entry}

/-! ## What a trap records (R333, R340) -/

/-- The engine that traps, with its fault record written. -/
def Eng.trappedAt (g : Eng) (now : Stamp) (slot op cause addr : Nat) (elem : Option Nat) : Eng :=
  { g with
    trapped := true, fault := faultWord (bit g.fault 31) elem slot (if g.mode = 4 then 9 else cause)
    faddr := BitVec.ofNat 32 addr, fpc := g.pc, fstamp := now, fop := op }

/-- A trap is reported, and its operation's run records it; an engine that has trapped in its word records no other. -/
theorem State.trapSlot_shows (slot op cause addr : Nat) (elem : Option Nat) (hrun : s.run e = some r) :
    let t := s.trapSlot n i e slot op cause addr elem
    t.entry e = s.entry e ∧ (∃ r', t.run e = some r') ∧
      ((s.eng n i).trapped = false → t.eng n i = (s.eng n i).trappedAt s.stamp slot op cause addr elem) := by
  unfold State.trapSlot
  extract_lets g c u v info t
  dsimp only [t]
  split
  case isTrue htrapped => exact ⟨rfl, ⟨r, hrun⟩, fun h => absurd (htrapped.symm.trans h) (by decide)⟩
  case isFalse =>
    obtain ⟨regs, fns, hdf, hv⟩ := ((Reported.setErr u (.eng n (i / 2)) (16 + i % 2)).trans (.setInt _ _ 16)).frame
    change v = _ at hv
    have hvrun : v.run e = some r := by
      rw [hv]
      exact hrun
    have hveng : v.eng n i = g.trappedAt s.stamp slot op cause addr elem := by
      rw [hv]
      exact s.eng_setEng n i _
    have hventry : v.entry e = s.entry e := by
      rw [hv]
      rfl
    rw [hvrun]
    exact ⟨hventry, ⟨_, State.run_setRun ..⟩, fun _ => hveng⟩

/-! ## How an operation ends for a trap (R332, R335) -/

/-- Outside a custom kernel the record has the entry's own INFO (R383). -/
theorem State.faultEnd_plain (hx : s.entry e = some x) (hrun : s.run e = some r) (hplain : opFamily x.desc.opcode ≠ 14)
    (st : Status) : s.faultEnd e st = (s.setEntry e x).finish e st := by
  simp only [State.faultEnd, hx, hrun, hplain, false_and, if_false]

theorem State.trapEntry_handled (hrun : s.run e = some r) (htrapped : r.trapped.isSome = true) (hworks : s.executing e = true)
    (hhas : r.kernel.trap ≠ 0xFFFF) (hfirst : r.handler = false) (hcause : r.trapCause ∉ [8, 9, 10]) :
    s.trapEntry e = (s.setEng r.stope r.first { s.eng r.stope r.first with
        mode := 4, pc := (s.baseOf r.stope r.kernel + r.kernel.trap) % 4096, slot := 0, trapped := false
        atBar := none }).setRun e { r with handler := true, handlerAt := s.stamp } := by
  have hgoes : ¬(r.trapped.isNone || !s.executing e) = true := by simp [hworks, Option.isSome_iff_ne_none.mp htrapped]
  simp only [State.trapEntry, hrun, if_neg hgoes]
  exact if_pos ⟨hhas, hfirst, hcause⟩

theorem State.trapEntry_unhandled (hrun : s.run e = some r) (htrapped : r.trapped.isSome = true)
    (hworks : s.executing e = true) (hnone : r.kernel.trap = 0xFFFF) (hfirst : r.handler = false) :
    s.trapEntry e = s.faultEnd e (trapStatus r.trapCause) := by
  have hgoes : ¬(r.trapped.isNone || !s.executing e) = true := by simp [hworks, Option.isSome_iff_ne_none.mp htrapped]
  simp only [State.trapEntry, hrun, if_neg hgoes]
  rw [if_neg fun h => h.1 hnone, if_neg fun h => by simp [hfirst] at h]

theorem State.handlerOverrun_ends (hx : s.entry e = some x) (hrun : s.run e = some r) (hworks : s.executing e = true)
    (hhandler : r.handler = true) (hplain : opFamily x.desc.opcode ≠ 14) :
    let u := s.advanceTo (r.handlerAt + s.cyclesNs r.stope 4096)
    let v := u.trapSlot r.stope r.first e 0 (u.eng r.stope r.first).fop 9 0 none
    s.handlerOverrun e = (v.setEntry e x).finish e .kernelFault := by
  intro u v
  obtain ⟨hentry, ⟨r', hrun'⟩, -⟩ :=
    u.trapSlot_shows (n := r.stope) (i := r.first) (r := r) 0 (u.eng r.stope r.first).fop 9 0 none hrun
  rw [State.handlerOverrun, hrun]
  exact (if_pos (by simp [hhandler, hworks])).trans (State.faultEnd_plain (hentry.trans hx) hrun' hplain _)

/-! ## The step watchdog (R338, R514) -/

/-- An operation on engines is told to stop: its entry says how it will end, and no fault record changes (R88, R339). -/
theorem State.stop_engines {n first w : Nat} (how : StopEnd) (hx : s.entry e = some x) (hstate : x.state = .dispatched)
    (htarget : x.target = .stope n first w) (hawait : x.await ≠ .eqt) (hstopping : x.stopping = none) :
    (s.stop e how).entry e = some { x with stopping := some how, stopAt := s.stamp } ∧
      ∀ m j, ((s.stop e how).eng m j).fault = (s.eng m j).fault := by
  have hstop : s.stop e how = (s.setEntry e { x with stopping := some how, stopAt := s.stamp }).stopEngines e := by
    simp [State.stop, hx, hstate, htarget, hawait, hstopping]
  rw [hstop, State.stopEngines]
  split
  · exact ⟨State.entry_setEntry .., fun _ _ => rfl⟩
  next r _ =>
    have hfault (g : Eng) : ({ g with mode := 5 } : Eng).fault = g.fault := rfl
    obtain ⟨engs, hframe⟩ := (s.setEntry e { x with stopping := some how, stopAt := s.stamp }).mapEngs_frame r.stope
      ((engSet r.first r.wlog2).filter fun i =>
        ((s.setEntry e { x with stopping := some how, stopAt := s.stamp }).eng r.stope i).run == some e)
      fun g => { g with mode := 5 }
    refine ⟨?_, State.mapEngs_keeps hfault⟩
    rw [hframe]
    exact State.entry_setEntry ..

/-- The state in which the oldest step of a run has been recorded as WATCHDOG and its expiry logged. -/
def State.stepExpired (s : State) (e : Nat) (r : Run) : State :=
  let n := r.stope
  let u := s.advanceTo (r.stepStamp + Nat.min 50000000 (s.cyclesNs n (4 * r.kernel.budget)))
  let i := u.oldestStep r
  let v := (u.trapSlot n i e 0 0 8 0 none).setErr (.eng n (i / 2)) (18 + i % 2)
  v.logEvent 0x0009 2 deviceTenant 0x0041 (n * 8 + i / 2) (v.eng n i).fault.toNat v.stamp (n + i * 65536)

theorem State.stepExpired_shows (hrun : s.run e = some r) :
    (s.stepExpired e r).entry e = s.entry e ∧ (∃ r', (s.stepExpired e r).run e = some r') ∧
      ((s.eng r.stope (s.oldestStep r)).trapped = false → (s.eng r.stope (s.oldestStep r)).mode ≠ 4 →
        field ((s.stepExpired e r).eng r.stope (s.oldestStep r)).fault 7 0 = 8) := by
  unfold State.stepExpired
  extract_lets n u i v
  obtain ⟨hentry, ⟨r', hrun'⟩, hrecord⟩ := u.trapSlot_shows (n := n) (i := i) (r := r) 0 0 8 0 none hrun
  obtain ⟨regs, fns, hdf, hframe⟩ := ((Reported.setErr (u.trapSlot n i e 0 0 8 0 none) (.eng n (i / 2))
    (18 + i % 2)).trans (.logEvent v 0x0009 2 deviceTenant 0x0041 (n * 8 + i / 2) (v.eng n i).fault.toNat v.stamp
    (n + i * 65536))).frame
  rw [hframe]
  refine ⟨hentry, ⟨r', hrun'⟩, fun hfresh hmode => ?_⟩
  have hfault : ((u.trapSlot n i e 0 0 8 0 none).eng n i).fault = faultWord (bit (u.eng n i).fault 31) none 0 8 := by
    rw [hrecord hfresh]
    exact congrArg (faultWord _ none 0) (if_neg hmode)
  exact (congrArg (field · 7 0) hfault).trans (faultWord_cause _ (by decide)).1

theorem State.watchdog_eq (hx : s.entry e = some x) (hrun : s.run e = some r) (hworks : s.executing e = true)
    (hplain : opFamily x.desc.opcode ≠ 14) :
    s.watchdog e = ((s.stepExpired e r).setEntry e x).stop e (.status .kernelFault) := by
  obtain ⟨hentry, ⟨r', hrun'⟩, -⟩ := State.stepExpired_shows hrun
  rw [hx] at hentry
  rw [State.watchdog, hrun]
  refine (if_pos hworks).trans ?_
  unfold State.stepExpired at hentry hrun' ⊢
  dsimp only at hentry hrun' ⊢
  rw [hentry, hrun']
  simp only [hplain, if_false]

theorem State.watchdog_stops (hx : s.entry e = some x) (hrun : s.run e = some r) (hworks : s.executing e = true)
    (hplain : opFamily x.desc.opcode ≠ 14) (hfresh : (s.eng r.stope (s.oldestStep r)).trapped = false)
    (hmode : (s.eng r.stope (s.oldestStep r)).mode ≠ 4) (htarget : x.target = .stope r.stope r.first r.wlog2)
    (hawait : x.await ≠ .eqt) (hstopping : x.stopping = none) :
    ∃ y, (s.watchdog e).entry e = some y ∧ y.stopping = some (.status .kernelFault) ∧
      field ((s.watchdog e).eng r.stope (s.oldestStep r)).fault 7 0 = 8 := by
  have hstate : x.state = .dispatched := by
    have hlive : (x.live && x.started) = true := by simpa [State.executing, hx] using hworks
    simp only [Entry.live, Bool.and_eq_true, beq_iff_eq] at hlive
    exact hlive.1.1
  obtain ⟨-, -, hfault⟩ := State.stepExpired_shows hrun
  obtain ⟨hentry, hfaults⟩ := ((s.stepExpired e r).setEntry e x).stop_engines (.status .kernelFault)
    (State.entry_setEntry ..) hstate htarget hawait hstopping
  rw [State.watchdog_eq hx hrun hworks hplain]
  exact ⟨_, hentry, rfl, (congrArg (field · 7 0) (hfaults ..)).trans (hfault hfresh hmode)⟩

end

/-! ## Modulus builds (R309) -/

theorem msetBuildDone {s : State} {n i k : Nat} (hclock : s.avs.tripped = false) (hn : n < 64) (hi : i < 16) (hk : k < 4)
    (hrun : (s.eng n i).run.isSome = true) (hbuilds : ((s.eng n i).regs.getM k).status = 1) :
    ∃ t, exec (.msetBuildDone n i k) s = .next t ∧
      ((t.eng n i).regs.getM k).status = (if ((s.eng n i).regs.getM k).good then 2 else 3) ∧
      ((t.eng n i).regs.getM k).value = ((s.eng n i).regs.getM k).value ∧
      (∀ j, j < 4 → j ≠ k → (t.eng n i).regs.getM j = (s.eng n i).regs.getM j) ∧
      (t.eng n i).regs.s = (s.eng n i).regs.s ∧ t.regs = s.regs ∧ t.host = s.host := by
  have hmay : ((s.eng n i).run.isSome && decide (k < 4) && ((s.eng n i).regs.getM k).status == 1) = true := by
    simp [hrun, hk, hbuilds]
  have hgo : ¬s.avs.tripped = true := by simp [hclock]
  refine ⟨_, (engineCmd_next hn hi).trans (congrArg Host.Outcome.next ((if_neg hgo).trans (if_pos hmay))), ?_⟩
  rw [State.eng_setEng]
  dsimp only
  have hbuilt (v : MReg) : ((s.eng n i).regs.setM k v).getM k = v := Cells.get_set_same ..
  have hothers (v : MReg) (j : Nat) (hj : j ≠ k) : ((s.eng n i).regs.setM k v).getM j = (s.eng n i).regs.getM j :=
    Cells.get_set_other _ _ _ hj
  rw [hbuilt]
  exact ⟨rfl, rfl, fun j _ hj => hothers _ j hj, rfl, rfl, rfl⟩

/-- Settles O9: trap entry by whether a handler takes the cause, its overrun and the watchdog by what they record, a build by
its check. -/
theorem trapsAndBuilds : Obligations.TrapsAndBuilds := by
  intro s e r x hclock hrun hx hworks
  refine ⟨fun htrapped hhas hfirst hcause => ?_, fun htrapped hnone hfirst hplain => ?_, fun hhandler hplain => ?_,
    fun hplain hfresh hmode htarget hawait hstopping => ?_, fun n i k hn hi hk => msetBuildDone hclock hn hi hk⟩
  · exact State.clocked_next hclock (State.trapEntry_handled hrun htrapped hworks hhas hfirst hcause)
  · exact State.clocked_next hclock
      ((State.trapEntry_unhandled hrun htrapped hworks hnone hfirst).trans (State.faultEnd_plain hx hrun hplain _))
  · exact State.clocked_next hclock (State.handlerOverrun_ends hx hrun hworks hhandler hplain)
  · obtain ⟨y, hends⟩ := State.watchdog_stops hx hrun hworks hplain hfresh hmode htarget hawait hstopping
    exact ⟨_, y, State.clocked_next hclock rfl, hends⟩

end Sys2Proof.Machine
end
